-- ==== Sys2Proof/Word.lean ====
section
/-! DEFINITION. The word types of the block, bit fields of a word, and the sparse tables that hold its
registers, memories and units. -/

namespace Sys2Proof

/-- A register of the BAR0 window (R14) and a general register of an engine context (R83). -/
abbrev Word := BitVec 32
/-- One byte of a memory or of a frame. -/
abbrev Byte := BitVec 8
/-- A word as a number. -/
abbrev W (n : Nat) : Word := BitVec.ofNat 32 n
/-- A byte as a number. -/
abbrev B8 (n : Nat) : Byte := BitVec.ofNat 8 n

/-- A table of values by number, sparse: the numbers rise strictly and no entry holds the value that an
unlisted number has (`Tab.wf`), so that equal tables are equal data. -/
abbrev Tab (α : Type) := List (Nat × α)

/-- The value a table holds for number `k`; `d` is what an unlisted number has. -/
def Tab.get {α : Type} (d : α) : Tab α → Nat → α
  | [], _ => d
  | (i, v) :: t, k => if i = k then v else Tab.get d t k

/-- The table with no entry for number `k`. -/
def Tab.erase {α : Type} : Tab α → Nat → Tab α
  | [], _ => []
  | (i, v) :: t, k => if i = k then Tab.erase t k else (i, v) :: Tab.erase t k

/-- The table with number `k` entered at its place in rising order. -/
def Tab.insert {α : Type} : Tab α → Nat → α → Tab α
  | [], k, v => [(k, v)]
  | (i, u) :: t, k, v =>
    if k < i then (k, v) :: (i, u) :: t
    else if i = k then (k, v) :: t
    else (i, u) :: Tab.insert t k v

/-- Writing the value an unlisted number has removes the entry. -/
def Tab.set {α : Type} [DecidableEq α] (d : α) (t : Tab α) (k : Nat) (v : α) : Tab α :=
  if v = d then Tab.erase t k else Tab.insert t k v

/-- Every number of the table lies above `lo`, and no entry holds `d`. -/
def Tab.wfFrom {α : Type} [DecidableEq α] (d : α) : Nat → Tab α → Bool
  | _, [] => true
  | lo, (i, v) :: t => decide (lo ≤ i) && decide (v ≠ d) && Tab.wfFrom d (i + 1) t

/-- The canonical form of a table. -/
def Tab.wf {α : Type} [DecidableEq α] (d : α) (t : Tab α) : Bool := Tab.wfFrom d 0 t

/-- Change the value under number `k` by `f`. -/
def Tab.upd {α : Type} [DecidableEq α] (d : α) (t : Tab α) (k : Nat) (f : α → α) : Tab α :=
  Tab.set d t k (f (Tab.get d t k))

/-- A memory: bytes by address, an unlisted byte reading 0. -/
abbrev Mem := List (Nat × BitVec 8)

/-- Saturating increment of a counter of `w` bits held as a number. -/
def satInc (w n : Nat) : Nat := if n + 1 < 2 ^ w then n + 1 else 2 ^ w - 1

end Sys2Proof
end

