-- ==== Sys2Proof/Syntax.lean ====
section
/-! DEFINITION. The commands of the block: one constructor of `Instr` per row of spec/opcode_table.json, and
the operands they carry. Every register access, engine instruction, protocol event and time-driven event is a
command from outside; what the outside world measures or decides (a voltage read back, a frame on the wire, an
ECC result) stands in the operands. -/

namespace Sys2Proof

/-- Who makes a register or lock access (R14, R198). -/
inductive Master where
  | host
  | debug
  | keeper (k : Nat)
  | fabric (d : Nat)
  | ctx (c : Nat)
  deriving DecidableEq, Repr, Inhabited

/-- The decoded fields of one engine instruction (R104 to R109): the lead bytes before the opcode, the two
nibbles of operand byte 1 (`d` in [7:4], `s` in [3:0]), those of operand byte 2 (`x` in [7:4], `m` in [3:0])
and the immediate, low bytes first. -/
structure Operands where
  h : Bool
  w : Bool
  sh : Bool
  cx : Bool
  br : Bool
  acq : Bool
  rel : Bool
  d : BitVec 4
  s : BitVec 4
  x : BitVec 4
  m : BitVec 4
  imm : Word
  mask : BitVec 16
  deriving DecidableEq, Repr, Inhabited

/-- The mnemonics of the engine instruction set (R124). -/
inductive EOp where
  | nop | brk | add | sub | adc | sbc | addi | subi | mov | movi | and | or | xor | andi | ori | xori
  | cmp | cmpi | tst | not | neg | shl | shr | sar | rol | ror | shli | shri | sari | mul | muls
  | ld | st | ldi | inp | outp | inr | outr | jmp | bcc | jmpr | call | callr | ret | mtc | mfc
  | crcb | par | popc | brev | bswap | ext | ins | mfsp | mtsp | fork | join | endc | kill | waith
  | waitev | tret
  deriving DecidableEq, Repr, Inhabited

/-- What is measured at the end of a Pace window, per pack: the mean periods of its four canary rings in 1/256 ns
(R43) and the longest turn of the sampler in picoseconds (R44); and the hottest die monitor in degrees (R65). -/
structure PaceMeas where
  rings : List (List Nat)
  liveMax : List Nat
  tj : Int
  deriving DecidableEq, Repr, Inhabited

/-- The route by which a command packet came (R467): a DIRECT or an INDIRECT block of a host pair (R475), an in-band
frame, the fabric. -/
inductive Route where
  | host (pair : Nat)
  | indirect (pair rsp rspBytes : Nat) (cookie : Word)
  | inBand (src : List Byte)
  | fabric (dev : Nat)
  deriving DecidableEq, Repr, Inhabited

/-- A command packet as delivered (R464): its header fields, whether any reserved bit was set, and the bytes
after the header. -/
structure CmdReq where
  route : Route
  version : Nat
  reply : Bool
  resv : Bool
  status : Nat
  tag : Byte
  len : Nat
  seq : Word
  authIdx : Nat
  params : List Byte
  deriving DecidableEq, Repr, Inhabited

/-- A frame as the last bit crosses the balls: its port, its bytes without FCS, the FCS check (R24 step 1), and how long
ago the first bit after its SFD crossed them, in 1/256 ns (R403). -/
structure RxFrame where
  port : Nat
  bytes : List Byte
  fcsOk : Bool
  age : Nat
  deriving DecidableEq, Repr, Inhabited

/-- The FCS check of a frame on an LFL link, and how long ago the first bit after its SFD crossed the balls, in 1/256 ns
(R403, R445). -/
structure FabRx where
  fcsOk : Bool
  age : Nat
  deriving DecidableEq, Repr, Inhabited

/-- A DRAM channel, and what its checks newly find in the words of the block that it writes (R428 to R430): the number of a
word in its block, and whether it is uncorrectable. -/
structure DramCheck where
  ch : Nat
  found : List (Nat × Bool)
  deriving DecidableEq, Repr, Inhabited

/-- What the checks newly find in the words of a block that a read returns, and the steps by which the two byte lanes sense
the read timing off (R428, R429, R433). -/
structure DramSense where
  found : List (Nat × Bool)
  lane0 : Int
  lane1 : Int
  deriving DecidableEq, Repr, Inhabited

/-- The GO of a Whistle block (R471, R478): the block, and of a fabric pair's outgoing block the peer and the words that
pair 0 has written inside the Keeper. -/
structure WhGo where
  block : Nat
  dst : Nat
  words : List Word
  deriving DecidableEq, Repr, Inhabited

/-- What the host leaves of the MSI-X table (R525): the vectors masked, and the address and data it has written for
vectors. -/
structure MsixHost where
  masked : List Nat
  table : List (Nat × BitVec 64 × Word)
  deriving DecidableEq, Repr, Inhabited

/-- A CAN frame received on a channel (R336). -/
structure CanRec where
  flags : Byte
  dlc : Byte
  sdt : Byte
  vcid : Byte
  id : Word
  af : Word
  xllen : BitVec 16
  xflags : Byte
  data : List Byte
  deriving DecidableEq, Repr, Inhabited

/-- How an attempt on the CAN bus ended (R338). -/
inductive CanResult where
  | sent
  | lost
  | error
  | busOff
  deriving DecidableEq, Repr, Inhabited

/-- The strap pins sampled at a reset release (R498). -/
structure Straps where
  bootSel : BitVec 3
  fabId : BitVec 4
  deriving DecidableEq, Repr, Inhabited

/-- A link-state record (R448): the sender's links by peer address and UID. -/
structure LinkRecord where
  uid : BitVec 64
  dev : Nat
  addrV : Bool
  strapped : Bool
  links : List (Nat × BitVec 64)
  hops : Nat
  deriving DecidableEq, Repr, Inhabited

/-- A hello control block (R448, R458). Times are in 1/256 ns; `peerTime` is the PTP time
so counted. -/
structure Hello where
  uid : BitVec 64
  dev : Nat
  addrV : Bool
  strapped : Bool
  quad : Nat
  echo : BitVec 64
  t1 : Nat
  peerTime : Nat
  t2 : Nat
  t3 : Nat
  named : Nat
  record : LinkRecord
  deriving DecidableEq, Repr, Inhabited

/-- What the Survey measures at one item of the board (R510): a supply rail in mV, on the die or over PMBus, the load
current of a PMBus page in mA with its rail, and the Ethernet PHY of a port with its cable length, the partner's
abilities, its MDIO master and address. `none` is no answer. -/
inductive SurveyRec where
  | rail (n : Nat) (mv : Option Nat) (pmbus : Bool)
  | load (page : Nat) (ma : Option Nat) (rail : Nat)
  | phy (port : Nat) (cable : Option (Nat × Nat)) (master addr : Nat)
  deriving DecidableEq, Repr, Inhabited

/-- What the board answers during a start attempt (R507): the fuses and supplies of step 2, the image a neighbour serves
at step 3, the DRAM fitted (the CAP code of each interface, 0 for none), and the items of the Survey. The image decides the
rest, which is part of no interface: the register writes of step 7 (Kennel pools, table INIT, PACK_ENTRY), the
programs as pack mask, address and bytes, whether they read without error, and the ports of step 10. -/
structure BootRun where
  otpOk : Bool
  supplyOk : Bool
  lfl : Option (List Byte)
  ddrCap : List Nat
  setup : List (Nat × Word)
  programs : List (Word × Nat × List Byte)
  progOk : Bool
  survey : List SurveyRec
  ports : List Nat
  deriving DecidableEq, Repr, Inhabited

/-- The commands. -/
inductive Instr where
  /-- CMD_GET_FEATURES (R8). -/
  | cmdGetFeatures (q : CmdReq)
  /-- REGISTER_WRITE (R15). -/
  | registerWrite (m : Master) (off : Nat) (v : Word)
  /-- READ_CLEAR (R15). -/
  | readClear (m : Master) (off : Nat)
  /-- COUNTER_LO_READ (R18). -/
  | counterLoRead (m : Master) (off : Nat)
  /-- MISALIGNED_ACCESS (R14). -/
  | misalignedAccess (m : Master) (off size : Nat) (write : Bool)
  /-- FW_OWN_WRITE (R33). -/
  | fwOwnWrite (m : Master) (v : Word)
  /-- LOG_REARM (R39). -/
  | logRearm (m : Master) (off : Nat) (v : Word)
  /-- PACE_WINDOW_END (R46). -/
  | paceWindowEnd (x : PaceMeas)
  /-- SAMPLER_ROTATE (R44). -/
  | samplerRotate (p : Nat)
  /-- SAMPLED_TURN_OVER_CEIL (R55). -/
  | sampledTurnOverCeil (p ps : Nat)
  /-- AVS_WRITE_VOUT (R51). -/
  | avsWriteVout (ok : Bool)
  /-- AVS_READ_VOUT (R51). -/
  | avsReadVout (ok : Bool) (mv : Nat)
  /-- PACE_ENABLE (R60). -/
  | paceEnable (m : Master) (v : Word)
  /-- PACE_DISABLE (R64). -/
  | paceDisable (m : Master) (v : Word)
  /-- PACE_MANUAL_SET (R59). -/
  | paceManualSet (m : Master) (v : Word)
  /-- PACE_MANUAL_CLEAR (R59). -/
  | paceManualClear (m : Master) (v : Word)
  /-- TURN_CEIL_WRITE (R55). -/
  | turnCeilWrite (m : Master) (v : Word)
  /-- WHEEL_TURN (R157). -/
  | wheelTurn (e : Nat)
  /-- NOP (R124). -/
  | nop (c : Nat) (o : Operands)
  /-- BRK (R533). -/
  | brk (c : Nat) (o : Operands)
  /-- ADD (R127). -/
  | add (c : Nat) (o : Operands)
  /-- SUB (R127). -/
  | sub (c : Nat) (o : Operands)
  /-- ADC (R127). -/
  | adc (c : Nat) (o : Operands)
  /-- SBC (R127). -/
  | sbc (c : Nat) (o : Operands)
  /-- ADDI (R127). -/
  | addi (c : Nat) (o : Operands)
  /-- SUBI (R127). -/
  | subi (c : Nat) (o : Operands)
  /-- MOV (R127). -/
  | mov (c : Nat) (o : Operands)
  /-- MOVI (R127). -/
  | movi (c : Nat) (o : Operands)
  /-- AND (R127). -/
  | andR (c : Nat) (o : Operands)
  /-- OR (R127). -/
  | orR (c : Nat) (o : Operands)
  /-- XOR (R127). -/
  | xorR (c : Nat) (o : Operands)
  /-- ANDI (R127). -/
  | andi (c : Nat) (o : Operands)
  /-- ORI (R127). -/
  | ori (c : Nat) (o : Operands)
  /-- XORI (R127). -/
  | xori (c : Nat) (o : Operands)
  /-- CMP (R127). -/
  | cmp (c : Nat) (o : Operands)
  /-- CMPI (R127). -/
  | cmpi (c : Nat) (o : Operands)
  /-- TST (R127). -/
  | tst (c : Nat) (o : Operands)
  /-- NOT (R127). -/
  | notR (c : Nat) (o : Operands)
  /-- NEG (R127). -/
  | neg (c : Nat) (o : Operands)
  /-- SHL (R128). -/
  | shl (c : Nat) (o : Operands)
  /-- SHR (R128). -/
  | shr (c : Nat) (o : Operands)
  /-- SAR (R128). -/
  | sar (c : Nat) (o : Operands)
  /-- ROL (R128). -/
  | rol (c : Nat) (o : Operands)
  /-- ROR (R128). -/
  | ror (c : Nat) (o : Operands)
  /-- SHLI (R128). -/
  | shli (c : Nat) (o : Operands)
  /-- SHRI (R128). -/
  | shri (c : Nat) (o : Operands)
  /-- SARI (R128). -/
  | sari (c : Nat) (o : Operands)
  /-- MUL (R129). -/
  | mul (c : Nat) (o : Operands)
  /-- MULS (R129). -/
  | muls (c : Nat) (o : Operands)
  /-- LD (R132). -/
  | ld (c : Nat) (o : Operands)
  /-- ST (R132). -/
  | st (c : Nat) (o : Operands)
  /-- LDI (R132). -/
  | ldi (c : Nat) (o : Operands)
  /-- IN (R132). -/
  | inp (c : Nat) (o : Operands)
  /-- OUT (R132). -/
  | outp (c : Nat) (o : Operands)
  /-- INR (R132). -/
  | inr (c : Nat) (o : Operands)
  /-- OUTR (R132). -/
  | outr (c : Nat) (o : Operands)
  /-- JMP (R131). -/
  | jmp (c : Nat) (o : Operands)
  /-- BCC (R130). -/
  | bcc (c : Nat) (o : Operands)
  /-- JMPR (R131). -/
  | jmpr (c : Nat) (o : Operands)
  /-- CALL (R115). -/
  | call (c : Nat) (o : Operands)
  /-- CALLR (R131). -/
  | callr (c : Nat) (o : Operands)
  /-- RET (R116). -/
  | ret (c : Nat) (o : Operands)
  /-- MTC (R133). -/
  | mtc (c : Nat) (o : Operands)
  /-- MFC (R133). -/
  | mfc (c : Nat) (o : Operands)
  /-- CRCB (R135). -/
  | crcb (c : Nat) (o : Operands)
  /-- PAR (R134). -/
  | par (c : Nat) (o : Operands)
  /-- POPC (R134). -/
  | popc (c : Nat) (o : Operands)
  /-- BREV (R134). -/
  | brev (c : Nat) (o : Operands)
  /-- BSWAP (R134). -/
  | bswap (c : Nat) (o : Operands)
  /-- EXT (R134). -/
  | ext (c : Nat) (o : Operands)
  /-- INS (R134). -/
  | ins (c : Nat) (o : Operands)
  /-- MFSP (R86). -/
  | mfsp (c : Nat) (o : Operands)
  /-- MTSP (R86). -/
  | mtsp (c : Nat) (o : Operands)
  /-- FORK (R136). -/
  | fork (c : Nat) (o : Operands)
  /-- JOIN (R136). -/
  | join (c : Nat) (o : Operands)
  /-- END (R136). -/
  | endCtx (c : Nat) (o : Operands)
  /-- KILL (R136). -/
  | kill (c : Nat) (o : Operands)
  /-- WAITH (R136). -/
  | waith (c : Nat) (o : Operands)
  /-- WAITEV (R136). -/
  | waitev (c : Nat) (o : Operands)
  /-- TRET (R147). -/
  | tret (c : Nat) (o : Operands)
  /-- EMIT_GO (R138). -/
  | emitGo (c : Nat) (o : Operands)
  /-- DROP (R140). -/
  | drop (c : Nat) (o : Operands)
  /-- DELAY (R142). -/
  | delay (c : Nat) (o : Operands)
  /-- RELEASE (R263). -/
  | release (c : Nat) (o : Operands)
  /-- PACK_RST (R121). -/
  | packRst (m : Master) (p : Nat) (v : Word)
  /-- PACK_RST_COMPLETE (R121). -/
  | packRstComplete (p : Nat)
  /-- ENG_RST (R174). -/
  | engRst (m : Master) (e : Nat) (v : Word)
  /-- ENG_RST_COMPLETE (R174). -/
  | engRstComplete (e : Nat)
  /-- DEADLOCK_DETECT (R166). -/
  | deadlockDetect (e : Nat)
  /-- ENG_WAKE (R173). -/
  | engWake (m : Master) (e : Nat) (v : Word)
  /-- JOB_START (R152). -/
  | jobStart (e slot : Nat)
  /-- HASH_H0 (R184). -/
  | hashH0 (c : Nat) (o : Operands)
  /-- HASH_H1 (R184). -/
  | hashH1 (c : Nat) (o : Operands)
  /-- HASH_H0_H1 (R184). -/
  | hashH0H1 (c : Nat) (o : Operands)
  /-- CRC_STEPS (R185). -/
  | crcSteps (c : Nat) (o : Operands)
  /-- CHECKSUM (R185). -/
  | checksum (c : Nat) (o : Operands)
  /-- AES_ENC (R186). -/
  | aesEnc (c : Nat) (o : Operands)
  /-- AES_DEC (R186). -/
  | aesDec (c : Nat) (o : Operands)
  /-- GCM_ENC (R186). -/
  | gcmEnc (c : Nat) (o : Operands)
  /-- GCM_DEC (R186). -/
  | gcmDec (c : Nat) (o : Operands)
  /-- GHASH (R186). -/
  | ghash (c : Nat) (o : Operands)
  /-- GCM_TAG (R186). -/
  | gcmTag (c : Nat) (o : Operands)
  /-- CMAC_UPD (R186). -/
  | cmacUpd (c : Nat) (o : Operands)
  /-- CMAC_FIN (R186). -/
  | cmacFin (c : Nat) (o : Operands)
  /-- LOOKUP_READ (R187). -/
  | lookupRead (c : Nat) (o : Operands)
  /-- LOOKUP_LEARN (R187). -/
  | lookupLearn (c : Nat) (o : Operands)
  /-- LOOKUP_INSERT (R187). -/
  | lookupInsert (c : Nat) (o : Operands)
  /-- LOOKUP_DELETE (R187). -/
  | lookupDelete (c : Nat) (o : Operands)
  /-- DMA_GET (R188). -/
  | dmaGet (c : Nat) (o : Operands)
  /-- DMA_PUT (R188). -/
  | dmaPut (c : Nat) (o : Operands)
  /-- HELPER_COMPLETE (R178). -/
  | helperComplete (c : Nat) (ue : Option Nat)
  /-- LEASH_ACQUIRE (R199). -/
  | leashAcquire (m : Master) (i : Nat) (o : Operands)
  /-- LEASH_RELEASE (R205). -/
  | leashRelease (m : Master) (i : Nat) (o : Operands)
  /-- LEASH_STALL_TIMEOUT (R203). -/
  | leashStallTimeout (i : Nat) (id : BitVec 16)
  /-- LEASH_GRP_ACC_WRITE (R210). -/
  | leashGrpAccWrite (m : Master) (off : Nat) (v : Word)
  /-- MEMORY_WORD_LOCK_ACQUIRE (R211). -/
  | memoryWordLockAcquire (c : Nat) (o : Operands)
  /-- FRAME_RECEIVE (R24). -/
  | frameReceive (r : RxFrame)
  /-- CAN_FRAME_RECEIVE (R28). -/
  | canFrameReceive (n : Nat) (r : CanRec) (ok : Bool)
  /-- FRAME_ADMIT (R240). -/
  | frameAdmit (port cls : Nat)
  /-- PFC_REFRESH (R333). -/
  | pfcRefresh (port cls : Nat)
  /-- PLACEMENT (R226). -/
  | placement (q : Nat)
  /-- PARK_EXPIRE (R226). -/
  | parkExpire (job : Nat)
  /-- STEAL (R228). -/
  | steal (sh : Nat)
  /-- FETCH_SLOT_ENTER (R231). -/
  | fetchSlotEnter (e slot : Nat) (ue : Bool)
  /-- RECALL (R233). -/
  | recall (e slot : Nat)
  /-- SCENT_TIME_MARKER (R245). -/
  | scentTimeMarker
  /-- SCENT_RECORD_WRITE (R246). -/
  | scentRecordWrite
  /-- SCENT_ENABLE (R254). -/
  | scentEnable (m : Master) (v : Word)
  /-- DELAY_TICK (R235). -/
  | delayTick
  /-- DUE_JOB_ENQUEUE (R236). -/
  | dueJobEnqueue (sh : Nat)
  /-- HELD_COMMIT (R264). -/
  | heldCommit (c : Nat)
  /-- HOLE_TIMEOUT (R265). -/
  | holeTimeout (od : Nat)
  /-- TBL_GEOM_WRITE (R280). -/
  | tblGeomWrite (m : Master) (off : Nat) (v : Word)
  /-- TBL_INIT (R280). -/
  | tblInit (m : Master) (t : Nat) (v : Word)
  /-- TBL_INIT_DONE (R280). -/
  | tblInitDone (t : Nat)
  /-- TBL_EPV_WRITE (R282). -/
  | tblEpvWrite (m : Master) (t : Nat) (v : Word)
  /-- UPDATE_UNIT_APPLY (R289). -/
  | updateUnitApply (ue : Option Nat)
  /-- AGING_VISIT (R297). -/
  | agingVisit (t : Nat)
  /-- CACHE_FLUSH (R298). -/
  | cacheFlush (m : Master) (v : Word)
  /-- CACHE_FLUSH_DONE (R298). -/
  | cacheFlushDone
  /-- TDMA_READ (R302). -/
  | tdmaRead (r : Nat) (ue : Option Nat)
  /-- TDMA_INSERT (R302). -/
  | tdmaInsert (r : Nat) (ue : Option Nat)
  /-- TDMA_DELETE (R302). -/
  | tdmaDelete (r : Nat) (ue : Option Nat)
  /-- WRITE_SLOT (R302). It reads no table data, so that `ue` finds nothing. -/
  | writeSlot (r : Nat) (ue : Option Nat)
  /-- LOCK_BUCKET (R302). It reads no table data, so that `ue` finds nothing. -/
  | lockBucket (r : Nat) (ue : Option Nat)
  /-- UNLOCK_BUCKET (R302). It reads no table data, so that `ue` finds nothing. -/
  | unlockBucket (r : Nat) (ue : Option Nat)
  /-- RING_PI_WRITE (R304). -/
  | ringPiWrite (m : Master) (off : Nat) (v : Word)
  /-- RING_ENABLE (R304). -/
  | ringEnable (m : Master) (off : Nat) (v : Word)
  /-- KN_ALLOC (R314). -/
  | knAlloc (c : Nat) (o : Operands)
  /-- KN_FREE (R316). -/
  | knFree (c : Nat) (o : Operands)
  /-- KN_POOL_WRITE (R312). -/
  | knPoolWrite (m : Master) (off : Nat) (v : Word)
  /-- PORT_QUAD_WRITE (R325). -/
  | portQuadWrite (m : Master) (q : Nat) (v : Word)
  /-- PFC_FRAME_RECEIVE (R328). -/
  | pfcFrameReceive (port : Nat) (en : Byte) (times : List Nat)
  /-- PAUSE_FRAME_RECEIVE (R328). -/
  | pauseFrameReceive (port quanta : Nat)
  /-- PAUSE_EXPIRE (R328). -/
  | pauseExpire (port cls : Nat)
  /-- LINK_CHANGE (R353). -/
  | linkChange (port : Nat) (up : Bool) (rateMbps : Nat)
  /-- ALIGNMENT_MARKER (R406). -/
  | alignmentMarker (x : Nat) (meas : BitVec 16)
  /-- CAN_TRANSMIT (R338). -/
  | canTransmit (n : Nat) (r : CanResult)
  /-- CAN_BUSOFF_RECOVERY (R338). -/
  | canBusoffRecovery (n : Nat)
  /-- H2D_DESCRIPTOR (R342). -/
  | h2dDescriptor (q : Nat)
  /-- D2H_DESCRIPTOR (R342). -/
  | d2hDescriptor (q : Nat)
  /-- MDIO_RUN (R344). -/
  | mdioRun (m : Master) (i : Nat) (v : Word)
  /-- MDIO_RUN_DONE (R345). -/
  | mdioRunDone (i : Nat) (answers : List (Option (BitVec 16)))
  /-- MTR_CFG_WRITE (R362). -/
  | mtrCfgWrite (m : Master) (off : Nat) (v : Word)
  /-- EGRESS_ENQUEUE (R366). -/
  | egressEnqueue (out : Nat)
  /-- EGRESS_SELECT (R368). -/
  | egressSelect (x : Nat)
  /-- TRANSMIT_END (R24). -/
  | transmitEnd (x : Nat) (ue : Bool)
  /-- PORT_DISABLE (R366). -/
  | portDisable (m : Master) (port : Nat) (v : Word)
  /-- GATE_ENTRY (R370). -/
  | gateEntry (x : Nat)
  /-- GCL_COMMIT (R373). -/
  | gclCommit (m : Master) (x : Nat) (v : Word)
  /-- GCL_SWITCH (R373). -/
  | gclSwitch (x : Nat)
  /-- TBCLK_LOSS_OF_LOCK (R398). -/
  | tbclkLossOfLock
  /-- SRC_RET (R398). -/
  | srcRet (m : Master) (v : Word)
  /-- TB_ADJ_STEP (R401). -/
  | tbAdjStep (m : Master) (d : Nat) (v : Word)
  /-- TB_ADJ_SET (R401). -/
  | tbAdjSet (m : Master) (d : Nat) (v : Word)
  /-- TB_SNAP (R412). -/
  | tbSnap (m : Master) (v : Word)
  /-- TBR_FR_LO_READ (R409). -/
  | tbrFrLoRead (c : Nat) (o : Operands)
  /-- TXTS_HDR_READ (R408). -/
  | txtsHdrRead (m : Master) (x : Nat)
  /-- PPS_OUT (R410). -/
  | ppsOut
  /-- PPS_PULSE_END (R410). -/
  | ppsPulseEnd
  /-- PPS_IN_EDGE (R411). -/
  | ppsInEdge
  /-- TRAIN (R432). -/
  | train (m : Master) (i : Nat) (v : Word)
  /-- TRAINING_DONE (R432). -/
  | trainingDone (i : Nat) (ok : Bool) (density : List Nat)
  /-- DDR_OPEN_WRITE (R432). -/
  | ddrOpenWrite (m : Master) (i : Nat) (v : Word)
  /-- REGULATOR_ENTRY (R426). -/
  | regulatorEntry (i p : Nat)
  /-- DRAM_REQUEST_ISSUE (R422). -/
  | dramRequestIssue (i : Nat) (k : DramCheck)
  /-- DRAM_READ_COMPLETE (R428). -/
  | dramReadComplete (i ch : Nat) (k : DramSense)
  /-- REFRESH (R423). -/
  | refresh (i ch bank : Nat)
  /-- WRITE_TRACKING (R434). -/
  | writeTracking (i ch : Nat) (lanes : Int × Int)
  /-- IDLE_TRACKING_READ (R433). -/
  | idleTrackingRead (i ch row : Nat)
  /-- DDR_ERR_POP_READ (R431). -/
  | ddrErrPopRead (m : Master)
  /-- HELLO_SEND (R448). -/
  | helloSend (q : Nat)
  /-- HELLO_RECEIVE (R458). -/
  | helloReceive (q : Nat) (h : Hello)
  /-- HELLO_TIMEOUT (R442). -/
  | helloTimeout (q : Nat)
  /-- LOSS_OF_BLOCK_LOCK (R442). -/
  | lossOfBlockLock (q : Nat)
  /-- LINK_STATE_RECORD (R448). -/
  | linkStateRecord (q : Nat) (r : LinkRecord)
  /-- RECORD_FLOOD (R448). -/
  | recordFlood
  /-- ROUTE_RECOMPUTE (R451). -/
  | routeRecompute
  /-- ELECTION (R449). -/
  | election
  /-- FABRIC_FRAME_RECEIVE (R403, R453). -/
  | fabricFrameReceive (q : Nat) (bytes : List Byte) (rx : FabRx)
  /-- CREDIT_UPDATE (R443). -/
  | creditUpdate (q : Nat) (credits : List Nat)
  /-- FABRIC_LEASH_ACCESS (R457). -/
  | fabricLeashAccess (d off : Nat) (write : Bool)
  /-- CMD_REG_READ (R581). -/
  | cmdRegRead (q : CmdReq)
  /-- CMD_REG_WRITE (R492). -/
  | cmdRegWrite (q : CmdReq)
  /-- CMD_AUTH_KEY_SET (R481). -/
  | cmdAuthKeySet (q : CmdReq)
  /-- CMD_SYS_RESET (R513). -/
  | cmdSysReset (q : CmdReq)
  /-- CMD_MACSEC_SECY (R469). -/
  | cmdMacsecSecy (q : CmdReq)
  /-- CMD_MACSEC_RXSC (R469). -/
  | cmdMacsecRxsc (q : CmdReq)
  /-- CMD_MACSEC_SA (R469). -/
  | cmdMacsecSa (q : CmdReq)
  /-- CMD_TBL_OPS (R469). -/
  | cmdTblOps (q : CmdReq)
  /-- CMD_PROG_LOAD (R490). -/
  | cmdProgLoad (q : CmdReq)
  /-- CMD_PACK_DRAIN (R494). -/
  | cmdPackDrain (q : CmdReq)
  /-- PACK_DRAIN_COMPLETE (R494). -/
  | packDrainComplete
  /-- CMD_PACK_RESUME (R494). -/
  | cmdPackResume (q : CmdReq)
  /-- CMD_PROG_DROP (R491). -/
  | cmdProgDrop (q : CmdReq)
  /-- CMD_FAB_FORWARD (R482). -/
  | cmdFabForward (q : CmdReq)
  /-- FAB_FORWARD_TIMEOUT (R482). -/
  | fabForwardTimeout
  /-- CMD_CFG_STAGE (R485). -/
  | cmdCfgStage (q : CmdReq)
  /-- CMD_CFG_COMMIT (R487). -/
  | cmdCfgCommit (q : CmdReq)
  /-- CMD_CFG_ABORT (R489). -/
  | cmdCfgAbort (q : CmdReq)
  /-- CMD_CFG_STATUS (R489). -/
  | cmdCfgStatus (q : CmdReq)
  /-- WHISTLE_GO (R471). -/
  | whistleGo (m : Master) (go : WhGo)
  /-- WHISTLE_TAKE (R472). -/
  | whistleTake (m : Master) (b : Nat)
  /-- WHISTLE_TIMEOUT (R473). -/
  | whistleTimeout (b : Nat)
  /-- H2K_BLOCK_TAKE (R477). -/
  | h2kBlockTake (h : Nat)
  /-- K2H_POST (R477). -/
  | k2hPost (h : Nat)
  /-- IN_BAND_COMMAND (R480). -/
  | inBandCommand (bytes : List Byte)
  /-- PCIE_LINK_DOWN (R474). -/
  | pcieLinkDown
  /-- KEEPER_LOCKSTEP_MISMATCH (R463). -/
  | keeperLockstepMismatch (k : Nat)
  /-- KEEPER_RESTART (R463). -/
  | keeperRestart (k : Nat)
  /-- PORST_N (R498). -/
  | porstN (straps : Straps)
  /-- SYSRST_N (R498). -/
  | sysrstN (straps : Straps)
  /-- SELF_RESET (R498). -/
  | selfReset (straps : Straps)
  /-- BOOT_START (R507). -/
  | bootStart (b : BootRun)
  /-- CMD_IMG_DOWNLOAD (R503). -/
  | cmdImgDownload (q : CmdReq)
  /-- SYS_BOOT_CTRL_DONE (R508). -/
  | sysBootCtrlDone (m : Master) (v : Word)
  /-- SYS_BOOT_CTRL_FAIL (R517). -/
  | sysBootCtrlFail (m : Master) (v : Word)
  /-- WATCHDOG_EXPIRY (R509). -/
  | watchdogExpiry
  /-- KICK (R509). -/
  | kick (m : Master) (v : Word)
  /-- CMD_SURVEY_RUN (R511). -/
  | cmdSurveyRun (q : CmdReq) (records : List SurveyRec)
  /-- CMD_SURVEY_GET (R511). -/
  | cmdSurveyGet (q : CmdReq)
  /-- CMD_FLASH_READ (R514). -/
  | cmdFlashRead (q : CmdReq)
  /-- CMD_FLASH_ERASE (R514). -/
  | cmdFlashErase (q : CmdReq)
  /-- CMD_FLASH_WRITE (R514). -/
  | cmdFlashWrite (q : CmdReq) (inTime : Bool)
  /-- CMD_IMG_VERIFY (R514). -/
  | cmdImgVerify (q : CmdReq)
  /-- EV_STATUS_WRITE (R525). -/
  | evStatusWrite (m : Master) (g : Nat) (v : Word)
  /-- EV_ENABLE_WRITE (R525). -/
  | evEnableWrite (m : Master) (g : Nat) (v : Word)
  /-- EV_ROUTE_WRITE (R525). -/
  | evRouteWrite (m : Master) (src : Nat) (v : Word)
  /-- EV_SW_RAISE (R523). -/
  | evSwRaise (m : Master) (v : Word)
  /-- EV_RAISE (R523). -/
  | evRaise (c : Nat) (o : Operands)
  /-- MSIX_CONDITIONS_RESTORED (R525). -/
  | msixConditionsRestored (enable busMaster funcMask : Bool) (host : MsixHost)
  /-- FATAL_ERROR (R531). -/
  | fatalError (mem inst addr : Nat)
  /-- ERR_POP_READ (R530). -/
  | errPopRead (m : Master)
  /-- DBGACC (R532). -/
  | dbgacc (off : Nat) (write : Bool) (v : Word)
  /-- DBG_SESSION_ATTACH (R533). -/
  | dbgSessionAttach (m : Master) (v : Word)
  /-- DBG_SESSION_DETACH (R533). -/
  | dbgSessionDetach (m : Master) (v : Word) (trst : Bool)
  /-- HALT (R534). -/
  | halt (m : Master) (v : Word)
  /-- RESUME (R534). -/
  | resume (m : Master) (v : Word)
  /-- STEP (R534). -/
  | step (m : Master) (v : Word)
  /-- ABORT (R534). -/
  | abortDbg (m : Master) (v : Word)
  /-- DBG_REG_ACCESS (R535). -/
  | dbgRegAccess (m : Master) (n : Nat) (write : Bool) (v : Word)
  /-- MET_RECORD_PERIOD (R545). -/
  | metRecordPeriod (importMwh exportMwh : BitVec 64)
  /-- ADC_FAULT (R545). -/
  | adcFault
  /-- SEAL_N_EDGE (R548). -/
  | sealNEdge (low : Bool)
  /-- CMD_MET_INFO (R554). -/
  | cmdMetInfo (q : CmdReq)
  /-- CMD_MET_READ (R554). -/
  | cmdMetRead (q : CmdReq)
  /-- CMD_MET_OFFER (R554). -/
  | cmdMetOffer (q : CmdReq)
  /-- MET_OFFER_JUDGE (R548). -/
  | metOfferJudge (sealEnd imageOk paramOk : Bool)
  /-- MET_RST_N (R549). -/
  | metRstN (slotOk : Bool)
  /-- VDD_MET_POWER_UP (R542). -/
  | vddMetPowerUp (slotOk : Bool)
  /-- MIRROR_REFILL (R551). -/
  | mirrorRefill
  /-- TBCLK_LOCK (R398). -/
  | tbclkLock
  /-- CONTROL_FRAME_RECEIVE (R456). -/
  | controlFrameReceive (q : Nat) (bytes : List Byte) (fcsOk : Bool)
  /-- VDD_MET_LOSS (R542). -/
  | vddMetLoss
  /-- ADC_ANSWERING (R545). -/
  | adcAnswering
  /-- MET_OFFER_TIMEOUT (R554). -/
  | metOfferTimeout
  /-- GPIO_INPUT_CHANGE (R560). -/
  | gpioInputChange (level : BitVec 16)
  deriving DecidableEq, Repr, Inhabited

end Sys2Proof
end

