-- ==== Sys2Proof/Decode.lean ====
section
/-! DEFINITION. The commands of the block are no words of an instruction memory: spec/opcode_table.json gives no row
bits, so no word spells a command (the engine instructions among them arrive decoded, as the command of a turn). -/

namespace Sys2Proof

/-- The command that a word spells by the table's bits: none, for no row has bits. -/
def decodeTableWord (_nbits _w : Nat) : Option Instr := none

end Sys2Proof
end

