-- ==== Sys2Proof/Config.lean ====
section
/-! DEFINITION. What the spec leaves open: free values that nothing in Lean can evaluate. -/

namespace Sys2Proof.Config

/-- A free value of any width up to 128 bits, drawn by a counter of the state: the spec states no value at
the point of use (log entry 5). -/
opaque freeValue : Nat → BitVec 128

/-- The ECDSA P-256 signatures of the Metrology Island (R546) as a function of what is signed: its private key is its own
and never readable (R544; log entry 6). -/
opaque islandSign : List Byte → List Byte

/-- The bytes of the island's parameter set that MET_PARAM_DIGEST is the SHA-256 of (R551), from the values the
model holds: the island firmware's own layout (log entry 6). -/
opaque paramBytes : List (Nat × BitVec 64) → List Byte

/-- The nominal receive gearbox correction of a quad mode, in 1/256 ns (R405), a number the spec does not give
(log entry 5). -/
opaque gbxNominal : Nat → BitVec 16

/-- The issue opportunities for which an access to pack shared memory or common SRAM holds its context (R98 gives
only a most for T-class contexts and none for others), by context number, generation tag and draw (log entry 11). -/
opaque holdTurns : Nat → Nat → Nat → Nat

/-- From the choice of a frame to the timestamp point of its transmission at egress index x, in 1/256 ns, for the
n-th draw: the start within 50 ns and the gearbox latency, neither of which the spec numbers (R369, R404; log
entry 5). -/
opaque txLatency : Nat → Nat → BitVec 16

/-- The 8 check bits of a 64-bit word of DRAM, the check bits under which a word reads as in error, and byte `o` of the
pattern that training writes into the spare bytes of a row: R420 and R434 give neither code nor pattern (log entry 49). -/
opaque dramCheck : BitVec 64 → BitVec 8
opaque dramBadCheck : BitVec 64 → BitVec 8
opaque dramPattern : Nat → BitVec 8

end Sys2Proof.Config
end

