-- ==== Sys2Proof/Machine/State.lean ====
section
/-! DEFINITION. Everything the spec gives the block to hold, as plain data, the reasons a command can stop,
and the state right after reset. Registers with plain storage stand in `State.regs` by BAR0 offset; a register
that shows a live value of a unit is computed from that unit (Machine/Bus.lean). -/

namespace Sys2Proof.Machine

open Sys2Proof

/-- The parts of the family (R1). -/
inductive Part where
  | lrv5120
  | lrv3840
  | lrv2560
  deriving DecidableEq, Repr, Inhabited

/-- What the die, its fuses and its board fix: none of it changes while the device runs, but for the strap
samples (R1, R6, R79, R447, R481, R498, R505, R506, R514). -/
structure Chip where
  part : Part
  metro : Bool
  step : BitVec 4
  fuseRatio : BitVec 16
  uid : BitVec 64
  fabId : BitVec 4
  bootSel : BitVec 3
  minSvn : BitVec 16
  keyHash : List Byte
  otpKey : List Byte
  fwVersion : Word
  flashSize : Nat
  deriving DecidableEq, Repr, Inhabited

/-- The time of one PTP domain (R399): 48-bit seconds, nanoseconds below 10^9, a 40-bit fraction. -/
structure DomTime where
  sec : BitVec 48
  ns : Nat
  frac : BitVec 40
  deriving DecidableEq, Repr, Inhabited

/-- The engine read capture of a context (R409). -/
structure TbCapture where
  fr : BitVec 64
  time : DomTime
  deriving DecidableEq, Repr, Inhabited

/-- What a live context waits for (R158, R199, R211, R264). A destination is 0 to 15 for a G register and 16 to 23
for an S register; `landing` is a lock status granted to a stopped context, which lands on resume (R201). -/
inductive Wait where
  | none
  | join (child : Nat)
  | waith
  | waitev (mask : Word)
  | leash (lock dst bytes : Nat)
  | memWord (mem word dst : Nat)
  | landing (v : Word) (dst bytes : Nat)
  | store (last : Bool)
  deriving DecidableEq, Repr, Inhabited

/-- A delayed result under exposed timing (R111 to R114): the register it lands in, its value, and how many
instructions of the context still read the old value. -/
inductive PendDst where
  | g (r : Nat)
  | product
  deriving DecidableEq, Repr, Inhabited

structure Pend where
  dst : PendDst
  lo : Word
  hi : Word
  left : Nat
  deriving DecidableEq, Repr, Inhabited

/-- One of the 8 contexts of an engine (R83, R86, R89, R102, R137, R144, R162, R164, R175, R318, R409). While it
waits or stands halted at a BRK (`atBrk`, R533), `pc` already names the next instruction and `waitLen` is the
length of the waiting one (R534). `stepWait` is a STEP that continues a wait. `hold` is the number of issue
opportunities the context is still held (R98, R123), `holds` how often a hold of R98 has been drawn, `mulAge` 2 right
after a MUL or MULS and 1 one instruction later, `multi` the opportunities that a multi-turn instruction in progress
still takes (R122). -/
structure Ctx where
  live : Bool := false
  halted : Bool := false
  frozen : Bool := false
  stepping : Bool := false
  stepWait : Bool := false
  atBrk : Bool := false
  wait : Wait := .none
  waitLen : Nat := 0
  tclass : Bool := false
  forked : Bool := false
  epoch : Nat := 0
  gen : Nat := 0
  job : Option Nat := none
  parent : Option Nat := none
  pc : BitVec 16 := 0
  g : Tab Word := []
  c : Tab (BitVec 128) := []
  z : Bool := false
  cf : Bool := false
  n : Bool := false
  v : Bool := false
  mlo : Word := 0
  mhi : Word := 0
  polyLo : Word := 0
  polyHi : Word := 0
  crcCfg : BitVec 3 := 0
  pend : List Pend := []
  hold : Nat := 0
  holds : Nat := 0
  mulAge : Nat := 0
  multi : Nat := 0
  psmPage : BitVec 4 := 0
  csmPage : BitVec 9 := 0
  spLim : BitVec 16 := 0
  rsvHit : Bool := false
  evFlags : Word := 0
  trapCause : BitVec 4 := 0
  trapNest : Bool := false
  trapPc : BitVec 16 := 0
  resume : BitVec 16 := 0
  emitDst : Word := 0
  emitHdr : Word := 0
  emitTail : Word := 0
  arg0 : Word := 0
  arg1 : Word := 0
  hlpDone : Bool := false
  hlpAbsent : Bool := false
  hlpHit : Bool := false
  hlpLearned : Bool := false
  hlpEvict : Bool := false
  hlpErr : BitVec 4 := 0
  hlpKind : BitVec 3 := 0
  hlpBusy : Bool := false
  knResult : Word := 0x0003FFFF
  knLinkSel : BitVec 18 := 0x3FFFF
  domSel : BitVec 2 := 0
  tbCap : TbCapture := default
  deriving DecidableEq, Repr, Inhabited

/-- A context that has never run since reset (R89). -/
def Ctx.idle : Ctx := {}

/-- A Fetch slot (R231, R233): the job, whether the copy is complete, when it entered, and whether its recall
waits for a queue entry. -/
structure FetchSlot where
  job : Nat
  entered : Bool
  start : Nat
  recalled : Bool
  deriving DecidableEq, Repr, Inhabited

/-- The instruction an engine issues in this turn (R157): context, mnemonic, fields and length in bytes. -/
structure Issue where
  ctx : Nat
  op : EOp
  ops : Operands
  len : Nat
  deriving DecidableEq, Repr, Inhabited

/-- An act on an engine that waits for its next turn boundary (R121, R174, R534): its reset, or a debugger's command with OP
`op` on some of its contexts. -/
inductive Boundary where
  | reset
  | debug (op : Nat) (cs : List Nat)
  deriving DecidableEq, Repr, Inhabited

/-- One engine (R83, R137, R139, R140, R155, R165, R172, R244, R255). -/
structure Eng where
  s : Tab Word := []
  slot : Nat := 0
  rp : Nat := 0
  watch : Nat := 0
  bubbles : Nat := 0
  issue : Option Issue := none
  rstBusy : Bool := false
  due : List Boundary := []
  fs0 : Option FetchSlot := none
  fs1 : Option FetchSlot := none
  turnsT : BitVec 64 := 0
  turnsE : BitVec 64 := 0
  turnsB : BitVec 64 := 0
  drops : Nat := 0
  badOut : Nat := 0
  oversize : Nat := 0
  deriving DecidableEq, Repr, Inhabited

/-- An engine right after reset. -/
def Eng.idle : Eng := {}

/-- The kinds of helper command (R175, R189). -/
inductive HlpKind where
  | hash
  | crc
  | aes
  | lookup
  | dma
  deriving DecidableEq, Repr, Inhabited

/-- How far an accepted helper command has come: waiting for a unit, started at one, waiting for the update unit, or with
its result at hand. -/
inductive HlpStage where
  | waiting
  | running
  | update
  | done
  deriving DecidableEq, Repr, Inhabited

/-- An accepted helper command with what it captured (R176, R190): its issuer and generation tag, the command
word, arguments, CRC parameters, class, epoch and the C registers. `parked` is a far lookup that has missed the cache and
stands off its client (R193). -/
structure HlpCmd where
  id : Nat
  ctx : Nat
  gen : Nat
  kind : HlpKind
  word : Word
  arg0 : Word
  arg1 : Word
  polyLo : Word
  polyHi : Word
  crcCfg : BitVec 3
  tclass : Bool
  epoch : Nat
  creg : Tab (BitVec 128)
  stage : HlpStage
  err : BitVec 4
  hit : Bool
  learned : Bool
  evict : Bool
  buf : Mem
  touch : Option (Nat × Nat)
  ddr : Bool
  parked : Bool
  deriving DecidableEq, Repr, Inhabited

/-- An update that waits at the update unit (R288, R289), with TBL_POLICY as it stood at its arrival (R283): the LEARN,
INSERT or DELETE of a helper command, a touch write of a table slot that still has to hold the key, the update of the
table DMA operation in progress at `run`, or the scanner's visit of a bucket. -/
inductive Update where
  | helper (id : Nat) (policy : Word)
  | touch (table bucket slot : Nat) (key : List Byte)
  | op (run : Nat) (policy : Word)
  | aging (table bucket : Nat) (policy : Word)
  deriving DecidableEq, Repr, Inhabited

/-- Where a job is (R258, R267). -/
inductive Place where
  | queue (q : Nat)
  | parked (q : Nat)
  | slot (e : Nat) (i : Nat)
  | running
  | delay (sh : Nat)
  | gone
  deriving DecidableEq, Repr, Inhabited

/-- A job with its descriptor (R224), the header window of its job buffer (R89), the bytes of the buffer's
descriptor that a debugger has written over (R539), the queue whose entry it holds while its Fetch slot copy is under way
(R221), and what the Herder and the Dispatcher keep of it (R140, R226, R260, R263, R267, R270). -/
structure Job where
  cell : Nat := 0
  len : Nat := 0
  port : Nat := 0
  cls : Nat := 0
  epoch : Nat := 0
  tclass : Bool := false
  restart : Bool := false
  fab : Bool := false
  od : Nat := 0
  seq : Nat := 0
  hash : Word := 0
  tsNs : Nat := 0
  tsSec : Nat := 0
  tsFrac : Byte := 0
  prio : Nat := 0
  profile : Nat := 0
  color : Nat := 0
  stream : Nat := 0
  l3 : Nat := 255
  l4 : Nat := 255
  cells : Nat := 0
  pool : Nat := 0
  dcount : Nat := 0
  enqNs : Nat := 0
  mdata : List Byte := []
  hdr : Mem := []
  dpatch : Tab (Option Byte) := []
  place : Place := .gone
  entry : Option Nat := none
  expiry : Nat := 0
  listed : Bool := false
  dtag : Byte := 0
  parkedOnce : Bool := false
  parkUntil : Nat := 0
  parkEng : Nat := 0
  shard : Nat := 0
  enqAt : Nat := 0
  retired : Bool := false
  emitted : Bool := false
  commits : Nat := 0
  released : Bool := false
  passed : Bool := false
  hole : Bool := false
  aborted : Bool := false
  freed : Bool := false
  left : Bool := false
  deriving DecidableEq, Repr, Inhabited

/-- Where a committed output is (R259, R260, R366, R368). -/
inductive OutPlace where
  | store
  | path
  | queued
  | sending
  | sent
  deriving DecidableEq, Repr, Inhabited

/-- A committed output (R137, R138). A transit frame of the fabric is an output without a job, with cells of its
own; the port of a `routed` output is chosen anew when it joins a queue (R453). -/
structure Output where
  job : Option Nat := none
  eng : Nat := 0
  port : Nat := 0
  cls : Nat := 0
  hq : Nat := 0
  hdr : List Byte := []
  strip : Nat := 0
  tailLen : Nat := 0
  cell : Nat := 0
  pool : Nat := 0
  place : OutPlace := .store
  order : Nat := 0
  fabHdr : List Byte := []
  routed : Bool := false
  early : Bool := false
  counted : Bool := false
  startFr : Nat := 0
  deriving DecidableEq, Repr, Inhabited

/-- One order domain (R256, R265, R266): the next sequence number, the head, and the hole timer as
nanoseconds run so far; `timing` is the job it runs for. -/
structure Domain where
  next : BitVec 16 := 0
  head : BitVec 16 := 0
  timing : Option Nat := none
  ran : Nat := 0
  limit : Nat := 0
  deriving DecidableEq, Repr, Inhabited

/-- A frame in an ingress FIFO with what step 2 decided (R331, R347). -/
structure IFrame where
  bytes : List Byte
  port : Nat
  cls : Nat
  pool : Nat
  epoch : Nat
  profile : Nat
  od : Nat
  hash : Word
  color : Nat
  stream : Nat
  l3 : Nat
  l4 : Nat
  mdata : List Byte
  fab : Bool
  tsSec : Nat
  tsNs : Nat
  tsFrac : Byte
  stalled : Bool
  deriving DecidableEq, Repr, Inhabited

/-- A stalled reader of a Leash lock (R201, R203): its owner ID, its arrival on the free-running count and its
deadline. -/
structure Waiter where
  id : BitVec 16
  arrived : Nat
  deadline : Nat
  deriving DecidableEq, Repr, Inhabited

/-- A Leash lock (R197 to R208): the owner ID (0 when free), the broken mark with the ID of the owner that
ceased, and the queue, head first. -/
structure Lock where
  owner : BitVec 16 := 0
  broken : Bool := false
  prior : BitVec 16 := 0
  queue : List Waiter := []
  deriving DecidableEq, Repr, Inhabited

/-- A meter (R360, R381): buckets in 1/256 byte, the time of the last update, the three counts. -/
structure Meter where
  tc : Nat := 0
  tp : Nat := 0
  last : Nat := 0
  green : Nat := 0
  yellow : Nat := 0
  red : Nat := 0
  deriving DecidableEq, Repr, Inhabited

/-- A MACsec secure association and the SecY of a port (R329, R469). Keys can be written and never read. -/
structure SecY where
  suite : Nat := 0
  offset : Nat := 0
  strict : Bool := false
  replay : Bool := false
  sc : Bool := false
  protect : Bool := false
  window : Nat := 0
  sci : BitVec 64 := 0
  dropped : Nat := 0
  txAn : Nat := 0
  deriving DecidableEq, Repr, Inhabited

structure RxSc where
  port : Nat := 0
  en : Bool := false
  sci : BitVec 64 := 0
  deriving DecidableEq, Repr, Inhabited

structure SecA where
  en : Bool := false
  pn : Nat := 0
  ssci : Word := 0
  salt : List Byte := []
  key : List Byte := []
  deriving DecidableEq, Repr, Inhabited

/-- The egress side of one port (R366 to R376): DRR turn per group, deficit and credit per class (credit in
1/8,000 byte), the output in transmission, the domain times at its start and the SecY and SA that protect it, the gate
lists and the committed switch. -/
structure EPort where
  queues : Tab (List Nat) := []
  turn : Tab Nat := []
  started : Tab Bool := []
  deficit : Tab Nat := []
  credit : Tab Int := []
  lastCredit : Nat := 0
  sending : Option Nat := none
  oper : List (Byte × Nat) := []
  operCycle : Nat := 0
  operBase : Nat := 0
  operDom : Nat := 0
  entry : Nat := 0
  gates : Byte := 255
  adm : Tab (List (Nat × Word)) := []
  pendList : List (Byte × Nat) := []
  pendCycle : Nat := 0
  pendBase : Nat := 0
  pendDom : Nat := 0
  pendAt : Nat := 0
  pendFrac : Nat := 0
  maxwin : Tab (Option Nat) := []
  pauseUntil : Tab Nat := []
  stamps : List DomTime := []
  sec : Option (SecY × SecA) := none
  txts : List (Nat × DomTime) := []
  fabCredit : Tab Nat := []
  deriving DecidableEq, Repr, Inhabited

def EPort.idle : EPort := {}

/-- A Whistle block (R470 to R473, R553); `lost` says that the fabric peer it was posted to has been lost (R455). -/
structure WhBlock where
  stage : List Word := List.replicate 16 0
  posted : List Word := List.replicate 16 0
  full : Bool := false
  timeout : Bool := false
  lost : Bool := false
  start : Nat := 0
  deriving DecidableEq, Repr, Inhabited

def WhBlock.idle : WhBlock := {}

/-- A reply the firmware has queued for a host pair (R477): a block's 16 words. -/
abbrev Reply := List Word

/-- A reply sent on a route other than a host pair, or written to host memory (R465, R480, R482). -/
structure Sent where
  route : Route
  bytes : List Byte
  deriving DecidableEq, Repr, Inhabited

/-- The fields of the Pace governor that are not registers (R46, R53 to R66): clean windows so far, failed AVSBus
transactions in a row, a Write Vout due, the time of the last commit, whether the Read Vout of this window end
cleared an AVS fault, what the last window end and the samplers found, a change of TURN_CEIL since the last
window end, E-class jobs latched, made in the window just ended and made in this window, whether HOLD has risen
since EN, the engine each pack's sampler watches and when it moved there, its LIVE_MAX over the ceiling and SAMPLES so
far in this window, the window boundary computed last, and the windows (plus 1) of the last Read Vout and Write Vout. -/
structure Pace where
  rearm : Nat := 0
  avsFails : Nat := 0
  writeDue : Bool := false
  lastCommit : Option Nat := none
  cleared : Bool := false
  predOver : Bool := false
  turnOver : Bool := false
  ceilChanged : Bool := false
  latched : Nat := 0
  created : Nat := 0
  made : Nat := 0
  everHeld : Bool := false
  sampler : Tab Nat := []
  rotAt : Tab Nat := []
  liveMax : Tab Nat := []
  samples : Tab Nat := []
  win : Nat := 0
  readWin : Nat := 0
  writeWin : Nat := 0
  deriving DecidableEq, Repr, Inhabited

/-- Who reads far tables (R298, R347): a LOOKUP READ, the update unit, the table DMA operation in progress at `run`, or the
frame at the head of a port's step 2. -/
inductive FarFor where
  | helper (id : Nat)
  | update
  | op (run : Nat)
  | frame (port : Nat)
  deriving DecidableEq, Repr, Inhabited

/-- What a fetch of a far line has brought: nothing yet, the line, or uncorrectable data (R429). -/
inductive Fetched where
  | waits
  | data (b : List Byte)
  | bad
  deriving DecidableEq, Repr, Inhabited

/-- A line of 64 bytes that a reader of a far table fetches from DRAM; `fresh` holds the bytes that updates have written
to it meanwhile (R298). -/
structure Fetch where
  line : Nat
  own : FarFor
  got : Fetched
  fresh : Tab (Option Byte)
  deriving DecidableEq, Repr, Inhabited

/-- Where a DRAM request's end goes: to a helper command, into a fetched line, to a table DMA operation, nowhere (a posted
write), or to the read timing alone (R433). -/
inductive DramTo where
  | helper (id : Nat)
  | line (n : Nat) (own : FarFor)
  | op (run : Nat)
  | posted
  | idle
  deriving DecidableEq, Repr, Inhabited

/-- A DRAM request (R422): its number in order of arrival at the controller, requester port, class, direction, device
address, place in its interface's DRAM, row, bank, how often it was passed over, who gets its end, and the bytes it
writes or has read. -/
structure DramReq where
  id : Nat
  port : Nat
  tclass : Bool
  write : Bool
  addr : Nat
  phys : Nat
  len : Nat
  row : Nat
  bank : Nat
  passed : Nat
  issued : Bool
  dest : DramTo
  data : List Byte
  deriving DecidableEq, Repr, Inhabited

/-- A descriptor of table DMA (R301). -/
structure TDesc where
  op : Nat
  table : Nat
  irq : Bool
  valid : Bool
  bucket : Nat
  slot : Nat
  age : Nat
  buf : Nat
  ebuf : Nat
  deriving DecidableEq, Repr, Inhabited

/-- What a descriptor completes with (R303): STATUS, BUCKET, SLOT and AGE. -/
structure TRes where
  status : Nat
  bucket : Nat
  slot : Nat
  age : Nat
  deriving DecidableEq, Repr, Inhabited

/-- How far a table DMA operation has come: its descriptor is on the way from DRAM, its buffer is, it can act, it waits for
the update unit, or it has its result. -/
inductive TStage where
  | desc
  | buf
  | ready
  | queued
  | done (r : TRes)
  deriving DecidableEq, Repr, Inhabited

/-- A table DMA operation in progress (R300 to R302): whether its addresses are in DRAM, its descriptor, the buffer as read
and whether that was uncorrectable, and whether its ring stops after it (R304). -/
structure TRun where
  dram : Bool
  stage : TStage
  desc : TDesc
  buf : Mem
  bad : Bool
  stop : Bool
  deriving DecidableEq, Repr, Inhabited

/-- One DRAM channel (R422 to R425, R433, R434): its queue in arrival order, the open row and the predictor of each bank,
the write that ends in-order mode, when it last carried a read, and of each byte lane the read delay in steps from its
trained value, when that last moved, and the write delay. -/
structure DramCh where
  q : List DramReq := []
  openRow : Tab (Option Nat) := []
  lastRow : Tab (Option Nat) := []
  pred : Tab Nat := []
  inOrder : Option Nat := none
  lastRead : Nat := 0
  readDelay : Tab Int := []
  readMoved : Tab Nat := []
  writeDelay : Tab Int := []
  deriving DecidableEq, Repr, Inhabited

def DramCh.idle : DramCh := {}

/-- An entry of the DRAM error log (R431, R440) and of the error log (R530, R538): address, info, time. -/
structure ErrEntry where
  addr : Word
  info : Word
  ts : Word
  deriving DecidableEq, Repr, Inhabited

/-- One LFL link (R442 to R444, R458) beyond its registers: block lock on its lanes, the peer UID learned at link up,
the UID last heard and when, the transmit count that the last hello received carried and the receive count of that
hello, in 1/256 ns, the control frames that wait to leave, oldest first, and those whose credit is not back. -/
structure FabLink where
  lock : Bool := false
  peerUid : BitVec 64 := 0
  heard : BitVec 64 := 0
  lastHello : Nat := 0
  rxT1 : Nat := 0
  rxT2 : Nat := 0
  ctlq : List (List Byte) := []
  ctlOut : Nat := 0
  deriving DecidableEq, Repr, Inhabited

def FabLink.idle : FabLink := {}

/-- A CAN channel: its transmit queue (R338), outputs in the order the Herder released them, each with the attempts
made; and how far its receive error counter stands above the 127 that CAN_STAT shows (R354). -/
structure CanCh where
  txq : List (Nat × Nat) := []
  beyond : Nat := 0
  deriving DecidableEq, Repr, Inhabited

def CanCh.idle : CanCh := {}

/-- The Metrology Island (R540 to R553): its stores, its log, the real-time count at its last energy record and the offer in
its hands. -/
structure Island where
  powered : Bool := true
  audit : Nat := 0
  fuseBlown : Bool := false
  sealLow : Bool := false
  adcOk : Bool := true
  slot : Nat := 0
  fw : Tab (List Byte) := []
  fwId : Word := 0
  params : Tab (BitVec 64) := [(3, 60)]
  pubKey : List Byte := []
  log : Tab (List Byte) := []
  entries : Nat := 0
  rtcNs : Nat := 0
  recAt : Nat := 0
  posts : Word := 0
  offer : Option (Nat × List Byte) := none
  offerLow : Bool := false
  newSlot : Bool := false
  deriving DecidableEq, Repr, Inhabited

/-- What the device does at its pins, newest first (R50, R242, R408, R525, R526). -/
inductive PinEvent where
  | msix (vec : Nat)
  | frame (port : Nat) (bytes : List Byte) (badFcs : Bool)
  | pfc (port prio quanta : Nat)
  | avsWrite (rail mv : Nat)
  | avsRead (rail : Nat)
  | pps (level : Bool)
  | hello (quad : Nat) (h : Hello)
  | record (quad : Nat) (r : LinkRecord)
  | control (quad : Nat) (bytes : List Byte)
  | credit (quad : Nat) (units : List Nat)
  | mdio (m : Nat) (cl45 : Bool) (prt dev reg : Nat) (write : Option (BitVec 16))
  deriving DecidableEq, Repr, Inhabited

/-- Why the block stops with a fault. -/
inductive Fault where
  /-- Raised by no command of this model: the spec gives every command of the table an effect. Safe. -/
  | none
  deriving DecidableEq, Repr, Inhabited

/-- Why the block gives a command no meaning. -/
inductive Refusal where
  /-- The command has no meaning in this model yet (Dispatch.lean). Safe. -/
  | notModelled (mnemonic : String)
  deriving DecidableEq, Repr, Inhabited

/-- The memories of the device, each with its own byte addresses (R82, R277, R310, R351, R417, R514): the
instruction store and shared memory of pack p from p × its size, the local data memory of engine e from
e × 32 KiB, the scratch of context c from c × 256. The flash holds the complement of each byte: an unlisted byte is
erased (log entry 7). -/
structure Mems where
  istore : Mem := []
  psm : Mem := []
  csm : Mem := []
  ldm : Mem := []
  scratch : Mem := []
  cells : Mem := []
  flow : Mem := []
  tblram : Mem := []
  dram : Mem := []
  host : Mem := []
  flash : Mem := []
  deriving DecidableEq, Repr, Inhabited

/-- The Dispatcher (R220 to R246): queues, head first; the back-pressure flags; the delay lists; TICK, the free-running
count at the last tick and the period in force; the packs under a drain; the Scent buffer and whether the next loss is the first since the counter was read. -/
structure Disp where
  queues : Tab (List Nat) := []
  bp : Tab Bool := []
  delays : Tab (List Nat) := []
  tick : Nat := 0
  tickAt : Nat := 0
  tickNs : Nat := 1000
  drained : List Nat := []
  scent : List (BitVec 64) := []
  scentFirst : Bool := true
  deriving DecidableEq, Repr, Inhabited

/-- The jobs in flight, the committed outputs and the order domains (R224, R256 to R270). -/
structure Herd where
  jobs : Tab Job := []
  nextJob : Nat := 0
  outs : Tab Output := []
  nextOut : Nat := 0
  doms : Tab Domain := []
  deriving DecidableEq, Repr, Inhabited

/-- The Leash and the memory-word waiter tables (R197 to R213): waiters of memory m (0 to 31 a pack's shared
memory, 32 common SRAM) as word and context, oldest first; `replies` are the statuses of reads that ended after
a stall, for masters other than engine contexts. -/
structure Leash where
  locks : Tab Lock := []
  mwq : Tab (List (Nat × Nat)) := []
  replies : List (BitVec 16 × Word) := []
  deriving DecidableEq, Repr, Inhabited

/-- The helper commands in flight in order of acceptance, the update unit's queue (R192 to R196, R289). -/
structure Help where
  cmds : List HlpCmd := []
  next : Nat := 0
  updates : List Update := []
  deriving DecidableEq, Repr, Inhabited

/-- What the fabric header gives a frame (R446, R452): domain, class, the header as metadata. -/
structure FabIn where
  od : Nat
  cls : Nat
  hdr : List Byte
  deriving DecidableEq, Repr, Inhabited

/-- A frame at step 2 of R24 with the time of its timestamp point. -/
structure StepTwo where
  bytes : List Byte
  fab : Option FabIn
  ts : DomTime
  deriving DecidableEq, Repr, Inhabited

/-- The Lookup Engine beyond its registers and slots (R296 to R298, R300): the lock store, the bucket each aging
scan visits next and when its pass began, the cached lines of 64 bytes by number, least recently used first, the ring whose
turn is next, the operations in progress (0 to 3 of the rings, 4 of CMD_TBL_OPS), and the far lines on their way.
While one reader of far tables runs, `cur` names it and its class, `need` the lines it lacks and `gone` an address it
lacks that is not present; between commands they are empty. -/
structure Look where
  locks : List (Nat × Nat) := []
  ageNext : Tab Nat := []
  ageFrom : Tab Nat := []
  cache : List (Nat × List Byte) := []
  ring : Nat := 0
  runs : Tab (Option TRun) := []
  fetch : List Fetch := []
  cur : Option (FarFor × Bool) := none
  need : List Nat := []
  gone : Option Nat := none
  deriving DecidableEq, Repr, Inhabited

/-- The Kennel's state bits and NEXT links (R311). -/
structure Kennel where
  state : Tab Bool := []
  next : Tab Nat := []
  deriving DecidableEq, Repr, Inhabited

/-- The ports (R324, R331, R333, R338, R406): ingress FIFOs by port × 8 + class, the priority each class pauses at
the partner and when it was last sent, the negotiated rates, the correction filter (rejections in a row, the
last measurement plus 1, and the corrections replaced with when, newest first), the CAN queues, MACsec (R329), the counts
of frames that no register shows, by reason × 256 + port, the first step of each MDIO master's run (R344), and the frames whose action lookup
waits for a far table, by port (R347). -/
structure Ports where
  ififo : Tab (List IFrame) := []
  pfcOn : Tab (Option Nat) := []
  pfcAt : Tab Nat := []
  rate : Tab Nat := []
  gbxRej : Tab Nat := []
  gbxSeen : Tab Nat := []
  gbxPast : Tab (List (Nat × Nat)) := []
  can : Tab CanCh := []
  secys : Tab SecY := []
  rxscs : Tab RxSc := []
  sas : Tab SecA := []
  counts : Tab Nat := []
  mdioFrom : Tab Nat := []
  step2 : Tab (List StepTwo) := []
  deriving DecidableEq, Repr, Inhabited

/-- The DRAM controllers (R422 to R434): channels by interface × 4 + channel, requests waiting at regulators
and their tokens by interface × 8 + port, the error log, the words (by place) whose checks find an uncorrectable error and
those with a single-bit error, and of each interface when the write tracking round in force
began and the channel whose turn it is. -/
structure Dram where
  ch : Tab DramCh := []
  wait : Tab (List DramReq) := []
  tokens : Tab Int := []
  tokAt : Tab Nat := []
  next : Nat := 0
  log : List ErrEntry := []
  poisoned : List Nat := []
  single : List Nat := []
  trackFrom : Tab Nat := []
  trackCh : Tab Nat := []
  deriving DecidableEq, Repr, Inhabited

/-- The fabric (R442 to R458): links by quad, link-state records by UID, the records of its own that this device has
flooded, and when the known UIDs last changed. -/
structure Fab where
  links : Tab FabLink := []
  records : Tab LinkRecord := []
  own : List LinkRecord := []
  changed : Nat := 0
  deriving DecidableEq, Repr, Inhabited

/-- A Keeper pair (R461): the single context of each of its two cores, which run in lockstep, its 512 KiB of instruction
memory and its 1 MiB of data memory. -/
structure Keeper where
  core0 : Ctx := {}
  core1 : Ctx := {}
  imem : Mem := []
  dmem : Mem := []
  deriving DecidableEq, Repr, Inhabited

def Keeper.idle : Keeper := {}

/-- The control plane (R463 to R494): Whistle blocks (0, 2, 4, 6 H2K and 1, 3, 5, 7 K2H of host pairs 0 to 3;
8 to 11 the fabric pairs; 12 the island's export pair), reply queues of 16 and what waits for room in them, replies
sent elsewhere, the peers of the
fabric pairs (R478), key slots with their last SEQ, frames the management port has passed to the Keepers (R479),
code regions by epoch as rising block numbers, Keeper pairs in reset and what each pair holds, the commands accepted and
not yet executed (R468) by opcode, and the commands that wait for hardware, with the free-running count at which they
give up, or for the Lookup Engine, with the descriptors that are left and those completed. -/
structure Ctl where
  wh : Tab WhBlock := []
  replyQ : Tab (List Reply) := []
  lateQ : Tab (List Reply) := []
  sent : List Sent := []
  fabDst : Tab Nat := []
  accepted : List (Nat × CmdReq) := []
  authKey : Tab (List Byte) := []
  authSeq : Tab Nat := []
  inBand : List (List Byte) := []
  code0 : List Nat := []
  code1 : List Nat := []
  keeperDown : Tab Bool := []
  keepers : Tab Keeper := []
  drainWait : Option (CmdReq × List Nat × Nat) := none
  offerWait : Option (CmdReq × Nat) := none
  fwdWait : Option (CmdReq × Nat) := none
  tblWait : Option (CmdReq × List Byte × List Byte) := none
  deriving DecidableEq, Repr, Inhabited

/-- Start-up (R498 to R519): the step of R507 the attempt stands at (0 before it starts), since when it waits there,
when a self reset is due, whether the attempt has failed, when the watchdog was last restarted, whether the ROM
waits for a download, the running image, and the Survey report. -/
structure Boot where
  stage : Nat := 0
  waitFrom : Nat := 0
  resetAt : Option Nat := none
  failed : Bool := false
  wdogAt : Nat := 0
  romWait : Bool := false
  image : List Byte := []
  survey : List Byte := []
  deriving DecidableEq, Repr, Inhabited

/-- The Event Hub's MSI-X side with the address and data of each vector, the error log and the debug error code (R525,
R530, R531, R539). `flips` names the
64-bit words of on-chip stores that hold a bit error (R528): the MEM and INST codes of R538, the word number, and
whether it is uncorrectable. -/
structure Hub where
  msixEn : Bool := false
  busMaster : Bool := false
  funcMask : Bool := false
  vecMask : List Nat := List.range 64
  msixTab : Tab (BitVec 64 × Word) := []
  msgWait : List Nat := []
  errLog : List ErrEntry := []
  flips : List (Nat × Nat × Nat × Bool) := []
  fatal : Bool := false
  dbgErr : BitVec 4 := 0
  deriving DecidableEq, Repr, Inhabited

/-- The Time base beyond its registers (R399, R401, R402, R410): the domain times, the 1PPS output with the
free-running count at which its pulse ends, and for each step, set and rate
change of domain 0, newest first, when it was and the time and rate until then. -/
structure TimeBase where
  dom : Tab DomTime := []
  ppsHigh : Bool := false
  ppsUntil : Nat := 0
  rolled : Bool := false
  past : List (Nat × DomTime × Int) := []
  deriving DecidableEq, Repr, Inhabited

/-- The state of the block. -/
structure State where
  chip : Chip
  fr : Nat
  regs : Tab (Option Word)
  hiLatch : Tab Word
  rdata : Word
  tb : TimeBase
  mem : Mems
  ctxs : Tab Ctx
  engs : Tab Eng
  disp : Disp
  herd : Herd
  leash : Leash
  help : Help
  look : Look
  kn : Kennel
  ports : Ports
  meters : Tab Meter
  eports : Tab EPort
  pace : Pace
  dram : Dram
  fab : Fab
  ctl : Ctl
  boot : Boot
  hub : Hub
  island : Island
  pins : List PinEvent
  freeCtr : Nat
  pending : List Instr
  deriving DecidableEq, Repr, Inhabited

/-- The part State.reset stands for: an LRV-5120M of the first production stepping with unprogrammed fuses
where the spec gives no value (log entry 2). -/
def Chip.reset : Chip :=
  { part := .lrv5120, metro := true, step := 1, fuseRatio := 0x1000, uid := 0, fabId := 0xF, bootSel := 0,
    minSvn := 0, keyHash := [], otpKey := [], fwVersion := 0, flashSize := 0x2000000 }

/-- The device at the release of PORST_N and SYSRST_N, before the boot ROM runs (R120, R209, R229, R256,
R281, R311, R397, R399, R474, R498). -/
def State.reset : State :=
  { chip := Chip.reset, fr := 0, regs := [], hiLatch := [], rdata := 0, tb := {}, mem := {}, ctxs := [],
    engs := [], disp := {}, herd := {}, leash := {}, help := {}, look := {}, kn := {}, ports := {},
    meters := [], eports := [], pace := {}, dram := {}, fab := {}, ctl := {}, boot := {}, hub := {},
    island := {}, pins := [], freeCtr := 0, pending := [] }

end Sys2Proof.Machine
end

