-- ==== Sys2Proof/Machine/RegMap.lean ====
section
/-! DEFINITION. The register map of BAR0: every register of the spec with its offset, its array dimensions,
its fields with their access codes (R15) and its reset value, transcribed from the register tables of spec/
(each row names its rule). -/

namespace Sys2Proof.Machine

open Sys2Proof

/-- Access codes (R15). -/
inductive Acc where
  | rw | ro | w1c | w1s | rc | raq | wo
  deriving DecidableEq, Repr

/-- A field: lowest bit, width, access. -/
structure Fld where
  lo : Nat
  wd : Nat
  acc : Acc
  deriving DecidableEq, Repr

/-- The unit whose absence makes a register read 0 (R9): the first array index names the unit. -/
inductive UnitTag where
  | always | pack | packOr32 | quad | port | can | shard | scent | fab | fablink | ddr | ddrreg | eqport
  | tsport | metro
  deriving DecidableEq, Repr

/-- The registers by name. -/
inductive RegId where
  | SYS_CENSUS0 | SYS_CENSUS1 | SYS_OWN | SYS_HOST_ACC | SYS_EPOCH | SYS_BOOT_STATUS | SYS_BOOT_TRIES
  | SYS_BOOT_CTRL | SYS_WDOG | SYS_SURVEY | SYS_GPIO_OUT | SYS_GPIO_OE | SYS_GPIO_IN | WH_H2K_DATA
  | WH_H2K_CTRL | WH_K2H_DATA | WH_K2H_CTRL | WH_CFG | WH_IB_MAC_LO | WH_IB_MAC_HI | WH_IB_BAD
  | WH_IB_REPLAY | EV_STATUS | EV_ENABLE | EV_SW_RAISE | EV_VEC_PEND_LO | EV_VEC_PEND_HI | EV_ROUTE
  | ERR_POP | ERR_ADDR | ERR_INFO | ERR_TS | ERR_STAT | ERR_CE_CNT | ERR_UE_CNT | PACE_CTRL | PACE_STATUS
  | PACE_TURN_CEIL | PACE_TURN_OBS | PACE_PRED | PACE_VDD | PACE_LIMITS | PACE_SLEW | PACE_CFG | PACE_CFG2
  | PACE_THROT | PACE_WIN_CNT | PACE_HOLD_DROPS | PACE_LAST_DROP_LO | PACE_LAST_DROP_HI | PACE_FUSE_RATIO
  | PACE_AVS | PACE_PK_RATIO | PACE_PK_CANARY | PACE_PK_LIVE | PACE_PK_CAL | LEASH_LOCK | LEASH_GRP_ACC_LO
  | LEASH_GRP_ACC_HI | LEASH_GRP_TMO | LEASH_PEEK | LEASH_DENY_LOG | LEASH_BROKEN_CNT | LEASH_TMO_CNT
  | LEASH_DENY_CNT | LEASH_MW_STAT | DSP_CLASS_MAP0 | DSP_CLASS_MAP1 | DSP_AFF | DSP_FS_TMO | DSP_DTICK
  | DSP_QCFG | DSP_QLIM | DSP_QSTAT | DSP_POOL | DSP_STEALS | DSP_RECALLS | DSP_DLY_FULL | DSP_HIST
  | DSP_SCENT_CTRL | DSP_SCENT_BASE_LO | DSP_SCENT_BASE_HI | DSP_SCENT_WR | DSP_SCENT_RD | DSP_SCENT_LOST
  | HERD_TMO | HERD_EPOCH_CNT | HERD_HOLE_LOG0 | HERD_HOLE_LOG1 | HERD_HOLES | HERD_RELEASES
  | HERD_WIN_STALL | HERD_STORE_FULL | HERD_STORE | HERD_OD_SEL | HERD_OD_STAT | TBL_GEOM | TBL_BASE_LO
  | TBL_BASE_HI | TBL_SEED_LO | TBL_SEED_HI | TBL_POLICY | TBL_CTRL | TBL_STAT | TBL_CACHE_CTRL
  | TBL_CACHE_HIT | TBL_CACHE_MISS | TBL_EVICT_CNT | TBL_INSFAIL_CNT | TBL_AGED_CNT | TBL_PAR_CNT
  | TBL_LFSR | TBL_LOCKS | TBL_PAR_LOG | TDMA_BASE_LO | TDMA_BASE_HI | TDMA_CFG | TDMA_PI | TDMA_CI
  | KN_POOL_BASE | KN_POOL_SIZE | KN_FREE_CNT | KN_CURSOR | KN_EMPTY_CNT | KN_ERR_LOG | KN_ERR_CNT
  | KN_CELL | PORT_QUAD | PORT_CFG | PORT_STAT | PORT_POOL_LO | PORT_POOL_HI | PORT_PFC | PORT_IFIFO
  | PORT_IDROP | MDIO_CFG | MDIO_RUN | MDIO_RES | MDIO_SCRIPT | HP_H2D_BASE_LO | HP_H2D_BASE_HI
  | HP_H2D_CFG | HP_H2D_PI | HP_H2D_CI | HP_D2H_BASE_LO | HP_D2H_BASE_HI | HP_D2H_CFG | HP_D2H_PI
  | HP_D2H_CI | CAN_MODE | CAN_NBT | CAN_DBT | CAN_XBT | CAN_TDC | CAN_STAT | CAN_TX_DROP | CAN_TX_BAD
  | CAN_RX_ERR | CLS_PCTL | CLS_PACT | CLS_PSEED | CLS_PFLD | CLS_SFILT | MTR_CIR | MTR_PIR | MTR_CBS
  | MTR_PBS | MTR_PMODE | MTR_RD_SEL | MTR_RD_TC | MTR_RD_TP | MTR_RD_GREEN | MTR_RD_YELLOW | MTR_RD_RED
  | MTR_CFG | EQ_OVERHEAD | EQ_GCL_CTRL | EQ_GCL_CYCLE | EQ_GCL_BASE_NS | EQ_GCL_BASE_SEC_LO
  | EQ_GCL_BASE_SEC_HI | EQ_GCL_OPER | EQ_CLASS | EQ_QUANTUM | EQ_CBS | EQ_BURST | EQ_QSTAT | EQ_CREDIT
  | EQ_DROP | EQ_GATE_DROP | EQ_STORE | EQ_GCL_GATES | EQ_GCL_INTERVAL | TB_STAT | TB_SNAP | TB_FR_LO
  | TB_FR_HI | TB_SNAP_FR_LO | TB_SNAP_FR_HI | TB_PPS_CFG | TB_PPS_FR_LO | TB_PPS_FR_HI | TB_DOM_CFG
  | TB_ADJ_FREQ | TB_ADJ_SEC | TB_ADJ_NS | TB_ADJ_CTRL | TB_SNAP_NS | TB_SNAP_SEC_LO | TB_SNAP_SEC_HI
  | TB_PPS_NS | TB_PPS_SEC_LO | TB_PPS_SEC_HI | TS_CAL_RX | TS_CAL_TX | TS_GBX | TXTS_HDR | TXTS_NS
  | TXTS_SEC_LO | TXTS_SEC_HI | TXTS_STAT | DDR_MAP | DDR_ERR_POP | DDR_ERR_ADDR | DDR_ERR_INFO
  | DDR_ERR_TS | DDR_ERR_STAT | DDR_CTRL | DDR_BANK_XOR0 | DDR_BANK_XOR1 | DDR_BANK_XOR2 | DDR_BANK_XOR3
  | DDR_CE_CNT | DDR_UE_CNT | DDR_INORD_CNT | DDR_UNSRV_CNT | DDR_REG_CFG | DDR_REG_BURST | FAB_CFG
  | FAB_STAT | FAB_UID_LO | FAB_UID_HI | FAB_ROUTE | FAB_PEER_UID_LO | FAB_PEER_UID_HI | FAB_NOROUTE
  | FAB_TTL_DROP | FAB_REROUTES | FAB_LNK_STAT | FAB_LNK_CAL_RX | FAB_LNK_CAL_TX | FAB_LNK_DELAY
  | FAB_LNK_OFS | FAB_LNK_ERR | FAB_LNK_DOWNS | PACK_CFG | PACK_STACK | PACK_TRAP | PACK_RST | WHEEL_MAP0
  | WHEEL_MAP1 | PACK_ENTRY | HLP_TPEAK0 | HLP_TPEAK1 | ENG_CTX | ENG_DL_CFG | ENG_DL_STATUS | ENG_WAKE
  | ENG_RST | ENG_TURN_T_LO | ENG_TURN_T_HI | ENG_TURN_E_LO | ENG_TURN_E_HI | ENG_TURN_B_LO | ENG_TURN_B_HI
  | ENG_STARTS | PK_ISTORE | PK_PSM | MET_STAT | MET_AUDIT | MET_HEAD | MET_FW_ID | MET_FW_DIGEST
  | MET_PARAM_DIGEST | MET_PUBKEY | MET_LOG | DBG_SESSION | DBG_CFG | DBG_SEL | DBG_CMD | DBG_STAT
  | DBG_REG | DBG_LMEM | DBG_SCRATCH | DBG_JOB
  deriving DecidableEq, Repr

/-- A register, or an array of them: `dims` lists count and stride, outermost first. -/
structure RegDesc where
  id : RegId
  base : Nat
  dims : List (Nat × Nat)
  tag : UnitTag
  reset : Nat
  fields : List Fld
  deriving DecidableEq, Repr

namespace Reg

/-- R5. -/
abbrev SYS_CENSUS0 : Nat := 0x10
/-- R6. -/
abbrev SYS_CENSUS1 : Nat := 0x14
/-- R32. -/
abbrev SYS_OWN : Nat := 0x20
/-- R38. -/
abbrev SYS_HOST_ACC : Nat := 0x24
/-- R497. -/
abbrev SYS_EPOCH : Nat := 0x30
/-- R515. -/
abbrev SYS_BOOT_STATUS : Nat := 0x40
/-- R516. -/
abbrev SYS_BOOT_TRIES : Nat := 0x44
/-- R517. -/
abbrev SYS_BOOT_CTRL : Nat := 0x48
/-- R518. -/
abbrev SYS_WDOG : Nat := 0x4C
/-- R519. -/
abbrev SYS_SURVEY : Nat := 0x50
/-- R560. -/
abbrev SYS_GPIO_OUT : Nat := 0x60
/-- R560. -/
abbrev SYS_GPIO_OE : Nat := 0x64
/-- R560. -/
abbrev SYS_GPIO_IN : Nat := 0x68
/-- R495. -/
abbrev WH_H2K_DATA (i j : Nat) : Nat := 0x100000 + 0x100 * i + 0x4 * j
/-- R495. -/
abbrev WH_H2K_CTRL (i : Nat) : Nat := 0x100040 + 0x100 * i
/-- R495. -/
abbrev WH_K2H_DATA (i j : Nat) : Nat := 0x100080 + 0x100 * i + 0x4 * j
/-- R495. -/
abbrev WH_K2H_CTRL (i : Nat) : Nat := 0x1000C0 + 0x100 * i
/-- R496. -/
abbrev WH_CFG : Nat := 0x100800
/-- R496. -/
abbrev WH_IB_MAC_LO : Nat := 0x100804
/-- R496. -/
abbrev WH_IB_MAC_HI : Nat := 0x100808
/-- R496. -/
abbrev WH_IB_BAD : Nat := 0x10080C
/-- R496. -/
abbrev WH_IB_REPLAY : Nat := 0x100810
/-- R537. -/
abbrev EV_STATUS (i : Nat) : Nat := 0x200000 + 0x4 * i
/-- R537. -/
abbrev EV_ENABLE (i : Nat) : Nat := 0x200080 + 0x4 * i
/-- R537. -/
abbrev EV_SW_RAISE : Nat := 0x200100
/-- R537. -/
abbrev EV_VEC_PEND_LO : Nat := 0x200104
/-- R537. -/
abbrev EV_VEC_PEND_HI : Nat := 0x200108
/-- R537. -/
abbrev EV_ROUTE (i : Nat) : Nat := 0x201000 + 0x4 * i
/-- R538. -/
abbrev ERR_POP : Nat := 0x200200
/-- R538. -/
abbrev ERR_ADDR : Nat := 0x200204
/-- R538. -/
abbrev ERR_INFO : Nat := 0x200208
/-- R538. -/
abbrev ERR_TS : Nat := 0x20020C
/-- R538. -/
abbrev ERR_STAT : Nat := 0x200210
/-- R538. -/
abbrev ERR_CE_CNT : Nat := 0x200214
/-- R538. -/
abbrev ERR_UE_CNT : Nat := 0x200218
/-- R68. -/
abbrev PACE_CTRL : Nat := 0x300000
/-- R69. -/
abbrev PACE_STATUS : Nat := 0x300004
/-- R70. -/
abbrev PACE_TURN_CEIL : Nat := 0x300008
/-- R71. -/
abbrev PACE_TURN_OBS : Nat := 0x30000C
/-- R71. -/
abbrev PACE_PRED : Nat := 0x300010
/-- R72. -/
abbrev PACE_VDD : Nat := 0x300014
/-- R73. -/
abbrev PACE_LIMITS : Nat := 0x300018
/-- R74. -/
abbrev PACE_SLEW : Nat := 0x30001C
/-- R75. -/
abbrev PACE_CFG : Nat := 0x300020
/-- R76. -/
abbrev PACE_CFG2 : Nat := 0x300024
/-- R77. -/
abbrev PACE_THROT : Nat := 0x300028
/-- R78. -/
abbrev PACE_WIN_CNT : Nat := 0x30002C
/-- R78. -/
abbrev PACE_HOLD_DROPS : Nat := 0x300030
/-- R78. -/
abbrev PACE_LAST_DROP_LO : Nat := 0x300034
/-- R78. -/
abbrev PACE_LAST_DROP_HI : Nat := 0x300038
/-- R79. -/
abbrev PACE_FUSE_RATIO : Nat := 0x30003C
/-- R80. -/
abbrev PACE_AVS : Nat := 0x300040
/-- R81. -/
abbrev PACE_PK_RATIO (i : Nat) : Nat := 0x301000 + 0x20 * i
/-- R81. -/
abbrev PACE_PK_CANARY (i : Nat) : Nat := 0x301004 + 0x20 * i
/-- R81. -/
abbrev PACE_PK_LIVE (i : Nat) : Nat := 0x301008 + 0x20 * i
/-- R81. -/
abbrev PACE_PK_CAL (i : Nat) : Nat := 0x30100C + 0x20 * i
/-- R214. -/
abbrev LEASH_LOCK (i : Nat) : Nat := 0x400000 + 0x4 * i
/-- R215. -/
abbrev LEASH_GRP_ACC_LO (i : Nat) : Nat := 0x404000 + 0x10 * i
/-- R215. -/
abbrev LEASH_GRP_ACC_HI (i : Nat) : Nat := 0x404004 + 0x10 * i
/-- R215. -/
abbrev LEASH_GRP_TMO (i : Nat) : Nat := 0x404008 + 0x10 * i
/-- R216. -/
abbrev LEASH_PEEK (i : Nat) : Nat := 0x408000 + 0x4 * i
/-- R217. -/
abbrev LEASH_DENY_LOG : Nat := 0x40C000
/-- R218. -/
abbrev LEASH_BROKEN_CNT : Nat := 0x40C004
/-- R218. -/
abbrev LEASH_TMO_CNT : Nat := 0x40C008
/-- R218. -/
abbrev LEASH_DENY_CNT : Nat := 0x40C00C
/-- R219. -/
abbrev LEASH_MW_STAT (i : Nat) : Nat := 0x40D000 + 0x4 * i
/-- R247. -/
abbrev DSP_CLASS_MAP0 : Nat := 0x500000
/-- R247. -/
abbrev DSP_CLASS_MAP1 : Nat := 0x500004
/-- R248. -/
abbrev DSP_AFF : Nat := 0x500008
/-- R249. -/
abbrev DSP_FS_TMO : Nat := 0x50000C
/-- R249. -/
abbrev DSP_DTICK : Nat := 0x500010
/-- R250. -/
abbrev DSP_QCFG (i : Nat) : Nat := 0x500100 + 0x8 * i
/-- R250. -/
abbrev DSP_QLIM (i : Nat) : Nat := 0x500104 + 0x8 * i
/-- R251. -/
abbrev DSP_QSTAT (i : Nat) : Nat := 0x500200 + 0x4 * i
/-- R252. -/
abbrev DSP_POOL : Nat := 0x500300
/-- R252. -/
abbrev DSP_STEALS : Nat := 0x500304
/-- R252. -/
abbrev DSP_RECALLS : Nat := 0x500308
/-- R252. -/
abbrev DSP_DLY_FULL : Nat := 0x50030C
/-- R253. -/
abbrev DSP_HIST (i j : Nat) : Nat := 0x501000 + 0x40 * i + 0x4 * j
/-- R254. -/
abbrev DSP_SCENT_CTRL : Nat := 0x502000
/-- R254. -/
abbrev DSP_SCENT_BASE_LO : Nat := 0x502004
/-- R254. -/
abbrev DSP_SCENT_BASE_HI : Nat := 0x502008
/-- R254. -/
abbrev DSP_SCENT_WR : Nat := 0x50200C
/-- R254. -/
abbrev DSP_SCENT_RD : Nat := 0x502010
/-- R254. -/
abbrev DSP_SCENT_LOST : Nat := 0x502014
/-- R271. -/
abbrev HERD_TMO : Nat := 0x600000
/-- R272. -/
abbrev HERD_EPOCH_CNT (i : Nat) : Nat := 0x600008 + 0x4 * i
/-- R273. -/
abbrev HERD_HOLE_LOG0 : Nat := 0x600010
/-- R273. -/
abbrev HERD_HOLE_LOG1 : Nat := 0x600014
/-- R274. -/
abbrev HERD_HOLES : Nat := 0x600020
/-- R274. -/
abbrev HERD_RELEASES : Nat := 0x600024
/-- R274. -/
abbrev HERD_WIN_STALL : Nat := 0x600028
/-- R274. -/
abbrev HERD_STORE_FULL : Nat := 0x60002C
/-- R275. -/
abbrev HERD_STORE : Nat := 0x600030
/-- R276. -/
abbrev HERD_OD_SEL : Nat := 0x600040
/-- R276. -/
abbrev HERD_OD_STAT : Nat := 0x600044
/-- R305. -/
abbrev TBL_GEOM (i : Nat) : Nat := 0x700000 + 0x20 * i
/-- R305. -/
abbrev TBL_BASE_LO (i : Nat) : Nat := 0x700004 + 0x20 * i
/-- R305. -/
abbrev TBL_BASE_HI (i : Nat) : Nat := 0x700008 + 0x20 * i
/-- R305. -/
abbrev TBL_SEED_LO (i : Nat) : Nat := 0x70000C + 0x20 * i
/-- R305. -/
abbrev TBL_SEED_HI (i : Nat) : Nat := 0x700010 + 0x20 * i
/-- R306. -/
abbrev TBL_POLICY (i : Nat) : Nat := 0x700014 + 0x20 * i
/-- R306. -/
abbrev TBL_CTRL (i : Nat) : Nat := 0x700018 + 0x20 * i
/-- R306. -/
abbrev TBL_STAT (i : Nat) : Nat := 0x70001C + 0x20 * i
/-- R307. -/
abbrev TBL_CACHE_CTRL : Nat := 0x700800
/-- R307. -/
abbrev TBL_CACHE_HIT : Nat := 0x700804
/-- R307. -/
abbrev TBL_CACHE_MISS : Nat := 0x700808
/-- R307. -/
abbrev TBL_EVICT_CNT : Nat := 0x70080C
/-- R307. -/
abbrev TBL_INSFAIL_CNT : Nat := 0x700810
/-- R307. -/
abbrev TBL_AGED_CNT : Nat := 0x700814
/-- R307. -/
abbrev TBL_PAR_CNT : Nat := 0x700818
/-- R307. -/
abbrev TBL_LFSR : Nat := 0x70081C
/-- R307. -/
abbrev TBL_LOCKS : Nat := 0x700820
/-- R308. -/
abbrev TBL_PAR_LOG : Nat := 0x700830
/-- R309. -/
abbrev TDMA_BASE_LO (i : Nat) : Nat := 0x701000 + 0x20 * i
/-- R309. -/
abbrev TDMA_BASE_HI (i : Nat) : Nat := 0x701004 + 0x20 * i
/-- R309. -/
abbrev TDMA_CFG (i : Nat) : Nat := 0x701008 + 0x20 * i
/-- R309. -/
abbrev TDMA_PI (i : Nat) : Nat := 0x70100C + 0x20 * i
/-- R309. -/
abbrev TDMA_CI (i : Nat) : Nat := 0x701010 + 0x20 * i
/-- R320. -/
abbrev KN_POOL_BASE (i : Nat) : Nat := 0x800000 + 0x20 * i
/-- R320. -/
abbrev KN_POOL_SIZE (i : Nat) : Nat := 0x800004 + 0x20 * i
/-- R320. -/
abbrev KN_FREE_CNT (i : Nat) : Nat := 0x800008 + 0x20 * i
/-- R320. -/
abbrev KN_CURSOR (i : Nat) : Nat := 0x80000C + 0x20 * i
/-- R320. -/
abbrev KN_EMPTY_CNT (i : Nat) : Nat := 0x800010 + 0x20 * i
/-- R321. -/
abbrev KN_ERR_LOG : Nat := 0x800400
/-- R321. -/
abbrev KN_ERR_CNT : Nat := 0x800404
/-- R322. -/
abbrev KN_CELL (i : Nat) : Nat := 0x840000 + 0x4 * i
/-- R352. -/
abbrev PORT_QUAD (i : Nat) : Nat := 0x900000 + 0x4 * i
/-- R353. -/
abbrev PORT_CFG (i : Nat) : Nat := 0x901000 + 0x100 * i
/-- R353. -/
abbrev PORT_STAT (i : Nat) : Nat := 0x901004 + 0x100 * i
/-- R353. -/
abbrev PORT_POOL_LO (i : Nat) : Nat := 0x901008 + 0x100 * i
/-- R353. -/
abbrev PORT_POOL_HI (i : Nat) : Nat := 0x90100C + 0x100 * i
/-- R353. -/
abbrev PORT_PFC (i : Nat) : Nat := 0x901010 + 0x100 * i
/-- R353. -/
abbrev PORT_IFIFO (i j : Nat) : Nat := 0x901020 + 0x100 * i + 0x4 * j
/-- R353. -/
abbrev PORT_IDROP (i j : Nat) : Nat := 0x901040 + 0x100 * i + 0x4 * j
/-- R346. -/
abbrev MDIO_CFG (i : Nat) : Nat := 0x9E0000 + 0x100 * i
/-- R346. -/
abbrev MDIO_RUN (i : Nat) : Nat := 0x9E0004 + 0x100 * i
/-- R346. -/
abbrev MDIO_RES (i j : Nat) : Nat := 0x9E0040 + 0x100 * i + 0x4 * j
/-- R344. -/
abbrev MDIO_SCRIPT (i j : Nat) : Nat := 0x9E1000 + 0x1000 * i + 0x4 * j
/-- R343. -/
abbrev HP_H2D_BASE_LO (i : Nat) : Nat := 0x9F0000 + 0x40 * i
/-- R343. -/
abbrev HP_H2D_BASE_HI (i : Nat) : Nat := 0x9F0004 + 0x40 * i
/-- R343. -/
abbrev HP_H2D_CFG (i : Nat) : Nat := 0x9F0008 + 0x40 * i
/-- R343. -/
abbrev HP_H2D_PI (i : Nat) : Nat := 0x9F000C + 0x40 * i
/-- R343. -/
abbrev HP_H2D_CI (i : Nat) : Nat := 0x9F0010 + 0x40 * i
/-- R343. -/
abbrev HP_D2H_BASE_LO (i : Nat) : Nat := 0x9F0020 + 0x40 * i
/-- R343. -/
abbrev HP_D2H_BASE_HI (i : Nat) : Nat := 0x9F0024 + 0x40 * i
/-- R343. -/
abbrev HP_D2H_CFG (i : Nat) : Nat := 0x9F0028 + 0x40 * i
/-- R343. -/
abbrev HP_D2H_PI (i : Nat) : Nat := 0x9F002C + 0x40 * i
/-- R343. -/
abbrev HP_D2H_CI (i : Nat) : Nat := 0x9F0030 + 0x40 * i
/-- R354. -/
abbrev CAN_MODE (i : Nat) : Nat := 0xA00000 + 0x40 * i
/-- R354. -/
abbrev CAN_NBT (i : Nat) : Nat := 0xA00004 + 0x40 * i
/-- R354. -/
abbrev CAN_DBT (i : Nat) : Nat := 0xA00008 + 0x40 * i
/-- R354. -/
abbrev CAN_XBT (i : Nat) : Nat := 0xA0000C + 0x40 * i
/-- R354. -/
abbrev CAN_TDC (i : Nat) : Nat := 0xA00010 + 0x40 * i
/-- R354. -/
abbrev CAN_STAT (i : Nat) : Nat := 0xA00020 + 0x40 * i
/-- R354. -/
abbrev CAN_TX_DROP (i : Nat) : Nat := 0xA00024 + 0x40 * i
/-- R354. -/
abbrev CAN_TX_BAD (i : Nat) : Nat := 0xA00028 + 0x40 * i
/-- R354. -/
abbrev CAN_RX_ERR (i : Nat) : Nat := 0xA0002C + 0x40 * i
/-- R355. -/
abbrev CLS_PCTL (i j : Nat) : Nat := 0xB00000 + 0x400 * i + 0x40 * j
/-- R355. -/
abbrev CLS_PACT (i j : Nat) : Nat := 0xB00004 + 0x400 * i + 0x40 * j
/-- R355. -/
abbrev CLS_PSEED (i j : Nat) : Nat := 0xB00008 + 0x400 * i + 0x40 * j
/-- R355. -/
abbrev CLS_PFLD (i j k : Nat) : Nat := 0xB00010 + 0x400 * i + 0x40 * j + 0x4 * k
/-- R356. -/
abbrev CLS_SFILT (i : Nat) : Nat := 0xB01000 + 0x4 * i
/-- R380. -/
abbrev MTR_CIR (i : Nat) : Nat := 0xB08000 + 0x20 * i
/-- R380. -/
abbrev MTR_PIR (i : Nat) : Nat := 0xB08004 + 0x20 * i
/-- R380. -/
abbrev MTR_CBS (i : Nat) : Nat := 0xB08008 + 0x20 * i
/-- R380. -/
abbrev MTR_PBS (i : Nat) : Nat := 0xB0800C + 0x20 * i
/-- R380. -/
abbrev MTR_PMODE (i : Nat) : Nat := 0xB08010 + 0x20 * i
/-- R381. -/
abbrev MTR_RD_SEL : Nat := 0xB0A000
/-- R381. -/
abbrev MTR_RD_TC : Nat := 0xB0A004
/-- R381. -/
abbrev MTR_RD_TP : Nat := 0xB0A008
/-- R381. -/
abbrev MTR_RD_GREEN : Nat := 0xB0A00C
/-- R381. -/
abbrev MTR_RD_YELLOW : Nat := 0xB0A010
/-- R381. -/
abbrev MTR_RD_RED : Nat := 0xB0A014
/-- R379. -/
abbrev MTR_CFG (i : Nat) : Nat := 0xB40000 + 0x4 * i
/-- R382. -/
abbrev EQ_OVERHEAD (i : Nat) : Nat := 0xC00000 + 0x200 * i
/-- R382. -/
abbrev EQ_GCL_CTRL (i : Nat) : Nat := 0xC00004 + 0x200 * i
/-- R382. -/
abbrev EQ_GCL_CYCLE (i : Nat) : Nat := 0xC00008 + 0x200 * i
/-- R382. -/
abbrev EQ_GCL_BASE_NS (i : Nat) : Nat := 0xC0000C + 0x200 * i
/-- R382. -/
abbrev EQ_GCL_BASE_SEC_LO (i : Nat) : Nat := 0xC00010 + 0x200 * i
/-- R382. -/
abbrev EQ_GCL_BASE_SEC_HI (i : Nat) : Nat := 0xC00014 + 0x200 * i
/-- R382. -/
abbrev EQ_GCL_OPER (i : Nat) : Nat := 0xC00018 + 0x200 * i
/-- R383. -/
abbrev EQ_CLASS (i j : Nat) : Nat := 0xC00040 + 0x200 * i + 0x10 * j
/-- R383. -/
abbrev EQ_QUANTUM (i j : Nat) : Nat := 0xC00044 + 0x200 * i + 0x10 * j
/-- R383. -/
abbrev EQ_CBS (i j : Nat) : Nat := 0xC00048 + 0x200 * i + 0x10 * j
/-- R383. -/
abbrev EQ_BURST (i j : Nat) : Nat := 0xC0004C + 0x200 * i + 0x10 * j
/-- R383. -/
abbrev EQ_QSTAT (i j : Nat) : Nat := 0xC00100 + 0x200 * i + 0x10 * j
/-- R383. -/
abbrev EQ_CREDIT (i j : Nat) : Nat := 0xC00104 + 0x200 * i + 0x10 * j
/-- R383. -/
abbrev EQ_DROP (i j : Nat) : Nat := 0xC00108 + 0x200 * i + 0x10 * j
/-- R384. -/
abbrev EQ_GATE_DROP (i j : Nat) : Nat := 0xC00180 + 0x200 * i + 0x4 * j
/-- R384. -/
abbrev EQ_STORE : Nat := 0xC70000
/-- R385. -/
abbrev EQ_GCL_GATES (i j : Nat) : Nat := 0xC80000 + 0x2000 * i + 0x8 * j
/-- R385. -/
abbrev EQ_GCL_INTERVAL (i j : Nat) : Nat := 0xC80004 + 0x2000 * i + 0x8 * j
/-- R412. -/
abbrev TB_STAT : Nat := 0xD00000
/-- R412. -/
abbrev TB_SNAP : Nat := 0xD00004
/-- R412. -/
abbrev TB_FR_LO : Nat := 0xD00008
/-- R412. -/
abbrev TB_FR_HI : Nat := 0xD0000C
/-- R412. -/
abbrev TB_SNAP_FR_LO : Nat := 0xD00010
/-- R412. -/
abbrev TB_SNAP_FR_HI : Nat := 0xD00014
/-- R412. -/
abbrev TB_PPS_CFG : Nat := 0xD00020
/-- R412. -/
abbrev TB_PPS_FR_LO : Nat := 0xD00024
/-- R412. -/
abbrev TB_PPS_FR_HI : Nat := 0xD00028
/-- R413. -/
abbrev TB_DOM_CFG (i : Nat) : Nat := 0xD00100 + 0x40 * i
/-- R413. -/
abbrev TB_ADJ_FREQ (i : Nat) : Nat := 0xD00104 + 0x40 * i
/-- R413. -/
abbrev TB_ADJ_SEC (i : Nat) : Nat := 0xD00108 + 0x40 * i
/-- R413. -/
abbrev TB_ADJ_NS (i : Nat) : Nat := 0xD0010C + 0x40 * i
/-- R413. -/
abbrev TB_ADJ_CTRL (i : Nat) : Nat := 0xD00110 + 0x40 * i
/-- R413. -/
abbrev TB_SNAP_NS (i : Nat) : Nat := 0xD00114 + 0x40 * i
/-- R413. -/
abbrev TB_SNAP_SEC_LO (i : Nat) : Nat := 0xD00118 + 0x40 * i
/-- R413. -/
abbrev TB_SNAP_SEC_HI (i : Nat) : Nat := 0xD0011C + 0x40 * i
/-- R413. -/
abbrev TB_PPS_NS (i : Nat) : Nat := 0xD00120 + 0x40 * i
/-- R413. -/
abbrev TB_PPS_SEC_LO (i : Nat) : Nat := 0xD00124 + 0x40 * i
/-- R413. -/
abbrev TB_PPS_SEC_HI (i : Nat) : Nat := 0xD00128 + 0x40 * i
/-- R414. -/
abbrev TS_CAL_RX (i : Nat) : Nat := 0xD01000 + 0x40 * i
/-- R414. -/
abbrev TS_CAL_TX (i : Nat) : Nat := 0xD01004 + 0x40 * i
/-- R414. -/
abbrev TS_GBX (i : Nat) : Nat := 0xD01008 + 0x40 * i
/-- R414. -/
abbrev TXTS_HDR (i : Nat) : Nat := 0xD01010 + 0x40 * i
/-- R414. -/
abbrev TXTS_NS (i : Nat) : Nat := 0xD01014 + 0x40 * i
/-- R414. -/
abbrev TXTS_SEC_LO (i : Nat) : Nat := 0xD01018 + 0x40 * i
/-- R414. -/
abbrev TXTS_SEC_HI (i : Nat) : Nat := 0xD0101C + 0x40 * i
/-- R414. -/
abbrev TXTS_STAT (i : Nat) : Nat := 0xD01020 + 0x40 * i
/-- R435. -/
abbrev DDR_MAP : Nat := 0xE00000
/-- R440. -/
abbrev DDR_ERR_POP : Nat := 0xE00100
/-- R440. -/
abbrev DDR_ERR_ADDR : Nat := 0xE00104
/-- R440. -/
abbrev DDR_ERR_INFO : Nat := 0xE00108
/-- R440. -/
abbrev DDR_ERR_TS : Nat := 0xE0010C
/-- R440. -/
abbrev DDR_ERR_STAT : Nat := 0xE00110
/-- R436. -/
abbrev DDR_CTRL (i : Nat) : Nat := 0xE10000 + 0x10000 * i
/-- R437. -/
abbrev DDR_BANK_XOR0 (i : Nat) : Nat := 0xE10010 + 0x10000 * i
/-- R437. -/
abbrev DDR_BANK_XOR1 (i : Nat) : Nat := 0xE10014 + 0x10000 * i
/-- R437. -/
abbrev DDR_BANK_XOR2 (i : Nat) : Nat := 0xE10018 + 0x10000 * i
/-- R437. -/
abbrev DDR_BANK_XOR3 (i : Nat) : Nat := 0xE1001C + 0x10000 * i
/-- R438. -/
abbrev DDR_CE_CNT (i : Nat) : Nat := 0xE10020 + 0x10000 * i
/-- R438. -/
abbrev DDR_UE_CNT (i : Nat) : Nat := 0xE10024 + 0x10000 * i
/-- R438. -/
abbrev DDR_INORD_CNT (i : Nat) : Nat := 0xE10028 + 0x10000 * i
/-- R438. -/
abbrev DDR_UNSRV_CNT (i : Nat) : Nat := 0xE1002C + 0x10000 * i
/-- R439. -/
abbrev DDR_REG_CFG (i j : Nat) : Nat := 0xE10040 + 0x10000 * i + 0x8 * j
/-- R439. -/
abbrev DDR_REG_BURST (i j : Nat) : Nat := 0xE10044 + 0x10000 * i + 0x8 * j
/-- R459. -/
abbrev FAB_CFG : Nat := 0xF00000
/-- R459. -/
abbrev FAB_STAT : Nat := 0xF00004
/-- R459. -/
abbrev FAB_UID_LO : Nat := 0xF00008
/-- R459. -/
abbrev FAB_UID_HI : Nat := 0xF0000C
/-- R459. -/
abbrev FAB_ROUTE (i : Nat) : Nat := 0xF00100 + 0x4 * i
/-- R459. -/
abbrev FAB_PEER_UID_LO (i : Nat) : Nat := 0xF00200 + 0x8 * i
/-- R459. -/
abbrev FAB_PEER_UID_HI (i : Nat) : Nat := 0xF00204 + 0x8 * i
/-- R459. -/
abbrev FAB_NOROUTE : Nat := 0xF00300
/-- R459. -/
abbrev FAB_TTL_DROP : Nat := 0xF00304
/-- R459. -/
abbrev FAB_REROUTES : Nat := 0xF00308
/-- R460. -/
abbrev FAB_LNK_STAT (i : Nat) : Nat := 0xF01000 + 0x40 * i
/-- R460. -/
abbrev FAB_LNK_CAL_RX (i : Nat) : Nat := 0xF01004 + 0x40 * i
/-- R460. -/
abbrev FAB_LNK_CAL_TX (i : Nat) : Nat := 0xF01008 + 0x40 * i
/-- R460. -/
abbrev FAB_LNK_DELAY (i : Nat) : Nat := 0xF0100C + 0x40 * i
/-- R460. -/
abbrev FAB_LNK_OFS (i : Nat) : Nat := 0xF01010 + 0x40 * i
/-- R460. -/
abbrev FAB_LNK_ERR (i : Nat) : Nat := 0xF01014 + 0x40 * i
/-- R460. -/
abbrev FAB_LNK_DOWNS (i : Nat) : Nat := 0xF01018 + 0x40 * i
/-- R117. -/
abbrev PACK_CFG (i : Nat) : Nat := 0x1050000 + 0x80000 * i
/-- R118. -/
abbrev PACK_STACK (i : Nat) : Nat := 0x1050004 + 0x80000 * i
/-- R145. -/
abbrev PACK_TRAP (i : Nat) : Nat := 0x1050008 + 0x80000 * i
/-- R121. -/
abbrev PACK_RST (i : Nat) : Nat := 0x105000C + 0x80000 * i
/-- R160. -/
abbrev WHEEL_MAP0 (i : Nat) : Nat := 0x1050010 + 0x80000 * i
/-- R160. -/
abbrev WHEEL_MAP1 (i : Nat) : Nat := 0x1050014 + 0x80000 * i
/-- R119. -/
abbrev PACK_ENTRY (i j : Nat) : Nat := 0x1050100 + 0x80000 * i + 0x4 * j
/-- R196. -/
abbrev HLP_TPEAK0 (i : Nat) : Nat := 0x1050200 + 0x80000 * i
/-- R196. -/
abbrev HLP_TPEAK1 (i : Nat) : Nat := 0x1050204 + 0x80000 * i
/-- R170. -/
abbrev ENG_CTX (i j : Nat) : Nat := 0x1060000 + 0x80000 * i + 0x1000 * j
/-- R171. -/
abbrev ENG_DL_CFG (i j : Nat) : Nat := 0x1060010 + 0x80000 * i + 0x1000 * j
/-- R172. -/
abbrev ENG_DL_STATUS (i j : Nat) : Nat := 0x1060014 + 0x80000 * i + 0x1000 * j
/-- R173. -/
abbrev ENG_WAKE (i j : Nat) : Nat := 0x1060018 + 0x80000 * i + 0x1000 * j
/-- R174. -/
abbrev ENG_RST (i j : Nat) : Nat := 0x106001C + 0x80000 * i + 0x1000 * j
/-- R255. -/
abbrev ENG_TURN_T_LO (i j : Nat) : Nat := 0x1060020 + 0x80000 * i + 0x1000 * j
/-- R255. -/
abbrev ENG_TURN_T_HI (i j : Nat) : Nat := 0x1060024 + 0x80000 * i + 0x1000 * j
/-- R255. -/
abbrev ENG_TURN_E_LO (i j : Nat) : Nat := 0x1060028 + 0x80000 * i + 0x1000 * j
/-- R255. -/
abbrev ENG_TURN_E_HI (i j : Nat) : Nat := 0x106002C + 0x80000 * i + 0x1000 * j
/-- R255. -/
abbrev ENG_TURN_B_LO (i j : Nat) : Nat := 0x1060030 + 0x80000 * i + 0x1000 * j
/-- R255. -/
abbrev ENG_TURN_B_HI (i j : Nat) : Nat := 0x1060034 + 0x80000 * i + 0x1000 * j
/-- R255. -/
abbrev ENG_STARTS (i j : Nat) : Nat := 0x1060038 + 0x80000 * i + 0x1000 * j
/-- R31. -/
abbrev PK_ISTORE (i j : Nat) : Nat := 0x1000000 + 0x80000 * i + 0x4 * j
/-- R31. -/
abbrev PK_PSM (i j : Nat) : Nat := 0x1010000 + 0x80000 * i + 0x4 * j
/-- R551. -/
abbrev MET_STAT : Nat := 0x2000000
/-- R551. -/
abbrev MET_AUDIT : Nat := 0x2000004
/-- R551. -/
abbrev MET_HEAD : Nat := 0x2000008
/-- R551. -/
abbrev MET_FW_ID : Nat := 0x200000C
/-- R551. -/
abbrev MET_FW_DIGEST (i : Nat) : Nat := 0x2000020 + 0x4 * i
/-- R551. -/
abbrev MET_PARAM_DIGEST (i : Nat) : Nat := 0x2000040 + 0x4 * i
/-- R551. -/
abbrev MET_PUBKEY (i : Nat) : Nat := 0x2000080 + 0x4 * i
/-- R551. -/
abbrev MET_LOG (i : Nat) : Nat := 0x2010000 + 0x4 * i
/-- R539. -/
abbrev DBG_SESSION : Nat := 0x2100000
/-- R539. -/
abbrev DBG_CFG : Nat := 0x2100004
/-- R539. -/
abbrev DBG_SEL : Nat := 0x2100010
/-- R539. -/
abbrev DBG_CMD : Nat := 0x2100014
/-- R539. -/
abbrev DBG_STAT : Nat := 0x2100018
/-- R539. -/
abbrev DBG_REG (i : Nat) : Nat := 0x2100100 + 0x4 * i
/-- R539. -/
abbrev DBG_LMEM (i : Nat) : Nat := 0x2110000 + 0x4 * i
/-- R539. -/
abbrev DBG_SCRATCH (i : Nat) : Nat := 0x2118000 + 0x4 * i
/-- R539. -/
abbrev DBG_JOB (i : Nat) : Nat := 0x2118100 + 0x4 * i

end Reg

/-- Rows of the register map, part 1. -/
def regTable1 : List RegDesc :=
  [ ⟨.SYS_CENSUS0, 0x10, [], .always, 0x0,
      [⟨0, 6, .ro⟩, ⟨8, 4, .ro⟩, ⟨12, 2, .ro⟩, ⟨16, 5, .ro⟩, ⟨24, 3, .ro⟩]⟩,
    ⟨.SYS_CENSUS1, 0x14, [], .always, 0x10,
      [⟨0, 1, .ro⟩, ⟨1, 1, .ro⟩, ⟨2, 1, .ro⟩, ⟨3, 1, .ro⟩, ⟨4, 1, .ro⟩, ⟨8, 4, .ro⟩, ⟨16, 16, .ro⟩]⟩,
    ⟨.SYS_OWN, 0x20, [], .always, 0x1,
      [⟨0, 1, .rw⟩]⟩,
    ⟨.SYS_HOST_ACC, 0x24, [], .always, 0x0,
      [⟨0, 26, .ro⟩, ⟨26, 3, .ro⟩, ⟨29, 1, .ro⟩, ⟨30, 1, .w1c⟩, ⟨31, 1, .w1c⟩]⟩,
    ⟨.SYS_EPOCH, 0x30, [], .always, 0x4,
      [⟨0, 1, .ro⟩, ⟨1, 1, .ro⟩, ⟨2, 1, .ro⟩]⟩,
    ⟨.SYS_BOOT_STATUS, 0x40, [], .always, 0x700,
      [⟨0, 8, .ro⟩, ⟨8, 3, .ro⟩, ⟨12, 2, .ro⟩, ⟨14, 1, .ro⟩, ⟨16, 16, .ro⟩]⟩,
    ⟨.SYS_BOOT_TRIES, 0x44, [], .always, 0x300,
      [⟨0, 4, .ro⟩, ⟨8, 4, .rw⟩]⟩,
    ⟨.SYS_BOOT_CTRL, 0x48, [], .always, 0x0,
      [⟨0, 1, .w1s⟩, ⟨8, 8, .wo⟩]⟩,
    ⟨.SYS_WDOG, 0x4C, [], .always, 0x0,
      [⟨0, 16, .rw⟩, ⟨16, 1, .w1s⟩]⟩,
    ⟨.SYS_SURVEY, 0x50, [], .always, 0x0,
      [⟨0, 1, .ro⟩, ⟨1, 1, .ro⟩, ⟨8, 8, .ro⟩, ⟨16, 8, .ro⟩]⟩,
    ⟨.SYS_GPIO_OUT, 0x60, [], .always, 0x0,
      [⟨0, 16, .rw⟩]⟩,
    ⟨.SYS_GPIO_OE, 0x64, [], .always, 0x0,
      [⟨0, 16, .rw⟩]⟩,
    ⟨.SYS_GPIO_IN, 0x68, [], .always, 0x0,
      [⟨0, 16, .ro⟩]⟩,
    ⟨.WH_H2K_DATA, 0x100000, [(4, 0x100), (16, 0x4)], .always, 0x0,
      [⟨0, 32, .rw⟩]⟩,
    ⟨.WH_H2K_CTRL, 0x100040, [(4, 0x100)], .always, 0x0,
      [⟨0, 1, .w1s⟩, ⟨1, 1, .ro⟩, ⟨2, 1, .w1s⟩, ⟨3, 1, .w1c⟩]⟩,
    ⟨.WH_K2H_DATA, 0x100080, [(4, 0x100), (16, 0x4)], .always, 0x0,
      [⟨0, 32, .rw⟩]⟩,
    ⟨.WH_K2H_CTRL, 0x1000C0, [(4, 0x100)], .always, 0x0,
      [⟨0, 1, .w1s⟩, ⟨1, 1, .ro⟩, ⟨2, 1, .w1s⟩, ⟨3, 1, .w1c⟩]⟩,
    ⟨.WH_CFG, 0x100800, [], .always, 0x3E8,
      [⟨0, 20, .rw⟩]⟩,
    ⟨.WH_IB_MAC_LO, 0x100804, [], .always, 0x0,
      [⟨0, 32, .rw⟩]⟩,
    ⟨.WH_IB_MAC_HI, 0x100808, [], .always, 0x0,
      [⟨0, 16, .rw⟩]⟩,
    ⟨.WH_IB_BAD, 0x10080C, [], .always, 0x0,
      [⟨0, 32, .rc⟩]⟩,
    ⟨.WH_IB_REPLAY, 0x100810, [], .always, 0x0,
      [⟨0, 32, .rc⟩]⟩,
    ⟨.EV_STATUS, 0x200000, [(32, 0x4)], .always, 0x0,
      [⟨0, 32, .w1c⟩]⟩,
    ⟨.EV_ENABLE, 0x200080, [(32, 0x4)], .always, 0x0,
      [⟨0, 32, .rw⟩]⟩,
    ⟨.EV_SW_RAISE, 0x200100, [], .always, 0x0,
      [⟨0, 5, .wo⟩]⟩,
    ⟨.EV_VEC_PEND_LO, 0x200104, [], .always, 0x0,
      [⟨0, 32, .ro⟩]⟩,
    ⟨.EV_VEC_PEND_HI, 0x200108, [], .always, 0x0,
      [⟨0, 32, .ro⟩]⟩,
    ⟨.EV_ROUTE, 0x201000, [(1024, 0x4)], .always, 0x0,
      [⟨0, 6, .rw⟩, ⟨8, 1, .rw⟩, ⟨9, 1, .rw⟩, ⟨10, 1, .rw⟩]⟩,
    ⟨.ERR_POP, 0x200200, [], .always, 0x0,
      [⟨0, 5, .rc⟩, ⟨31, 1, .rc⟩]⟩,
    ⟨.ERR_ADDR, 0x200204, [], .always, 0x0,
      [⟨0, 32, .ro⟩]⟩ ]

/-- Rows of the register map, part 2. -/
def regTable2 : List RegDesc :=
  [ ⟨.ERR_INFO, 0x200208, [], .always, 0x0,
      [⟨0, 4, .ro⟩, ⟨4, 2, .ro⟩, ⟨8, 9, .ro⟩]⟩,
    ⟨.ERR_TS, 0x20020C, [], .always, 0x0,
      [⟨0, 32, .ro⟩]⟩,
    ⟨.ERR_STAT, 0x200210, [], .always, 0x0,
      [⟨0, 5, .ro⟩, ⟨8, 1, .ro⟩, ⟨16, 16, .rc⟩]⟩,
    ⟨.ERR_CE_CNT, 0x200214, [], .always, 0x0,
      [⟨0, 32, .rc⟩]⟩,
    ⟨.ERR_UE_CNT, 0x200218, [], .always, 0x0,
      [⟨0, 32, .rc⟩]⟩,
    ⟨.PACE_CTRL, 0x300000, [], .always, 0x35200,
      [⟨0, 1, .rw⟩, ⟨1, 1, .rw⟩, ⟨2, 1, .rw⟩, ⟨8, 10, .rw⟩]⟩,
    ⟨.PACE_STATUS, 0x300004, [], .always, 0x1000,
      [⟨0, 1, .ro⟩, ⟨1, 1, .ro⟩, ⟨2, 1, .ro⟩, ⟨3, 1, .ro⟩, ⟨4, 1, .ro⟩, ⟨5, 1, .ro⟩, ⟨8, 1, .w1c⟩, ⟨12, 4, .ro⟩, ⟨16, 4, .ro⟩]⟩,
    ⟨.PACE_TURN_CEIL, 0x300008, [], .always, 0x320,
      [⟨0, 12, .rw⟩]⟩,
    ⟨.PACE_TURN_OBS, 0x30000C, [], .always, 0x0,
      [⟨0, 12, .ro⟩, ⟨16, 5, .ro⟩]⟩,
    ⟨.PACE_PRED, 0x300010, [], .always, 0x0,
      [⟨0, 12, .ro⟩, ⟨16, 5, .ro⟩]⟩,
    ⟨.PACE_VDD, 0x300014, [], .always, 0x352,
      [⟨0, 10, .ro⟩, ⟨16, 10, .ro⟩]⟩,
    ⟨.PACE_LIMITS, 0x300018, [], .always, 0x384028A,
      [⟨0, 10, .rw⟩, ⟨16, 10, .rw⟩]⟩,
    ⟨.PACE_SLEW, 0x30001C, [], .always, 0x814,
      [⟨0, 3, .rw⟩, ⟨4, 3, .rw⟩, ⟨8, 6, .rw⟩]⟩,
    ⟨.PACE_CFG, 0x300020, [], .always, 0x1E281040,
      [⟨0, 8, .rw⟩, ⟨8, 8, .rw⟩, ⟨16, 8, .rw⟩, ⟨24, 8, .rw⟩]⟩,
    ⟨.PACE_CFG2, 0x300024, [], .always, 0x20064,
      [⟨0, 4, .rw⟩, ⟨4, 4, .rw⟩, ⟨8, 12, .rw⟩]⟩,
    ⟨.PACE_THROT, 0x300028, [], .always, 0xC73,
      [⟨0, 8, .rw⟩, ⟨8, 4, .rw⟩]⟩,
    ⟨.PACE_WIN_CNT, 0x30002C, [], .always, 0x0,
      [⟨0, 32, .ro⟩]⟩,
    ⟨.PACE_HOLD_DROPS, 0x300030, [], .always, 0x0,
      [⟨0, 32, .rc⟩]⟩,
    ⟨.PACE_LAST_DROP_LO, 0x300034, [], .always, 0x0,
      [⟨0, 32, .ro⟩]⟩,
    ⟨.PACE_LAST_DROP_HI, 0x300038, [], .always, 0x0,
      [⟨0, 32, .ro⟩]⟩,
    ⟨.PACE_FUSE_RATIO, 0x30003C, [], .always, 0x0,
      [⟨0, 16, .ro⟩]⟩,
    ⟨.PACE_AVS, 0x300040, [], .always, 0x400,
      [⟨0, 4, .rw⟩, ⟨8, 4, .rw⟩, ⟨16, 8, .rc⟩]⟩,
    ⟨.PACE_PK_RATIO, 0x301000, [(32, 0x20)], .pack, 0x0,
      [⟨0, 16, .ro⟩]⟩,
    ⟨.PACE_PK_CANARY, 0x301004, [(32, 0x20)], .pack, 0x0,
      [⟨0, 12, .ro⟩, ⟨16, 2, .ro⟩]⟩,
    ⟨.PACE_PK_LIVE, 0x301008, [(32, 0x20)], .pack, 0x0,
      [⟨0, 12, .ro⟩, ⟨16, 16, .ro⟩]⟩,
    ⟨.PACE_PK_CAL, 0x30100C, [(32, 0x20)], .pack, 0x0,
      [⟨0, 7, .ro⟩, ⟨8, 7, .ro⟩, ⟨16, 1, .ro⟩]⟩,
    ⟨.LEASH_LOCK, 0x400000, [(4096, 0x4)], .always, 0x0,
      [⟨0, 32, .raq⟩]⟩,
    ⟨.LEASH_GRP_ACC_LO, 0x404000, [(64, 0x10)], .always, 0xFFFFFFFF,
      [⟨0, 32, .rw⟩]⟩,
    ⟨.LEASH_GRP_ACC_HI, 0x404004, [(64, 0x10)], .always, 0x11,
      [⟨0, 8, .rw⟩]⟩,
    ⟨.LEASH_GRP_TMO, 0x404008, [(64, 0x10)], .always, 0x400,
      [⟨0, 20, .rw⟩]⟩ ]

/-- Rows of the register map, part 3. -/
def regTable3 : List RegDesc :=
  [ ⟨.LEASH_PEEK, 0x408000, [(4096, 0x4)], .always, 0x0,
      [⟨0, 16, .ro⟩, ⟨16, 1, .ro⟩, ⟨17, 1, .ro⟩, ⟨19, 13, .ro⟩]⟩,
    ⟨.LEASH_DENY_LOG, 0x40C000, [], .always, 0x0,
      [⟨0, 12, .ro⟩, ⟨12, 1, .ro⟩, ⟨14, 1, .w1c⟩, ⟨15, 1, .w1c⟩, ⟨16, 16, .ro⟩]⟩,
    ⟨.LEASH_BROKEN_CNT, 0x40C004, [], .always, 0x0,
      [⟨0, 32, .rc⟩]⟩,
    ⟨.LEASH_TMO_CNT, 0x40C008, [], .always, 0x0,
      [⟨0, 32, .rc⟩]⟩,
    ⟨.LEASH_DENY_CNT, 0x40C00C, [], .always, 0x0,
      [⟨0, 32, .rc⟩]⟩,
    ⟨.LEASH_MW_STAT, 0x40D000, [(33, 0x4)], .packOr32, 0x0,
      [⟨0, 5, .rc⟩, ⟨16, 16, .rc⟩]⟩,
    ⟨.DSP_CLASS_MAP0, 0x500000, [], .always, 0x76543210,
      [⟨0, 32, .rw⟩]⟩,
    ⟨.DSP_CLASS_MAP1, 0x500004, [], .always, 0x76543210,
      [⟨0, 32, .rw⟩]⟩,
    ⟨.DSP_AFF, 0x500008, [], .always, 0x100C8,
      [⟨0, 12, .rw⟩, ⟨16, 1, .rw⟩]⟩,
    ⟨.DSP_FS_TMO, 0x50000C, [], .always, 0x7D0,
      [⟨0, 16, .rw⟩]⟩,
    ⟨.DSP_DTICK, 0x500010, [], .always, 0x3E8,
      [⟨0, 20, .rw⟩]⟩,
    ⟨.DSP_QCFG, 0x500100, [(8, 0x8)], .always, 0x4000600,
      [⟨0, 15, .rw⟩, ⟨16, 15, .rw⟩]⟩,
    ⟨.DSP_QLIM, 0x500104, [(8, 0x8)], .always, 0x800,
      [⟨0, 15, .rw⟩]⟩,
    ⟨.DSP_QSTAT, 0x500200, [(32, 0x4)], .shard, 0x0,
      [⟨0, 15, .ro⟩, ⟨16, 15, .rc⟩, ⟨31, 1, .ro⟩]⟩,
    ⟨.DSP_POOL, 0x500300, [], .always, 0x40004000,
      [⟨0, 15, .ro⟩, ⟨16, 15, .ro⟩]⟩,
    ⟨.DSP_STEALS, 0x500304, [], .always, 0x0,
      [⟨0, 32, .rc⟩]⟩,
    ⟨.DSP_RECALLS, 0x500308, [], .always, 0x0,
      [⟨0, 32, .rc⟩]⟩,
    ⟨.DSP_DLY_FULL, 0x50030C, [], .always, 0x0,
      [⟨0, 32, .rc⟩]⟩,
    ⟨.DSP_HIST, 0x501000, [(32, 0x40), (16, 0x4)], .shard, 0x0,
      [⟨0, 32, .rc⟩]⟩,
    ⟨.DSP_SCENT_CTRL, 0x502000, [], .scent, 0xA00,
      [⟨0, 1, .rw⟩, ⟨1, 1, .rw⟩, ⟨8, 5, .rw⟩]⟩,
    ⟨.DSP_SCENT_BASE_LO, 0x502004, [], .scent, 0x0,
      [⟨6, 26, .rw⟩]⟩,
    ⟨.DSP_SCENT_BASE_HI, 0x502008, [], .scent, 0x0,
      [⟨0, 8, .rw⟩]⟩,
    ⟨.DSP_SCENT_WR, 0x50200C, [], .scent, 0x0,
      [⟨0, 32, .ro⟩]⟩,
    ⟨.DSP_SCENT_RD, 0x502010, [], .scent, 0x0,
      [⟨0, 32, .rw⟩]⟩,
    ⟨.DSP_SCENT_LOST, 0x502014, [], .scent, 0x0,
      [⟨0, 32, .rc⟩]⟩,
    ⟨.HERD_TMO, 0x600000, [], .always, 0x3E8,
      [⟨0, 20, .rw⟩]⟩,
    ⟨.HERD_EPOCH_CNT, 0x600008, [(2, 0x4)], .always, 0x0,
      [⟨0, 18, .ro⟩]⟩,
    ⟨.HERD_HOLE_LOG0, 0x600010, [], .always, 0x0,
      [⟨0, 16, .ro⟩, ⟨16, 1, .ro⟩, ⟨17, 1, .ro⟩, ⟨30, 1, .w1c⟩, ⟨31, 1, .w1c⟩]⟩,
    ⟨.HERD_HOLE_LOG1, 0x600014, [], .always, 0x0,
      [⟨0, 16, .ro⟩]⟩,
    ⟨.HERD_HOLES, 0x600020, [], .always, 0x0,
      [⟨0, 32, .rc⟩]⟩ ]

/-- Rows of the register map, part 4. -/
def regTable4 : List RegDesc :=
  [ ⟨.HERD_RELEASES, 0x600024, [], .always, 0x0,
      [⟨0, 32, .rc⟩]⟩,
    ⟨.HERD_WIN_STALL, 0x600028, [], .always, 0x0,
      [⟨0, 32, .rc⟩]⟩,
    ⟨.HERD_STORE_FULL, 0x60002C, [], .always, 0x0,
      [⟨0, 32, .rc⟩]⟩,
    ⟨.HERD_STORE, 0x600030, [], .always, 0x8000,
      [⟨0, 16, .ro⟩, ⟨16, 16, .rc⟩]⟩,
    ⟨.HERD_OD_SEL, 0x600040, [], .always, 0x0,
      [⟨0, 16, .rw⟩]⟩,
    ⟨.HERD_OD_STAT, 0x600044, [], .always, 0x0,
      [⟨0, 16, .ro⟩, ⟨16, 16, .ro⟩]⟩,
    ⟨.TBL_GEOM, 0x700000, [(64, 0x20)], .always, 0x0,
      [⟨0, 1, .rw⟩, ⟨1, 1, .rw⟩, ⟨8, 5, .rw⟩, ⟨16, 7, .rw⟩, ⟨24, 7, .rw⟩]⟩,
    ⟨.TBL_BASE_LO, 0x700004, [(64, 0x20)], .always, 0x0,
      [⟨6, 26, .rw⟩]⟩,
    ⟨.TBL_BASE_HI, 0x700008, [(64, 0x20)], .always, 0x0,
      [⟨0, 8, .rw⟩]⟩,
    ⟨.TBL_SEED_LO, 0x70000C, [(64, 0x20)], .always, 0x0,
      [⟨0, 32, .rw⟩]⟩,
    ⟨.TBL_SEED_HI, 0x700010, [(64, 0x20)], .always, 0x0,
      [⟨0, 32, .rw⟩]⟩,
    ⟨.TBL_POLICY, 0x700014, [(64, 0x20)], .always, 0x420,
      [⟨0, 9, .rw⟩, ⟨10, 2, .rw⟩, ⟨12, 1, .rw⟩, ⟨16, 8, .rw⟩]⟩,
    ⟨.TBL_CTRL, 0x700018, [(64, 0x20)], .always, 0x0,
      [⟨0, 2, .rw⟩, ⟨2, 1, .w1s⟩, ⟨3, 1, .ro⟩, ⟨4, 1, .ro⟩, ⟨16, 16, .rw⟩]⟩,
    ⟨.TBL_STAT, 0x70001C, [(64, 0x20)], .always, 0x0,
      [⟨0, 25, .ro⟩]⟩,
    ⟨.TBL_CACHE_CTRL, 0x700800, [], .always, 0x0,
      [⟨0, 1, .w1s⟩]⟩,
    ⟨.TBL_CACHE_HIT, 0x700804, [], .always, 0x0,
      [⟨0, 32, .rc⟩]⟩,
    ⟨.TBL_CACHE_MISS, 0x700808, [], .always, 0x0,
      [⟨0, 32, .rc⟩]⟩,
    ⟨.TBL_EVICT_CNT, 0x70080C, [], .always, 0x0,
      [⟨0, 32, .rc⟩]⟩,
    ⟨.TBL_INSFAIL_CNT, 0x700810, [], .always, 0x0,
      [⟨0, 32, .rc⟩]⟩,
    ⟨.TBL_AGED_CNT, 0x700814, [], .always, 0x0,
      [⟨0, 32, .rc⟩]⟩,
    ⟨.TBL_PAR_CNT, 0x700818, [], .always, 0x0,
      [⟨0, 32, .rc⟩]⟩,
    ⟨.TBL_LFSR, 0x70081C, [], .always, 0xACE1,
      [⟨0, 16, .rw⟩]⟩,
    ⟨.TBL_LOCKS, 0x700820, [], .always, 0x0,
      [⟨0, 9, .ro⟩]⟩,
    ⟨.TBL_PAR_LOG, 0x700830, [], .always, 0x0,
      [⟨0, 22, .ro⟩, ⟨22, 2, .ro⟩, ⟨24, 6, .ro⟩, ⟨30, 1, .w1c⟩, ⟨31, 1, .w1c⟩]⟩,
    ⟨.TDMA_BASE_LO, 0x701000, [(4, 0x20)], .always, 0x0,
      [⟨5, 27, .rw⟩]⟩,
    ⟨.TDMA_BASE_HI, 0x701004, [(4, 0x20)], .always, 0x0,
      [⟨0, 32, .rw⟩]⟩,
    ⟨.TDMA_CFG, 0x701008, [(4, 0x20)], .always, 0x400,
      [⟨0, 1, .rw⟩, ⟨1, 1, .rw⟩, ⟨8, 5, .rw⟩, ⟨16, 1, .ro⟩]⟩,
    ⟨.TDMA_PI, 0x70100C, [(4, 0x20)], .always, 0x0,
      [⟨0, 32, .rw⟩]⟩,
    ⟨.TDMA_CI, 0x701010, [(4, 0x20)], .always, 0x0,
      [⟨0, 32, .ro⟩]⟩,
    ⟨.KN_POOL_BASE, 0x800000, [(32, 0x20)], .always, 0x0,
      [⟨0, 18, .rw⟩]⟩ ]

/-- Rows of the register map, part 5. -/
def regTable5 : List RegDesc :=
  [ ⟨.KN_POOL_SIZE, 0x800004, [(32, 0x20)], .always, 0x0,
      [⟨0, 18, .rw⟩]⟩,
    ⟨.KN_FREE_CNT, 0x800008, [(32, 0x20)], .always, 0x0,
      [⟨0, 18, .ro⟩]⟩,
    ⟨.KN_CURSOR, 0x80000C, [(32, 0x20)], .always, 0x0,
      [⟨0, 18, .ro⟩]⟩,
    ⟨.KN_EMPTY_CNT, 0x800010, [(32, 0x20)], .always, 0x0,
      [⟨0, 32, .rc⟩]⟩,
    ⟨.KN_ERR_LOG, 0x800400, [], .always, 0x0,
      [⟨0, 18, .ro⟩, ⟨18, 5, .ro⟩, ⟨23, 1, .ro⟩, ⟨24, 1, .ro⟩, ⟨30, 1, .w1c⟩, ⟨31, 1, .w1c⟩]⟩,
    ⟨.KN_ERR_CNT, 0x800404, [], .always, 0x0,
      [⟨0, 32, .rc⟩]⟩,
    ⟨.KN_CELL, 0x840000, [(196608, 0x4)], .always, 0x3FFFF,
      [⟨0, 18, .ro⟩, ⟨31, 1, .ro⟩]⟩,
    ⟨.PORT_QUAD, 0x900000, [(12, 0x4)], .quad, 0x0,
      [⟨0, 3, .rw⟩, ⟨4, 2, .rw⟩]⟩,
    ⟨.PORT_CFG, 0x901000, [(256, 0x100)], .port, 0x0,
      [⟨0, 1, .rw⟩, ⟨1, 1, .rw⟩, ⟨2, 1, .rw⟩, ⟨4, 4, .rw⟩]⟩,
    ⟨.PORT_STAT, 0x901004, [(256, 0x100)], .port, 0x0,
      [⟨0, 1, .ro⟩, ⟨8, 8, .ro⟩]⟩,
    ⟨.PORT_POOL_LO, 0x901008, [(256, 0x100)], .port, 0x0,
      [⟨0, 5, .rw⟩, ⟨8, 5, .rw⟩, ⟨16, 5, .rw⟩, ⟨24, 5, .rw⟩]⟩,
    ⟨.PORT_POOL_HI, 0x90100C, [(256, 0x100)], .port, 0x0,
      [⟨0, 5, .rw⟩, ⟨8, 5, .rw⟩, ⟨16, 5, .rw⟩, ⟨24, 5, .rw⟩]⟩,
    ⟨.PORT_PFC, 0x901010, [(256, 0x100)], .port, 0xFAC68800,
      [⟨0, 8, .rw⟩, ⟨8, 24, .rw⟩]⟩,
    ⟨.PORT_IFIFO, 0x901020, [(256, 0x100), (8, 0x4)], .port, 0x0,
      [⟨0, 10, .rw⟩, ⟨10, 10, .rw⟩, ⟨20, 10, .rw⟩]⟩,
    ⟨.PORT_IDROP, 0x901040, [(256, 0x100), (8, 0x4)], .port, 0x0,
      [⟨0, 32, .rc⟩]⟩,
    ⟨.MDIO_CFG, 0x9E0000, [(2, 0x100)], .always, 0xA009F,
      [⟨0, 8, .rw⟩, ⟨8, 1, .rw⟩, ⟨16, 8, .rw⟩]⟩,
    ⟨.MDIO_RUN, 0x9E0004, [(2, 0x100)], .always, 0x0,
      [⟨0, 9, .rw⟩, ⟨16, 1, .w1s⟩, ⟨17, 1, .ro⟩, ⟨18, 1, .ro⟩, ⟨19, 1, .ro⟩, ⟨24, 6, .ro⟩]⟩,
    ⟨.MDIO_RES, 0x9E0040, [(2, 0x100), (32, 0x4)], .always, 0x0,
      [⟨0, 16, .ro⟩]⟩,
    ⟨.MDIO_SCRIPT, 0x9E1000, [(2, 0x1000), (1024, 0x4)], .always, 0x0,
      [⟨0, 32, .rw⟩]⟩,
    ⟨.HP_H2D_BASE_LO, 0x9F0000, [(16, 0x40)], .always, 0x0,
      [⟨4, 28, .rw⟩]⟩,
    ⟨.HP_H2D_BASE_HI, 0x9F0004, [(16, 0x40)], .always, 0x0,
      [⟨0, 32, .rw⟩]⟩,
    ⟨.HP_H2D_CFG, 0x9F0008, [(16, 0x40)], .always, 0x400,
      [⟨0, 1, .rw⟩, ⟨8, 4, .rw⟩, ⟨16, 1, .ro⟩]⟩,
    ⟨.HP_H2D_PI, 0x9F000C, [(16, 0x40)], .always, 0x0,
      [⟨0, 32, .rw⟩]⟩,
    ⟨.HP_H2D_CI, 0x9F0010, [(16, 0x40)], .always, 0x0,
      [⟨0, 32, .ro⟩]⟩,
    ⟨.HP_D2H_BASE_LO, 0x9F0020, [(16, 0x40)], .always, 0x0,
      [⟨4, 28, .rw⟩]⟩,
    ⟨.HP_D2H_BASE_HI, 0x9F0024, [(16, 0x40)], .always, 0x0,
      [⟨0, 32, .rw⟩]⟩,
    ⟨.HP_D2H_CFG, 0x9F0028, [(16, 0x40)], .always, 0x400,
      [⟨0, 1, .rw⟩, ⟨8, 4, .rw⟩, ⟨16, 1, .ro⟩]⟩,
    ⟨.HP_D2H_PI, 0x9F002C, [(16, 0x40)], .always, 0x0,
      [⟨0, 32, .rw⟩]⟩,
    ⟨.HP_D2H_CI, 0x9F0030, [(16, 0x40)], .always, 0x0,
      [⟨0, 32, .ro⟩]⟩,
    ⟨.CAN_MODE, 0xA00000, [(24, 0x40)], .can, 0xF10,
      [⟨0, 1, .rw⟩, ⟨1, 1, .rw⟩, ⟨2, 1, .rw⟩, ⟨3, 1, .rw⟩, ⟨4, 1, .rw⟩, ⟨5, 1, .rw⟩, ⟨8, 4, .rw⟩]⟩ ]

/-- Rows of the register map, part 6. -/
def regTable6 : List RegDesc :=
  [ ⟨.CAN_NBT, 0xA00004, [(24, 0x40)], .can, 0x0,
      [⟨0, 8, .rw⟩, ⟨8, 8, .rw⟩, ⟨16, 7, .rw⟩, ⟨24, 7, .rw⟩]⟩,
    ⟨.CAN_DBT, 0xA00008, [(24, 0x40)], .can, 0x0,
      [⟨0, 8, .rw⟩, ⟨8, 8, .rw⟩, ⟨16, 7, .rw⟩, ⟨24, 7, .rw⟩]⟩,
    ⟨.CAN_XBT, 0xA0000C, [(24, 0x40)], .can, 0x0,
      [⟨0, 8, .rw⟩, ⟨8, 8, .rw⟩, ⟨16, 7, .rw⟩, ⟨24, 7, .rw⟩]⟩,
    ⟨.CAN_TDC, 0xA00010, [(24, 0x40)], .can, 0x0,
      [⟨0, 8, .rw⟩]⟩,
    ⟨.CAN_STAT, 0xA00020, [(24, 0x40)], .can, 0x0,
      [⟨0, 9, .ro⟩, ⟨9, 7, .ro⟩, ⟨16, 2, .ro⟩]⟩,
    ⟨.CAN_TX_DROP, 0xA00024, [(24, 0x40)], .can, 0x0,
      [⟨0, 32, .rc⟩]⟩,
    ⟨.CAN_TX_BAD, 0xA00028, [(24, 0x40)], .can, 0x0,
      [⟨0, 32, .rc⟩]⟩,
    ⟨.CAN_RX_ERR, 0xA0002C, [(24, 0x40)], .can, 0x0,
      [⟨0, 32, .rc⟩]⟩,
    ⟨.CLS_PCTL, 0xB00000, [(2, 0x400), (16, 0x40)], .always, 0x100000,
      [⟨0, 16, .rw⟩, ⟨16, 5, .rw⟩, ⟨21, 2, .rw⟩, ⟨23, 3, .rw⟩, ⟨26, 1, .rw⟩]⟩,
    ⟨.CLS_PACT, 0xB00004, [(2, 0x400), (16, 0x40)], .always, 0x0,
      [⟨0, 6, .rw⟩]⟩,
    ⟨.CLS_PSEED, 0xB00008, [(2, 0x400), (16, 0x40)], .always, 0x0,
      [⟨0, 32, .rw⟩]⟩,
    ⟨.CLS_PFLD, 0xB00010, [(2, 0x400), (16, 0x40), (8, 0x4)], .always, 0x0,
      [⟨0, 8, .rw⟩, ⟨8, 7, .rw⟩, ⟨16, 2, .rw⟩]⟩,
    ⟨.CLS_SFILT, 0xB01000, [(4096, 0x4)], .always, 0x0,
      [⟨0, 14, .rw⟩, ⟨14, 1, .rw⟩, ⟨15, 1, .w1c⟩]⟩,
    ⟨.MTR_CIR, 0xB08000, [(256, 0x20)], .always, 0x0,
      [⟨0, 32, .rw⟩]⟩,
    ⟨.MTR_PIR, 0xB08004, [(256, 0x20)], .always, 0x0,
      [⟨0, 32, .rw⟩]⟩,
    ⟨.MTR_CBS, 0xB08008, [(256, 0x20)], .always, 0x0,
      [⟨0, 24, .rw⟩]⟩,
    ⟨.MTR_PBS, 0xB0800C, [(256, 0x20)], .always, 0x0,
      [⟨0, 24, .rw⟩]⟩,
    ⟨.MTR_PMODE, 0xB08010, [(256, 0x20)], .always, 0x0,
      [⟨0, 1, .rw⟩, ⟨1, 1, .rw⟩, ⟨2, 2, .rw⟩, ⟨4, 2, .rw⟩, ⟨6, 2, .rw⟩, ⟨8, 2, .rw⟩, ⟨12, 3, .rw⟩, ⟨16, 3, .rw⟩, ⟨20, 3, .rw⟩]⟩,
    ⟨.MTR_RD_SEL, 0xB0A000, [], .always, 0x0,
      [⟨0, 16, .rw⟩]⟩,
    ⟨.MTR_RD_TC, 0xB0A004, [], .always, 0x0,
      [⟨0, 24, .ro⟩]⟩,
    ⟨.MTR_RD_TP, 0xB0A008, [], .always, 0x0,
      [⟨0, 24, .ro⟩]⟩,
    ⟨.MTR_RD_GREEN, 0xB0A00C, [], .always, 0x0,
      [⟨0, 32, .rc⟩]⟩,
    ⟨.MTR_RD_YELLOW, 0xB0A010, [], .always, 0x0,
      [⟨0, 32, .rc⟩]⟩,
    ⟨.MTR_RD_RED, 0xB0A014, [], .always, 0x0,
      [⟨0, 32, .rc⟩]⟩,
    ⟨.MTR_CFG, 0xB40000, [(65536, 0x4)], .always, 0x0,
      [⟨0, 8, .rw⟩, ⟨8, 1, .rw⟩]⟩,
    ⟨.EQ_OVERHEAD, 0xC00000, [(62, 0x200)], .eqport, 0x14,
      [⟨0, 7, .rw⟩]⟩,
    ⟨.EQ_GCL_CTRL, 0xC00004, [(62, 0x200)], .eqport, 0x0,
      [⟨0, 11, .rw⟩, ⟨12, 2, .rw⟩, ⟨16, 1, .w1s⟩, ⟨17, 1, .ro⟩, ⟨18, 1, .ro⟩, ⟨19, 1, .w1c⟩]⟩,
    ⟨.EQ_GCL_CYCLE, 0xC00008, [(62, 0x200)], .eqport, 0x0,
      [⟨0, 30, .rw⟩]⟩,
    ⟨.EQ_GCL_BASE_NS, 0xC0000C, [(62, 0x200)], .eqport, 0x0,
      [⟨0, 30, .rw⟩]⟩,
    ⟨.EQ_GCL_BASE_SEC_LO, 0xC00010, [(62, 0x200)], .eqport, 0x0,
      [⟨0, 32, .rw⟩]⟩ ]

/-- Rows of the register map, part 7. -/
def regTable7 : List RegDesc :=
  [ ⟨.EQ_GCL_BASE_SEC_HI, 0xC00014, [(62, 0x200)], .eqport, 0x0,
      [⟨0, 16, .rw⟩]⟩,
    ⟨.EQ_GCL_OPER, 0xC00018, [(62, 0x200)], .eqport, 0x0,
      [⟨0, 11, .ro⟩]⟩,
    ⟨.EQ_CLASS, 0xC00040, [(62, 0x200), (8, 0x10)], .eqport, 0x4000000,
      [⟨0, 3, .rw⟩, ⟨4, 1, .rw⟩, ⟨16, 12, .rw⟩]⟩,
    ⟨.EQ_QUANTUM, 0xC00044, [(62, 0x200), (8, 0x10)], .eqport, 0x600,
      [⟨0, 16, .rw⟩]⟩,
    ⟨.EQ_CBS, 0xC00048, [(62, 0x200), (8, 0x10)], .eqport, 0x0,
      [⟨0, 17, .rw⟩]⟩,
    ⟨.EQ_BURST, 0xC0004C, [(62, 0x200), (8, 0x10)], .eqport, 0x0,
      [⟨0, 20, .rw⟩]⟩,
    ⟨.EQ_QSTAT, 0xC00100, [(62, 0x200), (8, 0x10)], .eqport, 0x0,
      [⟨0, 12, .ro⟩, ⟨16, 16, .ro⟩]⟩,
    ⟨.EQ_CREDIT, 0xC00104, [(62, 0x200), (8, 0x10)], .eqport, 0x0,
      [⟨0, 32, .ro⟩]⟩,
    ⟨.EQ_DROP, 0xC00108, [(62, 0x200), (8, 0x10)], .eqport, 0x0,
      [⟨0, 32, .rc⟩]⟩,
    ⟨.EQ_GATE_DROP, 0xC00180, [(62, 0x200), (8, 0x4)], .eqport, 0x0,
      [⟨0, 32, .rc⟩]⟩,
    ⟨.EQ_STORE, 0xC70000, [], .always, 0x20000,
      [⟨0, 18, .ro⟩]⟩,
    ⟨.EQ_GCL_GATES, 0xC80000, [(62, 0x2000), (1024, 0x8)], .eqport, 0x0,
      [⟨0, 8, .rw⟩]⟩,
    ⟨.EQ_GCL_INTERVAL, 0xC80004, [(62, 0x2000), (1024, 0x8)], .eqport, 0x0,
      [⟨0, 32, .rw⟩]⟩,
    ⟨.TB_STAT, 0xD00000, [], .always, 0x0,
      [⟨0, 1, .ro⟩, ⟨1, 1, .ro⟩, ⟨8, 1, .wo⟩]⟩,
    ⟨.TB_SNAP, 0xD00004, [], .always, 0x0,
      [⟨0, 1, .w1s⟩]⟩,
    ⟨.TB_FR_LO, 0xD00008, [], .always, 0x0,
      [⟨0, 32, .ro⟩]⟩,
    ⟨.TB_FR_HI, 0xD0000C, [], .always, 0x0,
      [⟨0, 32, .ro⟩]⟩,
    ⟨.TB_SNAP_FR_LO, 0xD00010, [], .always, 0x0,
      [⟨0, 32, .ro⟩]⟩,
    ⟨.TB_SNAP_FR_HI, 0xD00014, [], .always, 0x0,
      [⟨0, 32, .ro⟩]⟩,
    ⟨.TB_PPS_CFG, 0xD00020, [], .always, 0x0,
      [⟨0, 1, .rw⟩, ⟨4, 2, .rw⟩, ⟨8, 20, .rw⟩, ⟨30, 1, .w1c⟩, ⟨31, 1, .w1c⟩]⟩,
    ⟨.TB_PPS_FR_LO, 0xD00024, [], .always, 0x0,
      [⟨0, 32, .ro⟩]⟩,
    ⟨.TB_PPS_FR_HI, 0xD00028, [], .always, 0x0,
      [⟨0, 32, .ro⟩]⟩,
    ⟨.TB_DOM_CFG, 0xD00100, [(4, 0x40)], .always, 0x0,
      [⟨0, 8, .rw⟩]⟩,
    ⟨.TB_ADJ_FREQ, 0xD00104, [(4, 0x40)], .always, 0x0,
      [⟨0, 32, .rw⟩]⟩,
    ⟨.TB_ADJ_SEC, 0xD00108, [(4, 0x40)], .always, 0x0,
      [⟨0, 32, .rw⟩]⟩,
    ⟨.TB_ADJ_NS, 0xD0010C, [(4, 0x40)], .always, 0x0,
      [⟨0, 32, .rw⟩]⟩,
    ⟨.TB_ADJ_CTRL, 0xD00110, [(4, 0x40)], .always, 0x0,
      [⟨0, 16, .rw⟩, ⟨16, 1, .rw⟩, ⟨17, 1, .w1s⟩, ⟨18, 1, .w1c⟩]⟩,
    ⟨.TB_SNAP_NS, 0xD00114, [(4, 0x40)], .always, 0x0,
      [⟨0, 30, .ro⟩]⟩,
    ⟨.TB_SNAP_SEC_LO, 0xD00118, [(4, 0x40)], .always, 0x0,
      [⟨0, 32, .ro⟩]⟩,
    ⟨.TB_SNAP_SEC_HI, 0xD0011C, [(4, 0x40)], .always, 0x0,
      [⟨0, 16, .ro⟩, ⟨24, 8, .ro⟩]⟩ ]

/-- Rows of the register map, part 8. -/
def regTable8 : List RegDesc :=
  [ ⟨.TB_PPS_NS, 0xD00120, [(4, 0x40)], .always, 0x0,
      [⟨0, 30, .ro⟩]⟩,
    ⟨.TB_PPS_SEC_LO, 0xD00124, [(4, 0x40)], .always, 0x0,
      [⟨0, 32, .ro⟩]⟩,
    ⟨.TB_PPS_SEC_HI, 0xD00128, [(4, 0x40)], .always, 0x0,
      [⟨0, 16, .ro⟩, ⟨24, 8, .ro⟩]⟩,
    ⟨.TS_CAL_RX, 0xD01000, [(49, 0x40)], .tsport, 0x0,
      [⟨0, 24, .rw⟩]⟩,
    ⟨.TS_CAL_TX, 0xD01004, [(49, 0x40)], .tsport, 0x0,
      [⟨0, 24, .rw⟩]⟩,
    ⟨.TS_GBX, 0xD01008, [(49, 0x40)], .tsport, 0x0,
      [⟨0, 16, .ro⟩, ⟨16, 1, .ro⟩, ⟨24, 8, .rc⟩]⟩,
    ⟨.TXTS_HDR, 0xD01010, [(49, 0x40)], .tsport, 0x0,
      [⟨0, 16, .rc⟩, ⟨16, 4, .rc⟩, ⟨20, 2, .rc⟩, ⟨22, 1, .rc⟩, ⟨31, 1, .rc⟩]⟩,
    ⟨.TXTS_NS, 0xD01014, [(49, 0x40)], .tsport, 0x0,
      [⟨0, 30, .ro⟩]⟩,
    ⟨.TXTS_SEC_LO, 0xD01018, [(49, 0x40)], .tsport, 0x0,
      [⟨0, 32, .ro⟩]⟩,
    ⟨.TXTS_SEC_HI, 0xD0101C, [(49, 0x40)], .tsport, 0x0,
      [⟨0, 16, .ro⟩, ⟨24, 8, .ro⟩]⟩,
    ⟨.TXTS_STAT, 0xD01020, [(49, 0x40)], .tsport, 0x0,
      [⟨0, 5, .ro⟩, ⟨16, 16, .rc⟩]⟩,
    ⟨.DDR_MAP, 0xE00000, [], .always, 0x0,
      [⟨0, 1, .rw⟩]⟩,
    ⟨.DDR_ERR_POP, 0xE00100, [], .always, 0x0,
      [⟨0, 7, .rc⟩, ⟨31, 1, .rc⟩]⟩,
    ⟨.DDR_ERR_ADDR, 0xE00104, [], .always, 0x0,
      [⟨0, 32, .ro⟩]⟩,
    ⟨.DDR_ERR_INFO, 0xE00108, [], .always, 0x0,
      [⟨0, 8, .ro⟩, ⟨8, 3, .ro⟩, ⟨12, 1, .ro⟩, ⟨13, 2, .ro⟩, ⟨15, 1, .ro⟩, ⟨16, 4, .ro⟩]⟩,
    ⟨.DDR_ERR_TS, 0xE0010C, [], .always, 0x0,
      [⟨0, 32, .ro⟩]⟩,
    ⟨.DDR_ERR_STAT, 0xE00110, [], .always, 0x0,
      [⟨0, 7, .ro⟩, ⟨16, 16, .rc⟩]⟩,
    ⟨.DDR_CTRL, 0xE10000, [(2, 0x10000)], .ddr, 0x100000,
      [⟨0, 1, .rw⟩, ⟨1, 1, .w1s⟩, ⟨2, 1, .ro⟩, ⟨3, 1, .ro⟩, ⟨4, 2, .rw⟩, ⟨8, 3, .rw⟩, ⟨16, 8, .rw⟩, ⟨24, 1, .w1c⟩]⟩,
    ⟨.DDR_BANK_XOR0, 0xE10010, [(2, 0x10000)], .ddr, 0x440,
      [⟨6, 17, .rw⟩]⟩,
    ⟨.DDR_BANK_XOR1, 0xE10014, [(2, 0x10000)], .ddr, 0x880,
      [⟨6, 17, .rw⟩]⟩,
    ⟨.DDR_BANK_XOR2, 0xE10018, [(2, 0x10000)], .ddr, 0x1100,
      [⟨6, 17, .rw⟩]⟩,
    ⟨.DDR_BANK_XOR3, 0xE1001C, [(2, 0x10000)], .ddr, 0x2200,
      [⟨6, 17, .rw⟩]⟩,
    ⟨.DDR_CE_CNT, 0xE10020, [(2, 0x10000)], .ddr, 0x0,
      [⟨0, 32, .rc⟩]⟩,
    ⟨.DDR_UE_CNT, 0xE10024, [(2, 0x10000)], .ddr, 0x0,
      [⟨0, 32, .rc⟩]⟩,
    ⟨.DDR_INORD_CNT, 0xE10028, [(2, 0x10000)], .ddr, 0x0,
      [⟨0, 32, .rc⟩]⟩,
    ⟨.DDR_UNSRV_CNT, 0xE1002C, [(2, 0x10000)], .ddr, 0x0,
      [⟨0, 32, .rc⟩]⟩,
    ⟨.DDR_REG_CFG, 0xE10040, [(2, 0x10000), (5, 0x8)], .ddrreg, 0x0,
      [⟨0, 17, .rw⟩, ⟨31, 1, .rw⟩]⟩,
    ⟨.DDR_REG_BURST, 0xE10044, [(2, 0x10000), (5, 0x8)], .ddrreg, 0x0,
      [⟨0, 20, .rw⟩]⟩,
    ⟨.FAB_CFG, 0xF00000, [], .fab, 0x200,
      [⟨0, 1, .rw⟩, ⟨4, 2, .rw⟩, ⟨8, 4, .rw⟩]⟩,
    ⟨.FAB_STAT, 0xF00004, [], .fab, 0x0,
      [⟨0, 4, .ro⟩, ⟨4, 1, .ro⟩, ⟨5, 1, .ro⟩, ⟨6, 1, .ro⟩, ⟨8, 4, .ro⟩, ⟨16, 5, .ro⟩]⟩ ]

/-- Rows of the register map, part 9. -/
def regTable9 : List RegDesc :=
  [ ⟨.FAB_UID_LO, 0xF00008, [], .fab, 0x0,
      [⟨0, 32, .ro⟩]⟩,
    ⟨.FAB_UID_HI, 0xF0000C, [], .fab, 0x0,
      [⟨0, 32, .ro⟩]⟩,
    ⟨.FAB_ROUTE, 0xF00100, [(16, 0x4)], .fab, 0x0,
      [⟨0, 3, .ro⟩, ⟨3, 1, .ro⟩, ⟨4, 4, .ro⟩, ⟨8, 4, .ro⟩, ⟨12, 1, .ro⟩]⟩,
    ⟨.FAB_PEER_UID_LO, 0xF00200, [(16, 0x8)], .fab, 0x0,
      [⟨0, 32, .ro⟩]⟩,
    ⟨.FAB_PEER_UID_HI, 0xF00204, [(16, 0x8)], .fab, 0x0,
      [⟨0, 32, .ro⟩]⟩,
    ⟨.FAB_NOROUTE, 0xF00300, [], .fab, 0x0,
      [⟨0, 32, .rc⟩]⟩,
    ⟨.FAB_TTL_DROP, 0xF00304, [], .fab, 0x0,
      [⟨0, 32, .rc⟩]⟩,
    ⟨.FAB_REROUTES, 0xF00308, [], .fab, 0x0,
      [⟨0, 32, .rc⟩]⟩,
    ⟨.FAB_LNK_STAT, 0xF01000, [(12, 0x40)], .fablink, 0x0,
      [⟨0, 1, .ro⟩, ⟨1, 1, .ro⟩, ⟨4, 4, .ro⟩, ⟨8, 4, .ro⟩]⟩,
    ⟨.FAB_LNK_CAL_RX, 0xF01004, [(12, 0x40)], .fablink, 0x0,
      [⟨0, 24, .rw⟩]⟩,
    ⟨.FAB_LNK_CAL_TX, 0xF01008, [(12, 0x40)], .fablink, 0x0,
      [⟨0, 24, .rw⟩]⟩,
    ⟨.FAB_LNK_DELAY, 0xF0100C, [(12, 0x40)], .fablink, 0x0,
      [⟨0, 32, .ro⟩]⟩,
    ⟨.FAB_LNK_OFS, 0xF01010, [(12, 0x40)], .fablink, 0x0,
      [⟨0, 32, .ro⟩]⟩,
    ⟨.FAB_LNK_ERR, 0xF01014, [(12, 0x40)], .fablink, 0x0,
      [⟨0, 32, .rc⟩]⟩,
    ⟨.FAB_LNK_DOWNS, 0xF01018, [(12, 0x40)], .fablink, 0x0,
      [⟨0, 32, .rc⟩]⟩,
    ⟨.PACK_CFG, 0x1050000, [(32, 0x80000)], .pack, 0x0,
      [⟨0, 1, .rw⟩, ⟨1, 1, .rw⟩, ⟨4, 3, .rw⟩, ⟨8, 1, .rw⟩]⟩,
    ⟨.PACK_STACK, 0x1050004, [(32, 0x80000)], .pack, 0x4008000,
      [⟨0, 16, .rw⟩, ⟨16, 16, .rw⟩]⟩,
    ⟨.PACK_TRAP, 0x1050008, [(32, 0x80000)], .pack, 0x0,
      [⟨0, 16, .rw⟩, ⟨31, 1, .rw⟩]⟩,
    ⟨.PACK_RST, 0x105000C, [(32, 0x80000)], .pack, 0x0,
      [⟨0, 1, .w1s⟩, ⟨1, 1, .ro⟩]⟩,
    ⟨.WHEEL_MAP0, 0x1050010, [(32, 0x80000)], .pack, 0xFEDCBA98,
      [⟨0, 32, .rw⟩]⟩,
    ⟨.WHEEL_MAP1, 0x1050014, [(32, 0x80000)], .pack, 0x0,
      [⟨0, 32, .rw⟩]⟩,
    ⟨.PACK_ENTRY, 0x1050100, [(32, 0x80000), (16, 0x4)], .pack, 0x0,
      [⟨0, 16, .rw⟩, ⟨31, 1, .rw⟩]⟩,
    ⟨.HLP_TPEAK0, 0x1050200, [(32, 0x80000)], .pack, 0x0,
      [⟨0, 8, .rc⟩, ⟨8, 8, .rc⟩, ⟨16, 8, .rc⟩, ⟨24, 8, .rc⟩]⟩,
    ⟨.HLP_TPEAK1, 0x1050204, [(32, 0x80000)], .pack, 0x0,
      [⟨0, 8, .rc⟩, ⟨8, 8, .rc⟩]⟩,
    ⟨.ENG_CTX, 0x1060000, [(32, 0x80000), (16, 0x1000)], .pack, 0x0,
      [⟨0, 8, .ro⟩, ⟨8, 8, .ro⟩, ⟨16, 8, .ro⟩, ⟨24, 8, .ro⟩]⟩,
    ⟨.ENG_DL_CFG, 0x1060010, [(32, 0x80000), (16, 0x1000)], .pack, 0x10000,
      [⟨0, 24, .rw⟩, ⟨24, 1, .rw⟩]⟩,
    ⟨.ENG_DL_STATUS, 0x1060014, [(32, 0x80000), (16, 0x1000)], .pack, 0x0,
      [⟨0, 16, .rc⟩, ⟨16, 8, .ro⟩, ⟨24, 1, .ro⟩]⟩,
    ⟨.ENG_WAKE, 0x1060018, [(32, 0x80000), (16, 0x1000)], .pack, 0x0,
      [⟨0, 3, .wo⟩]⟩,
    ⟨.ENG_RST, 0x106001C, [(32, 0x80000), (16, 0x1000)], .pack, 0x0,
      [⟨0, 1, .w1s⟩, ⟨1, 1, .ro⟩]⟩,
    ⟨.ENG_TURN_T_LO, 0x1060020, [(32, 0x80000), (16, 0x1000)], .pack, 0x0,
      [⟨0, 32, .ro⟩]⟩ ]

/-- Rows of the register map, part 10. -/
def regTable10 : List RegDesc :=
  [ ⟨.ENG_TURN_T_HI, 0x1060024, [(32, 0x80000), (16, 0x1000)], .pack, 0x0,
      [⟨0, 32, .ro⟩]⟩,
    ⟨.ENG_TURN_E_LO, 0x1060028, [(32, 0x80000), (16, 0x1000)], .pack, 0x0,
      [⟨0, 32, .ro⟩]⟩,
    ⟨.ENG_TURN_E_HI, 0x106002C, [(32, 0x80000), (16, 0x1000)], .pack, 0x0,
      [⟨0, 32, .ro⟩]⟩,
    ⟨.ENG_TURN_B_LO, 0x1060030, [(32, 0x80000), (16, 0x1000)], .pack, 0x0,
      [⟨0, 32, .ro⟩]⟩,
    ⟨.ENG_TURN_B_HI, 0x1060034, [(32, 0x80000), (16, 0x1000)], .pack, 0x0,
      [⟨0, 32, .ro⟩]⟩,
    ⟨.ENG_STARTS, 0x1060038, [(32, 0x80000), (16, 0x1000)], .pack, 0x0,
      [⟨0, 32, .ro⟩]⟩,
    ⟨.PK_ISTORE, 0x1000000, [(32, 0x80000), (16384, 0x4)], .pack, 0x0,
      [⟨0, 32, .rw⟩]⟩,
    ⟨.PK_PSM, 0x1010000, [(32, 0x80000), (65536, 0x4)], .pack, 0x0,
      [⟨0, 32, .rw⟩]⟩,
    ⟨.MET_STAT, 0x2000000, [], .metro, 0x0,
      [⟨0, 1, .ro⟩, ⟨1, 1, .ro⟩, ⟨2, 1, .ro⟩, ⟨3, 1, .ro⟩, ⟨4, 1, .ro⟩, ⟨16, 11, .ro⟩]⟩,
    ⟨.MET_AUDIT, 0x2000004, [], .metro, 0x0,
      [⟨0, 12, .ro⟩]⟩,
    ⟨.MET_HEAD, 0x2000008, [], .metro, 0x0,
      [⟨0, 32, .ro⟩]⟩,
    ⟨.MET_FW_ID, 0x200000C, [], .metro, 0x0,
      [⟨0, 32, .ro⟩]⟩,
    ⟨.MET_FW_DIGEST, 0x2000020, [(8, 0x4)], .metro, 0x0,
      [⟨0, 32, .ro⟩]⟩,
    ⟨.MET_PARAM_DIGEST, 0x2000040, [(8, 0x4)], .metro, 0x0,
      [⟨0, 32, .ro⟩]⟩,
    ⟨.MET_PUBKEY, 0x2000080, [(16, 0x4)], .metro, 0x0,
      [⟨0, 32, .ro⟩]⟩,
    ⟨.MET_LOG, 0x2010000, [(32768, 0x4)], .metro, 0x0,
      [⟨0, 32, .ro⟩]⟩,
    ⟨.DBG_SESSION, 0x2100000, [], .always, 0x0,
      [⟨0, 1, .rw⟩]⟩,
    ⟨.DBG_CFG, 0x2100004, [], .always, 0x0,
      [⟨0, 1, .rw⟩]⟩,
    ⟨.DBG_SEL, 0x2100010, [], .always, 0x0,
      [⟨0, 5, .rw⟩, ⟨8, 4, .rw⟩, ⟨16, 3, .rw⟩]⟩,
    ⟨.DBG_CMD, 0x2100014, [], .always, 0x0,
      [⟨0, 3, .wo⟩, ⟨4, 2, .wo⟩]⟩,
    ⟨.DBG_STAT, 0x2100018, [], .always, 0x0,
      [⟨0, 1, .ro⟩, ⟨1, 1, .ro⟩, ⟨2, 1, .ro⟩, ⟨3, 1, .ro⟩, ⟨4, 4, .rc⟩, ⟨16, 16, .ro⟩]⟩,
    ⟨.DBG_REG, 0x2100100, [(72, 0x4)], .always, 0x0,
      [⟨0, 32, .rw⟩]⟩,
    ⟨.DBG_LMEM, 0x2110000, [(8192, 0x4)], .always, 0x0,
      [⟨0, 32, .rw⟩]⟩,
    ⟨.DBG_SCRATCH, 0x2118000, [(64, 0x4)], .always, 0x0,
      [⟨0, 32, .rw⟩]⟩,
    ⟨.DBG_JOB, 0x2118100, [(80, 0x4)], .always, 0x0,
      [⟨0, 32, .rw⟩]⟩ ]

/-- The register map. -/
def regTable : List RegDesc :=
  regTable1 ++ regTable2 ++ regTable3 ++ regTable4 ++ regTable5 ++ regTable6 ++ regTable7 ++ regTable8 ++ regTable9 ++ regTable10

/-- The array indices that place `d` bytes past the base of an array, or none. -/
def splitDims : List (Nat × Nat) → Nat → Option (List Nat)
  | [], d => if d = 0 then some [] else none
  | (n, st) :: r, d =>
    if d / st < n then (splitDims r (d % st)).map (d / st :: ·) else none

/-- The register at a BAR0 offset, with its array indices. -/
def findRegIn (off : Nat) : List RegDesc → Option (RegDesc × List Nat)
  | [] => none
  | r :: t =>
    if r.base ≤ off then
      match splitDims r.dims (off - r.base) with
      | some ix => some (r, ix)
      | none => findRegIn off t
    else findRegIn off t

/-- The register at a BAR0 offset (none: a reserved offset, R17). -/
def findReg (off : Nat) : Option (RegDesc × List Nat) := findRegIn off regTable

/-! ### The parts (R1, R2) -/

/-- Packs present. -/
def Chip.packs (c : Chip) : Nat :=
  match c.part with
  | .lrv5120 => 32
  | .lrv3840 => 24
  | .lrv2560 => 16
/-- SerDes quads present. -/
def Chip.quads (c : Chip) : Nat :=
  match c.part with
  | .lrv5120 => 12
  | .lrv3840 => 8
  | .lrv2560 => 6
/-- DRAM controllers present. -/
def Chip.ddrs (c : Chip) : Nat :=
  match c.part with
  | .lrv2560 => 1
  | _ => 2
/-- CAN channels present. -/
def Chip.cans (c : Chip) : Nat :=
  match c.part with
  | .lrv2560 => 16
  | _ => 24
/-- The most quads that run as LFL links. -/
def Chip.lflMax (c : Chip) : Nat :=
  match c.part with
  | .lrv5120 => 6
  | .lrv3840 => 4
  | .lrv2560 => 0
/-- Port MACsec and the pack AES helper. -/
def Chip.crypto (c : Chip) : Bool := c.part != .lrv2560
/-- Scent. -/
def Chip.scent (c : Chip) : Bool := c.part == .lrv5120
/-- The fabric. -/
def Chip.fabric (c : Chip) : Bool := c.part != .lrv2560
/-- NSH, the Dispatcher shards present (R220). -/
def Chip.shards (c : Chip) : Nat := (c.packs + 7) / 8
/-- The PART field of SYS_CENSUS1. -/
def Chip.partNo (c : Chip) : Nat :=
  match c.part with
  | .lrv5120 => 0x5120
  | .lrv3840 => 0x3840
  | .lrv2560 => 0x2560

/-- SYS_CENSUS0 (R5). -/
def Chip.census0 (c : Chip) : Word :=
  W (c.packs + c.quads * 0x100 + c.ddrs * 0x1000 + c.cans * 0x10000 + c.lflMax * 0x1000000)

/-- SYS_CENSUS1 (R6). -/
def Chip.census1 (c : Chip) : Word :=
  W (c.crypto.toNat * 3 + c.scent.toNat * 4 + c.metro.toNat * 8 + 16 + c.step.toNat * 0x100
    + c.partNo * 0x10000)

/-- The reset SIZE of an ingress FIFO by port number (R332). -/
def ififoReset (port : Nat) : Nat :=
  if port < 48 then 48
  else if 64 ≤ port ∧ port < 88 then 16
  else if port = 96 then 8
  else if port = 97 then 32
  else if 128 ≤ port ∧ port < 140 then 48
  else 0

/-- The reset value of a register (R68 onward; the rule of its row). -/
def resetOf (c : Chip) (r : RegDesc) (ix : List Nat) : Word :=
  match r.id with
  | .SYS_CENSUS0 => c.census0
  | .SYS_CENSUS1 => c.census1
  | .PACE_FUSE_RATIO => W c.fuseRatio.toNat
  | .FAB_STAT => W (c.fabId.toNat * 0x100)
  | .FAB_UID_LO => W (c.uid.toNat % 2 ^ 32)
  | .FAB_UID_HI => W (c.uid.toNat / 2 ^ 32)
  | .EV_ENABLE => W (if ix.headD 0 = 0 then 0x20000 else 0)
  | .EV_ROUTE => W (if ix.headD 0 = 17 then 0x700 else 0)
  | .TB_DOM_CFG => W (ix.headD 0)
  | .EQ_CLASS => W (0x4000000 + ix.getD 1 0)
  | .PORT_IFIFO => W (ififoReset (ix.headD 0))
  | _ => W r.reset

/-- The value a register that nothing has written shows (0 at a reserved offset, R17). -/
def resetAt (c : Chip) (off : Nat) : Word :=
  match findReg off with
  | some (r, ix) => resetOf c r ix
  | none => 0

end Sys2Proof.Machine
end

