-- ==== Sys2Proof/Machine/Ops.lean ====
section
/-! DEFINITION. The shared operations over the state: registers and their fields, memories, the units' tables,
saturating counters, first-event logs, and the Event Hub's latching and signalling. -/

namespace Sys2Proof

/-! ### Memories -/

/-- A memory is in its canonical form: addresses strictly rising, and no byte listed that reads as an unlisted one. -/
def Mem.wf (m : Mem) : Bool := Tab.wf 0 m

/-- One byte of a memory. -/
def Mem.rd (m : Mem) (a : Nat) : Byte := Tab.get 0 m a

/-- Write one byte of a memory. -/
def Mem.wr (m : Mem) (a : Nat) (b : Byte) : Mem := Tab.set 0 m a b

/-- `n` bytes from address `a`, as a little-endian number. -/
def Mem.rdN (m : Mem) (a : Nat) : Nat → Nat
  | 0 => 0
  | n + 1 => (m.rd a).toNat + 256 * Mem.rdN m (a + 1) n

/-- Write the low `n` bytes of `v` from address `a`, least significant byte first. -/
def Mem.wrN (m : Mem) (a : Nat) : Nat → Nat → Mem
  | 0, _ => m
  | n + 1, v => Mem.wrN (m.wr a (B8 v)) (a + 1) n (v / 256)

/-- `n` bytes from address `a`. -/
def Mem.bytes (m : Mem) (a n : Nat) : List Byte := (List.range n).map fun i => m.rd (a + i)

/-- Write a list of bytes from address `a`. -/
def Mem.put (m : Mem) (a : Nat) : List Byte → Mem
  | [] => m
  | b :: t => Mem.put (m.wr a b) (a + 1) t

/-- `k n`, with `n` evaluated first. -/
def withNat {α : Type} (n : Nat) (k : Nat → α) : α :=
  match n with
  | 0 => k 0
  | m + 1 => k (m + 1)

/-- The bytes of these numbers, each evaluated first. -/
def evalBytes : List Nat → List Byte
  | [] => []
  | n :: t => withNat n fun n => B8 n :: evalBytes t

/-- A little-endian number as bytes. -/
def leBytes (n : Nat) : Nat → List Byte
  | v => (List.range n).map fun i => B8 (v / 256 ^ i)

/-- Bytes as a little-endian number. -/
def leNat : List Byte → Nat
  | [] => 0
  | b :: t => b.toNat + 256 * leNat t

/-- Bytes as a big-endian number. -/
def beNat (l : List Byte) : Nat := l.foldl (fun a b => a * 256 + b.toNat) 0

/-- A number as `n` big-endian bytes. -/
def beBytes (n v : Nat) : List Byte := (leBytes n v).reverse

/-- Byte `i` of a list, 0 beyond its end. -/
def byteAt (l : List Byte) (i : Nat) : Byte := l.getD i 0

/-- The list cut or padded with zero bytes to length `n`. -/
def fit (n : Nat) (l : List Byte) : List Byte := (l ++ List.replicate n 0).take n

end Sys2Proof

namespace Sys2Proof.Machine

open Sys2Proof

/-- The outcome type of a command. -/
abbrev Out := Host.Outcome State Fault Refusal

/-! ### Bit fields -/

/-- Bits [hi:lo] of a word, as a number. -/
def getF (v : Word) (hi lo : Nat) : Nat := v.toNat / 2 ^ lo % 2 ^ (hi + 1 - lo)

/-- The word with bits [hi:lo] replaced by the low bits of `x`. -/
def setF (v : Word) (hi lo x : Nat) : Word :=
  let m := 2 ^ (hi + 1 - lo)
  W (v.toNat - v.toNat / 2 ^ lo % m * 2 ^ lo + x % m * 2 ^ lo)

/-- Bit `b` of a word. -/
def bitOf (v : Word) (b : Nat) : Bool := v.toNat / 2 ^ b % 2 = 1

/-- Read a two's-complement number of `w` bits. -/
def signed (w n : Nat) : Int := if n < 2 ^ (w - 1) then (n : Int) else (n : Int) - (2 ^ w : Nat)

/-- Division rounded up. -/
def ceilDiv (a b : Nat) : Nat := (a + b - 1) / b

/-! ### Registers -/

/-- The value a BAR0 register stores: what was last written there, else its reset value. -/
def State.reg (s : State) (off : Nat) : Word :=
  match Tab.get none s.regs off with
  | some v => v
  | none => resetAt s.chip off

/-- Store a value in a BAR0 register. -/
def State.setReg (s : State) (off : Nat) (v : Word) : State :=
  { s with regs := Tab.set none s.regs off (some v) }

/-- Field [hi:lo] of a register. -/
def State.fld (s : State) (off hi lo : Nat) : Nat := getF (s.reg off) hi lo

/-- Set field [hi:lo] of a register. -/
def State.setFld (s : State) (off hi lo x : Nat) : State := s.setReg off (setF (s.reg off) hi lo x)

/-- A one-bit field. -/
def State.flag (s : State) (off b : Nat) : Bool := bitOf (s.reg off) b

/-- Increment a counter of 32 bits that saturates at 0xFFFF_FFFF. -/
def State.bump (s : State) (off : Nat) : State := s.setReg off (W (satInc 32 (s.reg off).toNat))

/-- Increment a counter field that saturates at its largest value. -/
def State.bumpF (s : State) (off hi lo : Nat) : State :=
  s.setFld off hi lo (satInc (hi + 1 - lo) (s.fld off hi lo))

/-- Raise a PEAK field to the level `x` (R578). -/
def State.peakF (s : State) (off hi lo x : Nat) : State :=
  if s.fld off hi lo < x then s.setFld off hi lo x else s

/-- A first-event log (R39): with VALID set the event sets OVF and is not logged; otherwise the value is
logged with VALID, and OVF stays as it is. -/
def State.logFirst (s : State) (off validBit ovfBit : Nat) (v : Word) : State :=
  if s.flag off validBit then s.setFld off ovfBit ovfBit 1
  else
    s.setReg off (setF (setF v validBit validBit 1) ovfBit ovfBit (s.fld off ovfBit ovfBit))

/-! ### Units by number -/

/-- Context number c (pack × 128 + engine × 8 + context, R103). -/
def State.ctx (s : State) (c : Nat) : Ctx := Tab.get Ctx.idle s.ctxs c
def State.setCtx (s : State) (c : Nat) (x : Ctx) : State :=
  { s with ctxs := Tab.set Ctx.idle s.ctxs c x }
def State.updCtx (s : State) (c : Nat) (f : Ctx → Ctx) : State := s.setCtx c (f (s.ctx c))

/-- Engine number e (pack × 16 + engine, R229). -/
def State.eng (s : State) (e : Nat) : Eng := Tab.get Eng.idle s.engs e
def State.setEng (s : State) (e : Nat) (x : Eng) : State :=
  { s with engs := Tab.set Eng.idle s.engs e x }
def State.updEng (s : State) (e : Nat) (f : Eng → Eng) : State := s.setEng e (f (s.eng e))

/-- A job that names no frame. -/
def Job.none : Job := {}
def State.job (s : State) (j : Nat) : Job := Tab.get Job.none s.herd.jobs j
def State.setJob (s : State) (j : Nat) (x : Job) : State :=
  { s with herd := { s.herd with jobs := Tab.set Job.none s.herd.jobs j x } }
def State.updJob (s : State) (j : Nat) (f : Job → Job) : State := s.setJob j (f (s.job j))

def Output.none : Output := {}
def State.out (s : State) (k : Nat) : Output := Tab.get Output.none s.herd.outs k
def State.setOut (s : State) (k : Nat) (x : Output) : State :=
  { s with herd := { s.herd with outs := Tab.set Output.none s.herd.outs k x } }

def Domain.fresh : Domain := {}
def State.od (s : State) (d : Nat) : Domain := Tab.get Domain.fresh s.herd.doms d
def State.setOd (s : State) (d : Nat) (x : Domain) : State :=
  { s with herd := { s.herd with doms := Tab.set Domain.fresh s.herd.doms d x } }

def State.eport (s : State) (x : Nat) : EPort := Tab.get EPort.idle s.eports x
def State.setEport (s : State) (x : Nat) (p : EPort) : State :=
  { s with eports := Tab.set EPort.idle s.eports x p }

def Lock.free : Lock := {}
def State.lock (s : State) (i : Nat) : Lock := Tab.get Lock.free s.leash.locks i
def State.setLock (s : State) (i : Nat) (l : Lock) : State :=
  { s with leash := { s.leash with locks := Tab.set Lock.free s.leash.locks i l } }

def State.whb (s : State) (b : Nat) : WhBlock := Tab.get WhBlock.idle s.ctl.wh b
def State.setWhb (s : State) (b : Nat) (x : WhBlock) : State :=
  { s with ctl := { s.ctl with wh := Tab.set WhBlock.idle s.ctl.wh b x } }

/-- What the pins show next. -/
def State.pin (s : State) (p : PinEvent) : State := { s with pins := p :: s.pins }

/-- Draw a free value: the spec states none (log entry 5). -/
def State.free (s : State) : BitVec 128 × State :=
  (Config.freeValue s.freeCtr, { s with freeCtr := s.freeCtr + 1 })

/-! ### Sources of the Event Hub (R521, R522) -/

namespace Ev
abbrev HOST_ACCESS : Nat := 0
abbrev CFG_ZERO : Nat := 1
abbrev BOOT_FALLBACK : Nat := 2
abbrev SURVEY_FAULT : Nat := 3
abbrev EPOCH_DRAINED : Nat := 4
abbrev CMD_AUTH : Nat := 5
abbrev KEEPER_LOCKSTEP (k : Nat) : Nat := 6 + k
abbrev WH_TIMEOUT (h : Nat) : Nat := 8 + h
abbrev METRO_SEAL : Nat := 14
abbrev SRAM_CE : Nat := 15
abbrev SRAM_UE : Nat := 16
abbrev FATAL : Nat := 17
abbrev DBG_HALT : Nat := 18
abbrev PACE_LIMIT : Nat := 32
abbrev DSP_DLY_FULL : Nat := 33
abbrev DSP_SCENT_LOST : Nat := 34
abbrev HERD_HOLE : Nat := 35
abbrev KN_DOUBLE_FREE : Nat := 36
abbrev KN_BAD_FREE : Nat := 37
abbrev LEASH_DENIED : Nat := 38
abbrev LEASH_BROKEN : Nat := 39
abbrev TBL_EVICT : Nat := 40
abbrev TBL_PARITY : Nat := 41
abbrev TDMA_DONE (r : Nat) : Nat := 42 + r
abbrev DEADLOCK (p : Nat) : Nat := 64 + p
abbrev ENG_TRAP (p : Nat) : Nat := 96 + p
abbrev HLP_TLIM (p : Nat) : Nat := 128 + p
abbrev DRAM_CE : Nat := 160
abbrev DRAM_UE : Nat := 161
abbrev DRAM_DRIFT : Nat := 162
abbrev TB_CLK : Nat := 163
abbrev TB_STEP : Nat := 164
abbrev TB_PPS : Nat := 165
abbrev TXTS_OVF : Nat := 166
abbrev TS_GBX : Nat := 167
abbrev FAB_LINK (q : Nat) : Nat := 168 + q
abbrev FAB_PEER : Nat := 180
abbrev FAB_CONFLICT : Nat := 181
abbrev PORT_LINK (n : Nat) : Nat := 192 + n
abbrev MACSEC_PN (n : Nat) : Nat := 256 + n
abbrev CAN_BUSOFF (n : Nat) : Nat := 320 + n
abbrev HOST_RING (q : Nat) (d2h : Bool) : Nat := 352 + 2 * q + d2h.toNat
abbrev SW (n : Nat) : Nat := 992 + n
end Ev

/-- The source exists on this part (R13, R521, R522). -/
def evPresent (c : Chip) (src : Nat) : Bool :=
  if src < 14 then true
  else if src = 14 then c.metro
  else if src < 19 then true
  else if 32 ≤ src ∧ src < 46 then src != 34 || c.scent
  else if 64 ≤ src ∧ src < 160 then decide ((src - 64) % 32 < c.packs)
  else if 160 ≤ src ∧ src < 168 then true
  else if 168 ≤ src ∧ src < 180 then c.fabric && decide (src - 168 < c.quads)
  else if src = 180 ∨ src = 181 then c.fabric
  else if 192 ≤ src ∧ src < 240 then decide ((src - 192) / 4 < c.quads)
  else if src = 240 then true
  else if 256 ≤ src ∧ src < 304 then c.crypto && decide ((src - 256) / 4 < c.quads)
  else if 320 ≤ src ∧ src < 344 then decide (src - 320 < c.cans)
  else if 352 ≤ src ∧ src < 384 then true
  else decide (992 ≤ src ∧ src < 1024)

/-- The stored value of a register whose reset value is 0 on every part. -/
def State.reg0 (s : State) (off : Nat) : Word :=
  match Tab.get none s.regs off with
  | some v => v
  | none => 0

/-- The sources whose EV_STATUS bit is 1. -/
def State.asserted (s : State) : List Nat :=
  (List.range 32).flatMap fun g =>
    let v := s.reg0 (Reg.EV_STATUS g)
    if v = 0 then [] else ((List.range 32).filter fun b => bitOf v b).map fun b => 32 * g + b

/-- The source is enabled. -/
def State.enabled (s : State) (src : Nat) : Bool := s.flag (Reg.EV_ENABLE (src / 32)) (src % 32)

/-- Host vector v is pending (R524, R525). -/
def State.vecPending (s : State) (v : Nat) : Bool :=
  s.asserted.any fun src =>
    s.enabled src && (s.flag (Reg.EV_ROUTE src) 8 && decide (s.fld (Reg.EV_ROUTE src) 5 0 = v))

/-- IRQ_N is driven low (R526). -/
def State.irqLow (s : State) : Bool :=
  s.asserted.any fun src => s.enabled src && s.flag (Reg.EV_ROUTE src) 10

/-- Keeper pair 1 is interrupted (R527). -/
def State.keeperIrq (s : State) : Bool :=
  s.asserted.any fun src => s.enabled src && s.flag (Reg.EV_ROUTE src) 9

/-- The three conditions of R525 hold for vector v. -/
def State.canSend (s : State) (v : Nat) : Bool :=
  s.hub.msixEn && s.hub.busMaster && !s.hub.funcMask && !s.hub.vecMask.contains v

/-- A message of vector v falls due (R525): it is sent, or it waits, at most one per vector. -/
def State.dueMsg (s : State) (v : Nat) : State :=
  if s.canSend v then s.pin (.msix v)
  else if s.hub.msgWait.contains v then s
  else { s with hub := { s.hub with msgWait := s.hub.msgWait ++ [v] } }

/-- EVENT_ASSERT (R520, R525): a present source sets its EV_STATUS bit; a vector that becomes pending has a
message due. -/
def State.raise (s : State) (src : Nat) : State :=
  if evPresent s.chip src then
    let v := s.fld (Reg.EV_ROUTE src) 5 0
    let s' := s.setFld (Reg.EV_STATUS (src / 32)) (src % 32) (src % 32) 1
    if !s.vecPending v && s'.vecPending v then s'.dueMsg v else s'
  else s

/-- After a write to EV_STATUS, EV_ENABLE or EV_ROUTE (R525): each vector of a touched source that is pending
has a message due, once. -/
def State.touchVecs (s : State) (vs : List Nat) : State :=
  vs.dedup.foldl (fun t v => if t.vecPending v then t.dueMsg v else t) s

/-- Log an access of the host in SYS_HOST_ACC and raise EV_HOST_ACCESS (R38, R39). -/
def State.hostAccess (s : State) (off cause : Nat) (write : Bool) : State :=
  (s.logFirst Reg.SYS_HOST_ACC 31 30
    (W (off % 2 ^ 26 + cause % 8 * 2 ^ 26 + write.toNat * 2 ^ 29))).raise Ev.HOST_ACCESS

/-! ### Modes of the device -/

/-- MODE of SYS_BOOT_STATUS (R515). -/
def State.mode (s : State) : Nat := s.fld Reg.SYS_BOOT_STATUS 13 12

/-- Minimal mode (R512). -/
def State.minimal (s : State) : Bool := decide (s.mode = 2)

/-- The interior and the protocol engines run: not after a FATAL error (R531) and not in Minimal mode
(R512). -/
def State.running (s : State) : Bool := !s.hub.fatal && !s.minimal

/-- The ingress epoch (R497). -/
def State.ing (s : State) : Nat := s.fld Reg.SYS_EPOCH 0 0

/-- FW_OWN (R32). -/
def State.fwOwn (s : State) : Bool := s.flag Reg.SYS_OWN 0

end Sys2Proof.Machine
end

