-- ==== Sys2Proof/Machine/Operands.lean ====
section
/-! DEFINITION. The operand forms of engine instructions (R83 to R95, R101, R105 to R109): widths, register
nibbles, bit reversal, delayed results of exposed timing (R111 to R114), and effective addresses. -/

namespace Sys2Proof

/-- Operation width in bits (R84). -/
def Operands.bits (o : Operands) : Nat := if o.w then 32 else if o.h then 16 else 8
/-- Access size in bytes (R84). -/
def Operands.size (o : Operands) : Nat := if o.w then 4 else if o.h then 2 else 1
/-- The immediate at the operation width (R109). -/
def Operands.immW (o : Operands) : Nat := o.imm.toNat % 2 ^ o.bits

end Sys2Proof

namespace Sys2Proof.Machine

open Sys2Proof

/-- The number with its low `w` bits in reverse order. -/
def revBits (w n : Nat) : Nat := (List.range w).foldl (fun a i => a * 2 + n / 2 ^ i % 2) 0

/-- Engine, pack and local number of a context, and pack of an engine (R103). -/
def engOf (c : Nat) : Nat := c / 8
def packOf (c : Nat) : Nat := c / 128
def numOf (c : Nat) : Nat := c % 8
def packOfEng (e : Nat) : Nat := e / 16

/-- OWNER_ID of a context (R103). -/
def ownerId (c : Nat) : Nat := 0x1000 + c

/-- The 8 contexts of the engine that context `c` belongs to. -/
def siblings (c : Nat) : List Nat := (List.range 8).map fun k => c / 8 * 8 + k

/-- The register a nibble names (R107): 0 to 15 for G, 16 to 23 for S. -/
def regNo (o : Operands) (nib : BitVec 4) : Nat :=
  if o.sh && decide (8 ≤ nib.toNat) then nib.toNat + 8 else nib.toNat

/-- Read register `r` (0 to 15 G, 16 to 23 S) as context `c` sees it. -/
def State.greg (s : State) (c r : Nat) : Word :=
  if r < 16 then Tab.get 0 (s.ctx c).g r else Tab.get 0 (s.eng (engOf c)).s (r - 16)

/-- Set bits of EV_FLAGS of a live context; a WAITEV on one of them ends (R162). -/
def Ctx.setEv (x : Ctx) (m : Word) : Ctx :=
  if x.live then
    let f := x.evFlags ||| m
    { x with
      evFlags := f
      wait := match x.wait with
        | .waitev k => if f &&& k = 0 then .waitev k else .none
        | w => w }
  else x

/-- Write G register `r` of context `c`. -/
def State.setG (s : State) (c r : Nat) (v : Word) : State :=
  s.updCtx c fun x => { x with g := Tab.set 0 x.g r v }

/-- Write S register `j` of the engine of `c`; every other context of the engine gets its SWR flag (R163). -/
def State.setS (s : State) (c j : Nat) (v : Word) : State :=
  let s := s.updEng (engOf c) fun e => { e with s := Tab.set 0 e.s j v }
  (siblings c).foldl (fun t k => if k = c then t else t.updCtx k fun x => x.setEv (W (2 ^ (8 + j)))) s

/-- Write register `r` (0 to 15 G, 16 to 23 S), zero-extended (R84). -/
def State.setR (s : State) (c r : Nat) (v : Word) : State :=
  if r < 16 then s.setG c r v else s.setS c (r - 16) v

/-- A register operand at the operation width, bit-reversed under BR (R105, R127). -/
def State.opnd (s : State) (c : Nat) (o : Operands) (nib : BitVec 4) : Nat :=
  let v := (s.greg c (regNo o nib)).toNat % 2 ^ o.bits
  if o.br then revBits o.bits v else v

/-- A register at the operation width, never bit-reversed: a destination read as an operand. -/
def State.dest (s : State) (c : Nat) (o : Operands) (nib : BitVec 4) : Nat :=
  (s.greg c (regNo o nib)).toNat % 2 ^ o.bits

/-- The pack runs exposed timing (R110, R117). -/
def State.exposed (s : State) (c : Nat) : Bool := s.flag (Reg.PACK_CFG (packOf c)) 0

/-- A load result (R111, R113): into a G register it lands one instruction late under exposed timing; into an
S register it is never delayed. -/
def State.land (s : State) (c r : Nat) (v : Word) : State :=
  if s.exposed c && decide (r < 16) then
    s.updCtx c fun x => { x with pend := x.pend ++ [⟨.g r, v, 0, 1⟩] }
  else s.setR c r v

/-- A product (R112): visible after two further instructions under exposed timing. -/
def State.landProduct (s : State) (c : Nat) (lo hi : Word) : State :=
  if s.exposed c then s.updCtx c fun x => { x with pend := x.pend ++ [⟨.product, lo, hi, 2⟩] }
  else s.updCtx c fun x => { x with mlo := lo, mhi := hi }

/-- A pending result lands. -/
def Ctx.landOne (x : Ctx) (p : Pend) : Ctx :=
  match p.dst with
  | .g r => { x with g := Tab.set 0 x.g r p.lo }
  | .product => { x with mlo := p.lo, mhi := p.hi }

/-- Every pending result lands (R114, R146). -/
def Ctx.landAll (x : Ctx) : Ctx :=
  { x.pend.foldl Ctx.landOne x with pend := [] }

/-- The end of an instruction of the context (R113): of the results that were pending before it (`old` of them),
those that waited for this instruction land in order; the others wait one less. -/
def Ctx.tickPend (x : Ctx) (old : Nat) : Ctx :=
  let before := x.pend.take old
  let due := before.filter fun p => p.left ≤ 1
  let rest := (before.filter fun p => 1 < p.left).map fun p => { p with left := p.left - 1 }
  { due.foldl Ctx.landOne x with pend := rest ++ x.pend.drop old }

/-- A status that lands for a waiting context at a width in bytes (R101, R201). -/
def State.deliver (s : State) (c dst bytes : Nat) (v : Word) : State :=
  if (s.ctx c).halted || (s.ctx c).frozen then s.updCtx c fun x => { x with wait := .landing v dst bytes }
  else (s.updCtx c fun x => { x with wait := .none }).land c dst (W (v.toNat % 2 ^ (8 * bytes)))

/-- The effective address of a memory mode (R94, R108) and the base after a mode 4 or 5 access. -/
def State.ea (s : State) (c : Nat) (o : Operands) : Nat × Option Nat :=
  let base := (s.greg c (regNo o o.s)).toNat
  let imm := o.imm.toNat % 2 ^ 16
  match o.m.toNat with
  | 0 => (base % 2 ^ 16, none)
  | 1 => ((base + imm) % 2 ^ 16, none)
  | 2 => (imm, none)
  | 3 => ((base + (s.greg c (regNo o o.x)).toNat) % 2 ^ 16, none)
  | 4 => (base % 2 ^ 16, some ((base + o.size) % 2 ^ 32))
  | _ => ((base + 2 ^ 32 - o.size) % 2 ^ 16, some ((base + 2 ^ 32 - o.size) % 2 ^ 32))

end Sys2Proof.Machine
end

