-- ==== Sys2Proof/Machine/Flags.lean ====
section
/-! DEFINITION. The results and flags of the arithmetic, logic and shift instructions at a width of `w` bits
(R84, R127, R128, R129, R134) and the branch conditions (R130). -/

namespace Sys2Proof.Machine

open Sys2Proof

/-- A result with its flags. -/
structure Alu where
  res : Nat
  z : Bool
  cf : Bool
  n : Bool
  v : Bool
  deriving DecidableEq, Repr

/-- The flags Z and N of a result, with C and V as given (R84). -/
def Alu.of (w res : Nat) (cf v : Bool) : Alu :=
  { res := res, z := decide (res = 0), cf := cf, n := decide (2 ^ (w - 1) ≤ res), v := v }

/-- A signed value lies outside `w` bits. -/
def overflows (w : Nat) (t : Int) : Bool :=
  decide (t < -((2 ^ (w - 1) : Nat) : Int) ∨ ((2 ^ (w - 1) : Nat) : Int) ≤ t)

/-- a + b + carry (R127). -/
def Alu.add (w a b cin : Nat) : Alu :=
  Alu.of w ((a + b + cin) % 2 ^ w) (decide (2 ^ w ≤ a + b + cin))
    (overflows w (signed w a + signed w b + cin))

/-- a − b − borrow; C is the borrow (R127). -/
def Alu.sub (w a b bin : Nat) : Alu :=
  Alu.of w ((a + 2 * 2 ^ w - b - bin) % 2 ^ w) (decide (a < b + bin))
    (overflows w (signed w a - signed w b - bin))

/-- A logic result: C and V are 0 (R124). -/
def Alu.logic (w res : Nat) : Alu := Alu.of w res false false

/-- Shift left by k < w: C is the last bit shifted out (R128). -/
def Alu.shl (w a k : Nat) : Alu :=
  Alu.of w (a * 2 ^ k % 2 ^ w) (decide (0 < k ∧ a / 2 ^ (w - k) % 2 = 1)) false

/-- Shift right with zero fill (R128). -/
def Alu.shr (w a k : Nat) : Alu :=
  Alu.of w (a / 2 ^ k) (decide (0 < k ∧ a / 2 ^ (k - 1) % 2 = 1)) false

/-- Shift right with the sign bit (R128). -/
def Alu.sar (w a k : Nat) : Alu :=
  let top := if 2 ^ (w - 1) ≤ a then 2 ^ w - 2 ^ (w - k) else 0
  Alu.of w (a / 2 ^ k + top) (decide (0 < k ∧ a / 2 ^ (k - 1) % 2 = 1)) false

/-- Rotate left: C is the last bit rotated out of the top (R128). -/
def Alu.rol (w a k : Nat) : Alu :=
  let r := a * 2 ^ k % 2 ^ w + a / 2 ^ (w - k)
  Alu.of w (if k = 0 then a else r) (decide (0 < k ∧ r % 2 = 1)) false

/-- Rotate right: C is the last bit rotated out of bit 0 (R128). -/
def Alu.ror (w a k : Nat) : Alu :=
  let r := a / 2 ^ k + a * 2 ^ (w - k) % 2 ^ w
  Alu.of w (if k = 0 then a else r) (decide (0 < k ∧ a / 2 ^ (k - 1) % 2 = 1)) false

/-- The product words MLO and MHI (R129). -/
def product (w a b : Nat) (sgn : Bool) : Word × Word :=
  let p : Int := if sgn then signed w a * signed w b else (a : Int) * (b : Int)
  let u := (p % (2 ^ 64 : Int)).toNat
  (W (u % 2 ^ 32), W (u / 2 ^ 32))

/-- The number of 1 bits. -/
def popCount (w n : Nat) : Nat := (List.range w).foldl (fun a i => a + n / 2 ^ i % 2) 0

/-- The bytes of a number of `k` bytes in reverse order (R134). -/
def swapBytes (k n : Nat) : Nat := (List.range k).foldl (fun a i => a * 256 + n / 256 ^ i % 256) 0

/-- The context with the flags of a result. -/
def Ctx.setFlags (x : Ctx) (a : Alu) : Ctx := { x with z := a.z, cf := a.cf, n := a.n, v := a.v }

def State.setFlags (s : State) (c : Nat) (a : Alu) : State := s.updCtx c fun x => x.setFlags a

/-- FLAGS as MFSP reads it (R85). -/
def Ctx.flags (x : Ctx) : Word := W (x.z.toNat + 2 * x.cf.toNat + 4 * x.n.toNat + 8 * x.v.toNat)

/-- FLAGS as MTSP writes it (R86). -/
def Ctx.putFlags (x : Ctx) (v : Word) : Ctx :=
  { x with z := bitOf v 0, cf := bitOf v 1, n := bitOf v 2, v := bitOf v 3 }

/-- A branch condition holds (R130); 0xF is no condition (R126). -/
def Ctx.cond (x : Ctx) (k : Nat) : Bool :=
  match k with
  | 0 => x.z
  | 1 => !x.z
  | 2 => x.cf
  | 3 => !x.cf
  | 4 => x.n
  | 5 => !x.n
  | 6 => x.v
  | 7 => !x.v
  | 8 => !x.cf && !x.z
  | 9 => x.cf || x.z
  | 10 => x.n == x.v
  | 11 => x.n != x.v
  | 12 => !x.z && x.n == x.v
  | 13 => x.z || x.n != x.v
  | 14 => true
  | _ => false

/-- One byte step of a CRC of `wc` bits (R135). -/
def crcStep (wc poly : Nat) (refl : Bool) (crc b : Nat) : Nat :=
  if refl then
    let rp := revBits wc poly
    (List.range 8).foldl (fun a _ => if a % 2 = 1 then (a / 2) ^^^ rp else a / 2) (crc ^^^ b)
  else
    (List.range 8).foldl
      (fun a _ => if 2 ^ (wc - 1) ≤ a then (a * 2 % 2 ^ wc) ^^^ poly else a * 2 % 2 ^ wc)
      (crc ^^^ (b * 2 ^ (wc - 8)))

/-- CRC width in bits, and the polynomial at that width (R86). -/
def crcWidth (cfg : BitVec 3) : Nat := 8 * 2 ^ (cfg.toNat % 4)
def crcPoly (lo hi : Word) (cfg : BitVec 3) : Nat := (lo.toNat + hi.toNat * 2 ^ 32) % 2 ^ crcWidth cfg
def crcRefl (cfg : BitVec 3) : Bool := decide (4 ≤ cfg.toNat)

end Sys2Proof.Machine
end

