-- ==== Sys2Proof/Machine/PortInfo.lean ====
section
/-! DEFINITION. Port numbers, quad modes, port rates and the egress index (R22, R23, R323, R324, R357, R358,
R365), and the fabric's next hop (R452, R453). -/

namespace Sys2Proof.Machine

open Sys2Proof

/-- MODE of quad q (R323, R352). -/
def State.quadMode (s : State) (q : Nat) : Nat := s.fld (Reg.PORT_QUAD q) 2 0

/-- The kind of a port number (R22). -/
inductive PortKind where
  | eth | can | mgmt | host | lfl | none
  deriving DecidableEq, Repr

/-- A port number in the mode its quad has, or `none` where it is invalid (R22, R23). -/
def portKindIn (c : Chip) (mode : Nat → Nat) (n : Nat) : PortKind :=
  if n < 48 then
    if n / 4 < c.quads then
      let m := mode (n / 4)
      if m = 1 then (if n % 4 = 0 then .eth else .none)
      else if 2 ≤ m ∧ m ≤ 6 then .eth else .none
    else .none
  else if 64 ≤ n ∧ n < 88 then (if n - 64 < c.cans then .can else .none)
  else if n = 96 then .mgmt
  else if n = 97 then .host
  else if 128 ≤ n ∧ n < 140 then
    (if n - 128 < c.quads ∧ mode (n - 128) = 7 then .lfl else .none)
  else .none

def State.portKind (s : State) (n : Nat) : PortKind := portKindIn s.chip s.quadMode n

/-- The port is valid in the current mode of its quad (R23). -/
def State.portValid (s : State) (n : Nat) : Bool := s.portKind n != .none

/-- PORT_CFG.EN of a valid port. -/
def State.portOn (s : State) (n : Nat) : Bool := s.portValid n && s.flag (Reg.PORT_CFG n) 0

/-- The egress index of a port (R365). -/
def eqIndex (n : Nat) : Option Nat :=
  if n < 48 then some n
  else if n = 96 then some 48
  else if n = 97 then some 49
  else if 128 ≤ n ∧ n < 140 then some (n - 78)
  else none

/-- The port of an egress index (R365). -/
def eqPort (x : Nat) : Nat :=
  if x < 48 then x else if x = 48 then 96 else if x = 49 then 97 else x + 78

/-- The line rate of a mode in Mb/s (R323): the rate above the line code. -/
def modeRate (m : Nat) : Nat :=
  match m with
  | 1 => 100000
  | 2 => 25000
  | 3 => 10000
  | 4 => 10000
  | 5 => 2500
  | 6 => 1000
  | 7 => 100000
  | _ => 0

/-- The port rate in Mb/s (R324, R340, R358). -/
def State.portRate (s : State) (n : Nat) : Nat :=
  match s.portKind n with
  | .eth =>
    let m := s.quadMode (n / 4)
    if m = 4 ∨ m = 6 then
      let r := Tab.get 0 s.ports.rate n
      if r = 0 then modeRate m else r
    else modeRate m
  | .mgmt => 1000
  | .host => 100000
  | .lfl => 100000
  | _ => 0

/-- EQ_OVERHEAD as a signed number (R358, R382). -/
def State.overhead (s : State) (x : Nat) : Int := signed 7 (s.fld (Reg.EQ_OVERHEAD x) 6 0)

/-- The accounted length of an output of length `lout` at a port (R357). -/
def State.accOut (s : State) (port lout : Nat) : Nat :=
  match eqIndex port with
  | none => lout
  | some x =>
    let f : Nat := match s.portKind port with
      | .eth | .mgmt => max lout 60 + 4
      | .host => max lout 60
      | .lfl => max lout 60 + 20
      | _ => lout
    ((f : Int) + s.overhead x).toNat

/-- The accounted length of a received frame (R357). -/
def State.accIn (s : State) (port len : Nat) : Nat :=
  match eqIndex port with
  | none => len
  | some x =>
    let f : Nat := match s.portKind port with
      | .eth | .mgmt => len + 4
      | .host => max len 60
      | .lfl => len + 20
      | _ => len
    ((f : Int) + s.overhead x).toNat

/-- Transmission time in nanoseconds of an accounted length, rounded up (R358). -/
def State.txTime (s : State) (port a : Nat) : Nat :=
  if s.portRate port = 0 then 0 else ceilDiv (a * 8 * 1000) (s.portRate port)

/-- Count a frame dropped for a reason that no register counts. -/
def State.countDrop (s : State) (reason port : Nat) : State :=
  { s with ports := { s.ports with counts := Tab.upd 0 s.ports.counts (reason * 256 + port) (· + 1) } }

/-! ### The fabric (R446, R447, R451 to R453) -/

/-- This device's FAB_DEV, once valid. -/
def State.fabDev (s : State) : Option Nat :=
  if s.flag Reg.FAB_STAT 4 then some (s.fld Reg.FAB_STAT 3 0) else none

/-- FAB_STAT.CONFLICT (R450). -/
def State.fabConflict (s : State) : Bool := s.flag Reg.FAB_STAT 6

/-- Link q is up (R442). -/
def State.linkUp (s : State) (q : Nat) : Bool := s.flag (Reg.FAB_LNK_STAT q) 0

/-- The next-hop quad to device `d` for order domain `od` (R452). -/
def State.nextHop (s : State) (d od : Nat) : Option Nat :=
  let r := s.reg (Reg.FAB_ROUTE d)
  if bitOf r 3 then
    if bitOf r 12 && (bitOf (W od) 0 != bitOf (W od) 8) then some (getF r 11 8) else some (getF r 7 4)
  else none

/-- Fields of the 16 header bytes of a fabric frame (R446). -/
def hdrF (b : List Byte) (i hi lo : Nat) : Nat := (byteAt b i).toNat / 2 ^ lo % 2 ^ (hi + 1 - lo)
def hdrType (b : List Byte) : Nat := hdrF b 0 7 4
def hdrDst (b : List Byte) : Nat := hdrF b 1 3 0
def hdrSrc (b : List Byte) : Nat := hdrF b 1 7 4
def hdrHops (b : List Byte) : Nat := hdrF b 2 5 3
def hdrOd (b : List Byte) : Nat := leNat ((b.drop 4).take 2)

/-- The 16 header bytes of a fabric frame (R446). -/
def fabHeader (ty dst src cls hops port od srcPort hq : Nat) (tag : Word) : List Byte :=
  [B8 (1 + ty * 16), B8 (dst + src * 16), B8 (cls + hops * 8), B8 port, B8 od, B8 (od / 256), B8 srcPort, B8 hq]
    ++ leBytes 4 tag.toNat ++ List.replicate 4 0

end Sys2Proof.Machine
end

