-- ==== Sys2Proof/Machine/FabOut.lean ====
section
/-! DEFINITION. The control channel of the fabric links (R444, R456, R457): frames that wait, their credit, and how one of
this device finds its link. -/

namespace Sys2Proof.Machine

open Sys2Proof

def State.fabLink (s : State) (q : Nat) : FabLink := Tab.get FabLink.idle s.fab.links q
def State.setFabLink (s : State) (q : Nat) (l : FabLink) : State :=
  { s with fab := { s.fab with links := Tab.set FabLink.idle s.fab.links q l } }

/-- The control frames of a link that may leave now do (R444): at a frame boundary of the link, before any data frame, as
far as the credit of 8 frames goes. -/
def State.ctlPump (s : State) (q : Nat) : State :=
  let l := s.fabLink q
  if s.linkUp q && (s.eport (50 + q)).sending.isNone then
    let go := l.ctlq.take (8 - l.ctlOut)
    let s := s.setFabLink q { l with ctlq := l.ctlq.drop go.length, ctlOut := l.ctlOut + go.length }
    go.foldl (fun t b => t.pin (.control q b)) s
  else s

/-- A control frame joins the control channel of link q. -/
def State.ctlSend (s : State) (q : Nat) (b : List Byte) : State :=
  let l := s.fabLink q
  (s.setFabLink q { l with ctlq := l.ctlq ++ [b] }).ctlPump q

/-- A control frame of this device goes toward device d, if a link leads there. -/
def State.fabControl (s : State) (ty d : Nat) (b : List Byte) : State :=
  match s.nextHop d 0 with
  | some q =>
    if s.linkUp q then s.ctlSend q (fabHeader ty d ((s.fabDev).getD 0) 0 0 0xFF 0 0 0 0 ++ b) else s
  | none => s

/-- A status goes back to a fabric peer in a type 3 frame (R457). -/
def State.fabStatus (s : State) (d : Nat) (v : Word) : State := s.fabControl 3 d (leBytes 4 v.toNat)

end Sys2Proof.Machine
end

