-- ==== Sys2Proof/Machine/Leash.lean ====
section
/-! DEFINITION. The Leash (R197 to R219): acquire, release, broken release, leaving a queue, and the
memory-word waiter tables (R211, R212). -/

namespace Sys2Proof.Machine

open Sys2Proof

/-- Owner ID of a master (R198, R103). -/
def Master.owner : Master → Nat
  | .ctx c => 0x1000 + c
  | .keeper k => 0x2000 + k
  | .host => 0x3000
  | .fabric d => 0x4000 + d
  | .debug => 0x5000

/-- The LEASH_GRP_ACC bit of an owner ID (R198). -/
def accBit (id : Nat) : Nat :=
  match id / 0x1000 with
  | 1 => (id - 0x1000) / 128
  | 2 => 32
  | 3 => 34
  | 4 => 35
  | _ => 36

/-- The owner ID has access to group g (R199, R215). -/
def State.leashAcc (s : State) (g id : Nat) : Bool :=
  let b := accBit id
  if b < 32 then decide (b < s.chip.packs) && s.flag (Reg.LEASH_GRP_ACC_LO g) b
  else s.flag (Reg.LEASH_GRP_ACC_HI g) (b - 32)

/-- EV_LEASH_DENIED with its log and count (R199, R205, R217, R218). -/
def State.leashDeny (s : State) (i id : Nat) (write : Bool) : State :=
  ((s.logFirst Reg.LEASH_DENY_LOG 15 14 (W (i + write.toNat * 0x1000 + id * 0x10000))).bump
    Reg.LEASH_DENY_CNT).raise Ev.LEASH_DENIED

/-- A status goes to a stalled reader: into the waiting context's destination, to a fabric peer in a frame, or
into the replies of another master (R201, R205, R457). -/
def State.leashReply (s : State) (id : Nat) (v : Word) : State :=
  if id / 0x1000 = 1 then
    match (s.ctx (id - 0x1000)).wait with
    | .leash _ dst bytes => s.deliver (id - 0x1000) dst bytes v
    | _ => s
  else if id / 0x1000 = 4 then s.fabStatus (id - 0x4000) v
  else { s with leash := { s.leash with replies := s.leash.replies ++ [(BitVec.ofNat 16 id, v)] } }

/-- What a lock read answers: a status now, or a stall (R199). -/
inductive LeashAns where
  | status (v : Word)
  | stall
  deriving DecidableEq, Repr

/-- A read of lock i by owner ID `id` (R199, R202, R203). -/
def State.leashRead (s : State) (i id : Nat) : LeashAns × State :=
  let g := i / 64
  let l := s.lock i
  let me := BitVec.ofNat 16 id
  if !s.leashAcc g id then (.status 4, s.leashDeny i id false)
  else if l.owner = 0 then
    if l.broken then
      (.status (W (l.prior.toNat * 0x10000 + 3)), s.setLock i { l with owner := me, broken := false, prior := 0 })
    else (.status 1, s.setLock i { l with owner := me })
  else if l.owner = me then (.status 1, s)
  else
    let tmo := s.fld (Reg.LEASH_GRP_TMO g) 19 0
    if tmo = 0 ∨ id = 0x3000 ∨ id = 0x5000 then (.status 8, s)
    else (.stall, s.setLock i { l with queue := l.queue ++ [⟨me, s.fr, s.fr + tmo * 128⟩] })

/-- The lock passes to its head waiter with a status, or becomes free (R205, R208). -/
def State.leashPass (s : State) (i : Nat) (status : Word) : State :=
  let l := s.lock i
  match l.queue with
  | [] => s.setLock i { l with owner := 0 }
  | w :: t => (s.setLock i { l with owner := w.id, queue := t }).leashReply w.id.toNat status

/-- A write to lock i by owner ID `id` (R205). -/
def State.leashWrite (s : State) (i id : Nat) : State :=
  if (s.lock i).owner = BitVec.ofNat 16 id ∧ id ≠ 0 then s.leashPass i 1 else s.leashDeny i id true

/-- A broken release of lock i (R208). -/
def State.leashBreakOne (s : State) (i : Nat) : State :=
  let l := s.lock i
  let s := (s.bump Reg.LEASH_BROKEN_CNT).raise Ev.LEASH_BROKEN
  match l.queue with
  | [] => s.setLock i { l with owner := 0, broken := true, prior := l.owner }
  | _ :: _ => s.leashPass i (W (l.owner.toNat * 0x10000 + 3))

/-- An owner leaves every waiter queue (R201). -/
def State.leashLeave (s : State) (id : Nat) : State :=
  let me := BitVec.ofNat 16 id
  s.leash.locks.foldl (fun t p =>
    if (t.lock p.1).queue.any (fun w => w.id == me) then
      t.setLock p.1 { t.lock p.1 with queue := (t.lock p.1).queue.filter fun w => w.id != me }
    else t) s

/-- An owner ceases to exist: it leaves every waiter queue and its locks are released as broken (R201, R207). -/
def State.leashBreak (s : State) (id : Nat) : State :=
  let me := BitVec.ofNat 16 id
  let s := s.leashLeave id
  s.leash.locks.foldl (fun t p => if (t.lock p.1).owner = me then t.leashBreakOne p.1 else t) s

/-- Clearing access bits of a group (R210): every stalled reader that has lost its bit leaves with DENIED. -/
def State.leashRecheck (s : State) (g : Nat) : State :=
  (List.range 64).foldl (fun t k =>
    let i := g * 64 + k
    (t.lock i).queue.foldl (fun u w =>
      if u.leashAcc g w.id.toNat then u
      else
        ((u.setLock i { u.lock i with queue := (u.lock i).queue.filter fun x => x.id != w.id }).leashReply
          w.id.toNat 4).leashDeny i w.id.toNat false) t) s

/-- LEASH_PEEK of lock i (R216). -/
def State.leashPeek (s : State) (i : Nat) : Word :=
  let l := s.lock i
  W (l.owner.toNat + (decide (l.owner ≠ 0)).toNat * 0x10000 + l.broken.toNat * 0x20000
    + l.queue.length * 0x80000)

/-! ### Memory-word locks (R211, R212) -/

/-- The byte number of a word of memory m (0 to 31 pack shared memory, 32 common SRAM) in its table. -/
def mwBase (m : Nat) : Nat := if m < 32 then m * 0x40000 else 0

/-- Read `n` bytes at byte `a` of memory m. -/
def State.mwRead (s : State) (m a n : Nat) : Nat :=
  if m < 32 then s.mem.psm.rdN (mwBase m + a) n else s.mem.csm.rdN a n

/-- Write `n` bytes at byte `a` of memory m, with no grant. -/
def State.mwPut (s : State) (m a n v : Nat) : State :=
  if m < 32 then { s with mem := { s.mem with psm := s.mem.psm.wrN (mwBase m + a) n v } }
  else { s with mem := { s.mem with csm := s.mem.csm.wrN a n v } }

/-- After a write to the word at byte `w` of memory m: if it is 0 and has waiters, the oldest takes it in the
same step (R212). -/
def State.mwGrant (s : State) (m w : Nat) : State :=
  if s.mwRead m w 4 = 0 then
    let q := Tab.get [] s.leash.mwq m
    match q.find? (fun p => p.1 == w) with
    | none => s
    | some (_, c) =>
      let s := { s with leash := { s.leash with mwq := Tab.set [] s.leash.mwq m (q.erase (w, c)) } }
      let s := s.mwPut m w 4 (ownerId c)
      match (s.ctx c).wait with
      | .memWord _ _ dst => s.deliver c dst 4 0
      | _ => s
  else s

/-- A write of `n` bytes at byte `a` of memory m by any master, with the grants it brings (R212). -/
def State.mwWrite (s : State) (m a n v : Nat) : State :=
  let s := s.mwPut m a n v
  (List.range ((a % 4 + n + 3) / 4)).foldl (fun t k => t.mwGrant m (a / 4 * 4 + 4 * k)) s

/-- A W-width ACQ load of the word at byte `a` of memory m by context c into register `dst` (R211). -/
def State.mwAcquire (s : State) (m a c dst : Nat) : State :=
  let v := s.mwRead m a 4
  if v = 0 then (s.mwPut m a 4 (ownerId c)).land c dst 0
  else
    let q := Tab.get [] s.leash.mwq m
    if q.length < 16 then
      let s := s.updCtx c fun x => { x with wait := .memWord m a dst }
      ({ s with leash := { s.leash with mwq := Tab.set [] s.leash.mwq m (q ++ [(a, c)]) } }).peakF
        (Reg.LEASH_MW_STAT m) 4 0 (q.length + 1)
    else (s.bumpF (Reg.LEASH_MW_STAT m) 31 16).land c dst (W v)

/-- Context c leaves every memory-word waiter table (R212). -/
def State.mwLeave (s : State) (c : Nat) : State :=
  s.leash.mwq.foldl (fun t p =>
    { t with leash := { t.leash with
        mwq := Tab.set [] t.leash.mwq p.1 ((Tab.get [] t.leash.mwq p.1).filter fun x => x.2 != c) } }) s

end Sys2Proof.Machine
end

