-- ==== Sys2Proof/Machine/Kennel.lean ====
section
/-! DEFINITION. The Kennel (R310 to R322): allocation, freeing, chains, pool writes. -/

namespace Sys2Proof.Machine

open Sys2Proof

/-- KN_NULL (R310). -/
abbrev KN_NULL : Nat := 0x3FFFF
/-- Cells of the device (R310). -/
abbrev CELLS : Nat := 196608

/-- The state bit of a cell (R311). -/
def State.cellUsed (s : State) (h : Nat) : Bool := Tab.get false s.kn.state h
/-- The NEXT link of a cell; KN_NULL for no cell (R311, R318). -/
def State.cellNext (s : State) (h : Nat) : Nat := if h < CELLS then Tab.get KN_NULL s.kn.next h else KN_NULL

def State.setCell (s : State) (h : Nat) (used : Bool) (next : Nat) : State :=
  { s with kn := { state := Tab.set false s.kn.state h used, next := Tab.set KN_NULL s.kn.next h next } }

def State.poolBase (s : State) (p : Nat) : Nat := s.fld (Reg.KN_POOL_BASE p) 17 0
def State.poolSize (s : State) (p : Nat) : Nat := s.fld (Reg.KN_POOL_SIZE p) 17 0
def State.poolFree (s : State) (p : Nat) : Nat := s.fld (Reg.KN_FREE_CNT p) 17 0

/-- The first free cell at or after the cursor of a pool, wrapping, within `n` tests (R314). -/
def State.knFind (s : State) (base size : Nat) : Nat → Nat → Option Nat
  | 0, _ => none
  | n + 1, h => if s.cellUsed h then s.knFind base size n (if h + 1 = base + size then base else h + 1) else some h

/-- Take `n` cells one after another, chaining them after `prev` (R314). -/
def State.knTake (s : State) (p : Nat) : Nat → Nat → Nat → Nat × State
  | 0, first, _ => (first, s)
  | n + 1, first, prev =>
    let base := s.poolBase p
    let size := s.poolSize p
    match s.knFind base size size (s.fld (Reg.KN_CURSOR p) 17 0) with
    | none => (first, s)
    | some h =>
      let s := s.setCell h true KN_NULL
      let s := if prev = KN_NULL then s else s.setCell prev true h
      let s := s.setFld (Reg.KN_CURSOR p) 17 0 (if h + 1 = base + size then base else h + 1)
      s.knTake p n (if prev = KN_NULL then h else first) h

/-- ALLOC of n cells from pool p: the first cell, or none when the pool has too few (R314). -/
def State.knAlloc (s : State) (p n : Nat) : Option Nat × State :=
  if n = 0 then (some KN_NULL, s)
  else if s.poolFree p < n then (none, s.bump (Reg.KN_EMPTY_CNT p))
  else
    let (first, s) := s.knTake p n KN_NULL KN_NULL
    (some first, s.setFld (Reg.KN_FREE_CNT p) 17 0 (s.poolFree p - n))

/-- A free that is ignored (R316, R321): event, log and count. -/
def State.knBad (s : State) (h p cause : Nat) (dev : Bool) : State :=
  ((s.logFirst Reg.KN_ERR_LOG 31 30
      (W (h % 2 ^ 18 + p * 2 ^ 18 + cause * 2 ^ 23 + dev.toNat * 2 ^ 24))).bump Reg.KN_ERR_CNT).raise
    (if cause = 1 then Ev.KN_BAD_FREE else Ev.KN_DOUBLE_FREE)

/-- Free one cell of pool p: whether it was freed, and the state (R316). -/
def State.knFreeOne (s : State) (h p : Nat) (dev : Bool) : Bool × State :=
  if h < s.poolBase p ∨ s.poolBase p + s.poolSize p ≤ h then (false, s.knBad h p 1 dev)
  else if !s.cellUsed h then (false, s.knBad h p 0 dev)
  else (true, (s.setCell h false KN_NULL).setFld (Reg.KN_FREE_CNT p) 17 0 (s.poolFree p + 1))

/-- Free the chain from h, at most `n` cells (R316). -/
def State.knFreeChain (s : State) (p : Nat) (dev : Bool) : Nat → Nat → State
  | 0, _ => s
  | n + 1, h =>
    let next := s.cellNext h
    let (ok, s) := s.knFreeOne h p dev
    if ok && next != KN_NULL then s.knFreeChain p dev n next else s

/-- A free by the engine port or by the device (R316), of a pool numbered in 5 bits (R312). A chain has at most as many
cells as the pool can free. -/
def State.knFree (s : State) (h p : Nat) (chain dev : Bool) : State :=
  let q := p % 32
  if chain then s.knFreeChain q dev (s.poolSize q + 1) h else (s.knFreeOne h q dev).2

/-- The cells of a chain in order, at most `n` (R138, R311). -/
def State.chain (s : State) : Nat → Nat → List Nat
  | 0, _ => []
  | n + 1, h => if h = KN_NULL then [] else h :: s.chain n (s.cellNext h)

/-- `n` bytes of the frame that starts at cell `h`, from byte `a`; a byte beyond a KN_NULL link reads 0 (R138). -/
def State.frameBytes (s : State) (h a n : Nat) : List Byte :=
  let cs := s.chain ((a + n + 255) / 256) h
  (List.range n).map fun i =>
    match cs[(a + i) / 256]? with
    | some c => s.mem.cells.rd (c * 256 + (a + i) % 256)
    | none => 0

/-- Write a frame into a chain of cells (R311, R24 step 3). -/
def State.putFrame (s : State) (h : Nat) (b : List Byte) : State :=
  let cs := s.chain ((b.length + 255) / 256) h
  { s with mem := { s.mem with
      cells := ((List.range b.length).zip b).foldl (fun m p =>
        match cs[p.1 / 256]? with
        | some c => m.wr (c * 256 + p.1 % 256) p.2
        | none => m) s.mem.cells } }

/-- Two pools overlap (R312). -/
def rangesMeet (b1 n1 b2 n2 : Nat) : Bool := decide (b1 < b2 + n2 ∧ b2 < b1 + n1)

/-- A write that gives pool p the range (base, size) is ignored (R312): a bad range, or cells allocated. -/
def State.knPoolRefused (s : State) (p base size : Nat) : Bool × Bool :=
  let bad := decide (CELLS < base + size) ||
    (List.range 32).any fun q =>
      q != p && decide (0 < s.poolSize q ∧ 0 < size) && rangesMeet base size (s.poolBase q) (s.poolSize q)
  (bad, decide (s.poolFree p ≠ s.poolSize p))

/-- A pool write that takes effect (R312). -/
def State.knPoolSet (s : State) (p base size : Nat) : State :=
  let inR := fun (h : Nat) => decide (base ≤ h ∧ h < base + size)
  let s := { s with kn := { state := s.kn.state.filter (fun q => !inR q.1), next := s.kn.next.filter (fun q => !inR q.1) } }
  (((s.setReg (Reg.KN_POOL_BASE p) (W base)).setReg (Reg.KN_POOL_SIZE p) (W size)).setReg
    (Reg.KN_FREE_CNT p) (W size)).setReg (Reg.KN_CURSOR p) (W base)

/-- KN_CELL[h] (R322). -/
def State.knCell (s : State) (h : Nat) : Word := W (s.cellNext h + (s.cellUsed h).toNat * 2 ^ 31)

end Sys2Proof.Machine
end

