-- ==== Sys2Proof/Machine/DispQueue.lean ====
section
/-! DEFINITION. The Dispatcher's queues as the other units see them (R221, R223, R239 to R241): depth, pool,
back-pressure, entering and leaving. -/

namespace Sys2Proof.Machine

open Sys2Proof

/-- The jobs of queue q, head first. -/
def State.dq (s : State) (q : Nat) : List Nat := Tab.get [] s.disp.queues q

/-- The depth of queue q: its entries in use, those of parked jobs and of jobs whose Fetch slot copy is under way
included (R221, R231, R239). -/
def State.qDepth (s : State) (q : Nat) : Nat :=
  (s.dq q).length + (s.herd.jobs.filter fun p => p.2.place == .parked q || p.2.entry == some q).length

/-- Queue entries in use (R221). -/
def State.poolUsed (s : State) : Nat :=
  s.disp.queues.foldl (fun n p => n + p.2.length) 0
    + (s.herd.jobs.filter fun p => p.2.entry.isSome || match p.2.place with | .parked _ => true | _ => false).length

/-- Delay entries in use (R235, R237). -/
def State.dlyUsed (s : State) : Nat :=
  (s.herd.jobs.filter fun p => p.2.listed && match p.2.place with | .delay _ => true | _ => false).length

/-- LIMIT of queue q (R250). -/
def State.qLimit (s : State) (q : Nat) : Nat := s.fld (Reg.DSP_QLIM (q % 8)) 14 0

/-- Queue q is under back-pressure (R241). -/
def State.qBp (s : State) (q : Nat) : Bool := Tab.get false s.disp.bp q

/-- The back-pressure of queue q after a change of its depth or thresholds, and its peak (R241, R251). -/
def State.qRefresh (s : State) (q : Nat) : State :=
  let d := s.qDepth q
  let thr := s.fld (Reg.DSP_QCFG (q % 8)) 14 0
  let low := s.fld (Reg.DSP_QCFG (q % 8)) 30 16
  let lim := s.qLimit q
  let bp := if (0 < thr ∧ thr ≤ d) ∨ lim ≤ d then true
    else if thr = 0 ∨ d ≤ low then false
    else s.qBp q
  ({ s with disp := { s.disp with bp := Tab.set false s.disp.bp q bp } }).peakF (Reg.DSP_QSTAT q) 30 16 d

/-- Queue q takes one more entry (R221, R233, R237). -/
def State.qRoom (s : State) (q : Nat) : Bool :=
  decide (s.qDepth q < s.qLimit q) && decide (s.poolUsed < 16384)

/-- Job j enters queue q, at its tail or at its head (R223, R233); its wait starts anew. -/
def State.enqueue (s : State) (j q : Nat) (atHead : Bool) : State :=
  let l := s.dq q
  let s := { s with disp := { s.disp with queues := Tab.set [] s.disp.queues q (if atHead then j :: l else l ++ [j]) } }
  (s.updJob j fun x =>
    { x with place := .queue q, shard := q / 8, enqNs := s.fr % 2 ^ 32, enqAt := s.fr, parkedOnce := false }).qRefresh q

/-- Job j gives back the queue entry it holds for a Fetch slot copy (R221). -/
def State.freeEntry (s : State) (j : Nat) : State :=
  match (s.job j).entry with
  | some q => (s.updJob j fun x => { x with entry := none }).qRefresh q
  | none => s

/-- Job j leaves the queue, wait register, delay list or Fetch slot it is in (R243, R267). -/
def State.dispRemove (s : State) (j : Nat) : State :=
  match (s.job j).place with
  | .queue q =>
    (({ s with disp := { s.disp with queues := Tab.upd [] s.disp.queues q (·.erase j) } }).updJob j
      fun x => { x with place := .gone }).qRefresh q
  | .parked q => (s.updJob j fun x => { x with place := .gone }).qRefresh q
  | .delay sh =>
    ({ s with disp := { s.disp with delays := Tab.upd [] s.disp.delays sh (·.erase j) } }).updJob j
      fun x => { x with place := .gone, listed := false }
  | .slot e i =>
    ((s.updEng e fun g => if i = 0 then { g with fs0 := none } else { g with fs1 := none }).updJob j
      fun x => { x with place := .gone }).freeEntry j
  | _ => s

/-! ### Flow contexts (R223, R229, R351) -/

/-- LAST_ENG of an order domain when LAST_V is 1 and its pack is present (R229, R351). -/
def State.lastEng (s : State) (od : Nat) : Option Nat :=
  let v := s.mem.flow.rdN (od * 64) 2
  let e := v % 512
  if 0x8000 ≤ v ∧ e / 16 < s.chip.packs then some e else none

/-- A placement sets LAST_ENG and LAST_V (R229, R351). -/
def State.setLastEng (s : State) (od e : Nat) : State :=
  { s with mem := { s.mem with flow := s.mem.flow.wrN (od * 64) 2 (0x8000 + e) } }

/-- The shard a job is enqueued in (R223). -/
def State.shardOf (s : State) (od : Nat) : Nat :=
  match s.lastEng od with
  | some e => e / 128
  | none => od % s.chip.shards

/-- DSP_CLASS_MAP of an epoch: priority and timing class of a traffic class (R222, R247). -/
def State.classMap (s : State) (e cls : Nat) : Nat × Bool :=
  let v := s.reg (if e = 0 then Reg.DSP_CLASS_MAP0 else Reg.DSP_CLASS_MAP1)
  (getF v (4 * cls + 2) (4 * cls), bitOf v (4 * cls + 3))

/-- The queue a job is enqueued in (R223). -/
def State.queueOf (s : State) (j : Nat) : Nat := s.shardOf (s.job j).od * 8 + (s.job j).prio

/-- A recall waits for an entry of queue q (R233). -/
def State.recallWaits (s : State) (q : Nat) : Bool :=
  s.engs.any fun p => (p.2.fs0.toList ++ p.2.fs1.toList).any fun f => f.recalled && s.queueOf f.job == q

/-- The due jobs of a delay list in order (R236). -/
def State.dueJobs (s : State) (sh : Nat) : List Nat :=
  (Tab.get [] s.disp.delays sh).filter fun j => decide ((s.job j).expiry ≤ s.disp.tick)

/-- A due job waits for queue q (R236). -/
def State.dueWaits (s : State) (q : Nat) : Bool :=
  (List.range 4).any fun sh => (s.dueJobs sh).any fun j => s.queueOf j == q

end Sys2Proof.Machine
end

