-- ==== Sys2Proof/Machine/Herder.lean ====
section
/-! DEFINITION. The Herder (R256 to R270): release of committed outputs in order, passing sequence numbers,
retirement (R140, R141), holes, and the epoch counts (R270, R488). -/

namespace Sys2Proof.Machine

open Sys2Proof

/-- A block enters the reply queue of host pair h, or waits for room behind its 16 entries (R477). -/
def State.queueReply (s : State) (h : Nat) (r : Reply) : State :=
  if (Tab.get [] s.ctl.replyQ h).length < 16 then
    { s with ctl := { s.ctl with replyQ := Tab.upd [] s.ctl.replyQ h (· ++ [r]) } }
  else { s with ctl := { s.ctl with lateQ := Tab.upd [] s.ctl.lateQ h (· ++ [r]) } }

/-- The firmware posts NOTIFY on every host pair (R463, R475, R488). -/
def State.notifyAll (s : State) (reason : Nat) : State :=
  let blk := [W 3, W reason] ++ List.replicate 14 0
  (List.range 4).foldl (fun t h => t.queueReply h blk) s

/-! ### Outputs -/

/-- The live contexts of a job. -/
def State.jobCtxs (s : State) (j : Nat) : List Nat :=
  (s.ctxs.filter fun p => p.2.live && p.2.job == some j).map (·.1)

/-- The queue of class c at egress index x (R366). -/
def State.eq (s : State) (x c : Nat) : List Nat := Tab.get [] (s.eport x).queues c

/-- Outputs queued in the egress store (R366). -/
def State.egressUsed (s : State) : Nat :=
  s.eports.foldl (fun n p => p.2.queues.foldl (fun m q => m + q.2.length) n) 0

/-- Outputs on their path to the Egress scheduler. -/
def State.onPaths (s : State) : Nat := (s.herd.outs.filter fun p => p.2.place == .path).length

/-- The port an output goes to: a routed one leaves by the next hop of its header's DST and OD as the routes stand
(R452, R453); with no route it keeps the port it had. -/
def State.outPort (s : State) (o : Output) : Nat :=
  if o.routed then
    match s.nextHop (hdrDst o.fabHdr) (hdrOd o.fabHdr) with
    | some q => 128 + q
    | none => o.port
  else o.port

/-- Outputs on the path to the queue of class c at a port. -/
def State.onPath (s : State) (port c : Nat) : Nat :=
  (s.herd.outs.filter fun p => p.2.place == .path && s.outPort p.2 == port && p.2.cls == c).length

/-- The Herder holds this output in its place: a host or LFL output whose queue or the store is full (R366). -/
def State.outHeld (s : State) (o : Output) : Bool :=
  let port := s.outPort o
  match s.portKind port, eqIndex port with
  | .host, some x | .lfl, some x =>
    s.portOn port &&
      decide (s.fld (Reg.EQ_CLASS x o.cls) 27 16 ≤ (s.eq x o.cls).length + s.onPath port o.cls
        ∨ 131072 ≤ s.egressUsed + s.onPaths)
  | _, _ => false

/-- Free entries of the output store (R275). -/
def State.storeFree (s : State) : Nat := s.fld Reg.HERD_STORE 15 0

/-- Output k leaves for its path to the Egress scheduler (R260): it gives back its store entry, and joins the
path behind every earlier release (R21). -/
def State.outRelease (s : State) (k : Nat) : State :=
  let o := s.out k
  let s := if o.counted then s.setFld Reg.HERD_STORE 15 0 (s.storeFree + 1) else s
  let n := s.herd.nextOut
  { s with herd := { s.herd with
      nextOut := n + 1
      outs := Tab.set Output.none s.herd.outs k { o with place := .path, counted := false, order := n } } }

/-- Some output of job j has not gone. -/
def State.outWaits (s : State) (j : Nat) : Bool :=
  s.herd.outs.any fun p => p.2.job == some j && p.2.place == .store

/-- Some output of job j with a tail has not been sent (R141). -/
def State.tailLeft (s : State) (j : Nat) : Bool :=
  s.herd.outs.any fun p => p.2.job == some j && decide (0 < p.2.tailLen)

/-! ### Cells, epoch count, end of a job's record -/

/-- The job has retired or become a hole. -/
def Job.finished (x : Job) : Bool := x.retired || x.hole

/-- The device frees the job's cells once it may (R141). -/
def State.freeCells (s : State) (j : Nat) : State :=
  let x := s.job j
  if x.finished && !x.freed && !s.tailLeft j then
    (s.knFree x.cell x.pool true true).updJob j fun y => { y with freed := true }
  else s

/-- The register that counts the jobs of an epoch, 0 or 1 (R270). -/
def epochCnt (e : Nat) : Nat := Reg.HERD_EPOCH_CNT (e % 2)

/-- The old epoch has drained (R488). -/
def State.epochReport (s : State) (e : Nat) : State :=
  if s.ing ≠ e ∧ s.fld (epochCnt e) 17 0 = 0 then
    ((s.setFld Reg.SYS_EPOCH 2 2 1).raise Ev.EPOCH_DRAINED).notifyAll 2
  else s

/-- The job leaves the count of its epoch once it may (R270). -/
def State.leaveEpoch (s : State) (j : Nat) : State :=
  let x := s.job j
  if x.finished && !x.left && !s.outWaits j then
    let n := s.fld (epochCnt x.epoch) 17 0
    ((s.setFld (epochCnt x.epoch) 17 0 (n - 1)).updJob j fun y => { y with left := true }).epochReport x.epoch
  else s

/-- The record of a job that nothing can name any more is dropped. -/
def State.reap (s : State) (j : Nat) : State :=
  let x := s.job j
  if x.passed && x.left && x.freed && x.place == .gone
      && !(s.herd.outs.any fun p => p.2.job == some j) then s.setJob j Job.none
  else s

/-- What follows for a job when one of its outputs or its state has changed. -/
def State.settle (s : State) (j : Nat) : State := ((s.freeCells j).leaveEpoch j).reap j

/-! ### The head of an order domain -/

/-- The job whose sequence number is the head of its domain and has not passed (R259). -/
def State.isHead (s : State) (j : Nat) : Bool :=
  let x := s.job j
  !x.passed && decide (BitVec.ofNat 16 x.seq = (s.od x.od).head)

/-- The head job of a domain (R259). -/
def State.headJob (s : State) (d : Nat) : Option Nat :=
  (s.herd.jobs.find? fun p => p.2.od == d && s.isHead p.1).map (·.1)

/-- The hole timer of a domain starts when a job becomes its head (R265). -/
def State.startTimer (s : State) (d : Nat) : State :=
  let t := s.headJob d
  let x := s.od d
  if x.timing = t then s
  else s.setOd d { x with timing := t, ran := 0, limit := if t.isSome then s.fld Reg.HERD_TMO 19 0 * 1000 else 0 }

/-- The head passes the sequence number of job j (R260). -/
def State.pass (s : State) (j : Nat) : State :=
  let x := s.job j
  let d := s.od x.od
  (((s.updJob j fun y => { y with passed := true }).setOd x.od { d with head := d.head + 1 }).startTimer x.od).settle j

/-- Job j becomes a hole with no context left (R267, R269, R273): it leaves the queue or list it is in, its hole
is logged, counted and raised. -/
def State.holeMark (s : State) (j cause : Nat) : State :=
  let x := s.job j
  let s := s.dispRemove j
  let s := if s.flag Reg.HERD_HOLE_LOG0 31 then s else s.setReg Reg.HERD_HOLE_LOG1 (W x.seq)
  let s := s.logFirst Reg.HERD_HOLE_LOG0 31 30 (W (x.od + cause * 2 ^ 16 + x.epoch * 2 ^ 17))
  ((s.bump Reg.HERD_HOLES).raise Ev.HERD_HOLE).updJob j fun y => { y with hole := true, place := .gone }

/-- Job j holds an output that is not gone, of those committed before its RELEASE (`early` false) or after it. -/
def State.outLeft (s : State) (j : Nat) (early : Bool) : Bool :=
  s.herd.outs.any fun p => p.2.job == some j && p.2.place == .store && p.2.early == early

/-- Output k of job j is the first of its kind that is not gone (R261, R263). -/
def State.outFirst (s : State) (k j : Nat) (o : Output) : Bool :=
  !(s.herd.outs.any fun p =>
    decide (p.1 < k) && p.2.job == some j && p.2.place == .store && p.2.early == o.early)

/-- Output k may go: its job is the head, has passed as a hole, or has given up ordering, and the Herder does not
hold it (R259, R263, R267, R366). -/
def State.outDue (s : State) (d : Nat) (passed : Bool) (p : Nat × Output) : Bool :=
  p.2.place == .store &&
    match p.2.job with
    | some j =>
      (s.job j).od == d
        && (if passed then (s.job j).passed && !p.2.early else p.2.early || s.isHead j)
        && s.outFirst p.1 j p.2 && !s.outHeld p.2
    | none => false

/-- Output k was left behind in the store of domain d by a job that has passed as a hole (R267). -/
def State.leftBehind (s : State) (d : Nat) (o : Output) : Bool :=
  o.place == .store && !o.early && o.job.any fun j => (s.job j).od == d && (s.job j).passed

/-- How far the sequence number of an output's job lies behind the head. -/
def State.behind (s : State) (d : Nat) (o : Output) : Nat :=
  match o.job with
  | some j => ((s.od d).head - BitVec.ofNat 16 (s.job j).seq).toNat
  | none => 0

/-- The next output of a domain to go (R261): those that holes left behind come first, in sequence order, and while one of
them waits only outputs without order go. -/
def State.dueOut (s : State) (d : Nat) : Option (Nat × Output) :=
  let left := s.herd.outs.filter fun p => s.leftBehind d p.2
  let free := s.herd.outs.find? fun p => p.2.early && s.outDue d false p
  match left with
  | [] => s.herd.outs.find? (s.outDue d false)
  | p :: l =>
    let first := l.foldl (fun b q => if s.behind d b.2 < s.behind d q.2 then q else b) p
    if s.outDue d true first then some first else free

/-- One move of the Herder in a domain, or none when it waits (R259 to R263, R366). -/
def State.herdMove (s : State) (d : Nat) : Option State :=
  match s.dueOut d with
  | some (k, o) => some (match o.job with
      | some j => (s.outRelease k).settle j
      | none => s.outRelease k)
  | none =>
    match s.headJob d with
    | none => none
    | some j =>
      let x := s.job j
      if x.aborted && !x.finished then some ((s.holeMark j 1).pass j)
      else if x.hole || (x.retired && !s.outWaits j) || (x.released && !s.outLeft j false) then some (s.pass j)
      else none

/-- The Herder moves until the domain waits (R260). -/
def State.herdLoop (d : Nat) : Nat → State → State
  | 0, s => s
  | n + 1, s =>
    match s.herdMove d with
    | none => s
    | some t => State.herdLoop d n t

/-- The Herder tests a domain: every output and every job gives at most one move. -/
def State.herdRun (s : State) (d : Nat) : State :=
  State.herdLoop d (s.herd.outs.length + s.herd.jobs.length + 1) s

/-- Space has freed in an egress queue: every domain with an output the Herder holds is tested (R366). -/
def State.herdKick (s : State) : State :=
  let ds := (s.herd.outs.filterMap fun p => if p.2.place == .store then p.2.job.map (fun j => (s.job j).od) else none).dedup
  ds.foldl (fun t d => t.herdRun d) s

/-- JOB_RETIRE (R140): a job without a transmitted output counts as a drop of engine e. Held commits of other
contexts are the caller's (R264). -/
def State.retireCore (s : State) (j e : Nat) : State :=
  let x := s.job j
  if x.retired then s
  else
    let s := s.updJob j fun y => { y with retired := true }
    let s := if x.emitted then s else s.updEng e fun g => { g with drops := satInc 32 g.drops }
    (s.settle j).herdRun x.od

/-- The contexts of a head job that stop its hole timer (R266). -/
def State.timerStopped (s : State) (j : Nat) : Bool :=
  !s.flag Reg.DBG_CFG 0 && (s.jobCtxs j).any fun c => (s.ctx c).halted || (s.ctx c).frozen

end Sys2Proof.Machine
end

