-- ==== Sys2Proof/Machine/Credit.lean ====
section
/-! DEFINITION. Credit-based shaping (R375 to R377). -/

namespace Sys2Proof.Machine

open Sys2Proof

/-- Gate c is open in a mask. -/
def gateBit (g : Byte) (c : Nat) : Bool := g.toNat / 2 ^ c % 2 = 1

/-- Some output waits in the queue of class c. -/
def State.eqBusy (s : State) (x c : Nat) : Bool := !(s.eq x c).isEmpty

/-- The class in transmission at egress index x. -/
def State.txClass (s : State) (x : Nat) : Option Nat := (s.eport x).sending.map fun k => (s.out k).cls

/-- CBS_EN of a class. -/
def State.cbsOn (s : State) (x c : Nat) : Bool := s.flag (Reg.EQ_CLASS x c) 4

/-- The credit of a class after dt ns in the state it is in, in 1/8,000 byte. -/
def State.creditAfter (s : State) (x c dt : Nat) : Int :=
  let p := s.eport x
  let v := Tab.get 0 p.credit c
  let i : Int := ((s.fld (Reg.EQ_CBS x c) 16 0 * dt : Nat) : Int)
  let r : Int := ((s.portRate (eqPort x) * dt : Nat) : Int)
  let burst : Int := ((s.fld (Reg.EQ_BURST x c) 19 0 * 8000 : Nat) : Int)
  if !s.cbsOn x c then v
  else if s.txClass x = some c then (if r < i then min (v + i - r) burst else v + i - r)
  else if !s.eqBusy x c then (if v < 0 then min (v + i) 0 else 0)
  else if gateBit p.gates c then (if v < burst then min (v + i) burst else v)
  else v

/-- The credits of egress index x are brought to now: called before anything that changes a class's state. -/
def State.creditSync (s : State) (x : Nat) : State :=
  let p := s.eport x
  let dt := s.fr - p.lastCredit
  let cr := (List.range 8).foldl (fun (t : Tab Int) c => Tab.set 0 t c (s.creditAfter x c dt)) p.credit
  s.setEport x { p with credit := cr, lastCredit := s.fr }

end Sys2Proof.Machine
end

