-- ==== Sys2Proof/Machine/Contexts.lean ====
section
/-! DEFINITION. Engine contexts: allocation (R149), start state (R89, R91), the ways a context becomes free
(R96, R140, R148, R153, R190, R207, R268, R269), traps (R144 to R147), and the frame every instruction runs
in: the instruction latched by the wheel, exposed results, the program counter. -/

namespace Sys2Proof.Machine

open Sys2Proof

/-! ### Allocation -/

/-- WHEEL_LEN of a pack (R117). -/
def State.wheelLen (s : State) (p : Nat) : Nat := if s.flag (Reg.PACK_CFG p) 1 then 16 else 8

/-- The owner of wheel slot k of a pack under map words m0 and m1 (R156, R160). -/
def slotOwnerOf (m0 m1 : Word) (k : Nat) : Option Nat :=
  let w := if k < 8 then m0 else m1
  let j := k % 8
  if bitOf w (4 * j + 3) then some (getF w (4 * j + 2) (4 * j)) else none

/-- The owner of an active slot (R156). -/
def State.slotOwner (s : State) (p k : Nat) : Option Nat :=
  slotOwnerOf (s.reg (Reg.WHEEL_MAP0 p)) (s.reg (Reg.WHEEL_MAP1 p)) k

/-- Context number k owns an active slot (R149). -/
def State.ownsSlot (s : State) (p k : Nat) : Bool :=
  (List.range (s.wheelLen p)).any fun i => s.slotOwner p i == some k

/-- The context a job or FORK of a timing class takes from the free ones (R149). -/
def pickCtx (free : List Nat) (own : Nat → Bool) (crit : Nat) (t : Bool) : Option Nat :=
  if t then free.find? own
  else match free.find? (fun k => !own k) with
    | some k => some k
    | none => if crit + 1 ≤ (free.filter own).length then free.find? own else none

/-- CRIT_RESERVE of a pack (R117). -/
def State.critReserve (s : State) (p : Nat) : Nat := s.fld (Reg.PACK_CFG p) 6 4

/-- The free context numbers of an engine, rising (R148). -/
def State.freeNums (s : State) (e : Nat) : List Nat :=
  (List.range 8).filter fun k => !(s.ctx (e * 8 + k)).live

/-- The context number an allocation on engine e takes (R149). -/
def State.allocNum (s : State) (e : Nat) (t : Bool) : Option Nat :=
  let p := packOfEng e
  pickCtx (s.freeNums e) (s.ownsSlot p) (s.critReserve p) t

/-- Fetch slot i of an engine. -/
def State.slot (s : State) (e i : Nat) : Option FetchSlot :=
  if i = 0 then (s.eng e).fs0 else if i = 1 then (s.eng e).fs1 else none
def State.setSlot (s : State) (e i : Nat) (f : Option FetchSlot) : State :=
  s.updEng e fun g => if i = 0 then { g with fs0 := f } else { g with fs1 := f }

/-- The engine takes part in placement: its pack is present, not drained (R494), and no reset is in progress. -/
def State.engOpen (s : State) (e : Nat) : Bool :=
  let p := packOfEng e
  decide (p < s.chip.packs) && !s.disp.drained.contains p && !(s.eng e).rstBusy && !s.flag (Reg.PACK_RST p) 1

/-- The jobs that have entered the Fetch slots of an engine, in the order in which they start (R152, R233). -/
def State.entered (s : State) (e : Nat) : List Nat :=
  if s.engOpen e then
    let a := ((s.slot e 0).filter (·.entered)).toList
    let b := ((s.slot e 1).filter (·.entered)).toList
    (if b.any fun g => a.any fun f => g.start < f.start then b ++ a else a ++ b).map (·.job)
  else []

/-- The free context numbers once each of these jobs that can start has taken its own (R149, R225). -/
def State.freeOnce (s : State) (e : Nat) (jobs : List Nat) : List Nat :=
  let p := packOfEng e
  jobs.foldl (fun free j =>
    match pickCtx free (s.ownsSlot p) (s.critReserve p) (s.job j).tclass with
    | some k => free.erase k
    | none => free) (s.freeNums e)

/-- The context number a FORK on engine e takes: starts that are due come first (R149, R152). -/
def State.forkNum (s : State) (e : Nat) (t : Bool) : Option Nat :=
  let p := packOfEng e
  pickCtx (s.freeOnce e (s.entered e)) (s.ownsSlot p) (s.critReserve p) t

/-- A memory without the `n` bytes from address `a`: they read 0. -/
def clearRange (m : Mem) (a n : Nat) : Mem := m.filter fun p => p.1 < a || a + n ≤ p.1

/-- The start state of context c (R89, R91). -/
def State.startCtx (s : State) (c : Nat) (x : Ctx) : State :=
  let st := s.reg (Reg.PACK_STACK (packOf c))
  let top := getF st 15 0
  let size := getF st 31 16
  let sp := W (top + 2 ^ 32 - numOf c * size)
  let y := { x with
    live := true
    gen := (s.ctx c).gen + 1
    g := Tab.set 0 x.g 14 sp
    spLim := BitVec.ofNat 16 (sp.toNat + 2 ^ 32 - size) }
  { s.setCtx c y with mem := { s.mem with scratch := clearRange s.mem.scratch (c * 256) 256 } }

/-! ### The end of a context -/

/-- How a context becomes free (R148). -/
inductive EndKind where
  | done | squash | delay | reset | abort | hole
  deriving DecidableEq, Repr

/-- A context's children lose their parent link (R153). -/
def State.orphan (s : State) (c : Nat) : State :=
  (siblings c).foldl (fun t k => if (t.ctx k).parent = some c then t.updCtx k fun x => { x with parent := none } else t) s

/-- A child's end reaches its parent: the CHILD flag and a JOIN on it (R136, R162). -/
def State.tellParent (s : State) (parent : Option Nat) (k : Nat) : State :=
  match parent with
  | none => s
  | some p => s.updCtx p fun x =>
      { x.setEv (W (2 ^ k)) with wait := if x.wait = .join k then .none else (x.setEv (W (2 ^ k))).wait }

/-- What the end of its last context does to a job (R96, R140, R142, R268, R269). -/
def State.jobReleased (s : State) (j e : Nat) (k : EndKind) : State :=
  let s := s.updJob j fun x => if x.place = .running then { x with place := .gone } else x
  let x := s.job j
  match k with
  | .done | .squash => if x.finished then s.settle j else s.retireCore j e
  | .abort =>
    if x.finished then s.settle j
    else if x.passed then (s.holeMark j 1).settle j
    else (s.updJob j fun y => { y with aborted := true }).herdRun x.od
  | .delay | .reset | .hole => s.settle j

/-- Contexts that end together leave every waiter queue before any of their locks is released (R201). -/
def State.leaveQueues (s : State) (cs : List Nat) : State :=
  cs.foldl (fun t c => (t.mwLeave c).leashLeave (ownerId c)) s

/-- Context c becomes free (R148): its children lose their parent, it leaves every waiter queue, its locks are
broken (R207), its generation tag changes (R190), the wheel of an engine left without a live context stops, to
restart at slot 0 (R40, R155), and its job follows R96. -/
def State.freeCtx (s : State) (c : Nat) (k : EndKind) : State :=
  let x := s.ctx c
  if x.live then
    let s := ((s.orphan c).mwLeave c).leashBreak (ownerId c)
    let s := s.setCtx c { Ctx.idle with gen := x.gen + 1 }
    let s := s.tellParent x.parent (numOf c)
    let s := s.updEng (engOf c) fun e =>
      { e with issue := match e.issue with
          | some i => if i.ctx = c then none else some i
          | none => none }
    let s := if (siblings c).any fun k => (s.ctx k).live then s
      else s.updEng (engOf c) fun e => { e with slot := 0, watch := 0, bubbles := 0 }
    match x.job with
    | some j => if (s.jobCtxs j).isEmpty then s.jobReleased j (engOf c) k else s
    | none => s
  else s

/-! ### Traps -/

/-- A trap of context c (R146, R147): `resume` is where TRET will continue. -/
def State.trap (s : State) (c cause : Nat) (resume : BitVec 16) : State :=
  let p := packOf c
  let v := s.reg (Reg.PACK_TRAP p)
  let x := (s.ctx c).landAll
  let x := { x with trapCause := BitVec.ofNat 4 cause, trapPc := x.pc, resume := resume, wait := .none }
  if bitOf v 31 && !x.trapNest then
    s.setCtx c { x with trapNest := true, pc := BitVec.ofNat 16 v.toNat }
  else ((s.setCtx c x).freeCtx c .squash).raise (Ev.ENG_TRAP p)

/-- The causes whose TRET resumes at the trapping instruction (R144). -/
def resumesAtSelf (cause : Nat) : Bool := cause = 1 || cause = 2 || cause = 3 || cause = 7

/-- A trap of the instruction of `len` bytes at the context's PC, with no effect of its own. -/
def State.trapHere (s : State) (c cause len : Nat) : State :=
  let pc := (s.ctx c).pc
  s.trap c cause (if resumesAtSelf cause then pc else pc + BitVec.ofNat 16 len)

/-- A job retires and its held commits are withdrawn: each such context takes the channel-misuse trap, with
TRAP_INFO.PC at its EMIT_GO (R140, R264). -/
def State.retire (s : State) (j e : Nat) : State :=
  let held := (s.jobCtxs j).filter fun c => match (s.ctx c).wait with | .store _ => true | _ => false
  let s := s.retireCore j e
  held.foldl (fun t c =>
    if (t.ctx c).live then
      let next := (t.ctx c).pc
      (t.updCtx c fun x => { x with wait := .none, pc := x.pc - BitVec.ofNat 16 x.waitLen }).trap c 6 next
    else t) s

/-! ### The frame of an instruction -/

/-- How an instruction leaves the program counter: the next byte, an address, a trap without effect, nothing
(the context ended or was stopped). -/
inductive Next where
  | seq
  | to (pc : BitVec 16)
  | trap (cause : Nat)
  | stay
  deriving DecidableEq, Repr

/-- The effect of an instruction: the state, the way on, and whether it touched a reserved address (R97). -/
structure Eff where
  st : State
  nx : Next
  rsv : Bool := false

/-- The end of an instruction (R97, R113, R147): delayed results, RSV_HIT and its trap, the program counter. -/
def Eff.finish (r : Eff) (c len old : Nat) : State :=
  let s := r.st
  let go := fun (t : BitVec 16) =>
    let s := s.updCtx c fun x =>
      let y := x.tickPend old
      { y with rsvHit := y.rsvHit || r.rsv, waitLen := len }
    if r.rsv && s.flag (Reg.PACK_CFG (packOf c)) 8 then s.trap c 4 t
    else s.updCtx c fun x => { x with pc := t }
  match r.nx with
  | .seq => go ((s.ctx c).pc + BitVec.ofNat 16 len)
  | .to t => go t
  | .trap k => s.trapHere c k len
  | .stay => s

/-- After an instruction under STEP the context halts again (R534). -/
def State.stepEnd (s : State) (c : Nat) : State :=
  let x := s.ctx c
  if x.live && x.stepping then s.setCtx c { x with stepping := false, halted := true } else s

/-- The length of the instruction that context c issues in this turn, when it is `op` with operands `o`. -/
def State.issued (s : State) (op : EOp) (c : Nat) (o : Operands) : Option Nat :=
  match (s.eng (engOf c)).issue with
  | some i => if s.running ∧ i.ctx = c ∧ i.op = op ∧ i.ops = o ∧ (s.ctx c).live then some i.len else none
  | none => none

/-- The engine has issued: the next turn may choose again. -/
def State.clearIssue (s : State) (e : Nat) : State := s.updEng e fun g => { g with issue := none }

/-- An effect that goes on with the next instruction. -/
def Eff.ok (s : State) : Eff := { st := s, nx := .seq }

end Sys2Proof.Machine
end

