-- ==== Sys2Proof/Machine/TimeBase.lean ====
section
/-! DEFINITION. The Time base (R397 to R402, R410): the free-running count, the four PTP domain times, and one
cycle of its 1 GHz clock. -/

namespace Sys2Proof.Machine

open Sys2Proof

/-- The time of domain d (R399). -/
def State.domTime (s : State) (d : Nat) : DomTime := Tab.get default s.tb.dom d

def State.setDomTime (s : State) (d : Nat) (t : DomTime) : State :=
  { s with tb := { s.tb with dom := Tab.set default s.tb.dom d t } }

/-- Nanoseconds in a second. -/
abbrev GIGA : Nat := 1000000000

/-- A time as a number of 2^−40 ns; and back, with seconds modulo 2^48 (R399). -/
def DomTime.units (t : DomTime) : Nat := (t.sec.toNat * GIGA + t.ns) * 2 ^ 40 + t.frac.toNat
def DomTime.ofUnits (n : Nat) : DomTime :=
  { sec := BitVec.ofNat 48 (n / 2 ^ 40 / GIGA), ns := n / 2 ^ 40 % GIGA, frac := BitVec.ofNat 40 n }

/-- A time in nanoseconds, the fraction cut off. -/
def DomTime.nanos (t : DomTime) : Nat := t.sec.toNat * GIGA + t.ns

/-- One cycle of a domain at a rate in 2^−40 ns per ns (R399, R400). -/
def DomTime.step (t : DomTime) (rate : Int) : DomTime :=
  DomTime.ofUnits ((t.units : Int) + 2 ^ 40 + rate).toNat

/-- RATE of domain d (R400). -/
def State.rate (s : State) (d : Nat) : Int := signed 32 (s.reg (Reg.TB_ADJ_FREQ d)).toNat

/-- The FRAC byte of a time (R399). -/
def DomTime.fracByte (t : DomTime) : Nat := t.frac.toNat / 2 ^ 32

/-- SEC_HI words: seconds [47:32] and FRAC (R409, R413, R414). -/
def DomTime.secHi (t : DomTime) : Word := W (t.sec.toNat / 2 ^ 32 + t.fracByte * 2 ^ 24)
def DomTime.secLo (t : DomTime) : Word := W t.sec.toNat

/-- A timestamp shifted by a number of 1/256 ns (R404). -/
def DomTime.shift (t : DomTime) (d : Int) : DomTime :=
  DomTime.ofUnits (((t.units : Int) + d * 2 ^ 32) % ((2 : Int) ^ 88 * GIGA)).toNat

/-- A time moved back by a number of 1/256 ns of free-running time at a rate (R399, R402). -/
def DomTime.back (t : DomTime) (rate : Int) (n : Nat) : DomTime :=
  DomTime.ofUnits (((t.units : Int) - (n : Int) * (2 ^ 40 + rate) / 256) % ((2 : Int) ^ 88 * GIGA)).toNat

/-- The time that a domain showed `n` of 1/256 ns before free-running instant `at_`, at which it showed `t` with a rate
(R402): `past` holds the changes before it, newest first. -/
def timeBack (t : DomTime) (rate : Int) (at_ n : Nat) : List (Nat × DomTime × Int) → DomTime
  | [] => t.back rate n
  | (f, u, r) :: l => if n ≤ (at_ - f) * 256 then t.back rate n else timeBack u r f (n - (at_ - f) * 256) l

/-- The time that domain 0 showed `n` of 1/256 ns ago (R402). -/
def State.timeAgo (s : State) (n : Nat) : DomTime := timeBack (s.domTime 0) (s.rate 0) s.fr n s.tb.past

/-- The longest that a frame takes to arrive, in ns: 9,600 bytes at 10 Mb/s (R324) take 7.7 ms. -/
abbrev PAST_NS : Nat := 8000000

/-- A step, set or rate change of a domain is about to apply: what domain 0 showed until now is kept for frames that are
still arriving (R402). -/
def State.notePast (s : State) (d : Nat) : State :=
  if d = 0 then
    { s with tb := { s.tb with past :=
      (s.fr, s.domTime 0, s.rate 0) :: s.tb.past.filter fun p => decide (s.fr < p.1 + PAST_NS) } }
  else s

/-- One cycle's count of the Time base clock (R397, R399, R410), and one nanosecond of every running hole timer (R265,
R266). A 1PPS rollover is remembered for PPS_OUT
until the next cycle. -/
def State.count (s : State) : State :=
  let s := (List.range 4).foldl (fun t d =>
    let a := t.domTime d
    let b := a.step (t.rate d)
    let t := t.setDomTime d b
    if t.fld Reg.TB_PPS_CFG 5 4 = d then { t with tb := { t.tb with rolled := decide (b.ns < a.ns) } } else t) s
  let s := s.herd.doms.foldl (fun t p =>
    match p.2.timing with
    | some j => if t.timerStopped j then t else t.setOd p.1 { p.2 with ran := p.2.ran + 1 }
    | none => t) s
  { s with fr := (s.fr + 1) % 2 ^ 64, island := { s.island with rtcNs := s.island.rtcNs + s.island.powered.toNat } }

end Sys2Proof.Machine
end

