-- ==== Sys2Proof/Machine/Errors.lean ====
section
/-! DEFINITION. Errors of on-chip stores (R528 to R531): classes, counts, the error log. -/

namespace Sys2Proof.Machine

open Sys2Proof

/-- An entry goes into the error log, or is counted as not stored (R530, R431). -/
def State.errLog (s : State) (mem cls inst addr : Nat) : State :=
  if s.hub.errLog.length < 16 then
    { s with hub := { s.hub with errLog := s.hub.errLog ++
        [⟨W addr, W (mem + cls * 16 + inst * 256), W s.fr⟩] } }
  else s.bumpF Reg.ERR_STAT 31 16

/-- An uncorrectable error of class UE (R528). -/
def State.ueError (s : State) (mem inst addr : Nat) : State :=
  ((s.bump Reg.ERR_UE_CNT).errLog mem 1 inst addr).raise Ev.SRAM_UE

/-- A corrected error (R528). -/
def State.ceError (s : State) : State := (s.bump Reg.ERR_CE_CNT).raise Ev.SRAM_CE

/-- A read of `n` bytes at `addr` of a store (R529): whether it met an uncorrectable word, and the state. Each
word in error is one detection, and a corrected word is written back. -/
def State.eccRead (s : State) (mem inst addr n : Nat) : Bool × State :=
  let hit := fun (f : Nat × Nat × Nat × Bool) =>
    f.1 = mem ∧ f.2.1 = inst ∧ addr / 8 ≤ f.2.2.1 ∧ f.2.2.1 ≤ (addr + n - 1) / 8
  let hits := s.hub.flips.filter fun f => decide (hit f)
  if hits.isEmpty then (false, s)
  else
    let ue := hits.filter (·.2.2.2)
    let s := { s with hub := { s.hub with flips := s.hub.flips.filter fun f => !decide (hit f) || f.2.2.2 } }
    let s := (hits.filter fun f => !f.2.2.2).foldl (fun t _ => t.ceError) s
    (!ue.isEmpty, ue.foldl (fun t f => t.ueError mem inst (f.2.2.1 * 8)) s)

/-- A write that covers whole 64-bit words clears any error in them (R529). -/
def State.eccWrite (s : State) (mem inst addr n : Nat) : State :=
  { s with hub := { s.hub with flips := s.hub.flips.filter fun f =>
      !(f.1 == mem && f.2.1 == inst && decide (addr ≤ f.2.2.1 * 8 ∧ f.2.2.1 * 8 + 8 ≤ addr + n)) } }

/-- The word at byte offset `off` of a store is found uncorrectable (R528). -/
def State.spoil (s : State) (mem inst off : Nat) : State :=
  { s with hub := { s.hub with flips := (mem, inst, off / 8, true) :: s.hub.flips.filter fun f => f != (mem, inst, off / 8, true) } }

/-- A FATAL error is counted, logged and raised, and the traffic units stop (R531). -/
def State.fatalError (s : State) (mem inst addr : Nat) : State :=
  let s := (((s.bump Reg.ERR_UE_CNT).errLog mem 2 inst addr).setFld Reg.ERR_STAT 8 8 1).raise Ev.FATAL
  { s with hub := { s.hub with fatal := true } }

end Sys2Proof.Machine
end

