-- ==== Sys2Proof/Machine/DataSpace.lean ====
section
/-! DEFINITION. The data space of an engine context and the instruction store as data (R92 to R97, R99), the
job descriptor (R224) and the header window. -/

namespace Sys2Proof.Machine

open Sys2Proof

/-- The 64 bytes of a job descriptor (R224). -/
def Job.desc (x : Job) : List Byte :=
  leBytes 4 x.cell ++ leBytes 2 x.len ++ [B8 x.port]
    ++ [B8 (x.cls + x.epoch * 8 + x.tclass.toNat * 16 + x.restart.toNat * 32 + x.fab.toNat * 64)]
    ++ leBytes 2 x.od ++ leBytes 2 x.seq ++ leBytes 4 x.hash.toNat ++ leBytes 4 x.tsNs ++ leBytes 6 x.tsSec
    ++ [x.tsFrac, B8 x.prio, B8 x.profile, B8 x.color] ++ leBytes 2 x.stream
    ++ [B8 x.l3, B8 x.l4, B8 x.cells, B8 x.pool, B8 x.dcount, 0, 0, 0] ++ leBytes 4 x.enqNs
    ++ List.replicate 4 0 ++ fit 16 x.mdata

/-- The descriptor in a job buffer: what the debugger has written stands over it (R539). -/
def Job.bufDesc (x : Job) : List Byte :=
  if x.dpatch.isEmpty then x.desc
  else (List.range 64).map fun i => (Tab.get Option.none x.dpatch i).getD (byteAt x.desc i)

/-- The regions of the data space (R93). -/
inductive Region where
  | local_ | psm | csm | hdr | desc | scratch | reserved
  deriving DecidableEq, Repr

/-- The region of an address (R93). -/
def regionOf (a : Nat) : Region :=
  if a < 0x8000 then .local_
  else if a < 0xC000 then .psm
  else if a < 0xE000 then .csm
  else if a < 0xE100 then .hdr
  else if a < 0xE140 then .desc
  else if 0xF000 ≤ a ∧ a < 0xF100 then .scratch
  else .reserved

/-- PSM and common SRAM byte addresses (R95). -/
def psmAddr (x : Ctx) (a : Nat) : Nat := x.psmPage.toNat * 0x4000 + (a - 0x8000)
def csmAddr (x : Ctx) (a : Nat) : Nat := x.csmPage.toNat * 0x2000 + (a - 0xC000)

/-- The job of a context. -/
def State.jobOf (s : State) (c : Nat) : Job :=
  match (s.ctx c).job with
  | some j => s.job j
  | none => Job.none

/-- Read `n` bytes of the data space, aligned, as context c (R93, R94). -/
def State.dread (s : State) (c a n : Nat) : Nat :=
  let x := s.ctx c
  match regionOf a with
  | .local_ => s.mem.ldm.rdN (engOf c * 0x8000 + a) n
  | .psm => s.mwRead (packOf c) (psmAddr x a) n
  | .csm => s.mwRead 32 (csmAddr x a) n
  | .hdr => (s.jobOf c).hdr.rdN (a - 0xE000) n
  | .desc => leNat (((s.jobOf c).bufDesc.drop (a - 0xE100)).take n)
  | .scratch => s.mem.scratch.rdN (c * 256 + (a - 0xF000)) n
  | .reserved => 0

/-- Write `n` bytes of the data space, aligned, as context c; a write to the descriptor or to a reserved address
is ignored (R93, R97). -/
def State.dwrite (s : State) (c a n v : Nat) : State :=
  let x := s.ctx c
  match regionOf a with
  | .local_ => { s with mem := { s.mem with ldm := s.mem.ldm.wrN (engOf c * 0x8000 + a) n v } }
  | .psm => s.mwWrite (packOf c) (psmAddr x a) n v
  | .csm => s.mwWrite 32 (csmAddr x a) n v
  | .hdr =>
    match x.job with
    | some j => s.updJob j fun y => { y with hdr := y.hdr.wrN (a - 0xE000) n v }
    | none => s
  | .scratch => { s with mem := { s.mem with scratch := s.mem.scratch.wrN (c * 256 + (a - 0xF000)) n v } }
  | _ => s

/-- A reserved read, and a reserved write, which the descriptor is too (R93, R97). -/
def rsvRead (a : Nat) : Bool := regionOf a = .reserved
def rsvWrite (a : Nat) : Bool := regionOf a = .reserved || regionOf a = .desc

/-- The check of a load against bit errors (R529): whether the word is uncorrectable, and the state. -/
def State.dcheck (s : State) (c a n : Nat) : Bool × State :=
  let x := s.ctx c
  match regionOf a with
  | .local_ => s.eccRead 1 (engOf c) a n
  | .psm => s.eccRead 2 (packOf c) (psmAddr x a) n
  | .csm => s.eccRead 3 0 (csmAddr x a) n
  | .hdr | .desc => s.eccRead 5 (engOf c) (0x800 + numOf c * 512 + (a - 0xE000)) n
  | .scratch => s.eccRead 5 (engOf c) (numOf c * 256 + (a - 0xF000)) n
  | .reserved => (false, s)

/-- A word-lock acquire is a W-width ACQ load from pack shared memory or common SRAM (R99, R211). -/
def isMwLock (o : Operands) (a : Nat) : Bool := o.acq && o.w && (regionOf a = .psm || regionOf a = .csm)

/-- The memory number and byte of a PSM or common SRAM address (R211). -/
def State.mwPlace (s : State) (c a : Nat) : Nat × Nat :=
  if regionOf a = .psm then (packOf c, psmAddr (s.ctx c) a) else (32, csmAddr (s.ctx c) a)

/-- `n` bytes of the instruction store of a pack, wrapping at its end (R92). -/
def State.iread (s : State) (p a n : Nat) : Nat :=
  leNat ((List.range n).map fun i => s.mem.istore.rd (p * 0x10000 + (a + i) % 0x10000))

end Sys2Proof.Machine
end

