-- ==== Sys2Proof/Machine/DramMap.lean ====
section
/-! DEFINITION. The DRAM address space (R417 to R421): which addresses are present, where their bytes lie in channel,
bank and row, the state of their check bits, and what a write stores (R428 to R430). -/

namespace Sys2Proof.Machine

open Sys2Proof

/-! ### Presence (R417 to R419, R432) -/

/-- Interface i is in service (R432). -/
def State.ddrInService (s : State) (i : Nat) : Bool :=
  decide (i < s.chip.ddrs) && s.flag (Reg.DDR_CTRL i) 0 && s.flag (Reg.DDR_CTRL i) 2

/-- Usable capacity of interface i in bytes (R8, R417). -/
def State.ddrCap (s : State) (i : Nat) : Nat :=
  let cap := s.fld (Reg.DDR_CTRL i) 10 8
  if cap = 0 then 0 else 2 ^ cap * 2 ^ 30 / 8 * 7

/-- DDRB's base with ILV = 0 (R417). -/
abbrev DDRB_BASE : Nat := 0x4000000000

/-- ILV (R418). -/
def State.ddrIlv (s : State) : Bool := s.flag Reg.DDR_MAP 0

/-- The interface and local address of a device address (R417, R418). -/
def State.dramPlace (s : State) (a : Nat) : Nat × Nat :=
  if s.ddrIlv then (a / 4096 % 2, a / 8192 * 4096 + a % 4096)
  else if a < DDRB_BASE then (0, a) else (1, a - DDRB_BASE)

/-- The byte at a device address is present (R419). -/
def State.dramServed (s : State) (a : Nat) : Bool :=
  s.ddrInService (s.dramPlace a).1 && decide ((s.dramPlace a).2 < s.ddrCap (s.dramPlace a).1)

/-- The bytes a to a + n − 1 are present (R419): the first and the last are, and all between them; with ILV = 1 bytes of
more than one 4 KiB block need both interfaces. -/
def State.dramPresent (s : State) (a n : Nat) : Bool :=
  let z := a + (n - 1)
  s.dramServed a && s.dramServed z &&
    (if s.ddrIlv then
      decide (a / 4096 = z / 4096) || (List.range 2).all fun i => s.ddrInService i && decide (z < 2 * s.ddrCap i)
    else (s.dramPlace a).1 == (s.dramPlace z).1)

/-- A request to an address that is not present is counted (R419). -/
def State.dramUnserved (s : State) (a : Nat) : State :=
  s.bump (Reg.DDR_UNSRV_CNT (if (s.dramPlace a).1 < s.chip.ddrs then (s.dramPlace a).1 else 0))

/-! ### Rows, banks and channels (R420, R421) -/

/-- DDR_BANK_XOR[b].MASK of interface i: a bit at or above the highest row bit of the fitted capacity has no effect
(R421). A row unit number of 2^CAP GiB has CAP + 19 bits. -/
def State.bankMask (s : State) (i b : Nat) : Nat :=
  (s.reg (Reg.DDR_BANK_XOR0 i + 4 * b)).toNat % 2 ^ (s.fld (Reg.DDR_CTRL i) 10 8 + 18)

/-- Channel, bank and row of a local address (R420, R421). -/
def State.dramBank (s : State) (i l : Nat) : Nat × Nat × Nat :=
  let k := l / 1792
  let bit := fun (b : Nat) => (k / 2 ^ (2 + b) + popCount 23 (k &&& s.bankMask i b)) % 2 * 2 ^ b
  (k % 4, bit 0 + bit 1 + bit 2 + bit 3, k / 64)

/-- The place of byte `o` of a row: rows of 2,048 bytes by row, interface, channel and bank. -/
def rowPlace (i ch bank row o : Nat) : Nat := (row * 128 + i * 64 + ch * 16 + bank) * 2048 + o

/-- The place of a local address (R420, R421). -/
def State.localPlace (s : State) (i l : Nat) : Nat :=
  let (ch, bank, row) := s.dramBank i l
  rowPlace i ch bank row (l % 1792)

/-- The place of a device address. -/
def State.dramAt (s : State) (a : Nat) : Nat := s.localPlace (s.dramPlace a).1 (s.dramPlace a).2

/-- The byte that stands at a device address. -/
def State.dramByte (s : State) (a : Nat) : Byte := s.mem.dram.rd (s.dramAt a)

/-- The pieces of the bytes a to a + n − 1 by blocks of 64 bytes, as address and length (R415): no piece crosses a row
unit (R420). -/
def blocks64 (a n : Nat) : List (Nat × Nat) :=
  if n = 0 then []
  else (List.range ((a % 64 + n + 63) / 64)).map fun i =>
    let lo := max a (a / 64 * 64 + 64 * i)
    (lo, min (a + n) (a / 64 * 64 + 64 * i + 64) - lo)

/-- The bytes that stand at the device addresses a to a + n − 1. -/
def State.dramBytes (s : State) (a n : Nat) : List Byte :=
  (blocks64 a n).flatMap fun p => s.mem.dram.bytes (s.dramAt p.1) p.2

/-- Byte o of a row as the controller holds it (R420): data, the check bytes of its words, the training pattern. The spec
gives neither code nor pattern (log entry 49). -/
def State.rowByte (s : State) (i ch bank row o : Nat) : Byte :=
  let base := rowPlace i ch bank row 0
  let w := o - 1792
  let data := BitVec.ofNat 64 (s.mem.dram.rdN (base + 8 * w) 8)
  if o < 1792 then s.mem.dram.rd (base + o)
  else if o < 2016 then
    (if s.dram.poisoned.contains (base / 8 + w) || s.dram.single.contains (base / 8 + w) then Config.dramBadCheck data
    else Config.dramCheck data)
  else Config.dramPattern (o - 2016)

/-! ### Check bits (R428 to R431) -/

/-- Words of a block, by number, that a check has newly found in error, and whether uncorrectably. -/
def State.dramFlaw (s : State) (blk : Nat) (found : List (Nat × Bool)) : State :=
  found.foldl (fun t f =>
    let w := blk * 8 + f.1 % 8
    if t.dram.poisoned.contains w then t
    else if f.2 then
      { t with dram := { t.dram with poisoned := w :: t.dram.poisoned, single := t.dram.single.filter (· != w) } }
    else if t.dram.single.contains w then t
    else { t with dram := { t.dram with single := w :: t.dram.single } }) s

/-- The words of a list that lie in a block. -/
def wordsIn (l : List Nat) (blk : Nat) : List Nat := l.filter fun w => w / 8 == blk

/-- A counter rises by n and saturates. -/
def State.bumpBy (s : State) (off n : Nat) : State := s.setReg off (W (min (2 ^ 32 - 1) ((s.reg off).toNat + n)))

/-- `n` uncorrectable words found in the block of device address a (R429 to R431, R438, R440): they are counted, an entry
goes into the log, and EV_DRAM_UE is raised (log entry 47). -/
def State.dramLog (s : State) (a port n : Nat) (write : Bool) : State :=
  let (i, l) := s.dramPlace a
  let (ch, bank, _) := s.dramBank i l
  let s := (s.bumpBy (Reg.DDR_UE_CNT i) n).raise Ev.DRAM_UE
  if s.dram.log.length < 64 then
    { s with dram := { s.dram with log := s.dram.log ++
        [⟨W a, W (a / 2 ^ 32 % 256 + port * 256 + i * 4096 + ch * 8192 + write.toNat * 32768 + bank * 65536), W s.fr⟩] } }
  else s.bumpF Reg.DDR_ERR_STAT 31 16

/-- `n` words with a single-bit error are corrected (R428). -/
def State.dramFix (s : State) (i n : Nat) : State :=
  if n = 0 then s else (s.bumpBy (Reg.DDR_CE_CNT i) n).raise Ev.DRAM_CE

/-- The bytes p to p + n − 1 cover word w whole, or in part. -/
def coversWord (p n w : Nat) : Bool := decide (p ≤ w * 8 ∧ w * 8 + 8 ≤ p + n)
def cutsWord (p n w : Nat) : Bool := decide (0 < n ∧ p / 8 ≤ w ∧ w ≤ (p + n - 1) / 8) && !coversWord p n w

/-- A write of bytes b at place p lands (R430), within one block: a whole word replaces its check bits; a word written in
part is read first, and stays as it is where that finds it uncorrectable. Answers whether it did; `a` is the block's
device address, `found` what the checks newly find in the words read. -/
def State.dramLand (s : State) (a p port : Nat) (b : List Byte) (found : List (Nat × Bool)) : Bool × State :=
  let n := b.length
  let s := s.dramFlaw (p / 64) (found.filter fun f => cutsWord p n (p / 64 * 8 + f.1 % 8))
  let bad := s.dram.poisoned.filter (cutsWord p n)
  let fixed := s.dram.single.filter (cutsWord p n)
  let m := ((List.range n).zip b).foldl (fun (m : Mem) x =>
    if bad.contains ((p + x.1) / 8) then m else m.wr (p + x.1) x.2) s.mem.dram
  let s := { s with
    mem := { s.mem with dram := m }
    dram := { s.dram with
      poisoned := s.dram.poisoned.filter fun w => !coversWord p n w
      single := s.dram.single.filter fun w => !coversWord p n w && !cutsWord p n w } }
  let s := s.dramFix (s.dramPlace a).1 fixed.length
  (!bad.isEmpty, if bad.isEmpty then s else s.dramLog a port bad.length true)

end Sys2Proof.Machine
end

