-- ==== Sys2Proof/Machine/DramQueue.lean ====
section
/-! DEFINITION. The DRAM controllers' regulators, channel queues, scheduling, page policy and
tracking (R419, R422 to R434). -/

namespace Sys2Proof.Machine

open Sys2Proof

/-- Channel ch of interface i. -/
def State.dch (s : State) (i ch : Nat) : DramCh := Tab.get DramCh.idle s.dram.ch (i * 4 + ch)
def State.setDch (s : State) (i ch : Nat) (x : DramCh) : State :=
  { s with dram := { s.dram with ch := Tab.set DramCh.idle s.dram.ch (i * 4 + ch) x } }

/-- Predictor of a bank; state 1 after power-up and training (R424). -/
def DramCh.predOf (x : DramCh) (b : Nat) : Nat := Tab.get 1 x.pred b
/-- The open row of a bank. -/
def DramCh.open_ (x : DramCh) (b : Nat) : Option Nat := Tab.get none x.openRow b

/-- TOKENS of port p of interface i now, in 1/1000 byte (R426). -/
def State.tokens (s : State) (i p : Nat) : Int :=
  let k := i * 8 + p
  let burst : Int := ((s.fld (Reg.DDR_REG_BURST i p) 19 0 * 1000 : Nat) : Int)
  let gain := s.fld (Reg.DDR_REG_CFG i p) 16 0 * (s.fr - Tab.get 0 s.dram.tokAt k)
  min burst (Tab.get 0 s.dram.tokens k + (gain : Int))

def State.setTokens (s : State) (i p : Nat) (v : Int) : State :=
  { s with dram := { s.dram with
      tokens := Tab.set 0 s.dram.tokens (i * 8 + p) v
      tokAt := Tab.set 0 s.dram.tokAt (i * 8 + p) s.fr } }

/-- Port p of interface i is regulated (R426). -/
def State.regOn (s : State) (i p : Nat) : Bool := s.flag (Reg.DDR_REG_CFG i p) 31

/-- The write that in-order mode awaits once a read matches `w` too: the later of the two in the queue (R425). -/
def DramCh.awaits (x : DramCh) (w : DramReq) : Nat :=
  match x.inOrder with
  | some id => if (x.q.dropWhile fun y => y.id != w.id).any (fun y => y.id == id) then id else w.id
  | none => w.id

/-- A request arrives in its channel queue: the bank's predictor learns (R424), and a read that matches a queued
write starts or extends in-order mode (R425). A read of the spare bytes is not counted (R433). -/
def State.dramEnter (s : State) (i ch : Nat) (r : DramReq) : State :=
  let x := s.dch i ch
  let x := match Tab.get none x.lastRow r.bank with
    | some row =>
      let p := x.predOf r.bank
      { x with
        pred := Tab.set 1 x.pred r.bank (if row = r.row then min 3 (p + 1) else p - 1)
        lastRow := Tab.set none x.lastRow r.bank none }
    | none => x
  match (if r.write then none else (x.q.filter fun w => w.write && w.bank == r.bank && w.row == r.row).getLast?) with
  | some w =>
    let s := if x.inOrder.isSome || r.dest == .idle then s else s.bump (Reg.DDR_INORD_CNT i)
    s.setDch i ch { x with q := x.q ++ [r], inOrder := some (x.awaits w) }
  | none => s.setDch i ch { x with q := x.q ++ [r] }

/-- Change the helper command a request belongs to. -/
def State.updHlp (s : State) (id : Nat) (f : HlpCmd → HlpCmd) : State :=
  { s with help := { s.help with cmds := s.help.cmds.map fun k => if k.id = id then f k else k } }

/-- Change the table DMA operation in progress at k. -/
def State.updRun (s : State) (k : Nat) (f : TRun → TRun) : State :=
  { s with look := { s.look with runs := Tab.upd none s.look.runs k fun r => r.map f } }

/-- The fetch of a line by a reader ends; one that was refused leaves nothing. -/
def State.fetchEnd (s : State) (n : Nat) (own : FarFor) (got : Option Fetched) : State :=
  { s with look := { s.look with fetch := s.look.fetch.filterMap fun f =>
    if f.line = n ∧ f.own = own then got.map fun g => { f with got := g } else some f } }

/-- A request to an address that is not present is not sent to DRAM (R419): a helper command takes ERR 0x2, a table DMA
operation MEM_ERR. -/
def State.dramRefuse (s : State) (r : DramReq) : State :=
  let s := s.dramUnserved r.addr
  match r.dest with
  | .helper id => s.updHlp id fun k => { k with err := 2 }
  | .line n own => s.fetchEnd n own none
  | .op k => s.updRun k fun x => { x with bad := true }
  | .posted => s
  | .idle => s

/-- A request within one block of 64 bytes reaches the controller (R419, R426): a T-class or unregulated one enters its
channel queue; another waits at the regulator. `b` is what a write writes. -/
def State.dramSend (s : State) (port : Nat) (tclass write : Bool) (a n : Nat) (dest : DramTo) (b : List Byte) : State :=
  let (i, l) := s.dramPlace a
  let (ch, bank, row) := s.dramBank i l
  let r : DramReq :=
    { id := s.dram.next, port := port, tclass := tclass, write := write, addr := a, phys := s.dramAt a, len := n, row := row,
      bank := bank, passed := 0, issued := false, dest := dest, data := b }
  if !s.dramPresent a n then s.dramRefuse r
  else
    let s := { s with dram := { s.dram with next := s.dram.next + 1 } }
    if tclass || !s.regOn i port then s.dramEnter i ch r
    else { s with dram := { s.dram with wait := Tab.upd [] s.dram.wait (i * 8 + port) (· ++ [r]) } }

/-- A read of the bytes a to a + n − 1, block by block. -/
def State.dramFetch (s : State) (port : Nat) (tclass : Bool) (a n : Nat) (dest : DramTo) : State :=
  (blocks64 a n).foldl (fun t p => t.dramSend port tclass false p.1 p.2 dest []) s

/-- A write of bytes b at a, block by block. -/
def State.dramWrite (s : State) (port : Nat) (tclass : Bool) (a : Nat) (b : List Byte) (dest : DramTo) : State :=
  (blocks64 a b.length).foldl (fun t p => t.dramSend port tclass true p.1 p.2 dest ((b.drop (p.1 - a)).take p.2)) s

/-- REGULATOR_ENTRY (R426): the oldest waiting request of the port enters its channel queue while TOKENS ≥ 0, and
TOKENS falls by its length. One whose interface has left service is refused (R432). -/
def State.regulatorEntry (s : State) (i p : Nat) : State :=
  match Tab.get [] s.dram.wait (i * 8 + p) with
  | [] => s
  | r :: t =>
    let tk := s.tokens i p
    if s.regOn i p && decide (tk < 0) then s
    else
      let u := { s with dram := { s.dram with wait := Tab.set [] s.dram.wait (i * 8 + p) t } }
      if !u.ddrInService i then u.dramRefuse r
      else
        let u := if s.regOn i p then u.setTokens i p (tk - ((r.len * 1000 : Nat) : Int)) else u
        u.dramEnter i (r.phys / 2048 / 16 % 4) r

/-- The requests a channel may issue: a write waits for every earlier request to its 64-byte block (R422). -/
def eligible : List DramReq → List DramReq → List DramReq
  | _, [] => []
  | before, r :: t =>
    let rest := eligible (before ++ [r]) t
    if r.issued then rest
    else if r.write && before.any (fun b => !b.issued && b.addr / 64 == r.addr / 64) then rest
    else r :: rest

/-- The request a channel issues next (R422, R425). -/
def DramCh.choose (x : DramCh) : Option DramReq :=
  if x.inOrder.isSome then x.q.find? fun r => !r.issued
  else
    let c := eligible [] x.q
    match c.find? (·.tclass) with
    | some r => some r
    | none =>
      match c.find? (fun r => 16 ≤ r.passed) with
      | some r => some r
      | none =>
        match c.find? (fun r => x.open_ r.bank == some r.row) with
        | some r => some r
        | none => c.head?

/-- After an issue (R424, R425): the row's fate, the requests passed over, the end of in-order mode. -/
def DramCh.issued (x : DramCh) (r : DramReq) (fr : Nat) : DramCh :=
  let before := (x.q.takeWhile fun y => y.id != r.id).map (·.id)
  let q := x.q.map fun y =>
    if y.id = r.id then { y with issued := true }
    else if !y.tclass && !r.tclass && before.contains y.id && !y.issued then { y with passed := y.passed + 1 }
    else y
  let q := if r.write then q.filter fun y => y.id != r.id else q
  let left := q.filter fun y => !y.issued && y.bank == r.bank
  let keep := if left.any (fun y => y.row == r.row) then true
    else if !left.isEmpty then false
    else decide (2 ≤ x.predOf r.bank)
  { x with
    q := q
    openRow := Tab.set none x.openRow r.bank (if keep then some r.row else none)
    lastRow := Tab.set none x.lastRow r.bank (some r.row)
    inOrder := if x.inOrder = some r.id then none else x.inOrder
    lastRead := if r.write then x.lastRead else fr }

/-- The writes that have arrived and not landed, those in a channel queue first. -/
def State.dramWaiting (s : State) : List DramReq :=
  (s.dram.ch.flatMap (·.2.q) ++ s.dram.wait.flatMap (·.2)).filter (·.write)

/-- What a read returns (R422): the bytes at its place with every earlier write to its block. -/
def State.dramSeen (s : State) (r : DramReq) : List Byte :=
  let m := (s.dramWaiting.filter fun w => decide (w.id < r.id) && w.phys / 64 == r.phys / 64).foldl
    (fun (m : Mem) w => m.put w.phys w.data) s.mem.dram
  m.bytes r.phys r.len

/-- The bytes at device addresses a to a + n − 1 once every write that has arrived has landed. -/
def State.dramView (s : State) (a n : Nat) : List Byte :=
  let m := s.dramWaiting.foldl (fun (m : Mem) w => m.put w.phys w.data) s.mem.dram
  (blocks64 a n).flatMap fun p => m.bytes (s.dramAt p.1) p.2

/-- DRAM_REQUEST_ISSUE (R422): a write lands, `found` being what the checks newly find in words that it writes in part
(R430); a read takes its data. -/
def State.dramIssue (s : State) (i ch : Nat) (found : List (Nat × Bool)) : State :=
  let x := s.dch i ch
  match x.choose with
  | none => s
  | some r =>
    if r.write then
      let (bad, s) := (s.setDch i ch (x.issued r s.fr)).dramLand (r.addr / 64 * 64) r.phys r.port r.data found
      match bad, r.dest with
      | true, .helper id => s.updHlp id fun k => { k with err := 3 }
      | _, _ => s
    else
      let y := x.issued r s.fr
      s.setDch i ch { y with q := y.q.map fun z => if z.id = r.id then { z with data := s.dramSeen r } else z }

/-- A DRAM request for `dest` is still on its way. -/
def State.dramPending (s : State) (dest : DramTo) : Bool :=
  s.dram.ch.any (fun p => p.2.q.any fun r => r.dest == dest) || s.dram.wait.any (fun p => p.2.any fun r => r.dest == dest)

/-! ### Read and write delays (R433, R434) -/

/-- The delay of a byte lane moved by d steps: it stops at ±32 steps from its trained value, which sets DRIFT. -/
def stepDelay (v d : Int) : Int := max (-32) (min 32 (v + d))

/-- A delay has reached its limit. -/
def State.ddrDrift (s : State) (i : Nat) (was now : Int) : State :=
  if was ≠ now ∧ (now = 32 ∨ now = -32) then (s.setFld (Reg.DDR_CTRL i) 24 24 1).raise Ev.DRAM_DRIFT else s

/-- A read burst moves the read delay of byte lane l by one step toward what it has sensed, at most once per µs (R433). -/
def State.readTrack (s : State) (i ch l : Nat) (sense : Int) : State :=
  let x := s.dch i ch
  let d : Int := if 0 < sense then 1 else if sense < 0 then -1 else 0
  let v := Tab.get 0 x.readDelay l
  if d = 0 ∨ s.fr < Tab.get 0 x.readMoved l then s
  else
    (s.setDch i ch { x with
      readDelay := Tab.set 0 x.readDelay l (stepDelay v d)
      readMoved := Tab.set 0 x.readMoved l (s.fr + 1000) }).ddrDrift i v (stepDelay v d)

/-- The write delay of byte lane l is corrected (R434). -/
def State.writeTrack (s : State) (i ch l : Nat) (d : Int) : State :=
  let x := s.dch i ch
  let v := Tab.get 0 x.writeDelay l
  (s.setDch i ch { x with writeDelay := Tab.set 0 x.writeDelay l (stepDelay v d) }).ddrDrift i v (stepDelay v d)

/-! ### Rows -/

/-- REGULATOR_ENTRY (R426). -/
def execRegulatorEntry (i p : Nat) (s : State) : Out := .next (s.regulatorEntry i p)

/-- DRAM_REQUEST_ISSUE (R422). -/
def execDramRequestIssue (i : Nat) (k : DramCheck) (s : State) : Out := .next (s.dramIssue i k.ch k.found)

/-- REFRESH (R423): a per-bank refresh finds its bank precharged. -/
def execRefresh (i ch bank : Nat) (s : State) : Out :=
  let x := s.dch i ch
  .next (s.setDch i ch { x with openRow := Tab.set none x.openRow bank none })

/-- The write tracking round of interface i has come to channel ch (R434; log entry 49). -/
def State.trackDue (s : State) (i ch : Nat) : Bool :=
  let p := s.fld (Reg.DDR_CTRL i) 23 16
  s.ddrInService i && decide (0 < p) && Tab.get 0 s.dram.trackCh i == ch
    && decide (Tab.get 0 s.dram.trackFrom i + p * 1000000 ≤ s.fr)

/-- WRITE_TRACKING (R434): every bank of the channel is precharged, its predictors return to state 1, and the write delays
of its two byte lanes are corrected; the turn passes to the next channel. -/
def execWriteTracking (i ch : Nat) (lanes : Int × Int) (s : State) : Out :=
  if s.trackDue i ch then
    let x := s.dch i ch
    let s := ((s.setDch i ch { x with openRow := [], pred := [] }).writeTrack i ch 0 lanes.1).writeTrack i ch 1 lanes.2
    let p := s.fld (Reg.DDR_CTRL i) 23 16
    .next { s with dram := { s.dram with
      trackCh := Tab.set 0 s.dram.trackCh i ((ch + 1) % 4)
      trackFrom := if ch = 3 then Tab.upd 0 s.dram.trackFrom i (· + p * 1000000) else s.dram.trackFrom } }
  else .next s

/-- IDLE_TRACKING_READ (R433): after 100 µs without a read the controller reads the spare bytes of a row of the
channel as an elastic request that no regulator sees. -/
def execIdleTrackingRead (i ch row : Nat) (s : State) : Out :=
  let x := s.dch i ch
  if s.ddrInService i && decide (x.lastRead + 100000 ≤ s.fr) && x.q.all (·.write) then
    let l := (row * 4 + ch) * 1792
    let (_, bank, r) := s.dramBank i l
    let q : DramReq :=
      { id := s.dram.next, port := 7, tclass := false, write := false, addr := l, phys := rowPlace i ch bank r 2016,
        len := 32, row := r, bank := bank, passed := 0, issued := false, dest := .idle, data := [] }
    .next (({ s with dram := { s.dram with next := s.dram.next + 1 } }).dramEnter i ch q)
  else .next s

end Sys2Proof.Machine
end

