-- ==== Sys2Proof/Machine/Tables.lean ====
section
/-! DEFINITION. The Lookup Engine's tables (R277 to R296, R579): geometry, hashing, slots and their parity,
the lookup cache and the fetches of far lines, lookups, and the updates of the update unit. -/

namespace Sys2Proof.Machine

open Sys2Proof

/-! ### Geometry (R278, R279, R305, R306) -/

def State.tDirect (s : State) (t : Nat) : Bool := s.flag (Reg.TBL_GEOM t) 0
def State.tFar (s : State) (t : Nat) : Bool := s.flag (Reg.TBL_GEOM t) 1
def State.tSize (s : State) (t : Nat) : Nat := s.fld (Reg.TBL_GEOM t) 12 8
def State.tKlen (s : State) (t : Nat) : Nat := s.fld (Reg.TBL_GEOM t) 22 16
def State.tVlen (s : State) (t : Nat) : Nat := s.fld (Reg.TBL_GEOM t) 30 24
def State.tBase (s : State) (t : Nat) : Nat :=
  (s.reg (Reg.TBL_BASE_LO t)).toNat + if s.tFar t then s.fld (Reg.TBL_BASE_HI t) 7 0 * 2 ^ 32 else 0
def State.tSeed (s : State) (t : Nat) : Nat :=
  (s.reg (Reg.TBL_SEED_LO t)).toNat + (s.reg (Reg.TBL_SEED_HI t)).toNat * 2 ^ 32
def State.tReady (s : State) (t : Nat) : Bool := s.flag (Reg.TBL_CTRL t) 3
/-- The key bytes a slot holds: none in a direct-index slot (R279). -/
def State.tKeyBytes (s : State) (t : Nat) : Nat := if s.tDirect t then 0 else s.tKlen t
def State.tSlot (s : State) (t : Nat) : Nat := 16 * ceilDiv (4 + s.tKeyBytes t + s.tVlen t) 16
def State.tBuckets (s : State) (t : Nat) : Nat := 2 ^ (s.tSize t - 2)
/-- The address of slot k of bucket b; direct-index slot i is slot i mod 4 of bucket i / 4 (R279). -/
def State.tAddr (s : State) (t b k : Nat) : Nat := s.tBase t + (4 * b + k) * s.tSlot t

/-- The geometry obeys R278 and the region lies where it must (R280). -/
def State.tGeomOk (s : State) (t : Nat) : Bool :=
  let sz := s.tSize t
  let n := 2 ^ sz * s.tSlot t
  decide (3 ≤ sz ∧ sz ≤ (if s.tFar t then 24 else 20))
    && decide (s.tBase t % 64 = 0)
    && (if s.tDirect t then decide (1 ≤ s.tVlen t ∧ s.tVlen t ≤ 64)
        else decide (1 ≤ s.tKlen t ∧ s.tKlen t ≤ 64 ∧ s.tVlen t ≤ 64 ∧ s.tKlen t + s.tVlen t ≤ 124))
    && (if s.tFar t then s.dramPresent (s.tBase t) n else decide (s.tBase t + n ≤ 25165824))

/-! ### Hashing (R284, R285) -/

/-- A 64-bit CRC over bytes, not reflected, from 0 (R135, R284). -/
def crc64 (poly : Nat) (key : List Byte) : Nat := key.foldl (fun a b => crcStep 64 poly false a b.toNat) 0

def hashH0 (seed : Nat) (key : List Byte) : Nat := crc64 0x42F0E1EBA9EA3693 key ^^^ seed
def hashH1 (seed : Nat) (key : List Byte) : Nat := crc64 0x1B key ^^^ seed

/-- The two buckets of a key (R285). -/
def State.tBucketsOf (s : State) (t : Nat) (key : List Byte) : Nat × Nat :=
  let nb := s.tBuckets t
  let b0 := hashH0 (s.tSeed t) key % nb
  let b1 := hashH1 (s.tSeed t) key % nb
  (b0, if b1 = b0 then b1 ^^^ 1 else b1)

/-! ### Slot images (R279, R292) -/

/-- A slot as read. -/
structure Slot where
  bucket : Nat
  slot : Nat
  valid : Bool
  good : Bool
  age : Nat
  key : List Byte
  value : List Byte
  deriving DecidableEq, Repr

/-- Word i of an image, the parity bits of the header taken as 0. -/
def imgWord (img : List Byte) (i : Nat) : Nat :=
  let v := leNat ((img.drop (4 * i)).take 4)
  if i = 0 then v - v / 65536 % 4 * 65536 else v

/-- P0 and P1 of a slot image at a byte address (R292). -/
def slotParity (img : List Byte) (addr : Nat) : Nat × Nat :=
  let a := addr / 16
  let n := img.length / 4
  let word := fun (r : Nat) => ((List.range n).filter fun i => i % 2 == r).foldl
    (fun acc i => acc + popCount 32 (imgWord img i)) 0
  let abit := fun (r : Nat) => (List.range 20).foldl (fun acc i => acc + a / 2 ^ (2 * i + r) % 2) 0
  ((word 0 + abit 0) % 2, (word 1 + abit 1) % 2)

/-- A slot image with its parity (R279, R292). -/
def slotImage (size addr : Nat) (valid : Bool) (age : Nat) (key value : List Byte) : List Byte :=
  let img := fit size ([B8 valid.toNat, B8 age, 0, 0] ++ key ++ value)
  let (p0, p1) := slotParity img addr
  img.take 2 ++ [B8 (p0 + 2 * p1)] ++ img.drop 3

/-- A slot read from its image. -/
def slotOf (b k kl vl addr : Nat) (img : List Byte) : Slot :=
  let (p0, p1) := slotParity img addr
  let h := leNat (img.take 4)
  { bucket := b, slot := k, valid := decide (h % 2 = 1)
    good := decide (h / 65536 % 2 = p0 ∧ h / 131072 % 2 = p1)
    age := h / 256 % 256
    key := (img.drop 4).take kl
    value := (img.drop (4 + kl)).take vl }

/-! ### The lookup cache (R298) -/

/-- The line is cached. -/
def State.cached (s : State) (line : Nat) : Option (List Byte) :=
  (s.look.cache.find? fun p => p.1 == line).map (·.2)

/-- A line becomes the most recently used of its set of 16; the least recently used leaves (R298). The set of a
line is its number mod 8,192 (log entry 10). -/
def State.cacheUse (s : State) (line : Nat) (b : List Byte) : State :=
  let rest := s.look.cache.filter fun p => p.1 != line
  let set := rest.filter fun p => p.1 % 8192 == line % 8192
  let rest := if set.length < 16 then rest
    else match set with
      | v :: _ => rest.erase v
      | [] => rest
  { s with look := { s.look with cache := rest ++ [(line, b)] } }

/-- What the reader of far tables that runs finds in place of a line: what it has fetched, else the cached line; none where
it has neither (R298). -/
def State.lineNow (s : State) (l : Nat) : Option (Option (List Byte)) :=
  match s.look.fetch.find? (fun f => f.line == l && s.look.cur.map (·.1) == some f.own) with
  | some f =>
    match f.got with
    | .data b => some (some b)
    | .bad => some none
    | .waits => none
  | none => (s.cached l).map some

/-- The reader lacks lines: they are to be fetched, or one of them is not present (R419). -/
def State.farLacks (s : State) (ls : List Nat) : State :=
  match s.look.cur with
  | none => s
  | some _ =>
    match ls.find? fun l => !s.dramPresent (l * 64) 64 with
    | some l => { s with look := { s.look with gone := some (l * 64) } }
    | none => { s with look := { s.look with need := s.look.need ++ ls.filter fun l => !s.look.need.contains l } }

/-- The lines that a far bucket read covers (R298): none while some are lacking, or when one is uncorrectable. -/
def State.lines (s : State) (ls : List Nat) : Option (List Byte) × State :=
  let lack := ls.filter fun l => (s.lineNow l).isNone
  if !lack.isEmpty then (none, s.farLacks lack)
  else
    let fetched := s.look.fetch.any fun f => ls.contains f.line && s.look.cur.map (·.1) == some f.own
    let s := s.bump (if fetched then Reg.TBL_CACHE_MISS else Reg.TBL_CACHE_HIT)
    let bs := ls.filterMap fun l => (s.lineNow l).bind id
    if bs.length < ls.length then (none, s)
    else (some bs.flatten, ls.foldl (fun t l =>
      match t.cached l with
      | some b => t.cacheUse l b
      | none => t) s)

/-- The bytes of `n` bytes at `a` of a table's memory: none when uncorrectable (R287), or while far lines are lacking. -/
def State.tRead (s : State) (t a n : Nat) : Option (List Byte) × State :=
  if s.tFar t then
    match s.lines ((List.range ((a % 64 + n + 63) / 64)).map fun i => a / 64 + i) with
    | (some b, u) => (some ((b.drop (a % 64)).take n), u)
    | (none, u) => (none, u)
  else
    match s.eccRead 8 0 a n with
    | (true, u) => (none, u)
    | (false, u) => (some (u.mem.tblram.bytes a n), u)

/-- The bytes of a line with those that a write at a puts into it. -/
def lineWith (line a : Nat) (b old : List Byte) : List Byte :=
  (List.range 64).map fun i =>
    if a ≤ line * 64 + i ∧ line * 64 + i < a + b.length then b.getD (line * 64 + i - a) 0 else byteAt old i

/-- An update's bytes reach every line that is cached or on its way (R298). -/
def State.linesSee (s : State) (a : Nat) (b : List Byte) : State :=
  let hits := fun (l : Nat) => decide (l * 64 < a + b.length ∧ a < l * 64 + 64)
  { s with look := { s.look with
    cache := s.look.cache.map fun p => if hits p.1 then (p.1, lineWith p.1 a b p.2) else p
    fetch := s.look.fetch.map fun f =>
      if !hits f.line then f
      else match f.got with
        | .data old => { f with got := .data (lineWith f.line a b old) }
        | .bad => f
        | .waits => { f with fresh := (List.range b.length).foldl (fun m i =>
            if (a + i) / 64 = f.line then Tab.set none m (a + i) (b[i]?) else m) f.fresh } } }

/-- Write the bytes of a slot whole: near, or through to DRAM with any cached line updated (R288, R298). -/
def State.tWrite (s : State) (t a : Nat) (b : List Byte) : State :=
  if s.tFar t then (s.dramWrite 0 ((s.look.cur.map (·.2)).getD false) a b .posted).linesSee a b
  else (({ s with mem := { s.mem with tblram := s.mem.tblram.put a b } }).eccWrite 8 0 a b.length)

/-- The bytes that stand in a table's memory, as nothing checks them. -/
def State.tPeek (s : State) (t a n : Nat) : List Byte := if s.tFar t then s.dramView a n else s.mem.tblram.bytes a n

/-! ### Readers of far tables (R298, R299) -/

/-- How a reader of far tables fares: done, waiting for lines, or at an address that is not present. -/
inductive Far (α : Type) where
  | done (v : α)
  | waits
  | gone
  deriving DecidableEq, Repr

/-- The reader has no more use for what it has fetched. -/
def State.farEnd (s : State) (own : FarFor) : State :=
  { s with look := { s.look with cur := none, fetch := s.look.fetch.filter fun f => f.own != own } }

/-- The lines that a reader lacks are fetched through regulator port 0 (R299, R426). -/
def State.farAsk (s : State) (own : FarFor) (tclass : Bool) (ls : List Nat) : State :=
  (ls.filter fun l => !s.look.fetch.any fun f => f.line == l && f.own == own).foldl (fun (t : State) (l : Nat) =>
    ({ t with look := { t.look with fetch := t.look.fetch ++ [(⟨l, own, .waits, []⟩ : Fetch)] } }).dramFetch 0 tclass (l * 64) 64
      (.line l own)) s

/-- A reader of far tables runs: with every line at hand it acts; else nothing happens but that the lines it lacks are
fetched, or that a line it cannot have is counted (R419). -/
def State.farRun {α : Type} (s : State) (own : FarFor) (tclass : Bool) (f : State → α × State) : Far α × State :=
  match f { s with look := { s.look with cur := some (own, tclass), need := [], gone := none } } with
  | (v, u) =>
    match u.look.gone with
    | some a => (.gone, (s.farEnd own).dramUnserved a)
    | none => if u.look.need.isEmpty then (.done v, u.farEnd own) else (.waits, s.farAsk own tclass u.look.need)

/-- A line has come for a reader: the cache is filled, unless the line is uncorrectable (R298, R429). -/
def State.lineComes (s : State) (n : Nat) (own : FarFor) (b : Option (List Byte)) : State :=
  match s.look.fetch.find? (fun f => f.line == n && f.own == own), b with
  | some f, some b =>
    let b := (List.range 64).map fun i => (Tab.get none f.fresh (n * 64 + i)).getD (byteAt b i)
    (s.fetchEnd n own (some (.data b))).cacheUse n b
  | some _, none => s.fetchEnd n own (some .bad)
  | none, _ => s

/-- What a read gives its requester (R429). -/
def State.dramGive (s : State) (r : DramReq) (b : Option (List Byte)) : State :=
  match r.dest, b with
  | .helper id, some b => s.updHlp id fun k => { k with buf := k.buf.put r.addr b }
  | .helper id, none => s.updHlp id fun k => { k with err := 3 }
  | .line n own, b => s.lineComes n own b
  | .op k, some b => s.updRun k fun x => { x with buf := x.buf.put r.addr b }
  | .op k, none => s.updRun k fun x => { x with bad := true }
  | .posted, _ => s
  | .idle, _ => s

/-- The words of the block of a read that are uncorrectable and that no earlier write replaces. -/
def State.badWords (s : State) (r : DramReq) : List Nat :=
  (wordsIn s.dram.poisoned (r.phys / 64)).filter fun w =>
    !s.dramWaiting.any fun q => decide (q.id < r.id) && coversWord q.phys q.len w

/-- Words with a single-bit error in the block of a read are corrected, and written back unless a write to the block is
queued (R428). -/
def State.correct (s : State) (i ch : Nat) (r : DramReq) : State :=
  let k := r.phys / 64
  let n := (wordsIn s.dram.single k).length
  let queued := (s.dch i ch).q.any fun q => q.write && q.phys / 64 == k
  let s := s.dramFix i n
  if queued then s else { s with dram := { s.dram with single := s.dram.single.filter fun w => w / 8 != k } }

/-- The oldest issued read of the channel returns (R428, R429, R433): `found` is what its checks newly find in the words of
its block, `lane0` and `lane1` what its byte lanes sense of the read timing. -/
def State.dramComplete (s : State) (i ch : Nat) (found : List (Nat × Bool)) (lane0 lane1 : Int) : Option DramReq × State :=
  let x := s.dch i ch
  match x.q.find? (fun r => r.issued) with
  | none => (none, s)
  | some r =>
    let s := ((s.setDch i ch { x with q := x.q.filter fun y => y.id != r.id }).readTrack i ch 0 lane0).readTrack i ch 1 lane1
    if r.dest = .idle then (some r, s)
    else
      let s := (s.dramFlaw (r.phys / 64) found).correct i ch r
      let bad := s.badWords r
      (some r, if bad.isEmpty then s.dramGive r (some r.data)
        else (s.dramLog (r.addr / 64 * 64) r.port bad.length false).dramGive r none)

/-! ### Reading slots -/

/-- A parity detection (R292, R308). -/
def State.parityError (s : State) (t b k : Nat) : State :=
  ((s.logFirst Reg.TBL_PAR_LOG 31 30 (W (b % 2 ^ 22 + k * 2 ^ 22 + t * 2 ^ 24))).bump Reg.TBL_PAR_CNT).raise
    Ev.TBL_PARITY

/-- The four slots of a bucket, read as one access; none when uncorrectable (R286, R287). -/
def State.bucket (s : State) (t b : Nat) : Option (List Slot) × State :=
  let sl := s.tSlot t
  match s.tRead t (s.tAddr t b 0) (4 * sl) with
  | (none, u) => (none, u)
  | (some img, u) =>
    (some ((List.range 4).map fun k =>
      slotOf b k (s.tKeyBytes t) (s.tVlen t) (s.tAddr t b k) ((img.drop (k * sl)).take sl)), u)

/-- Slot i of a direct-index table (R286). -/
def State.slotAt (s : State) (t i : Nat) : Option Slot × State :=
  let sl := s.tSlot t
  match s.tRead t (s.tAddr t (i / 4) (i % 4)) sl with
  | (none, u) => (none, u)
  | (some img, u) => (some (slotOf (i / 4) (i % 4) 0 (s.tVlen t) (s.tAddr t (i / 4) (i % 4)) img), u)

/-- The slots that fail parity are detected. -/
def State.detect (s : State) (t : Nat) (l : List Slot) : State :=
  (l.filter fun x => !x.good).foldl (fun u x => u.parityError t x.bucket x.slot) s

/-- The slots before the first that satisfies a test, and that one. -/
def firstHit (p : Slot → Bool) : List Slot → List Slot × Option Slot
  | [] => ([], none)
  | x :: t => if p x then ([], some x) else ((x :: (firstHit p t).1), (firstHit p t).2)

/-- The outcome of a lookup. -/
inductive Found where
  | hit (x : Slot)
  | miss
  | bad
  deriving DecidableEq, Repr

/-- An exact-match lookup (R286). -/
def State.findKey (s : State) (t : Nat) (key : List Byte) : Found × State :=
  let (b0, b1) := s.tBucketsOf t key
  match s.bucket t b0 with
  | (none, u) => (.bad, u)
  | (some l0, u) =>
    match u.bucket t b1 with
    | (none, v) => (.bad, v)
    | (some l1, v) =>
      let (before, h) := firstHit (fun x => x.good && x.valid && x.key == key) (l0 ++ l1)
      let v := v.detect t before
      match h with
      | some x => (.hit x, v)
      | none => (.miss, v)

/-- A direct-index lookup (R286). -/
def State.findIndex (s : State) (t i : Nat) : Found × State :=
  match s.slotAt t i with
  | (none, u) => (.bad, u)
  | (some x, u) =>
    if x.good then (if x.valid then .hit x else .miss, u) else (.miss, u.detect t [x])

/-- A lookup by key bytes: in a direct-index table the index is the key's first 4 bytes (R286, R347). -/
def State.lookup (s : State) (t : Nat) (key : List Byte) : Found × State :=
  if s.tDirect t then s.findIndex t (leNat (key.take 4)) else s.findKey t key

/-! ### Writing slots (R288, R290 to R293) -/

/-- The bucket is locked (R296). -/
def State.bLocked (s : State) (t b : Nat) : Bool := s.look.locks.contains (t, b)

/-- ENTRIES changes by a slot's change of VALID (R306). -/
def State.countEntry (s : State) (t : Nat) (was now : Bool) : State :=
  let n := s.fld (Reg.TBL_STAT t) 24 0
  if !was && now then s.setFld (Reg.TBL_STAT t) 24 0 (n + 1)
  else if was && !now then s.setFld (Reg.TBL_STAT t) 24 0 (n - 1)
  else s

/-- Write slot (b, k) whole with fresh parity (R288). -/
def State.putSlot (s : State) (t b k : Nat) (valid : Bool) (age : Nat) (key value : List Byte) : State :=
  let a := s.tAddr t b k
  s.tWrite t a (slotImage (s.tSlot t) a valid age (key.take (s.tKeyBytes t)) (fit (s.tVlen t) value))

/-- Clear VALID of a slot (R187, R297, R302). -/
def State.clearSlot (s : State) (t : Nat) (x : Slot) : State :=
  (s.putSlot t x.bucket x.slot false x.age x.key x.value).countEntry t x.valid false

/-- The outcome of an insert; `denied` where it would evict and the evicted entry could not be delivered (R302). -/
inductive Ins where
  | replaced (x : Slot)
  | placed (b k : Nat)
  | evicted (x : Slot)
  | full
  | bad
  | denied
  deriving DecidableEq, Repr

/-- The lowest free slot of a bucket for a requester: none in a locked bucket for an engine (R290). -/
def State.freeSlot (s : State) (t b : Nat) (eng : Bool) (l : List Slot) : Option Slot :=
  if eng && s.bLocked t b then none else l.find? fun x => x.good && !x.valid

/-- The first movable slot of a bucket from index i (R290). -/
def State.movable (s : State) (t b : Nat) (eng : Bool) (l : List Slot) (i : Nat) : Option Slot :=
  if eng && s.bLocked t b then none
  else
    let ord := (List.range 4).filterMap fun j => l[(i + j) % 4]?
    ord.find? fun x => x.good && x.valid && ((s.tBucketsOf t x.key).1 == b || (s.tBucketsOf t x.key).2 == b)

/-- How a path search ends (R287, R290): the path from its end with the free slot, no path, or uncorrectable
data. -/
inductive Path where
  | found (path : List Slot) (f : Slot)
  | none
  | bad
  deriving DecidableEq, Repr

/-- The path search from bucket `bkt` with the slots `l` (R290): each step reads one bucket, and what fails parity
there is detected (R292). -/
def State.pathSearch (s : State) (t : Nat) (eng : Bool) : Nat → Nat → Nat → List Slot → List Slot → Path × State
  | 0, _, _, _, _ => (.none, s)
  | n + 1, i, bkt, l, path =>
    match s.movable t bkt eng l i with
    | none => (.none, s)
    | some e =>
      let (x0, x1) := s.tBucketsOf t e.key
      let alt := if x0 = bkt then x1 else x0
      match s.bucket t alt with
      | (none, u) => (.bad, u)
      | (some m, u) =>
        let u := u.detect t m
        match u.freeSlot t alt eng m with
        | some f => (.found (e :: path) f, u)
        | none => u.pathSearch t eng n (i + 1) alt m (e :: path)

/-- Apply a path from its far end (R291): the entry that stands at each step's slot moves into the slot freed after it
(`moved` holds what this move has put where, newest first); answers the slot that is left for the new key. -/
def State.pathMove (s : State) (t : Nat) (moved : List ((Nat × Nat) × Slot)) : List Slot → Slot → Slot × State
  | [], f => (f, s)
  | e :: rest, f =>
    let x := ((moved.find? fun p => p.1 == (e.bucket, e.slot)).map (·.2)).getD e
    (s.putSlot t f.bucket f.slot true x.age x.key x.value).pathMove t (((f.bucket, f.slot), x) :: moved) rest e

/-- One step of the LFSR (R293). -/
def lfsrStep (v : Nat) : Nat := if v % 2 = 1 then (v / 2) ^^^ 0xB400 else v / 2

/-- The victim of an eviction under a policy (R293), and the LFSR's state after it. -/
def State.victim (s : State) (pol : Word) (cands : List Slot) : Option Slot × State :=
  match getF pol 11 10 with
  | 1 =>
    let v := s.fld Reg.TBL_LFSR 15 0
    match cands[v % cands.length]? with
    | some x => (some x, s.setReg Reg.TBL_LFSR (W (lfsrStep v)))
    | none => (none, s)
  | 2 => (cands.foldl (fun (b : Option Slot) x =>
      match b with
      | none => some x
      | some y => if y.age < x.age then some x else some y) none, s)
  | _ => (none, s)

/-- An exact-match insert under a policy (R283, R290, R291, R293); `evicts` is false where no entry may be evicted. -/
def State.insertKey (s : State) (t : Nat) (pol : Word) (key value : List Byte) (eng evicts : Bool) : Ins × State :=
  match s.findKey t key with
  | (.bad, u) => (.bad, u)
  | (.hit x, u) => (.replaced x, u.putSlot t x.bucket x.slot true 0 key value)
  | (.miss, u) =>
    let (b0, b1) := u.tBucketsOf t key
    match u.bucket t b0, u.bucket t b1 with
    | (some l0, _), (some l1, _) =>
      match (u.freeSlot t b0 eng l0).orElse (fun _ => u.freeSlot t b1 eng l1) with
      | some f => (.placed f.bucket f.slot, (u.putSlot t f.bucket f.slot true 0 key value).countEntry t false true)
      | none =>
        let start := if eng && u.bLocked t b0 then (b1, l1) else (b0, l0)
        match u.pathSearch t eng (getF pol 8 0) 0 start.1 start.2 [] with
        | (.bad, v) => (.bad, v)
        | (.found path f, v) =>
          let (g, v) := v.pathMove t [] path f
          (.placed g.bucket g.slot, (v.putSlot t g.bucket g.slot true 0 key value).countEntry t false true)
        | (.none, v) =>
          let cands := (l0 ++ l1).filter fun x => x.good && x.valid && !(eng && v.bLocked t x.bucket)
          match v.victim pol cands with
          | (some x, w) =>
            if !evicts then (.denied, v)
            else (.evicted x, ((w.putSlot t x.bucket x.slot true 0 key value).bump Reg.TBL_EVICT_CNT).raise Ev.TBL_EVICT)
          | (none, w) => (.full, w.bump Reg.TBL_INSFAIL_CNT)
    | _, _ => (.bad, u)

/-- A direct-index insert (R579). -/
def State.insertIndex (s : State) (t i : Nat) (value : List Byte) (eng : Bool) : Ins × State :=
  match s.slotAt t i with
  | (none, u) => (.bad, u)
  | (some x, u) =>
    let u := u.detect t [x]
    if !x.good || (eng && u.bLocked t (i / 4)) then (.full, u.bump Reg.TBL_INSFAIL_CNT)
    else
      let v := (u.putSlot t x.bucket x.slot true 0 [] value).countEntry t x.valid true
      (if x.valid then .replaced x else .placed x.bucket x.slot, v)

end Sys2Proof.Machine
end

