-- ==== Sys2Proof/Machine/Crypto.lean ====
section
/-! DEFINITION. The AES helper's arithmetic (R186): AES-128 and AES-256 blocks (FIPS 197), GHASH
(NIST SP 800-38D) and AES-CMAC (RFC 4493), on lists of bytes in wire order. -/

namespace Sys2Proof.Machine

open Sys2Proof

/-- Product in GF(2^8), from the highest of the n bits of b left on; p is the product so far. -/
def gf8Go (a b : Nat) : Nat → Nat → Nat
  | 0, p => p
  | n + 1, p =>
    withNat (if 128 ≤ p then (p * 2 % 256) ^^^ 0x1B else p * 2) fun q =>
      withNat (if b.testBit n then q ^^^ a else q) fun r => gf8Go a b n r

/-- Product in GF(2^8). -/
def gf8 (a b : Nat) : Nat := gf8Go a b 8 0

/-- The S-box, a row of 16 bytes for each high nibble. -/
def sboxRows : List Nat :=
  [0x637C777BF26B6FC53001672BFED7AB76, 0xCA82C97DFA5947F0ADD4A2AF9CA472C0] ++
  [0xB7FD9326363FF7CC34A5E5F171D83115, 0x04C723C31896059A071280E2EB27B275] ++
  [0x09832C1A1B6E5AA0523BD6B329E32F84, 0x53D100ED20FCB15B6ACBBE394A4C58CF] ++
  [0xD0EFAAFB434D338545F9027F503C9FA8, 0x51A3408F929D38F5BCB6DA2110FFF3D2] ++
  [0xCD0C13EC5F974417C4A77E3D645D1973, 0x60814FDC222A908846EEB814DE5E0BDB] ++
  [0xE0323A0A4906245CC2D3AC629195E479, 0xE7C8376D8DD54EA96C56F4EA657AAE08] ++
  [0xBA78252E1CA6B4C6E8DD741F4BBD8B8A, 0x703EB5664803F60E613557B986C11D9E] ++
  [0xE1F8981169D98E949B1E87E9CE5528DF, 0x8CA1890DBFE6426841992D0FB054BB16]

/-- The inverse S-box. -/
def invSboxRows : List Nat :=
  [0x52096AD53036A538BF40A39E81F3D7FB, 0x7CE339829B2FFF87348E4344C4DEE9CB] ++
  [0x547B9432A6C2233DEE4C950B42FAC34E, 0x082EA16628D924B2765BA2496D8BD125] ++
  [0x72F8F66486689816D4A45CCC5D65B692, 0x6C704850FDEDB9DA5E154657A78D9D84] ++
  [0x90D8AB008CBCD30AF7E45805B8B34506, 0xD02C1E8FCA3F0F02C1AFBD0301138A6B] ++
  [0x3A9111414F67DCEA97F2CFCEF0B4E673, 0x96AC7422E7AD3585E2F937E81C75DF6E] ++
  [0x47F11A711D29C5896FB7620EAA18BE1B, 0xFC563E4BC6D279209ADBC0FE78CD5AF4] ++
  [0x1FDDA8338807C731B11210592780EC5F, 0x60517FA919B54A0D2DE57A9F93C99CEF] ++
  [0xA0E03B4DAE2AF5B0C8EBBB3C83539961, 0x172B047EBA77D626E169146355210C7D]

/-- The byte of a table for x. -/
def boxAt (rows : List Nat) (x : Nat) : Nat := rows.getD (x / 16) 0 / 256 ^ (15 - x % 16) % 256

/-- Every byte through the S-box, and back. -/
def sboxes (l : List Byte) : List Byte := evalBytes (l.map fun x => boxAt sboxRows x.toNat)
def invSboxes (l : List Byte) : List Byte := evalBytes (l.map fun x => boxAt invSboxRows x.toNat)

/-- Byte strings XORed, to the shorter length. -/
def xorBytes (a b : List Byte) : List Byte := evalBytes (List.zipWith (fun x y => x.toNat ^^^ y.toNat) a b)

/-- The expanded key as 4-byte words, `n` more after `w` (newest first). -/
def expandKey (nk : Nat) : Nat → List (List Byte) → Nat → List (List Byte)
  | 0, w, _ => w
  | n + 1, w, rcon =>
    let i := w.length
    let prev := w.headD []
    let t := if i % nk = 0 then
        let r := sboxes (prev.drop 1 ++ prev.take 1)
        match r with
        | h :: q => (h ^^^ B8 rcon) :: q
        | [] => []
      else if 6 < nk ∧ i % nk = 4 then sboxes prev
      else prev
    expandKey nk n (xorBytes (w.getD (nk - 1) []) t :: w) (if i % nk = 0 then gf8 rcon 2 else rcon)

/-- The round keys of a 16 or 32 byte key, 16 bytes each. -/
def roundKeys (key : List Byte) : List (List Byte) :=
  let nk := key.length / 4
  let nr := nk + 6
  let w0 := ((List.range nk).map fun i => (key.drop (4 * i)).take 4).reverse
  let w := (expandKey nk (4 * (nr + 1) - nk) w0 1).reverse
  (List.range (nr + 1)).map fun r => ((w.drop (4 * r)).take 4).flatten

def shiftRows (s : List Byte) : List Byte :=
  (List.range 16).map fun i => byteAt s (i % 4 + 4 * ((i / 4 + i % 4) % 4))

def invShiftRows (s : List Byte) : List Byte :=
  (List.range 16).map fun i => byteAt s (i % 4 + 4 * ((i / 4 + 4 - i % 4) % 4))

/-- A column matrix product with coefficients m0, m1, m2, m3. -/
def mixWith (m0 m1 m2 m3 : Nat) (s : List Byte) : List Byte :=
  evalBytes ((List.range 16).map fun i =>
    let at_ := fun (r : Nat) => (byteAt s (i / 4 * 4 + (i + r) % 4)).toNat
    gf8 (at_ 0) m0 ^^^ gf8 (at_ 1) m1 ^^^ gf8 (at_ 2) m2 ^^^ gf8 (at_ 3) m3)

/-- AES encryption of one block. -/
def aesEnc (key blk : List Byte) : List Byte :=
  match roundKeys key with
  | [] => blk
  | k0 :: ks =>
    let s := xorBytes blk k0
    let s := (ks.take (ks.length - 1)).foldl (fun t k => xorBytes (mixWith 2 3 1 1 (shiftRows (sboxes t))) k) s
    xorBytes (shiftRows (sboxes s)) (ks.getLastD [])

/-- AES decryption of one block. -/
def aesDec (key blk : List Byte) : List Byte :=
  match (roundKeys key).reverse with
  | [] => blk
  | k0 :: ks =>
    let s := xorBytes blk k0
    let s := (ks.take (ks.length - 1)).foldl
      (fun t k => mixWith 14 11 13 9 (xorBytes (invSboxes (invShiftRows t)) k)) s
    xorBytes (invSboxes (invShiftRows s)) (ks.getLastD [])

/-- Product in GF(2^128) under the bit order of GHASH, the n lowest bits of x left: p so far, v to be added next. -/
def gf128Go (x : Nat) : Nat → Nat → Nat → Nat
  | 0, p, _ => p
  | n + 1, p, v =>
    withNat (if x.testBit n then p ^^^ v else p) fun q =>
      withNat (if v % 2 = 1 then (v / 2) ^^^ (0xE1 * 2 ^ 120) else v / 2) fun w => gf128Go x n q w

/-- Product in GF(2^128) under the bit order of GHASH, on big-endian numbers. -/
def gf128 (x y : Nat) : Nat := gf128Go x 128 0 y

/-- (acc XOR blk) • H (R186). -/
def ghashStep (h acc blk : List Byte) : List Byte := withNat (gf128 (beNat (xorBytes acc blk)) (beNat h)) fun n => beBytes 16 n

/-- inc32 (R186): bytes 12 to 15 as a big-endian number. -/
def inc32 (b : List Byte) : List Byte := b.take 12 ++ beBytes 4 (beNat (b.drop 12) + 1)

/-- Doubling in the field of CMAC. -/
def cmacDouble (n : Nat) : Nat := if 2 ^ 127 ≤ n then (n * 2 % 2 ^ 128) ^^^ 0x87 else n * 2

/-- The last block of a CMAC message of `len` bytes in it, masked with K1 or K2 (R186). -/
def cmacLast (l blk : List Byte) (len : Nat) : List Byte :=
  let k1 := cmacDouble (beNat l)
  if len = 16 then xorBytes blk (beBytes 16 k1)
  else xorBytes (fit 16 (blk.take len ++ [0x80])) (beBytes 16 (cmacDouble k1))

/-- The blocks of a message, at least one. -/
def blocks16 : Nat → List Byte → List (List Byte)
  | 0, _ => []
  | n + 1, m => m.take 16 :: blocks16 n (m.drop 16)

/-- AES-CMAC of a whole message (RFC 4493), as the in-band route uses it (R479). -/
def cmac (key msg : List Byte) : List Byte :=
  let n := max 1 (ceilDiv msg.length 16)
  let bs := blocks16 n msg
  let x := (bs.take (n - 1)).foldl (fun a b => aesEnc key (xorBytes a b)) (List.replicate 16 0)
  let last := bs.getLastD []
  aesEnc key (xorBytes x (cmacLast (aesEnc key (List.replicate 16 0)) (fit 16 last) last.length))

end Sys2Proof.Machine
end

