-- ==== Sys2Proof/Machine/EngineCode.lean ====
section
/-! DEFINITION. The instruction decoder of the engines (R104 to R109, R124 to R126): total on any bytes of the
instruction store; what it refuses raises the illegal-instruction trap. -/

namespace Sys2Proof.Machine

open Sys2Proof

/-- The lead bytes of an instruction (R105). -/
inductive Lead where
  | h | w | sh | cx | br | acq | rel | x2
  deriving DecidableEq, Repr

/-- The lead byte a value names (R105). -/
def leadOf (b : Nat) : Option Lead :=
  match b with
  | 0xF0 => some .h
  | 0xF1 => some .w
  | 0xF2 => some .sh
  | 0xF3 => some .cx
  | 0xF4 => some .acq
  | 0xF5 => some .rel
  | 0xF6 => some .br
  | 0xF7 => some .x2
  | _ => none

/-- The group of a lead byte (R105): width, operand, order and page. -/
def Lead.group : Lead → Nat
  | .h | .w => 0
  | .sh | .cx | .br => 1
  | .acq | .rel | .x2 => 2

/-- The lead bytes before the opcode and the bytes from the opcode on; more than three always repeat a group. -/
def splitLeads : Nat → List Nat → List Lead × List Nat
  | 0, l => ([], l)
  | _ + 1, [] => ([], [])
  | n + 1, b :: t =>
    match leadOf b with
    | some p => let r := splitLeads n t; (p :: r.1, r.2)
    | none => ([], b :: t)

/-- No two lead bytes of one group (R106). -/
def leadsOk : List Lead → Bool
  | [] => true
  | p :: t => !(t.any fun q => q.group == p.group) && leadsOk t

/-- How the bytes after the opcode lie (R104, R124): none; one operand byte; one and an immediate of the width;
two with a memory mode; one and two immediate bytes; two immediate bytes; CALL; CALLR; MTC and MFC. -/
inductive Form where
  | none | ds | dimm | mem | d16 | t16 | call | callr | mtc
  deriving DecidableEq, Repr

/-- A row of the opcode map (R124): mnemonic, form, lead bytes accepted. -/
structure OpRow where
  op : EOp
  form : Form
  leads : List Lead
  deriving DecidableEq, Repr

/-- Page 1 of the opcode map (R124). -/
def page1 (b : Nat) : Option OpRow :=
  let alu := [Lead.h, .w, .sh, .br]
  let imm := [Lead.h, .w, .sh]
  match b with
  | 0x00 => some ⟨.nop, .none, []⟩
  | 0x01 => some ⟨.brk, .none, []⟩
  | 0x10 => some ⟨.add, .ds, alu⟩
  | 0x11 => some ⟨.addi, .dimm, imm⟩
  | 0x12 => some ⟨.mov, .ds, alu⟩
  | 0x13 => some ⟨.movi, .dimm, imm⟩
  | 0x14 => some ⟨.sub, .ds, alu⟩
  | 0x15 => some ⟨.subi, .dimm, imm⟩
  | 0x16 => some ⟨.adc, .ds, alu⟩
  | 0x17 => some ⟨.sbc, .ds, alu⟩
  | 0x18 => some ⟨.and, .ds, alu⟩
  | 0x19 => some ⟨.andi, .dimm, imm⟩
  | 0x1A => some ⟨.or, .ds, alu⟩
  | 0x1B => some ⟨.ori, .dimm, imm⟩
  | 0x1C => some ⟨.xor, .ds, alu⟩
  | 0x1D => some ⟨.xori, .dimm, imm⟩
  | 0x1E => some ⟨.cmp, .ds, alu⟩
  | 0x1F => some ⟨.cmpi, .dimm, imm⟩
  | 0x20 => some ⟨.tst, .ds, alu⟩
  | 0x21 => some ⟨.not, .ds, alu⟩
  | 0x22 => some ⟨.neg, .ds, alu⟩
  | 0x23 => some ⟨.shl, .ds, imm⟩
  | 0x24 => some ⟨.shr, .ds, imm⟩
  | 0x25 => some ⟨.sar, .ds, imm⟩
  | 0x26 => some ⟨.rol, .ds, imm⟩
  | 0x27 => some ⟨.ror, .ds, imm⟩
  | 0x28 => some ⟨.shli, .dimm, imm⟩
  | 0x29 => some ⟨.shri, .dimm, imm⟩
  | 0x2A => some ⟨.sari, .dimm, imm⟩
  | 0x30 => some ⟨.mul, .ds, alu⟩
  | 0x31 => some ⟨.muls, .ds, alu⟩
  | 0x40 => some ⟨.ld, .mem, [.h, .w, .sh, .acq]⟩
  | 0x41 => some ⟨.st, .mem, [.h, .w, .sh, .rel]⟩
  | 0x42 => some ⟨.ldi, .mem, imm⟩
  | 0x48 => some ⟨.inp, .d16, imm⟩
  | 0x49 => some ⟨.outp, .d16, [.h, .w, .sh, .br, .rel]⟩
  | 0x4A => some ⟨.inr, .ds, imm⟩
  | 0x4B => some ⟨.outr, .ds, [.h, .w, .sh, .br, .rel]⟩
  | 0x50 => some ⟨.jmp, .t16, []⟩
  | 0x51 => some ⟨.bcc, .d16, []⟩
  | 0x52 => some ⟨.jmpr, .ds, [.sh]⟩
  | 0x60 => some ⟨.call, .call, []⟩
  | 0x61 => some ⟨.callr, .callr, [.sh]⟩
  | 0x62 => some ⟨.ret, .none, []⟩
  | 0x70 => some ⟨.mtc, .mtc, [.cx]⟩
  | 0x71 => some ⟨.mfc, .mtc, [.cx]⟩
  | _ => none

/-- Page 2 of the opcode map (R124). -/
def page2 (b : Nat) : Option OpRow :=
  let alu := [Lead.h, .w, .sh, .br]
  let imm := [Lead.h, .w, .sh]
  match b with
  | 0x01 => some ⟨.crcb, .ds, [.sh, .br]⟩
  | 0x04 => some ⟨.par, .ds, alu⟩
  | 0x05 => some ⟨.popc, .ds, alu⟩
  | 0x06 => some ⟨.brev, .ds, imm⟩
  | 0x07 => some ⟨.bswap, .ds, imm⟩
  | 0x08 => some ⟨.ext, .d16, alu⟩
  | 0x09 => some ⟨.ins, .d16, imm⟩
  | 0x10 => some ⟨.mfsp, .ds, [.sh]⟩
  | 0x11 => some ⟨.mtsp, .ds, [.sh]⟩
  | 0x30 => some ⟨.fork, .d16, [.sh]⟩
  | 0x31 => some ⟨.join, .ds, [.sh]⟩
  | 0x32 => some ⟨.endc, .none, []⟩
  | 0x33 => some ⟨.kill, .ds, [.sh]⟩
  | 0x34 => some ⟨.waith, .none, []⟩
  | 0x35 => some ⟨.waitev, .ds, [.sh]⟩
  | 0x3E => some ⟨.tret, .none, []⟩
  | _ => none

/-- Little-endian value of the first n of a list of byte values. -/
def takeLe (n : Nat) (l : List Nat) : Nat := (l.take n).reverse.foldl (fun a b => a * 256 + b) 0

/-- The fields of the bytes after the opcode, and how many bytes they take (R104, R107 to R109, R125). -/
def fieldsOf (r : OpRow) (ls : List Lead) (t : List Nat) : Operands × Nat :=
  let has := fun (p : Lead) => ls.contains p
  let b1 := t.headD 0
  let b2 := (t.drop 1).headD 0
  let base : Operands :=
    { h := has .h, w := has .w, sh := has .sh, cx := has .cx, br := has .br, acq := has .acq, rel := has .rel,
      d := 0, s := 0, x := 0, m := 0, imm := 0, mask := 0 }
  let one := { base with d := BitVec.ofNat 4 (b1 / 16), s := BitVec.ofNat 4 b1 }
  let two := { one with x := BitVec.ofNat 4 (b2 / 16), m := BitVec.ofNat 4 b2 }
  match r.form with
  | .none => (base, 0)
  | .ds => (one, 1)
  | .dimm =>
    let n := if has .w then 4 else if has .h then 2 else 1
    ({ one with imm := W (takeLe n (t.drop 1)) }, 1 + n)
  | .mem => if b2 % 16 = 1 ∨ b2 % 16 = 2 then ({ two with imm := W (takeLe 2 (t.drop 2)) }, 4) else (two, 2)
  | .d16 => ({ one with imm := W (takeLe 2 (t.drop 1)) }, 3)
  | .t16 => ({ base with imm := W (takeLe 2 t) }, 2)
  | .call => ({ base with imm := W (takeLe 2 t), mask := BitVec.ofNat 16 (takeLe 2 (t.drop 2)) }, 4)
  | .callr => ({ one with mask := BitVec.ofNat 16 (takeLe 2 (t.drop 1)) }, 3)
  | .mtc => if has .cx then (two, 2) else (one, 1)

/-- The operand values an instruction accepts (R86, R106, R108, R126). -/
def operandsOk (op : EOp) (o : Operands) : Bool :=
  match op with
  | .bcc => o.s != 15
  | .ldi => decide (o.m.toNat ≤ 2)
  | .ld => decide (o.m.toNat ≤ 5) && !((o.m == 4 || o.m == 5) && o.d == o.s)
  | .st => decide (o.m.toNat ≤ 5)
  | .mtc => decide (o.d.toNat < 8) && (if o.cx then decide (o.x.toNat < 4) else decide (o.s.toNat ≤ 12))
  | .mfc => decide (o.s.toNat < 8) && (if o.cx then decide (o.x.toNat < 4) else decide (o.d.toNat ≤ 12))
  | .ext | .ins => decide (o.imm.toNat % 32 + (o.imm.toNat / 256 % 32 + 1) ≤ o.bits)
  | .mfsp => decide (o.s.toNat ≤ 6)
  | .mtsp => decide (1 ≤ o.d.toNat ∧ o.d.toNat ≤ 6)
  | _ => true

/-- The instruction that starts with these byte values, with its length (R104, R106); none is illegal. -/
def decodeBytes (l : List Nat) : Option (EOp × Operands × Nat) :=
  let (ls, rest) := splitLeads 4 l
  match rest with
  | [] => none
  | b :: t =>
    match (if ls.contains .x2 then page2 b else page1 b) with
    | none => none
    | some r =>
      let (o, n) := fieldsOf r ls t
      let len := ls.length + 1 + n
      if leadsOk ls && (ls.all fun p => p == .x2 || r.leads.contains p) && decide (len ≤ 8) && operandsOk r.op o then
        some (r.op, o, len)
      else none

/-- The 8 bytes of the instruction store of pack p from address pc, wrapping at its end (R92). -/
def State.codeAt (s : State) (p pc : Nat) : List Nat :=
  (List.range 8).map fun i => (s.mem.istore.rd (p * 0x10000 + (pc + i) % 0x10000)).toNat

end Sys2Proof.Machine
end

