-- ==== Sys2Proof/Machine/Issue.lean ====
section
/-! DEFINITION. How a latched instruction runs: the frame of every instruction, the turns a multi-turn instruction takes
(R115, R116, R122, R124) and the holds that follow an instruction (R98, R110, R123). -/

namespace Sys2Proof.Machine

open Sys2Proof

/-! ### Turns -/

/-- The registers a frame mask names, rising; bit 14 never counts (R115, R116). -/
def frameRegs (m : Nat) : List Nat := (List.range 16).filter fun k => k != 14 && decide (m / 2 ^ k % 2 = 1)

/-- The issue opportunities an instruction of context c occupies (R122, R124): CALL, CALLR and RET that do not trap
on G14 take 1 + ceil((n + 1) / 2), every other instruction 1. -/
def State.turnsOf (s : State) (c : Nat) (op : EOp) (o : Operands) : Nat :=
  let g14 := (s.greg c 14).toNat
  let turns := fun (m : Nat) => if g14 % 4 = 0 then 1 + ceilDiv ((frameRegs m).length + 1) 2 else 1
  match op with
  | .call | .callr => turns o.mask.toNat
  | .ret => turns (s.dread c (g14 % 65536) 4 % 65536)
  | _ => 1

/-! ### Holds -/

/-- The G registers an instruction reads (R107, R127 to R136). -/
def readsG (op : EOp) (o : Operands) : List Nat :=
  let d := regNo o o.d
  let s := regNo o o.s
  let rs : List Nat :=
    match op with
    | .add | .sub | .adc | .sbc | .and | .or | .xor | .cmp | .tst | .shl | .shr | .sar | .rol | .ror | .mul | .muls
    | .outr | .ins | .crcb => [d, s]
    | .addi | .subi | .andi | .ori | .xori | .cmpi | .shli | .shri | .sari => [d]
    | .mov | .not | .neg | .outp | .inr | .jmpr | .par | .popc | .brev | .bswap | .ext | .mtsp | .fork | .join | .kill
    | .waitev => [s]
    | .ld => if o.m = 2 then [] else if o.m = 3 then [s, regNo o o.x] else [s]
    | .st => d :: (if o.m = 2 then [] else if o.m = 3 then [s, regNo o o.x] else [s])
    | .ldi => if o.m = 2 then [] else [s]
    | .call => 14 :: frameRegs o.mask.toNat
    | .callr => s :: 14 :: frameRegs o.mask.toNat
    | .ret => [14]
    | .mtc => if o.cx then [s] else (List.range 4).map (o.s.toNat + ·)
    | _ => []
  rs.filter fun r => decide (r < 16)

/-- The instruction reads MLO or MHI (R86). -/
def readsProduct (op : EOp) (o : Operands) : Bool := op == .mfsp && (o.s == 2 || o.s == 3)

/-- The G register that a LD, LDI, IN or INR loads (R123). -/
def loadsG (op : EOp) (o : Operands) : Option Nat :=
  match op with
  | .ld | .ldi | .inp | .inr => if regNo o o.d < 16 then some (regNo o o.d) else none
  | _ => none

/-- The most owned slots that a load from a region costs (R98). -/
def regionCost (a : Nat) : Nat :=
  match regionOf a with
  | .psm => 1
  | .csm => 4
  | _ => 0

/-- The owned slots that the read of a lock costs at most when its group never stalls (R204). -/
def State.lockCost (s : State) (port : Nat) : Nat :=
  let p := port % 65536
  if 0x1000 ≤ p ∧ p < 0x2000 ∧ s.fld (Reg.LEASH_GRP_TMO ((p - 0x1000) / 64)) 19 0 = 0 then 1 else 0

/-- The most owned slots an instruction's accesses cost (R98, R131, R204), as the state stands before it: loads by their
region, a REL store or REL OUT 4, each word of a RET frame its region's cost. Posted stores are visible at once, so no
store meets four outstanding ones (log entry 8). -/
def State.accessCost (s : State) (c : Nat) (op : EOp) (o : Operands) : Nat :=
  let g14 := (s.greg c 14).toNat
  match op with
  | .ld =>
    let a := (s.ea c o).1
    if a % o.size = 0 ∧ !isMwLock o a then regionCost a else 0
  | .st | .outp | .outr => if o.rel then 4 else 0
  | .inp => s.lockCost o.imm.toNat
  | .inr => s.lockCost (s.greg c (regNo o o.s)).toNat
  | .ret =>
    if g14 % 4 = 0 then
      (List.range ((frameRegs (s.dread c (g14 % 65536) 4 % 65536)).length + 1)).foldl
        (fun n i => n + regionCost ((g14 + 4 * i) % 65536)) 0
    else 0
  | _ => 0

/-- The hold under R98 of a context whose access costs at most `cost` owned slots: any number up to it for a T-class
context; for an E-class context no bound is given. -/
def Ctx.accessHold (x : Ctx) (c cost : Nat) : Nat :=
  if cost = 0 then 0
  else if x.tclass then Config.holdTurns c x.gen x.holds % (cost + 1) else Config.holdTurns c x.gen x.holds

/-- The opportunities for which the next instruction waits: R98, and with EXPOSE = 0 the interlocks of R123; of an access
hold and an interlock on the same load only the larger. -/
def State.holdAfter (s : State) (c : Nat) (op : EOp) (o : Operands) (access age : Nat) : Nat :=
  if s.exposed c || ((loadsG op o).isNone && age == 0) then access
  else
    match decodeBytes (s.codeAt (packOf c) (s.ctx c).pc.toNat) with
    | none => access
    | some (op2, o2, _) =>
      let load := match loadsG op o with
        | some r => if (readsG op2 o2).contains r then 1 else 0
        | none => 0
      max access load + (if readsProduct op2 o2 then age else 0)

/-- After an instruction of a live context: its holds (R98, R110, R123). -/
def State.setHold (s : State) (c : Nat) (op : EOp) (o : Operands) (cost : Nat) : State :=
  let x := s.ctx c
  if x.live then
    let age := if op = .mul ∨ op = .muls then 2 else x.mulAge - 1
    s.setCtx c { x with
      hold := s.holdAfter c op o (x.accessHold c cost) age
      holds := x.holds + (decide (0 < cost)).toNat
      mulAge := age }
  else s

/-! ### The frame -/

/-- Run the body of an instruction when the wheel has latched it for context c; a command that names another
instruction than the latched one has no effect (log entry 4). -/
def State.runIssue (s : State) (op : EOp) (c : Nat) (o : Operands) (body : Nat → Operands → State → Eff) : Out :=
  match s.issued op c o with
  | none => .next s
  | some len =>
    let u := s.clearIssue (engOf c)
    .next ((((body c o u).finish c len (u.ctx c).pend.length).stepEnd c).setHold c op o (s.accessCost c op o))

end Sys2Proof.Machine
end

