-- ==== Sys2Proof/Machine/Helpers.lean ====
section
/-! DEFINITION. The pack helpers (R175 to R196): acceptance and its field checks, results, the update unit's
queue (R289), completion and delivery (R178, R190). -/

namespace Sys2Proof.Machine

open Sys2Proof

/-! ### Byte ranges of C registers (R183) -/

/-- `b` bytes from register x of a bank. -/
def cRead (t : Tab (BitVec 128)) (x b : Nat) : List Byte :=
  ((List.range (ceilDiv b 16)).flatMap fun i => leBytes 16 (Tab.get 0 t (x + i)).toNat).take b

/-- Write bytes from register x on; the rest of the last register is 0. -/
def cWrite (t : Tab (BitVec 128)) (x : Nat) (l : List Byte) : Tab (BitVec 128) :=
  (List.range (ceilDiv l.length 16)).foldl
    (fun u i => Tab.set 0 u (x + i) (BitVec.ofNat 128 (leNat ((l.drop (16 * i)).take 16)))) t

/-- The range lies within C0 to C7 (R180). -/
def cRangeOk (x b : Nat) : Bool := decide (b = 0 ∨ x + ceilDiv b 16 ≤ 8)

/-- Registers of a range. -/
def cRegs (x b : Nat) : List Nat := (List.range (ceilDiv b 16)).map (x + ·)

/-- Lane l of a register (R133). -/
def lane (v : BitVec 128) (l : Nat) : Word := W (v.toNat / 2 ^ (32 * l))
/-- The register with lane l replaced. -/
def setLane (v : BitVec 128) (l : Nat) (x : Word) : BitVec 128 :=
  let d := 2 ^ (32 * l)
  BitVec.ofNat 128 (v.toNat - v.toNat / d % 2 ^ 32 * d + x.toNat * d)

/-! ### Fields of a command word (R182) -/

def hOp (w : Word) : Nat := getF w 3 0
def hSrc (w : Word) : Nat := getF w 6 4
def hDst (w : Word) : Nat := getF w 10 8
def hKey (w : Word) : Nat := getF w 14 12
def hKsz (w : Word) : Nat := getF w 15 15
def hLen (w : Word) : Nat := getF w 22 16
def hSel (w : Word) : Nat := getF w 29 24

/-- KIND (R175). -/
def HlpKind.code : HlpKind → Nat
  | .hash => 0
  | .crc => 1
  | .aes => 2
  | .lookup => 3
  | .dma => 4

/-- The DMA space of a command (R188). -/
def dmaSpace (w : Word) : Nat := getF w 25 24

/-- The DMA address of a command (R188). -/
def dmaAddr (w arg0 arg1 : Word) : Nat :=
  if dmaSpace w = 0 then arg0.toNat + arg1.toNat % 256 * 2 ^ 32 else arg0.toNat

/-- The limit of an on-chip DMA space (R188). -/
def dmaLimit (space : Nat) : Nat :=
  match space with
  | 1 => 50331648
  | _ => 4194304

/-- The key a LOOKUP command names (R187). -/
def State.hlpKey (s : State) (t : Nat) (creg : Tab (BitVec 128)) (w : Word) : List Byte :=
  if s.tDirect t then leBytes 4 (lane (Tab.get 0 creg (hSrc w)) 0).toNat else cRead creg (hSrc w) (s.tKlen t)

/-- Bytes of the key range: a direct-index key is one register. -/
def State.hlpKeyLen (s : State) (t : Nat) : Nat := if s.tDirect t then 4 else s.tKlen t

/-- The field check of a command at acceptance (R180, R184 to R188): 0, or the ERR it completes with at once. -/
def State.hlpCheck (s : State) (c : Nat) (kind : HlpKind) (w : Word) : Nat :=
  let x := s.ctx c
  let op := hOp w
  match kind with
  | .hash => if 2 < op ∨ 64 < hLen w ∨ !cRangeOk (hSrc w) (hLen w) then 1 else 0
  | .crc => if 1 < op ∨ 64 < hLen w ∨ !cRangeOk (hSrc w) (hLen w) then 1 else 0
  | .aes =>
    if 7 < op ∨ 7 < hKey w + hKsz w then 1
    else if 2 ≤ op ∧ 4 < hSel w % 8 then 1
    else if (op = 2 ∨ op = 3 ∨ op = 4 ∨ op = 7) ∧ 16 < hLen w then 1
    else if op = 6 ∧ hLen w ≠ 0 ∧ hLen w ≠ 16 then 1
    else 0
  | .lookup =>
    if 3 < op then 1
    else
      let t := hSel w
      if !s.tReady t || !s.flag (Reg.TBL_CTRL t) x.epoch then 4
      else if !cRangeOk (hSrc w) (s.hlpKeyLen t) || (op != 3 && !cRangeOk (hDst w) (s.tVlen t)) then 1
      else if s.tDirect t && decide (2 ^ s.tSize t ≤ leNat (s.hlpKey t x.c w)) then 2
      else 0
  | .dma =>
    let n := hLen w
    let a := dmaAddr w x.arg0 x.arg1
    if 1 < op ∨ 64 < n ∨ !cRangeOk (if op = 0 then hDst w else hSrc w) n then 1
    else if n = 0 then 0
    else if dmaSpace w = 0 then (if s.dramPresent a n then 0 else 2)
    else if a + n ≤ dmaLimit (dmaSpace w) then 0 else 2

/-! ### The T-class load (R193, R194, R196) -/

/-- The T_LIM group of a command. -/
def HlpCmd.group (k : HlpCmd) : Nat :=
  match k.kind with
  | .hash => 0
  | .crc => 1
  | .aes => 2
  | .lookup => 3
  | .dma => if k.ddr then 5 else 4

/-- T_LIM of a group (R193). -/
def tLim (g : Nat) : Nat :=
  match g with
  | 0 => 16
  | 1 => 4
  | 2 => 4
  | 3 => 16
  | _ => 8

/-- T-class commands of a group outstanding in a pack. -/
def State.tLoad (s : State) (p g : Nat) : Nat :=
  (s.help.cmds.filter fun k => k.tclass && packOf k.ctx == p && k.group == g).length

/-- A T-class command joins its group: the peak, and EV_HLP_TLIM above T_LIM. -/
def State.tLoadMark (s : State) (p g : Nat) : State :=
  let n := s.tLoad p g
  let lo := 8 * (g % 4)
  let s := s.peakF (if g < 4 then Reg.HLP_TPEAK0 p else Reg.HLP_TPEAK1 p) (lo + 7) lo (min 255 n)
  if tLim g < n then s.raise (Ev.HLP_TLIM p) else s

/-! ### Acceptance -/

/-- HLP_STATUS and HELPER_DONE right after acceptance (R177). -/
def Ctx.hlpAccept (x : Ctx) (kind : HlpKind) : Ctx :=
  { x with hlpDone := false, hlpAbsent := false, hlpHit := false, hlpLearned := false, hlpEvict := false,
           hlpErr := 0, hlpKind := BitVec.ofNat 3 kind.code, hlpBusy := true }

/-- The context's command is complete with an error code and no result (R180, R195). -/
def Ctx.hlpEnd (x : Ctx) (err : Nat) : Ctx :=
  { x with hlpErr := BitVec.ofNat 4 err, hlpBusy := false, hlpDone := true }

/-! ### Results of HASH, CRC and AES -/

/-- HASH (R184): the new value of C[DST]. -/
def HlpCmd.hash (k : HlpCmd) : BitVec 128 :=
  let seed := k.arg0.toNat + k.arg1.toNat * 2 ^ 32
  let key := cRead k.creg (hSrc k.word) (hLen k.word)
  match hOp k.word with
  | 0 => BitVec.ofNat 128 (hashH0 seed key)
  | 1 => BitVec.ofNat 128 (hashH1 seed key)
  | _ => BitVec.ofNat 128 (hashH0 seed key + hashH1 seed key * 2 ^ 64)

/-- The ones'-complement sum of byte pairs, the first of a pair the high-order byte (R185). -/
def onesSum : List Byte → Nat → Nat
  | [], a => a
  | [b], a => let v := a + b.toNat * 256; v % 65536 + v / 65536
  | b :: d :: t, a => let v := a + b.toNat * 256 + d.toNat; onesSum t (v % 65536 + v / 65536)

/-- CRC or checksum (R185): lanes 0 and 1 of C[DST] as one number. -/
def HlpCmd.crc (k : HlpCmd) : Nat :=
  let acc := (Tab.get 0 k.creg (hDst k.word)).toNat
  let l := cRead k.creg (hSrc k.word) (hLen k.word)
  if hOp k.word = 0 then
    let wc := crcWidth k.crcCfg
    let poly := crcPoly k.polyLo k.polyHi k.crcCfg
    l.foldl (fun a b => crcStep wc poly (crcRefl k.crcCfg) a b.toNat) (acc % 2 ^ wc)
  else onesSum l (acc % 65536)

/-- AES (R186): the register writes of a command in order, the state registers before C[DST]. -/
def HlpCmd.aes (k : HlpCmd) : List (Nat × List Byte) :=
  let w := k.word
  let reg := fun (i : Nat) => leBytes 16 (Tab.get 0 k.creg i).toNat
  let key := if hKsz w = 1 then reg (hKey w) ++ reg (hKey w + 1) else reg (hKey w)
  let st := hSel w % 8
  let n := hLen w
  let src := reg (hSrc w)
  let y := fit 16 (src.take n)
  let h := reg (st + 2)
  match hOp w with
  | 0 => [(hDst w, aesEnc key src)]
  | 1 => [(hDst w, aesDec key src)]
  | 2 =>
    if n = 0 then []
    else
      let out := fit 16 ((xorBytes y (aesEnc key (reg st))).take n)
      [(st, inc32 (reg st)), (st + 1, ghashStep h (reg (st + 1)) out), (hDst w, out)]
  | 3 =>
    if n = 0 then []
    else
      let out := fit 16 ((xorBytes y (aesEnc key (reg st))).take n)
      [(st, inc32 (reg st)), (st + 1, ghashStep h (reg (st + 1)) y), (hDst w, out)]
  | 4 => if n = 0 then [] else [(st + 1, ghashStep h (reg (st + 1)) y)]
  | 5 =>
    let a := ghashStep h (reg (st + 1)) src
    [(st + 1, a), (hDst w, xorBytes a (reg (st + 3)))]
  | 6 => if n = 0 then [] else [(st + 1, aesEnc key (xorBytes (reg (st + 1)) src))]
  | _ =>
    let x := aesEnc key (xorBytes (reg (st + 1)) (cmacLast (reg (st + 2)) src n))
    [(st + 1, x), (hDst w, x)]

/-! ### The update unit (R288, R289, R295, R579) -/

/-- An update arrives at the update unit (R289). -/
def State.arrive (s : State) (u : Update) : State := { s with help := { s.help with updates := s.help.updates ++ [u] } }

/-- A queued touch (R294): dropped when the table is no longer usable or the slot no longer holds the key; a slot that
fails parity is detected (R292). -/
def State.applyTouch (s : State) (t b k : Nat) (key : List Byte) : State :=
  if s.tReady t then
    match s.bucket t b with
    | (none, u) => u
    | (some l, u) =>
      match l[k]? with
      | some x => if x.good && x.valid && x.key == key then u.putSlot t b k true 0 x.key x.value else u.detect t [x]
      | none => u
  else s

/-- What an engine update found (R187, R289, R290, R293, R295, R579): ERR, HIT, LEARNED, the slot hit, the entry
evicted. -/
structure UpdRes where
  err : Nat := 0
  hit : Bool := false
  learned : Bool := false
  found : Option Slot := none
  victim : Option Slot := none
  deriving DecidableEq, Repr

/-- LEARN, INSERT or DELETE (op 1 to 3) of a key by an engine under a policy. -/
def State.engUpdate (s : State) (t op : Nat) (pol : Word) (key value : List Byte) : UpdRes × State :=
  match s.lookup t key with
  | (.bad, u) => ({ err := 3 }, u)
  | (.hit x, u) =>
    match op with
    | 1 => ({ hit := true, found := some x }, u)
    | 2 =>
      if u.bLocked t x.bucket then ({ err := 5 }, u.bump Reg.TBL_INSFAIL_CNT)
      else ({ hit := true }, u.putSlot t x.bucket x.slot true 0 x.key value)
    | _ =>
      if u.bLocked t x.bucket then ({ err := 5 }, u) else ({ hit := true }, u.clearSlot t x)
  | (.miss, u) =>
    if op = 3 then ({}, u)
    else
      match (if s.tDirect t then s.insertIndex t (leNat (key.take 4)) value true else s.insertKey t pol key value true true) with
      | (.placed _ _, v) => ({ learned := true }, v)
      | (.evicted x, v) => ({ learned := true, victim := some x }, v)
      | (.replaced _, v) => ({ hit := true }, v)
      | (.full, v) => ({ err := 5 }, v)
      | (.denied, v) => ({ err := 5 }, v)
      | (.bad, v) => ({ err := 3 }, v)

/-- The update of a helper command, when its turn comes, under the policy at its arrival (R283). -/
def State.applyHelper (s : State) (k : HlpCmd) (pol : Word) : State :=
  let t := hSel k.word
  if !s.tReady t then s.updHlp k.id fun h => { h with stage := .done, err := 4 }
  else
    let key := s.hlpKey t k.creg k.word
    let value := cRead k.creg (hDst k.word) (s.tVlen t)
    let (r, s) := s.engUpdate t (hOp k.word) pol key value
    let touch := match r.found with
      | some x => if bitOf pol 12 && x.age != 0 then some (x.bucket, x.slot) else none
      | none => none
    let creg := match r.found, r.victim with
      | some x, _ => cWrite k.creg (hDst k.word) x.value
      | none, some v => cWrite (cWrite k.creg (hSrc k.word) v.key) (hDst k.word) v.value
      | none, none => if r.learned && decide (hOp k.word = 1) then cWrite k.creg (hDst k.word) value else k.creg
    s.updHlp k.id fun h =>
      { h with stage := .done, err := BitVec.ofNat 4 r.err, hit := r.hit, learned := r.learned,
               evict := r.victim.isSome, creg := creg, touch := touch }

/-! ### Completion -/

/-- What a completing command does and delivers: register writes, then the status fields. -/
structure HlpOut where
  regs : List (Nat × BitVec 128) := []
  err : Nat := 0
  hit : Bool := false
  learned : Bool := false
  evict : Bool := false
  touch : Option Update := none
  deriving DecidableEq, Repr

/-- The registers of a range with the values a bank gives them. -/
def regsOf (t : Tab (BitVec 128)) (x b : Nat) : List (Nat × BitVec 128) := (cRegs x b).map fun i => (i, Tab.get 0 t i)

/-- LOOKUP READ (R187, R287, R294). -/
def State.hlpLookup (k : HlpCmd) (s : State) : HlpOut × State :=
  let t := hSel k.word
  if !s.tReady t then ({ err := 4 }, s)
  else
    match s.lookup t (s.hlpKey t k.creg k.word) with
    | (.bad, u) => ({ err := 3 }, u)
    | (.miss, u) => ({}, u)
    | (.hit x, u) =>
      ({ regs := regsOf (cWrite [] (hDst k.word) x.value) (hDst k.word) (u.tVlen t), hit := true,
         touch := if u.flag (Reg.TBL_POLICY t) 12 && x.age != 0 then some (.touch t x.bucket x.slot x.key) else none }, u)

/-- Memory code of an on-chip DMA space in the error log (R538). -/
def dmaMem (space : Nat) : Nat :=
  match space with
  | 1 => 6
  | 2 => 7
  | _ => 3

/-- The bytes of an on-chip DMA space. -/
def State.dmaBytes (s : State) (space a n : Nat) : List Byte :=
  match space with
  | 1 => s.mem.cells.bytes a n
  | 2 => s.mem.flow.bytes a n
  | _ => s.mem.csm.bytes a n

/-- The write of one byte of an on-chip DMA space. -/
def State.dmaWr (s : State) (space a : Nat) (b : Byte) : State :=
  match space with
  | 1 => { s with mem := { s.mem with cells := s.mem.cells.wr a b } }
  | 2 => { s with mem := { s.mem with flow := s.mem.flow.wr a b } }
  | _ => { s with mem := { s.mem with csm := s.mem.csm.wr a b } }

/-- A write of bytes into an on-chip space; a word it covers only in part stays as it is when `bad` names it (R529).
A word of common SRAM with waiters that becomes 0 is granted (R212). -/
def State.dmaPut (s : State) (space a : Nat) (l : List Byte) (bad : Nat → Bool) : State :=
  let n := l.length
  let s := ((List.range n).zip l).foldl (fun t p => if bad ((a + p.1) / 8) then t else t.dmaWr space (a + p.1) p.2) s
  if space = 3 then
    (List.range ((a % 4 + n + 3) / 4)).foldl (fun t k => t.mwGrant 32 (a / 4 * 4 + 4 * k)) s
  else s

/-- A 64-bit word that the bytes a to a + n − 1 cover only in part. -/
def partWord (a n w : Nat) : Bool := decide (a / 8 ≤ w ∧ w ≤ (a + n - 1) / 8) && !decide (a ≤ w * 8 ∧ w * 8 + 8 ≤ a + n)

/-- DMA on an on-chip space (R188, R529). -/
def State.hlpDma (s : State) (k : HlpCmd) : HlpOut × State :=
  let sp := dmaSpace k.word
  let a := dmaAddr k.word k.arg0 k.arg1
  let n := hLen k.word
  let mem := dmaMem sp
  if n = 0 then ({}, s)
  else if hOp k.word = 0 then
    match s.eccRead mem 0 a n with
    | (true, s) => ({ err := 3 }, s)
    | (false, s) => ({ regs := regsOf (cWrite [] (hDst k.word) (s.dmaBytes sp a n)) (hDst k.word) n }, s)
  else
    let bad := fun (w : Nat) =>
      partWord a n w && s.hub.flips.any fun f => f.1 == mem && f.2.2.1 == w && f.2.2.2
    let hit := (List.range ((a % 8 + n + 7) / 8)).filter fun i => bad (a / 8 + i)
    let s := (s.dmaPut sp a (cRead k.creg (hSrc k.word) n) bad).eccWrite mem 0 a n
    match hit with
    | [] => ({}, s)
    | i :: _ => ({ err := 3 }, s.ueError mem 0 ((a / 8 + i) * 8))

/-! ### Units (R192, R193) -/

/-- The units that serve a path; none where commands never wait for each other (R82, R192, R193). -/
def pathUnits (k : HlpCmd) : Option Nat :=
  match k.kind with
  | .hash => none
  | .crc => some 1
  | .aes => some 1
  | .lookup => some 2
  | .dma => some 2

/-- The command holds a unit: it has started, and it is no far lookup that stands off its client (R193). -/
def HlpCmd.holds (k : HlpCmd) (p g : Nat) : Bool :=
  packOf k.ctx == p && k.group == g && k.stage != .waiting && !k.parked

/-- A unit of the path of group g in pack p is free for command k. -/
def State.unitFree (s : State) (p g : Nat) (k : HlpCmd) : Bool :=
  match pathUnits k with
  | none => true
  | some n => decide ((s.help.cmds.filter fun y => y.holds p g).length < n)

/-- The command that a unit of group g in pack p starts next: the oldest of the T-class commands that wait, else the oldest
(R192). -/
def State.hlpNext (s : State) (p g : Nat) : Option HlpCmd :=
  let w := s.help.cmds.filter fun k => packOf k.ctx == p && k.group == g && k.stage == .waiting
  (w.find? (·.tclass)).orElse fun _ => w.head?

/-- A command starts at its unit: an update goes to the update unit with the policy in force (R283, R289), a far READ fetches
the lines it lacks and leaves its client, a DMA command on DRAM sends its requests. -/
def State.hlpBegin (s : State) (k : HlpCmd) : State :=
  let t := hSel k.word
  let a := dmaAddr k.word k.arg0 k.arg1
  let s := s.updHlp k.id fun y => { y with stage := .running }
  match k.kind with
  | .lookup =>
    if 1 ≤ hOp k.word then
      (s.arrive (.helper k.id (s.reg (Reg.TBL_POLICY t)))).updHlp k.id fun y => { y with stage := .update }
    else if s.tFar t then
      match s.farRun (.helper k.id) k.tclass (State.hlpLookup k) with
      | (.waits, u) => u.updHlp k.id fun y => { y with parked := true }
      | _ => s
    else s
  | .dma =>
    if k.ddr then
      (if hOp k.word = 0 then s.dramFetch 1 k.tclass a (hLen k.word) (.helper k.id)
      else s.dramWrite 1 k.tclass a (cRead k.creg (hSrc k.word) (hLen k.word)) (.helper k.id))
    else s
  | _ => s

/-- The units of group g in pack p start what waits for them. -/
def State.hlpStarts (p g : Nat) : Nat → State → State
  | 0, s => s
  | n + 1, s =>
    match s.hlpNext p g with
    | some k => if s.unitFree p g k then State.hlpStarts p g n (s.hlpBegin k) else s
    | none => s

/-- The units of a command's path start what waits. -/
def State.hlpKick (s : State) (k : HlpCmd) : State := State.hlpStarts (packOf k.ctx) k.group s.help.cmds.length s

/-- A commit write to a helper command port (R176, R177, R180, R189, R195). While a command of the context is
outstanding the write is the caller's to refuse. -/
def State.hlpCommit (s : State) (c : Nat) (kind : HlpKind) (w : Word) : State :=
  let x := s.ctx c
  let y := x.hlpAccept kind
  if kind = .aes ∧ !s.chip.crypto then s.setCtx c { y.hlpEnd 0 with hlpAbsent := true }
  else
    let e := s.hlpCheck c kind w
    let s := if e = 2 ∧ kind = .dma ∧ dmaSpace w = 0 then s.dramUnserved (dmaAddr w x.arg0 x.arg1) else s
    if e ≠ 0 then s.setCtx c (y.hlpEnd e)
    else
      let id := s.help.next
      let k : HlpCmd :=
        { id := id, ctx := c, gen := x.gen, kind := kind, word := w, arg0 := x.arg0, arg1 := x.arg1,
          polyLo := x.polyLo, polyHi := x.polyHi, crcCfg := x.crcCfg, tclass := x.tclass, epoch := x.epoch,
          creg := x.c, stage := .waiting, err := 0, hit := false, learned := false, evict := false, buf := [], touch := none,
          ddr := kind == .dma && decide (dmaSpace w = 0), parked := false }
      let s := s.setCtx c y
      let s := { s with help := { s.help with cmds := s.help.cmds ++ [k], next := id + 1 } }
      (if k.tclass then s.tLoadMark (packOf c) k.group else s).hlpKick k

/-- What a command yields at its end (R178); a far READ may still lack lines. -/
def State.hlpYield (s : State) (k : HlpCmd) : Far HlpOut × State :=
  match k.kind with
  | .hash => (.done { regs := [(hDst k.word, k.hash)] }, s)
  | .crc =>
    if hLen k.word = 0 then (.done {}, s)
    else
      let v := k.crc
      let old := Tab.get 0 (s.ctx k.ctx).c (hDst k.word)
      (.done { regs := [(hDst k.word, setLane (setLane old 0 (W (v % 2 ^ 32))) 1 (W (v / 2 ^ 32)))] }, s)
  | .aes => (.done { regs := k.aes.map fun p => (p.1, BitVec.ofNat 128 (leNat p.2)) }, s)
  | .lookup =>
    if k.stage = .done then
      let t := hSel k.word
      let val := regsOf k.creg (hDst k.word) (s.tVlen t)
      let rs := if k.evict then regsOf k.creg (hSrc k.word) (s.hlpKeyLen t) ++ val
        else if (k.hit || k.learned) && decide (hOp k.word = 1) then val else []
      (.done { regs := rs, err := k.err.toNat, hit := k.hit, learned := k.learned, evict := k.evict,
               touch := k.touch.map fun b => .touch t b.1 b.2 (if s.tDirect t then [] else s.hlpKey t k.creg k.word) }, s)
    else s.farRun (.helper k.id) k.tclass (State.hlpLookup k)
  | .dma =>
    if k.ddr then
      if k.err ≠ 0 then (.done { err := k.err.toNat }, s)
      else if hOp k.word = 0 then
        let b := k.buf.bytes (dmaAddr k.word k.arg0 k.arg1) (hLen k.word)
        (.done { regs := regsOf (cWrite [] (hDst k.word) b) (hDst k.word) (hLen k.word) }, s)
      else (.done {}, s)
    else
      match s.hlpDma k with
      | (r, u) => (.done r, u)

/-- The results land in the issuing context in one turn (R178, R190). -/
def State.hlpDeliver (s : State) (k : HlpCmd) (r : HlpOut) : State :=
  let x := s.ctx k.ctx
  if x.live && x.gen == k.gen then
    let s := s.setCtx k.ctx { x with
      c := r.regs.foldl (fun t p => Tab.set 0 t p.1 p.2) x.c
      hlpErr := BitVec.ofNat 4 r.err, hlpHit := r.hit, hlpLearned := r.learned, hlpEvict := r.evict
      hlpBusy := false, hlpDone := true
      wait := if x.wait = .waith then .none else x.wait }
    match r.touch with
    | some u => s.arrive u
    | none => s
  else s

/-- The command has reached its end: its update is applied, or it runs at a unit and its DRAM requests are back. -/
def State.hlpReady (s : State) (k : HlpCmd) : Bool :=
  match k.stage with
  | .waiting => false
  | .update => false
  | .done => true
  | .running => !s.dramPending (.helper k.id)

/-- An uncorrectable word that a command meets in an on-chip store (R529): table SRAM or the store of its DMA space, at byte
offset `off`. -/
def State.hlpSpoil (s : State) (k : HlpCmd) (off : Nat) : State :=
  match k.kind with
  | .lookup => if s.tFar (hSel k.word) then s else s.spoil 8 0 off
  | .dma => if k.ddr then s else s.spoil (dmaMem (dmaSpace k.word)) 0 off
  | _ => s

/-- A far READ that meets an uncorrectable word in the lookup cache (R287, R529). -/
def State.cacheUe (s : State) (k : HlpCmd) (ue : Option Nat) : Option Nat :=
  if k.kind = .lookup ∧ k.stage = .running ∧ s.tFar (hSel k.word) = true ∧ s.tReady (hSel k.word) = true then ue else none

/-- A command leaves its unit with its results. -/
def State.hlpFinish (s : State) (k : HlpCmd) (r : HlpOut) : State :=
  ((({ s with help := { s.help with cmds := s.help.cmds.filter fun y => y.id != k.id } }).hlpDeliver k r).hlpKick k)

/-- The end of helper command number `id` (R178). `ue` is the byte offset of a word that it meets uncorrectable in its
on-chip store. A far READ that lacks lines stands off its client (R193) and goes on; one whose table is not present takes
ERR 0x2 (R419). -/
def State.hlpComplete (s : State) (id : Nat) (ue : Option Nat) : State :=
  match s.help.cmds.find? (fun k => k.id == id) with
  | none => s
  | some k =>
    if !s.hlpReady k then s
    else
      match s.cacheUe k ue with
      | some off => ((s.farEnd (.helper id)).ueError 9 0 off).hlpFinish k { err := 3 }
      | none =>
        match (ue.elim s (s.hlpSpoil k)).hlpYield k with
        | (.done r, u) => u.hlpFinish k r
        | (.waits, u) => (u.updHlp id fun y => { y with parked := true }).hlpKick k
        | (.gone, u) => u.hlpFinish k { err := 2 }

/-- HELPER_COMPLETE (R178): the command numbered `c` in order of acceptance ends. -/
def execHelperComplete (c : Nat) (ue : Option Nat) (s : State) : Out :=
  if s.running then .next (s.hlpComplete c ue) else .next s

end Sys2Proof.Machine
end

