-- ==== Sys2Proof/Machine/JobChannel.lean ====
section
/-! DEFINITION. The job channel (R137 to R143, R263, R264): commits and what the Herder does with them, DROP,
DELAY and RELEASE. -/

namespace Sys2Proof.Machine

open Sys2Proof

/-- Where a commit goes: a port with the fabric header it takes there, a device beyond the fabric by a next hop that
is chosen when the output joins a queue, or nowhere (R139, R453). -/
inductive Dest where
  | port (n : Nat) (fab : List Byte)
  | hop (n : Nat) (fab : List Byte)
  | invalid (noRoute : Bool)
  deriving DecidableEq, Repr

/-- The fabric header of a job's output (R446, R453). -/
def Job.fabHdr (x : Job) (dst src cls port hq : Nat) : List Byte :=
  fabHeader 0 dst src cls 0 port x.od x.port hq x.hash

/-- The destination that the staged word EMIT_DST names for job x (R139, R450, R453). -/
def State.emitDest (s : State) (x : Job) (dst : Word) : Dest :=
  let port := getF dst 7 0
  let cls := getF dst 10 8
  let hq := getF dst 15 12
  let goes := fun (q : Nat) => s.portKind (128 + q) == .lfl && s.linkUp q && !s.fabConflict
  let here : Dest :=
    match s.portKind port with
    | .none => .invalid false
    | .lfl =>
      match s.fabDev with
      | some me =>
        if goes (port - 128) then
          .port port (x.fabHdr (s.fld (Reg.FAB_LNK_STAT (port - 128)) 7 4) me cls 0xFF hq)
        else .invalid true
      | none => .invalid true
    | _ => .port port []
  if bitOf dst 16 then
    if !s.chip.fabric then .invalid false
    else
      let d := getF dst 23 20
      match s.fabDev with
      | none => .invalid true
      | some me =>
        if d = me then here
        else
          match s.nextHop d x.od with
          | some q => if goes q then .hop (128 + q) (x.fabHdr d me cls port hq) else .invalid true
          | none => .invalid true
  else here

/-- The output a commit builds (R138). -/
def State.buildOut (s : State) (c j port : Nat) (fab : List Byte) (routed : Bool) : Output :=
  let x := s.ctx c
  let y := s.job j
  let off := getF x.emitHdr 7 0
  let n := getF x.emitHdr 16 8
  let strip := getF x.emitTail 13 0
  { job := some j, eng := engOf c, port := port, cls := getF x.emitDst 10 8, hq := getF x.emitDst 15 12,
    hdr := y.hdr.bytes off n, strip := strip, tailLen := y.len - strip, cell := y.cell, fabHdr := fab, routed := routed }

/-- Lout (R138). -/
def Output.len (o : Output) : Nat := o.hdr.length + o.tailLen

/-- The output is longer than a frame may be; a CAN record has no such limit (R139). -/
def Output.tooLong (o : Output) (s : State) : Bool := decide (9596 < o.len) && s.portKind o.port != .can

/-- A commit of R138 that the store does not hold: the output joins the Herder's, or is discarded (R139). Counts
the commit; the Herder tests the domain. -/
def State.commit (s : State) (c j : Nat) : State :=
  let x := s.ctx c
  let y := s.job j
  let e := engOf c
  let s := s.updJob j fun z => { z with commits := z.commits + 1 }
  let join := fun (o : Output) =>
    if o.len = 0 then s.updEng e fun g => { g with badOut := satInc 32 g.badOut }
    else if o.tooLong s then s.updEng e fun g => { g with oversize := satInc 32 g.oversize }
    else
      let store := !s.isHead j && !y.released
      let k := s.herd.nextOut
      let s := s.setOut k { o with place := .store, early := y.released, counted := store }
      let s := { s with herd := { s.herd with nextOut := k + 1 } }
      let s := if store then
          (s.setFld Reg.HERD_STORE 15 0 (s.storeFree - 1)).peakF Reg.HERD_STORE 31 16 (32769 - s.storeFree)
        else s
      (s.updJob j fun z => { z with emitted := true }).herdRun y.od
  match s.emitDest y x.emitDst with
  | .invalid nr =>
    let s := if nr then s.bump Reg.FAB_NOROUTE else s
    s.updEng e fun g => { g with badOut := satInc 32 g.badOut }
  | .port p fab => join (s.buildOut c j p fab false)
  | .hop p fab => join (s.buildOut c j p fab true)

/-- The commit would be discarded (R139): it takes no output store entry. -/
def State.discards (s : State) (c j : Nat) : Bool :=
  let bad := fun (o : Output) => decide (o.len = 0) || o.tooLong s
  match s.emitDest (s.job j) (s.ctx c).emitDst with
  | .invalid _ => true
  | .port p fab => bad (s.buildOut c j p fab false)
  | .hop p fab => bad (s.buildOut c j p fab true)

/-- The output store holds this commit (R264). -/
def State.storeHolds (s : State) (c j : Nat) : Bool :=
  !s.isHead j && !(s.job j).released && decide (s.storeFree = 0) && !s.discards c j

/-- A commit with its LAST bit (R138, R140). -/
def State.commitLast (s : State) (c j : Nat) (last : Bool) : State :=
  let s := s.commit c j
  if last then s.retire j (engOf c) else s

/-- EMIT_GO (R138 to R140, R143, R264): `last` is bit 0 of the word written. -/
def State.emitGo (s : State) (c : Nat) (v : Word) : Eff :=
  let x := s.ctx c
  match x.job with
  | none => ⟨s, .trap 6, false⟩
  | some j =>
    let y := s.job j
    if y.retired || decide (256 < getF x.emitHdr 7 0 + getF x.emitHdr 16 8) || decide (16 ≤ y.commits) then
      ⟨s, .trap 6, false⟩
    else if s.storeHolds c j then
      Eff.ok ((s.updCtx c fun z => { z with wait := .store (bitOf v 0) }).bump Reg.HERD_STORE_FULL)
    else Eff.ok (s.commitLast c j (bitOf v 0))

/-- DROP (R140, R143). -/
def State.drop (s : State) (c : Nat) : Eff :=
  match (s.ctx c).job with
  | none => ⟨s, .trap 6, false⟩
  | some j => if (s.job j).retired then ⟨s, .trap 6, false⟩ else Eff.ok (s.retire j (engOf c))

/-- RELEASE (R143, R263). -/
def State.release (s : State) (c : Nat) : Eff :=
  match (s.ctx c).job with
  | none => ⟨s, .trap 6, false⟩
  | some j =>
    let y := s.job j
    if y.retired then ⟨s, .trap 6, false⟩
    else if y.released then Eff.ok s
    else Eff.ok (((s.updJob j fun z => { z with released := true }).bump Reg.HERD_RELEASES).herdRun y.od)

/-- A job joins a delay list: entries in expiry order, equal expiries in order of acceptance (R235, R236). -/
def State.delayInsert (s : State) (j sh expiry : Nat) (listed : Bool) : State :=
  let l := Tab.get [] s.disp.delays sh
  let before := l.filter fun k => decide ((s.job k).expiry ≤ expiry)
  let after := l.filter fun k => decide (expiry < (s.job k).expiry)
  let s := { s with disp := { s.disp with delays := Tab.set [] s.disp.delays sh (before ++ [j] ++ after) } }
  s.updJob j fun z => { z with place := .delay sh, expiry := expiry, listed := listed }

/-- DELAY (R142, R143, R235, R237): the job goes into the list of the shard that placed it, or is due at once. -/
def State.delay (s : State) (c : Nat) (v : Word) : Eff :=
  match (s.ctx c).job with
  | none => ⟨s, .trap 6, false⟩
  | some j =>
    let y := s.job j
    if y.retired || decide (0 < y.commits) || decide ((s.jobCtxs j).length ≠ 1) then ⟨s, .trap 6, false⟩
    else
      let ticks := getF v 23 0
      let full := decide (0 < ticks) && decide (16384 ≤ s.dlyUsed)
      let s := if full then (s.bump Reg.DSP_DLY_FULL).raise Ev.DSP_DLY_FULL else s
      let s := s.freeCtx c .delay
      let s := s.updJob j fun z => { z with dtag := B8 (getF v 31 24), dcount := satInc 8 z.dcount, restart := true, hdr := [] }
      if decide (ticks = 0) || full then
        let q := s.queueOf j
        if s.qRoom q && (!s.recallWaits q && !s.dueWaits q) then ⟨s.enqueue j q false, .stay, false⟩
        else ⟨s.delayInsert j y.shard s.disp.tick false, .stay, false⟩
      else ⟨s.delayInsert j y.shard (s.disp.tick + ticks) true, .stay, false⟩

/-- A held commit leaves its hold (R264): the job has become the head or given up ordering, or an entry is free. A
commit that is by now the job's 17th takes the trap of R143 at its EMIT_GO. -/
def State.heldCommit (s : State) (c : Nat) : State :=
  let x := s.ctx c
  match x.wait, x.job with
  | .store last, some j =>
    if s.storeHolds c j then s
    else
      let s := s.updCtx c fun z => { z with wait := .none }
      if 16 ≤ (s.job j).commits then
        (s.updCtx c fun z => { z with pc := z.pc - BitVec.ofNat 16 z.waitLen }).trap c 6 x.pc
      else s.commitLast c j last
  | _, _ => s

/-- HELD_COMMIT (R264). -/
def execHeldCommit (c : Nat) (s : State) : Out :=
  if s.running then .next (s.heldCommit c) else .next s

end Sys2Proof.Machine
end

