-- ==== Sys2Proof/Machine/Dispatcher.lean ====
section
/-! DEFINITION. The Dispatcher (R220 to R246): placement, parking, stealing, Fetch slots, recall, delay lists,
Scent; context start at JOB_START (R89, R90, R152); engine and pack reset (R121, R174); holes by timeout (R265,
R267). -/

namespace Sys2Proof.Machine

open Sys2Proof

/-! ### Scent (R245, R246) -/

/-- Scent records. -/
def State.scentOn (s : State) : Bool := s.chip.scent && s.flag Reg.DSP_SCENT_CTRL 0

/-- A record is lost (R246). -/
def State.scentLose (s : State) : State :=
  let s := s.bump Reg.DSP_SCENT_LOST
  if s.disp.scentFirst then ({ s with disp := { s.disp with scentFirst := false } }).raise Ev.DSP_SCENT_LOST else s

/-- A record enters the on-chip buffer of 256 (R246). -/
def State.scentPut (s : State) (r : Nat) : State :=
  if 256 ≤ s.disp.scent.length then s.scentLose
  else { s with disp := { s.disp with scent := s.disp.scent ++ [BitVec.ofNat 64 r] } }

/-- A placement or recall record (R245). -/
def State.scentRecord (s : State) (j e reason : Nat) : State :=
  if s.scentOn then
    let x := s.job j
    s.scentPut (x.od + x.seq % 256 * 2 ^ 16 + x.prio * 2 ^ 24 + x.shard * 2 ^ 27 + e * 2 ^ 29 + reason * 2 ^ 38
      + s.fr / 4 % 2 ^ 22 * 2 ^ 42)
  else s

/-- A time marker (R245): free-running count bits [61:24] in bits [37:0]. -/
def State.scentMarker (s : State) : State :=
  if s.scentOn then s.scentPut (s.fr / 2 ^ 24 % 2 ^ 38 + 15 * 2 ^ 38 + s.fr / 4 % 2 ^ 22 * 2 ^ 42) else s

/-- The ring base and size of Scent (R254). -/
def State.scentBase (s : State) : Nat :=
  (s.reg Reg.DSP_SCENT_BASE_LO).toNat + s.fld Reg.DSP_SCENT_BASE_HI 7 0 * 2 ^ 32
def State.scentSize (s : State) : Nat := 2 ^ s.fld Reg.DSP_SCENT_CTRL 12 8

/-- A buffered record leaves for the ring in DRAM once regulator port 3 lets it enter its channel queue (R246, R426). -/
def State.scentWrite (s : State) : State :=
  match s.disp.scent with
  | [] => s
  | r :: t =>
    let wr := (s.reg Reg.DSP_SCENT_WR).toNat
    let rd := (s.reg Reg.DSP_SCENT_RD).toNat
    let n := s.scentSize
    let a := s.scentBase + 8 * (wr % n)
    let (i, _) := s.dramPlace a
    if s.regOn i 3 && decide (s.tokens i 3 < 0) then s
    else
      let s := { s with disp := { s.disp with scent := t } }
      if !s.flag Reg.DSP_SCENT_CTRL 1 && decide (n ≤ (wr + 1 + 2 ^ 32 - rd) % 2 ^ 32) then s.scentLose
      else ((s.dramWrite 3 false a (leBytes 8 r.toNat) .posted).regulatorEntry i 3).setReg Reg.DSP_SCENT_WR (W (wr + 1))

/-! ### What an engine can take (R225) -/

/-- The jobs in the Fetch slots of an engine, in order of slot. -/
def State.slotJobs (s : State) (e : Nat) : List Nat :=
  let g := s.eng e
  (g.fs0.toList ++ g.fs1.toList).map (·.job)

/-- Engine e can take a job of timing class t at once (R225). -/
def State.canTake (s : State) (e : Nat) (t : Bool) : Bool :=
  let g := s.eng e
  let p := packOfEng e
  let empty := g.fs0.isNone || g.fs1.isNone
  let both := g.fs0.isNone && g.fs1.isNone
  s.engOpen e && empty && (t || decide (s.critReserve p = 0) || both)
    && (pickCtx (s.freeOnce e (s.slotJobs e)) (s.ownsSlot p) (s.critReserve p) t).isSome

/-- The engines of a pack. -/
def packEngs (p : Nat) : List Nat := (List.range 16).map (p * 16 + ·)

/-- The number with the largest measure, the first on a tie. -/
def bestBy (f : Nat → Nat) (l : List Nat) : Option Nat :=
  l.foldl (fun b x =>
    match b with
    | none => some x
    | some y => if f y < f x then some x else some y) none

/-- The best engine of a list (R226). -/
def State.bestEng (s : State) (t : Bool) (l : List Nat) : Option Nat :=
  bestBy (fun e => (s.freeNums e).length - (s.slotJobs e).length) (l.filter fun e => s.canTake e t)

/-- The load of a pack (R226). -/
def State.packLoad (s : State) (p : Nat) : Nat :=
  (packEngs p).foldl (fun n e => n + (8 - (s.freeNums e).length) + (s.slotJobs e).length) 0

/-- The present packs of a shard (R220). -/
def State.shardPacks (s : State) (sh : Nat) : List Nat :=
  ((List.range 8).map (sh * 8 + ·)).filter fun p => decide (p < s.chip.packs)

/-- The engine of the least-loaded pack of a shard that can take the job (R226). -/
def State.leastLoad (s : State) (sh : Nat) (t : Bool) : Option Nat :=
  let able := (s.shardPacks sh).filter fun p => (packEngs p).any fun e => s.canTake e t
  match bestBy (fun p => 200 - s.packLoad p) able with
  | some p => s.bestEng t (packEngs p)
  | none => none

/-! ### Placement (R226 to R229) -/

/-- The histogram bin of a wait (R244). -/
def histBin (w : Nat) : Nat :=
  if w < 64 then 0
  else if 1048576 ≤ w then 15
  else ((List.range 14).find? fun b => decide (w < 2 ^ (b + 7))).getD 14 + 1

/-- LAST_ENG of a job's flow context at placement; uncorrectable bytes count as LAST_V = 0 (R229, R529). -/
def State.affinity (s : State) (od : Nat) : Option Nat × State :=
  match s.eccRead 7 0 (od * 64) 8 with
  | (true, t) => (none, t)
  | (false, t) => (t.lastEng od, t)

/-- Place job j, waiting in queue q, on engine e (R226, R229, R231, R244): its queue entry stays in use until the Fetch
slot copy is complete (R221). -/
def State.placeOn (s : State) (j q e sh reason : Nat) : State :=
  let x := s.job j
  let bin := histBin (s.fr - x.enqAt)
  let s := (s.updJob j fun y => { y with entry := some q }).dispRemove j
  let s := (s.bump (Reg.DSP_HIST q bin)).setLastEng x.od e
  let slot := if (s.eng e).fs0.isNone then 0 else 1
  let f : FetchSlot := { job := j, entered := false, start := 0, recalled := false }
  let s := s.updEng e fun g => if slot = 0 then { g with fs0 := some f } else { g with fs1 := some f }
  (s.updJob j fun y => { y with place := .slot e slot, shard := sh }).scentRecord j e reason

/-- Parked jobs of a shard. -/
def State.parkedIn (s : State) (sh : Nat) : List Nat :=
  (s.herd.jobs.filter fun p => match p.2.place with
    | .parked q => decide (q / 8 = sh)
    | _ => false).map (·.1)

/-- A job of a higher priority queue of the shard that engine e could take comes first (R227). -/
def State.outranked (s : State) (sh prio e : Nat) : Bool :=
  (List.range 8).any fun p =>
    decide (prio < p) && (match s.dq (sh * 8 + p) with
      | j :: _ => s.canTake e (s.job j).tclass
      | [] => false)
  || (s.parkedIn sh).any fun j =>
    decide (prio < (s.job j).prio) && decide ((s.job j).parkEng = e) && s.canTake e false

/-- The oldest parked job of queue q whose engine can take it before its wait ends (R226, R227). -/
def State.parkedReady (s : State) (q : Nat) : Option Nat :=
  let l := (s.parkedIn (q / 8)).filter fun j =>
    (s.job j).place == .parked q && (s.canTake (s.job j).parkEng false && decide (s.fr < (s.job j).parkUntil))
  l.foldl (fun b j =>
    match b with
    | none => some j
    | some k => if (s.job j).enqAt < (s.job k).enqAt then some j else some k) none

/-- Where the head job of a queue goes (R226). -/
inductive Placing where
  | on (e reason : Nat)
  | park (e : Nat)
  | stay
  deriving DecidableEq, Repr

/-- The pass of R226 for job j at the head of a queue of shard sh. -/
def State.placing (s : State) (j sh : Nat) (last : Option Nat) : Placing :=
  let x := s.job j
  let wait := s.fld Reg.DSP_AFF 11 0
  match last with
  | some e =>
    if s.canTake e x.tclass then .on e 0
    else if !x.tclass && !x.parkedOnce && decide (0 < wait) && decide ((s.parkedIn sh).length < 16) then .park e
    else
      match s.bestEng x.tclass (packEngs (packOfEng e)) with
      | some f => .on f 2
      | none =>
        match s.leastLoad sh x.tclass with
        | some f => .on f 3
        | none => .stay
  | none =>
    match s.leastLoad sh x.tclass with
    | some f => .on f 4
    | none => .stay

/-- PARK_EXPIRE (R226): the wait ends and the job returns to the head of its queue. -/
def State.parkEnd (s : State) (j : Nat) : State :=
  match (s.job j).place with
  | .parked q =>
    if (s.job j).parkUntil ≤ s.fr then
      let s := { s with disp := { s.disp with queues := Tab.upd [] s.disp.queues q (j :: ·) } }
      s.updJob j fun y => { y with place := .queue q }
    else s
  | _ => s

/-- Every parked job of queue q whose wait has ended returns to the head of the queue, in the order in which the waits
ended (R226). -/
def State.parkSweep (s : State) (q : Nat) : State :=
  let l := (s.parkedIn (q / 8)).filter fun j => (s.job j).place == .parked q
  (l.insertionSort fun a b => (s.job a).parkUntil ≤ (s.job b).parkUntil).foldl State.parkEnd s

/-- PLACEMENT in queue q (R226, R227). -/
def State.placeQueue (s : State) (q : Nat) : State :=
  let s := s.parkSweep q
  let sh := q / 8
  match s.parkedReady q with
  | some j =>
    let e := (s.job j).parkEng
    if s.outranked sh (q % 8) e then s else s.placeOn j q e sh 1
  | none =>
    match s.dq q with
    | [] => s
    | j :: _ =>
      let (last, s) := s.affinity (s.job j).od
      match s.placing j sh last with
      | .on e reason => if s.outranked sh (q % 8) e then s else s.placeOn j q e sh reason
      | .park e =>
        let s := { s with disp := { s.disp with queues := Tab.upd [] s.disp.queues q (·.erase j) } }
        s.updJob j fun y =>
          { y with place := .parked q, parkedOnce := true, parkEng := e, parkUntil := s.fr + s.fld Reg.DSP_AFF 11 0 }
      | .stay => s

/-- The shard has no job queued or parked and an engine that can take an E-class job (R228). -/
def State.shardIdle (s : State) (sh : Nat) : Bool :=
  (List.range 8).all (fun p => (s.dq (sh * 8 + p)).isEmpty) && (s.parkedIn sh).isEmpty
    && (s.shardPacks sh).any fun p => (packEngs p).any fun e => s.canTake e false

/-- The head jobs other shards offer an idle shard, in the order of its scan, as job and queue (R228). -/
def State.stealable (s : State) (sh : Nat) : List (Nat × Nat) :=
  let n := s.chip.shards
  ((List.range (n - 1)).map fun i => (sh + 1 + i) % n).flatMap fun o =>
    (List.range 8).filterMap fun p =>
      match s.dq (o * 8 + p) with
      | j :: _ =>
        let t := (s.job j).tclass
        if (s.shardPacks o).any (fun k => (packEngs k).any fun e => s.canTake e t) then none else some (j, o * 8 + p)
      | [] => none

/-- STEAL by shard sh (R228): highest priority first, then the longest wait, then the order of the scan. -/
def State.stealTo (s : State) (sh : Nat) : State :=
  if s.flag Reg.DSP_AFF 16 && decide (sh < s.chip.shards) && s.shardIdle sh then
    let c := (s.stealable sh).filter fun p => (s.leastLoad sh (s.job p.1).tclass).isSome
    let best := c.foldl (fun (b : Option (Nat × Nat)) p =>
      match b with
      | none => some p
      | some r =>
        if r.2 % 8 < p.2 % 8 ∨ (r.2 % 8 = p.2 % 8 ∧ (s.job p.1).enqAt < (s.job r.1).enqAt) then some p else some r) none
    match best with
    | none => s
    | some (j, q) =>
      match s.leastLoad sh (s.job j).tclass with
      | none => s
      | some e => (s.placeOn j q e sh 5).bump Reg.DSP_STEALS
  else s

/-! ### Fetch slots (R231 to R233) -/

/-- A recall of the job in a slot: taken when its queue has room, else it waits (R233). An entry that the job still
holds for its copy is free for it. -/
def State.recallSlot (s : State) (e i : Nat) : State :=
  match s.slot e i with
  | none => s
  | some f =>
    let q := s.queueOf f.job
    if (s.updJob f.job fun y => { y with entry := none }).qRoom q then
      (((((s.setSlot e i none).freeEntry f.job).enqueue f.job q true).updJob f.job fun y => { y with hdr := [] }).bump
        Reg.DSP_RECALLS).scentRecord f.job e 6
    else s.setSlot e i (some { f with recalled := true })

/-- The slot's recall is due (R233, R494). -/
def State.recallDue (s : State) (e : Nat) (f : FetchSlot) : Bool :=
  let tmo := s.fld Reg.DSP_FS_TMO 15 0
  f.recalled || (f.entered && decide (0 < tmo) && decide (f.start + tmo ≤ s.fr)) || !s.engOpen e

/-- The first 256 bytes of a job's frame, zero beyond its length (R89, R93, R231). -/
def State.headerCopy (s : State) (j : Nat) : Mem :=
  let x := s.job j
  Mem.put [] 0 (s.frameBytes x.cell 0 (min x.len 256))

/-- FETCH_SLOT_ENTER (R231, R529). -/
def State.slotEnter (s : State) (e i : Nat) (ue : Bool) : State :=
  match s.slot e i with
  | none => s
  | some f =>
    if f.entered then s
    else
      let j := f.job
      let a := (s.job j).cell * 256
      let (bad, s) := s.eccRead 6 0 a 256
      let s := if ue && !bad then s.ueError 6 0 a else s
      let s := s.freeEntry j
      if bad || ue then ((s.setSlot e i none).updJob j fun y => { y with place := .gone }).retireCore j e
      else
        (s.setSlot e i (some { f with entered := true, start := s.fr })).updJob j fun y =>
          { y with hdr := s.headerCopy j }

/-- The job in a slot can start now (R149, R151, R233). -/
def State.startable (s : State) (e i : Nat) : Bool :=
  match s.slot e i with
  | some f => f.entered && s.engOpen e && (s.allocNum e (s.job f.job).tclass).isSome
  | none => false

/-- The other slot's job has precedence (R152). -/
def State.startAfter (s : State) (e i : Nat) : Bool :=
  match s.slot e i, s.slot e (1 - i) with
  | some f, some g =>
    s.startable e (1 - i) && (decide (g.start < f.start) || (decide (g.start = f.start) && decide (i = 1)))
  | _, _ => false

/-- JOB_START (R89, R90, R152). -/
def State.startJob (s : State) (e i : Nat) : State :=
  match s.slot e i with
  | none => s
  | some f =>
    if s.startable e i && !s.startAfter e i then
      let j := f.job
      let x := s.job j
      let p := packOfEng e
      match s.allocNum e x.tclass with
      | none => s
      | some k =>
        let st := Reg.ENG_STARTS (e / 16) (e % 16)
        let s := (s.setSlot e i none).setReg st (s.reg st + 1)
        let entry := s.reg (Reg.PACK_ENTRY p (x.epoch * 8 + x.cls))
        if bitOf entry 31 then
          let c := e * 8 + k
          (s.updJob j fun y => { y with place := .running, dpatch := [] }).startCtx c
            { Ctx.idle with
              pc := BitVec.ofNat 16 entry.toNat
              g := Tab.set 0 [] 0 (if x.restart then W x.dtag.toNat else 0)
              tclass := x.tclass, epoch := x.epoch, job := some j }
        else (s.updJob j fun y => { y with place := .gone }).retireCore j e
    else s

/-! ### Delay lists (R235 to R238) -/

/-- DELAY_TICK (R235, R238): TICK advances; the next period has the length now in force. -/
def State.delayTick (s : State) : State :=
  if s.disp.tickAt + s.disp.tickNs ≤ s.fr then
    { s with disp := { s.disp with
        tick := s.disp.tick + 1
        tickAt := s.disp.tickAt + s.disp.tickNs
        tickNs := s.fld Reg.DSP_DTICK 19 0 } }
  else s

/-- DUE_JOB_ENQUEUE (R236): the first due job whose queue has an entry for it. -/
def State.dueEnqueue (s : State) (sh : Nat) : State :=
  match (s.dueJobs sh).find? (fun j => s.qRoom (s.queueOf j) && !s.recallWaits (s.queueOf j)) with
  | some j => (s.dispRemove j).enqueue j (s.queueOf j) false
  | none => s

/-! ### Acts at a turn boundary (R121, R174, R190, R534) -/

/-- The reset of a list of engines: their contexts leave every queue before any of their locks is released (R201),
become free, and the jobs in their Fetch slots are recalled. -/
def State.engReset (s : State) (es : List Nat) : State :=
  let cs := es.flatMap (liveOf8 s)
  let s := cs.foldl (fun t c => t.freeCtx c .reset) (s.leaveQueues cs)
  es.foldl (fun t e =>
    ((t.updEng e fun g => { g with issue := none, slot := 0, rp := 0, watch := 0, bubbles := 0 }).recallSlot e 0).recallSlot
      e 1) s
where
  /-- The live contexts of an engine. -/
  liveOf8 (s : State) (e : Nat) : List Nat := ((List.range 8).map (e * 8 + ·)).filter fun c => (s.ctx c).live

/-- A debugger aborts contexts (R190, R201, R534). -/
def State.abortAll (s : State) (cs : List Nat) : State :=
  cs.foldl (fun t c => t.freeCtx c .abort) (s.leaveQueues cs)

/-- The error a debugger's access reports (R539). -/
def State.dbgErr (s : State) (e : Nat) : State := { s with hub := { s.hub with dbgErr := BitVec.ofNat 4 e } }

/-- A context stands halted by a debugger or frozen by the deadlock watch. -/
def Ctx.stopped (x : Ctx) : Bool := x.halted || x.frozen

/-- HALT of the contexts in scope. -/
def State.dbgHalt (s : State) (cs : List Nat) : State :=
  (cs.foldl (fun t c => t.updCtx c fun x => { x with halted := true }) s).raise Ev.DBG_HALT

/-- A status that was granted to a stopped context lands when it goes on (R201). -/
def State.dbgLand (s : State) (c : Nat) : State :=
  match (s.ctx c).wait with
  | .landing v dst bytes => s.deliver c dst bytes v
  | _ => s

/-- RESUME of one context. -/
def State.dbgResume (s : State) (c : Nat) : State :=
  if (s.ctx c).stopped then
    (s.updCtx c fun x =>
      { x with halted := false, frozen := false, stepping := false, stepWait := false, atBrk := false }).dbgLand c
  else s

/-- STEP of the selected context: one instruction, or the wait it is halted in (R534). -/
def State.dbgStep (s : State) (c : Nat) : State :=
  let x := s.ctx c
  if !x.stopped then s.dbgErr 2
  else if x.wait == .none then
    s.setCtx c { x with halted := false, frozen := false, atBrk := false, stepping := true }
  else
    (s.setCtx c { x with halted := false, frozen := false, atBrk := false, stepWait := true }).dbgLand c

/-- A debugger's command with OP `op` acts on contexts (R534), on those that are live still. -/
def State.dbgAct (s : State) (op : Nat) (cs : List Nat) : State :=
  let cs := cs.filter fun c => (s.ctx c).live
  match op with
  | 1 => if cs.isEmpty then s else s.dbgHalt cs
  | 2 => cs.foldl State.dbgResume s
  | 3 => cs.foldl State.dbgStep s
  | _ => s.abortAll cs

/-- An engine is in the middle of a turn: an instruction has issued and not yet run. -/
def State.midTurn (s : State) (e : Nat) : Bool := (s.eng e).issue.isSome

/-- An act waits for the next turn boundary of an engine. -/
def State.defer (s : State) (e : Nat) (b : Boundary) : State := s.updEng e fun g => { g with due := g.due ++ [b] }

/-- The turn boundary of an engine at which acts are due. -/
def State.atBoundary (s : State) (e : Nat) : State :=
  let ds := (s.eng e).due
  ds.foldl (fun t b =>
    match b with
    | .reset => t.engReset [e]
    | .debug op cs => t.dbgAct op cs) (s.updEng e fun g => { g with due := [] })

/-- Reset a list of engines at their next turn boundary: at once where no turn is in progress. -/
def State.rstGo (s : State) (es : List Nat) : State :=
  let s := (es.filter s.midTurn).foldl (fun t e => t.defer e .reset) s
  s.engReset (es.filter fun e => !s.midTurn e)

/-- A debugger's command acts on contexts at the next turn boundary of each engine concerned (R534). -/
def State.dbgGo (s : State) (op : Nat) (cs : List Nat) : State :=
  let s := ((cs.map engOf).dedup.filter s.midTurn).foldl (fun t e =>
    t.defer e (.debug op (cs.filter fun c => engOf c == e))) s
  s.dbgAct op (cs.filter fun c => !s.midTurn (engOf c))

/-! ### Holes by timeout (R265, R267) -/

/-- A turn in which a context of job j issued is not over. -/
def State.jobMidTurn (s : State) (j : Nat) : Bool :=
  (s.jobCtxs j).any fun c => (s.eng (engOf c)).issue.any fun i => i.ctx == c

/-- HOLE_TIMEOUT of a domain: at a turn boundary of the job's contexts. -/
def State.holeTimeout (s : State) (d : Nat) : State :=
  let x := s.od d
  match x.timing with
  | none => s
  | some j =>
    let y := s.job j
    if s.headJob d = some j ∧ 0 < x.limit ∧ x.limit ≤ x.ran ∧ !y.retired ∧ !y.released ∧ !y.hole ∧ !s.jobMidTurn j then
      let cs := s.jobCtxs j
      let s := cs.foldl (fun t c => t.freeCtx c .hole) (s.leaveQueues cs)
      ((s.holeMark j 0).pass j).herdRun d
    else s

/-! ### The commands -/

/-- PLACEMENT (R226). -/
def execPlacement (q : Nat) (s : State) : Out :=
  if s.running && decide (q / 8 < s.chip.shards) then .next (s.placeQueue q) else .next s
/-- PARK_EXPIRE (R226). -/
def execParkExpire (j : Nat) (s : State) : Out := if s.running then .next (s.parkEnd j) else .next s
/-- STEAL (R228). -/
def execSteal (sh : Nat) (s : State) : Out := if s.running then .next (s.stealTo sh) else .next s
/-- FETCH_SLOT_ENTER (R231). -/
def execFetchSlotEnter (e i : Nat) (ue : Bool) (s : State) : Out :=
  if s.running then .next (s.slotEnter e i ue) else .next s
/-- RECALL (R233). -/
def execRecall (e i : Nat) (s : State) : Out :=
  match s.slot e i with
  | some f => if s.running && s.recallDue e f then .next (s.recallSlot e i) else .next s
  | none => .next s
/-- JOB_START (R152): at the beginning of a turn. -/
def execJobStart (e i : Nat) (s : State) : Out :=
  if s.running && (decide (i < 2) && (!s.midTurn e && (s.eng e).due.isEmpty)) then .next (s.startJob e i) else .next s
/-- SCENT_TIME_MARKER (R245): bits [23:0] of the free-running count have wrapped. -/
def execScentTimeMarker (s : State) : Out :=
  if s.running && decide (s.fr % 2 ^ 24 = 0) then .next s.scentMarker else .next s
/-- SCENT_RECORD_WRITE (R246). -/
def execScentRecordWrite (s : State) : Out := if s.running then .next s.scentWrite else .next s
/-- DELAY_TICK (R235). -/
def execDelayTick (s : State) : Out := if s.running then .next s.delayTick else .next s
/-- DUE_JOB_ENQUEUE (R236). -/
def execDueJobEnqueue (sh : Nat) (s : State) : Out := if s.running then .next (s.dueEnqueue sh) else .next s
/-- HOLE_TIMEOUT (R265). -/
def execHoleTimeout (od : Nat) (s : State) : Out := if s.running then .next (s.holeTimeout od) else .next s
/-- PACK_RST_COMPLETE (R121): once every engine of the pack has been reset. -/
def execPackRstComplete (p : Nat) (s : State) : Out :=
  if (packEngs p).all fun e => (s.eng e).due.isEmpty then .next (s.setFld (Reg.PACK_RST p) 1 1 0) else .next s
/-- ENG_RST_COMPLETE (R174): once the engine has been reset. -/
def execEngRstComplete (e : Nat) (s : State) : Out :=
  if (s.eng e).due.isEmpty then .next (s.updEng e fun g => { g with rstBusy := false }) else .next s

end Sys2Proof.Machine
end

