-- ==== Sys2Proof/Machine/Wheel.lean ====
section
/-! DEFINITION. The wheel (R40, R87, R155 to R159, R165): which context issues in a turn, and the fetch and
decode of its instruction. -/

namespace Sys2Proof.Machine

open Sys2Proof

/-- A context would be ready but for a hold under R98, R110 or R123 (R158). -/
def Ctx.able (x : Ctx) : Bool := x.live && x.wait == .none && !x.halted && !x.frozen

/-- A context is ready (R158). -/
def Ctx.ready (x : Ctx) : Bool := x.able && x.hold == 0

/-- Only a hold keeps the context from issuing. -/
def Ctx.held (x : Ctx) : Bool := x.able && decide (0 < x.hold)

/-- A counted wait (R165): JOIN on a live child, or WAITEV without EXT. -/
def Ctx.counted (x : Ctx) : Bool :=
  match x.wait with
  | .join _ => true
  | .waitev m => !bitOf m 16
  | _ => false

/-- The live contexts of an engine, rising. -/
def State.liveOf (s : State) (e : Nat) : List Nat :=
  ((List.range 8).map (e * 8 + ·)).filter fun c => (s.ctx c).live

/-- The engine is stuck (R165). -/
def State.stuck (s : State) (e : Nat) : Bool :=
  !(s.liveOf e).isEmpty && (s.liveOf e).all fun c => (s.ctx c).counted

/-- The wheel of the engine turns: its pack is present and not under reset, and a context is live (R40, R121,
R174, R531). -/
def State.wheelRuns (s : State) (e : Nat) : Bool :=
  s.running && decide (packOfEng e < s.chip.packs) && !(s.eng e).rstBusy && !s.flag (Reg.PACK_RST (packOfEng e)) 1
    && !(s.liveOf e).isEmpty

/-- The contexts of an engine in the order of its rotation pointer (R157). -/
def State.rotation (s : State) (e : Nat) : List Nat := (List.range 8).map fun i => e * 8 + ((s.eng e).rp + i) % 8

/-- The held contexts that would have issued in this turn: each has spent one issue opportunity of its hold (R98,
R123). -/
def State.heldBack (s : State) (e : Nat) : List Nat :=
  let owner := (s.slotOwner (packOfEng e) (s.eng e).slot).map (e * 8 + ·)
  if owner.any fun c => (s.ctx c).ready then []
  else
    let seen := ((s.rotation e).takeWhile fun c => (s.ctx c).tclass || !(s.ctx c).ready).filter fun c => !(s.ctx c).tclass
    ((owner.toList ++ seen).filter fun c => (s.ctx c).held).dedup

/-- The context that issues in this turn, and the rotation pointer after it (R157). -/
def State.choice (s : State) (e : Nat) : Option (Nat × Nat) :=
  let g := s.eng e
  let owner := (s.slotOwner (packOfEng e) g.slot).bind fun k =>
    if (s.ctx (e * 8 + k)).ready then some (e * 8 + k, g.rp) else none
  match owner with
  | some r => some r
  | none =>
    ((List.range 8).find? fun i =>
      let x := s.ctx (e * 8 + (g.rp + i) % 8)
      x.ready && !x.tclass).map fun i => (e * 8 + (g.rp + i) % 8, ((g.rp + i) % 8 + 1) % 8)

/-- The engine fetches at the PC of context c: the instruction is latched, or the trap of an illegal or
uncorrectable one is taken (R92, R106, R126, R529). A multi-turn instruction is latched in its last turn; the turns
before it count down (R122, R158). -/
def State.fetch (s : State) (c : Nat) : State :=
  let p := packOf c
  let x := s.ctx c
  let pc := x.pc.toNat
  let latch := fun (t : State) (i : Issue) =>
    (t.updCtx c fun y => { y with multi := 0 }).updEng (engOf c) fun g => { g with issue := some i }
  match decodeBytes (s.codeAt p pc) with
  | some (op, o, len) =>
    if 1 < x.multi then s.updCtx c fun y => { y with multi := y.multi - 1 }
    else if x.multi = 1 then latch s ⟨c, op, o, len⟩
    else
      match s.eccRead 4 p pc len with
      | (true, t) => (t.trapHere c 7 len).stepEnd c
      | (false, t) =>
        if 1 < t.turnsOf c op o then t.updCtx c fun y => { y with multi := t.turnsOf c op o - 1 }
        else latch t ⟨c, op, o, len⟩
  | none =>
    match s.eccRead 4 p pc 8 with
    | (true, t) => (t.trapHere c 7 1).stepEnd c
    | (false, t) => (t.trapHere c 1 1).stepEnd c

/-- A STEP that continued a wait ends with it (R534). -/
def State.stepWaits (s : State) (e : Nat) : State :=
  (s.liveOf e).foldl (fun t c =>
    let x := t.ctx c
    if x.stepWait && x.wait == .none then t.setCtx c { x with stepWait := false, halted := true } else t) s

/-- The watch counts revolutions while the engine stays stuck (R165). -/
def State.watchTurn (s : State) (e : Nat) : State :=
  let len := s.wheelLen (packOfEng e)
  let turns := s.fld (Reg.ENG_DL_CFG (e / 16) (e % 16)) 23 0
  if !s.stuck e || turns == 0 then s.updEng e fun g => { g with watch := 0, bubbles := 0 }
  else if (s.liveOf e).any fun c => (s.ctx c).frozen then s
  else s.updEng e fun g =>
    if g.bubbles + 1 < len then { g with bubbles := g.bubbles + 1 }
    else { g with bubbles := 0, watch := g.watch + 1 }

/-- The sampler of a pack counts a turn in which a context of the engine it watches issued (R44). -/
def State.sampleTurn (s : State) (e : Nat) : State :=
  let p := packOfEng e
  if Tab.get 0 s.pace.sampler p = e % 16 then
    { s with pace := { s.pace with samples := Tab.set 0 s.pace.samples p (Tab.get 0 s.pace.samples p + 1) } }
  else s

/-- One turn of an engine (R157): the slot index advances, the turn is counted (R244), held contexts spend their
opportunities, and the chosen context's instruction is latched for issue. -/
def State.turn (s : State) (e : Nat) : State :=
  let s := s.stepWaits e
  let len := s.wheelLen (packOfEng e)
  let spend := fun (t : State) => (s.heldBack e).foldl (fun t c => t.updCtx c fun x => { x with hold := x.hold - 1 }) t
  let adv := fun (t : State) => spend (t.updEng e fun g => { g with slot := (g.slot + 1) % len })
  match s.choice e with
  | some (c, rp) =>
    let t := adv (s.updEng e fun g =>
      if (s.ctx c).tclass then { g with rp := rp, turnsT := g.turnsT + 1, watch := 0, bubbles := 0 }
      else { g with rp := rp, turnsE := g.turnsE + 1, watch := 0, bubbles := 0 })
    (t.sampleTurn e).fetch c
  | none => (adv (s.updEng e fun g => { g with turnsB := g.turnsB + 1 })).watchTurn e

/-- WHEEL_TURN (R157): while an instruction chosen earlier has not issued, the turn is not over. A boundary at which a
reset or an abort is due is that act (R121, R174, R534). -/
def execWheelTurn (e : Nat) (s : State) : Out :=
  if (s.eng e).issue.isSome then .next s
  else if !(s.eng e).due.isEmpty then .next (s.atBoundary e)
  else if s.wheelRuns e then .next (s.turn e)
  else .next s

end Sys2Proof.Machine
end

