-- ==== Sys2Proof/Machine/Watch.lean ====
section
/-! DEFINITION. The deadlock watch (R165 to R167) and ENG_WAKE (R173). -/

namespace Sys2Proof.Machine

open Sys2Proof

/-- The live-context mask of an engine. -/
def State.liveMask (s : State) (e : Nat) : Nat := (s.liveOf e).foldl (fun n c => n + 2 ^ numOf c) 0

/-- A context is frozen by the watch: it stops exactly as by a debugger halt (R166, R533). -/
def State.freeze (s : State) (c : Nat) : State := s.updCtx c fun x => { x with frozen := true }

/-- The watch detects a deadlock in engine e (R166): the watch starts counting anew. -/
def State.deadlock (s : State) (e : Nat) : State :=
  let r := Reg.ENG_DL_STATUS (e / 16) (e % 16)
  let live := s.liveOf e
  let s := (s.bumpF r 15 0).setFld r 23 16 (s.liveMask e)
  let s := (s.raise (Ev.DEADLOCK (packOfEng e))).updEng e fun g => { g with watch := 0, bubbles := 0 }
  if s.flag (Reg.ENG_DL_CFG (e / 16) (e % 16)) 24 then live.foldl (fun t c => t.freeCtx c .squash) (s.leaveQueues live)
  else (live.foldl (fun t c => t.freeze c) s).raise Ev.DBG_HALT

/-- The watch count of engine e has reached TURNS (R165, R166). -/
def State.deadlockDue (s : State) (e : Nat) : Bool :=
  let turns := s.fld (Reg.ENG_DL_CFG (e / 16) (e % 16)) 23 0
  s.wheelRuns e && decide (0 < turns ∧ turns ≤ (s.eng e).watch) && s.stuck e
    && !(s.liveOf e).any fun c => (s.ctx c).frozen

/-- DEADLOCK_DETECT (R166). -/
def execDeadlockDetect (e : Nat) (s : State) : Out :=
  if s.deadlockDue e then .next (s.deadlock e) else .next s

/-- The effect of an ENG_WAKE write (R165, R173): EXT of a live context, and the watch count returns to 0. -/
def State.engWake (s : State) (e k : Nat) : State :=
  let c := e * 8 + k % 8
  let s := s.updEng e fun g => { g with watch := 0, bubbles := 0 }
  if (s.ctx c).live then s.updCtx c fun x => x.setEv 0x10000 else s

end Sys2Proof.Machine
end

