-- ==== Sys2Proof/Machine/TableDma.lean ====
section
/-! DEFINITION. Table INIT, aging, the lookup cache's flush, table DMA and the update unit (R280, R283, R287 to R289, R297,
R298, R300 to R304). -/

namespace Sys2Proof.Machine

open Sys2Proof

/-! ### INIT (R280) -/

/-- Release every bucket lock of table t. -/
def State.dropLocks (s : State) (t : Nat) : State :=
  { s with look := { s.look with locks := s.look.locks.filter fun p => p.1 != t } }

/-- The region of table t lies in table SRAM, or in present, trained DRAM (R278, R280). -/
def State.tRegionOk (s : State) (t : Nat) : Bool :=
  let n := 2 ^ s.tSize t * s.tSlot t
  if s.tFar t then s.dramPresent (s.tBase t) n else decide (s.tBase t + n ≤ 25165824)

/-- An INIT that is accepted starts. -/
def State.initStart (s : State) (t : Nat) : State :=
  ((s.setFld (Reg.TBL_CTRL t) 3 3 0).setFld (Reg.TBL_CTRL t) 4 4 1).dropLocks t

/-- An INIT's write of bytes b at a: by its end the write has landed (R280). -/
def State.initWrite (s : State) (t a : Nat) (b : List Byte) : State :=
  if s.tFar t then
    ((blocks64 a b.length).foldl (fun (u : State) p =>
      (u.dramLand p.1 (u.dramAt p.1) 0 ((b.drop (p.1 - a)).take p.2) []).2) s).linesSee a b
  else s.tWrite t a b

/-- Every slot of table t written empty, from slot i on. -/
def State.emptySlots (s : State) (t : Nat) : Nat → Nat → State
  | 0, _ => s
  | n + 1, i =>
    let a := s.tAddr t (i / 4) (i % 4)
    (s.initWrite t a (slotImage (s.tSlot t) a false 0 [] [])).emptySlots t n (i + 1)

/-- A pass of the aging scanner over table t begins at bucket 0 (R297). -/
def State.ageStart (s : State) (t : Nat) : State :=
  { s with look := { s.look with ageNext := Tab.set 0 s.look.ageNext t 0, ageFrom := Tab.set 0 s.look.ageFrom t s.fr } }

/-- TBL_INIT_DONE: the region is empty, INIT_BUSY clears, READY sets, and aging starts at bucket 0 (R280, R297). -/
def State.initDone (s : State) (t : Nat) : State :=
  let s := s.emptySlots t (2 ^ s.tSize t) 0
  let s := ((s.setFld (Reg.TBL_CTRL t) 4 4 0).setFld (Reg.TBL_CTRL t) 3 3 1).setFld (Reg.TBL_STAT t) 24 0 0
  s.ageStart t

/-- TBL_INIT_DONE (R280). -/
def execTblInitDone (t : Nat) (s : State) : Out :=
  if s.flag (Reg.TBL_CTRL t) 4 then .next (s.initDone t) else .next s

/-! ### Aging (R297) -/

/-- The scanner at one slot, under the policy at its visit (R283). -/
def State.ageSlot (s : State) (t : Nat) (pol : Word) (x : Slot) : State :=
  if x.good && x.valid then
    let age := min (x.age + 1) 255
    let del := getF pol 23 16
    if 0 < del ∧ del ≤ age then
      ((s.putSlot t x.bucket x.slot false age x.key x.value).countEntry t true false).bump Reg.TBL_AGED_CNT
    else s.putSlot t x.bucket x.slot true age x.key x.value
  else s

/-- The update unit does the work of a visit of bucket b: a locked bucket is left, a slot that fails parity is detected and
skipped (R288, R292, R296). -/
def State.ageBucket (s : State) (t b : Nat) (pol : Word) : State :=
  if s.tReady t then
    match s.bucket t b with
    | (none, u) => u
    | (some l, u) => if u.bLocked t b then u.detect t l else l.foldl (fun v x => v.ageSlot t pol x) (u.detect t l)
  else s

/-- AGE_MS of table t in nanoseconds. -/
def State.agePeriod (s : State) (t : Nat) : Nat := s.fld (Reg.TBL_CTRL t) 31 16 * 1000000

/-- The visit of the next bucket of table t is due: the visits of a pass spread evenly over AGE_MS (R297). -/
def State.ageDue (s : State) (t : Nat) : Bool :=
  decide (0 < s.agePeriod t ∧
    Tab.get 0 s.look.ageFrom t + Tab.get 0 s.look.ageNext t * s.agePeriod t / s.tBuckets t ≤ s.fr)

/-- The scanner visits its next bucket of table t: the work goes to the update unit (R288, R289). After the last bucket the
next pass begins a period after this one, or at once when this one has taken longer. -/
def State.ageVisit (s : State) (t : Nat) : State :=
  let b := Tab.get 0 s.look.ageNext t
  let u := s.arrive (.aging t b (s.reg (Reg.TBL_POLICY t)))
  if b + 1 < s.tBuckets t then { u with look := { u.look with ageNext := Tab.set 0 u.look.ageNext t (b + 1) } }
  else { u with look := { u.look with
    ageNext := Tab.set 0 u.look.ageNext t 0
    ageFrom := Tab.set 0 u.look.ageFrom t (max s.fr (Tab.get 0 s.look.ageFrom t + s.agePeriod t)) } }

/-- AGING_VISIT (R297). -/
def execAgingVisit (t : Nat) (s : State) : Out :=
  if s.running && s.tReady t && s.ageDue t then .next (s.ageVisit t) else .next s

/-! ### The cache flush (R298) -/

/-- A write of FLUSH invalidates every line. -/
def State.cacheFlush (s : State) : State :=
  { s.setFld Reg.TBL_CACHE_CTRL 0 0 1 with look := { s.look with cache := [] } }

/-- CACHE_FLUSH_DONE (R298). -/
def execCacheFlushDone (s : State) : Out := .next (s.setFld Reg.TBL_CACHE_CTRL 0 0 0)

/-! ### Table DMA (R300 to R304) -/

/-- LOC of ring r: DRAM. -/
def State.ringDram (s : State) (r : Nat) : Bool := s.flag (Reg.TDMA_CFG r) 1
/-- Descriptors of a ring. -/
def State.ringSize (s : State) (r : Nat) : Nat := 2 ^ s.fld (Reg.TDMA_CFG r) 12 8
/-- BASE of ring r (R309). -/
def State.ringBase (s : State) (r : Nat) : Nat :=
  let hi := (s.reg (Reg.TDMA_BASE_HI r)).toNat
  (s.reg (Reg.TDMA_BASE_LO r)).toNat + (if s.ringDram r then hi % 256 else hi) * 2 ^ 32

/-- A ring runs (R304). A ring in host memory can be read while bus mastering is on (log entry 12). -/
def State.ringRuns (s : State) (r : Nat) : Bool :=
  decide (r < 4) && s.flag (Reg.TDMA_CFG r) 0 && s.reg (Reg.TDMA_CI r) != s.reg (Reg.TDMA_PI r)
    && (s.ringDram r || s.hub.busMaster)

/-- Ring r is the next of the running rings in round-robin order (R300). -/
def State.ringTurn (s : State) (r : Nat) : Bool :=
  ((List.range 4).map fun i => (s.look.ring + i) % 4).find? (fun k => s.ringRuns k) == some r

/-- The bytes of a ring's memory are reachable (R302). -/
def State.reachable (s : State) (dram : Bool) (a n : Nat) : Bool :=
  if dram then s.dramPresent a n else s.hub.busMaster

/-- A descriptor from its bytes (R301). -/
def tdescOf (b : List Byte) : TDesc :=
  { op := (byteAt b 0).toNat, table := (byteAt b 1).toNat % 64, irq := (byteAt b 2).toNat % 2 = 1,
    valid := (byteAt b 2).toNat / 2 % 2 = 1, bucket := leNat ((b.drop 4).take 4), slot := (byteAt b 8).toNat,
    age := (byteAt b 9).toNat, buf := leNat ((b.drop 16).take 8), ebuf := leNat ((b.drop 24).take 8) }

/-- A descriptor that completes with a status and returns its fields as they came. -/
def TDesc.ends (d : TDesc) (status : Nat) : TRes := ⟨status, d.bucket, d.slot, d.age⟩

/-- Write bytes for table DMA: through regulator port 2 (R426), or to host memory. -/
def State.tdmaWrite (s : State) (dram : Bool) (a : Nat) (b : List Byte) : State :=
  if dram then s.dramWrite 2 false a b .posted else { s with mem := { s.mem with host := s.mem.host.put a b } }

/-- Bytes of the key in BUF: a direct-index table has a 4-byte index (R301). -/
def State.bufKey (s : State) (t : Nat) : Nat := if s.tDirect t then 4 else s.tKlen t

/-- The index of a direct-index key is out of range (R302, R303). -/
def State.indexBad (s : State) (t : Nat) (key : List Byte) : Bool :=
  s.tDirect t && decide (2 ^ s.tSize t ≤ leNat key)

/-- The key and the value that an operation has read from BUF (R301). -/
def State.bufKeyOf (s : State) (x : TRun) : List Byte := x.buf.bytes x.desc.buf (s.bufKey x.desc.table)
def State.bufValOf (s : State) (x : TRun) : List Byte :=
  x.buf.bytes (x.desc.buf + s.bufKey x.desc.table) (s.tVlen x.desc.table)

/-- What an operation returns for slot k of bucket b, and for a key it does not find: BUCKET = index and SLOT = 0 on a
direct-index table (R302). -/
def State.slotRes (s : State) (d : TDesc) (status b k age : Nat) : TRes :=
  if s.tDirect d.table then ⟨status, 4 * b + k, 0, age⟩ else ⟨status, b, k, age⟩
def State.missRes (s : State) (d : TDesc) (key : List Byte) (status : Nat) : TRes :=
  if s.tDirect d.table then ⟨status, leNat key, 0, d.age⟩ else d.ends status

/-! ### Operations (R302, R579) -/

/-- READ. -/
def State.tdmaOpRead (s : State) (x : TRun) : TRes × State :=
  let d := x.desc
  let key := s.bufKeyOf x
  if s.indexBad d.table key then (d.ends 5, s)
  else
    match s.lookup d.table key with
    | (.bad, v) => (d.ends 6, v)
    | (.miss, v) => (v.missRes d key 2, v)
    | (.hit y, v) =>
      (v.slotRes d 1 y.bucket y.slot y.age, v.tdmaWrite x.dram (d.buf + v.bufKey d.table) y.value)

/-- EBUF can take an evicted key and value (R302). -/
def State.ebufOk (s : State) (x : TRun) : Bool :=
  x.desc.ebuf == 0 || s.reachable x.dram x.desc.ebuf (s.bufKey x.desc.table + s.tVlen x.desc.table)

/-- INSERT: it ignores locks. -/
def State.tdmaOpInsert (s : State) (x : TRun) (pol : Word) : TRes × State :=
  let d := x.desc
  let t := d.table
  let key := s.bufKeyOf x
  let value := s.bufValOf x
  if s.indexBad t key then (d.ends 5, s)
  else
    match (if s.tDirect t then s.insertIndex t (leNat key) value false
      else s.insertKey t pol key value false (s.ebufOk x)) with
    | (.bad, v) => (d.ends 6, v)
    | (.denied, v) => (d.ends 6, if x.dram then v.dramUnserved d.ebuf else v)
    | (.full, v) => (v.missRes d key 4, v)
    | (.replaced y, v) => (v.slotRes d 1 y.bucket y.slot d.age, v)
    | (.placed b k, v) => (v.slotRes d 1 b k d.age, v)
    | (.evicted y, v) =>
      (v.slotRes d 3 y.bucket y.slot d.age, if d.ebuf = 0 then v else v.tdmaWrite x.dram d.ebuf (y.key ++ y.value))

/-- DELETE. -/
def State.tdmaOpDelete (s : State) (x : TRun) : TRes × State :=
  let d := x.desc
  let key := s.bufKeyOf x
  if s.indexBad d.table key then (d.ends 5, s)
  else
    match s.lookup d.table key with
    | (.bad, v) => (d.ends 6, v)
    | (.miss, v) => (v.missRes d key 2, v)
    | (.hit y, v) => (v.missRes d key 1, v.clearSlot d.table y)

/-- The slot that WRITE_SLOT names (R302). -/
def State.namedSlot (s : State) (d : TDesc) : Nat × Nat :=
  if s.tDirect d.table then (d.bucket / 4, d.bucket % 4) else (d.bucket, d.slot)

/-- WRITE_SLOT's slot lies outside the table. -/
def State.slotBad (s : State) (d : TDesc) : Bool :=
  if s.tDirect d.table then decide (2 ^ s.tSize d.table ≤ d.bucket)
  else decide (s.tBuckets d.table ≤ d.bucket ∨ 4 ≤ d.slot)

/-- VALID of a slot as it stands, whatever its parity: what ENTRIES has counted (R306). -/
def State.wasValid (s : State) (t b k : Nat) : Bool := (byteAt (s.tPeek t (s.tAddr t b k) 1) 0).toNat % 2 == 1

/-- WRITE_SLOT. -/
def State.tdmaOpWrite (s : State) (x : TRun) : TRes × State :=
  let d := x.desc
  let t := d.table
  let (b, k) := s.namedSlot d
  if s.slotBad d then (d.ends 5, s)
  else
    (⟨1, d.bucket, if s.tDirect t then 0 else d.slot, 0⟩,
      (s.putSlot t b k d.valid 0 (s.bufKeyOf x) (s.bufValOf x)).countEntry t (s.wasValid t b k) d.valid)

/-- LOCK_BUCKET (R296). -/
def State.tdmaOpLock (s : State) (d : TDesc) : TRes × State :=
  if s.tBuckets d.table ≤ d.bucket then (d.ends 5, s)
  else if s.bLocked d.table d.bucket then (d.ends 1, s)
  else if 256 ≤ s.look.locks.length then (d.ends 7, s)
  else (d.ends 1, { s with look := { s.look with locks := s.look.locks ++ [(d.table, d.bucket)] } })

/-- UNLOCK_BUCKET. -/
def State.tdmaOpUnlock (s : State) (d : TDesc) : TRes × State :=
  if s.tBuckets d.table ≤ d.bucket then (d.ends 5, s)
  else if s.bLocked d.table d.bucket then
    (d.ends 1, { s with look := { s.look with locks := s.look.locks.erase (d.table, d.bucket) } })
  else (d.ends 2, s)

/-- The update of an operation (R288): a table that has meanwhile lost READY is BAD_PARAM. -/
def State.tdmaUpdate (s : State) (x : TRun) (pol : Word) : TRes × State :=
  if !s.tReady x.desc.table then (x.desc.ends 5, s)
  else
    match x.desc.op with
    | 2 => s.tdmaOpInsert x pol
    | 3 => s.tdmaOpDelete x
    | _ => s.tdmaOpWrite x

/-! ### The course of an operation (R300 to R303) -/

/-- The operation in progress at k: 0 to 3 of the rings, 4 of CMD_TBL_OPS. -/
def State.trun (s : State) (k : Nat) : Option TRun := Tab.get none s.look.runs k
def State.setTrun (s : State) (k : Nat) (x : Option TRun) : State :=
  { s with look := { s.look with runs := Tab.set none s.look.runs k x } }

/-- An operation at a stage. -/
def TRun.stand (x : TRun) (st : TStage) : TRun := { x with stage := st }

/-- An operation takes up its buffer: unreachable, it ends with MEM_ERR before the table changes (R302, R303). -/
def State.tdmaBuf (s : State) (k : Nat) (x : TRun) : State :=
  let d := x.desc
  let n := s.bufKey d.table + s.tVlen d.table
  if !s.reachable x.dram d.buf n then
    (if x.dram then s.dramUnserved d.buf else s).setTrun k (some (x.stand (.done (d.ends 6))))
  else if x.dram then (s.setTrun k (some { x with stage := .buf, buf := [] })).dramFetch 2 false d.buf n (.op k)
  else s.setTrun k (some { x with stage := .ready, buf := Mem.put [] d.buf (s.mem.host.bytes d.buf n) })

/-- An operation whose descriptor is at hand begins (R303): a table that is not READY or an unassigned OP is BAD_PARAM. -/
def State.tdmaBegin (s : State) (k : Nat) (x : TRun) : State :=
  let d := x.desc
  let ends := fun (r : TRes × State) => r.2.setTrun k (some (x.stand (.done r.1)))
  if d.op = 0 ∨ 6 < d.op ∨ !s.tReady d.table then ends (d.ends 5, s)
  else if d.op = 5 then ends (s.tdmaOpLock d)
  else if d.op = 6 then ends (s.tdmaOpUnlock d)
  else if d.op = 4 && s.slotBad d then ends (d.ends 5, s)
  else s.tdmaBuf k x

/-- An operation with its buffer at hand: a READ looks up its key, an update goes to the update unit (R289, R300). -/
def State.tdmaAct (s : State) (k : Nat) (x : TRun) : State :=
  if x.desc.op = 1 then
    match s.farRun (.op k) false (fun u => if u.tReady x.desc.table then u.tdmaOpRead x else (x.desc.ends 5, u)) with
    | (.done r, u) => u.setTrun k (some (x.stand (.done r)))
    | (.waits, u) => u
    | (.gone, u) => u.setTrun k (some (x.stand (.done (x.desc.ends 6))))
  else (s.arrive (.op k (s.reg (Reg.TBL_POLICY x.desc.table)))).setTrun k (some (x.stand .queued))

/-- One step of an operation, if it can take one. `at_` is where its descriptor stands. -/
def State.tdmaStep (s : State) (k at_ : Nat) : State :=
  match s.trun k with
  | none => s
  | some x =>
    match x.stage with
    | .desc =>
      if s.dramPending (.op k) then s
      else if x.bad then s.setTrun k (some (x.stand (.done ((tdescOf []).ends 6))))
      else s.tdmaBegin k { x with desc := tdescOf (x.buf.bytes at_ 32) }
    | .buf =>
      if s.dramPending (.op k) then s
      else if x.bad then s.setTrun k (some (x.stand (.done (x.desc.ends 6))))
      else s.setTrun k (some (x.stand .ready))
    | .ready => s.tdmaAct k x
    | .queued => s
    | .done _ => s

/-- An operation goes on as far as it can. -/
def State.tdmaGo (s : State) (k at_ : Nat) : State :=
  (((s.tdmaStep k at_).tdmaStep k at_).tdmaStep k at_).tdmaStep k at_

/-! ### The rings (R300, R303, R304) -/

/-- The address of the descriptor that ring r serves next (R300). -/
def State.ringAt (s : State) (r : Nat) : Nat := s.ringBase r + 32 * ((s.reg (Reg.TDMA_CI r)).toNat % s.ringSize r)

/-- OP of the descriptor that ring r serves next. -/
def State.ringOp (s : State) (r : Nat) : Nat :=
  match s.trun r with
  | some x => if x.stage = .desc then leNat (s.dramView (s.ringAt r) 1) else x.desc.op
  | none => if s.ringDram r then leNat (s.dramView (s.ringAt r) 1) else (s.mem.host.rd (s.ringAt r)).toNat

/-- Ring r takes up its next descriptor. -/
def State.ringTake (s : State) (r : Nat) : State :=
  let a := s.ringAt r
  if s.ringDram r then
    (s.setTrun r (some ⟨true, .desc, tdescOf [], [], false, false⟩)).dramFetch 2 false a 32 (.op r)
  else s.tdmaBegin r ⟨false, .ready, tdescOf (s.mem.host.bytes a 32), [], false, false⟩

/-- The operation of ring r is over (R303, R304): STATUS with the returned fields, then CI, then the event. -/
def State.ringDone (s : State) (r : Nat) : State :=
  match s.trun r with
  | some ⟨dram, .done res, d, _, _, stop⟩ =>
    let s := (s.setTrun r none).tdmaWrite dram (s.ringAt r + 3)
      (B8 res.status :: leBytes 4 res.bucket ++ [B8 res.slot, B8 res.age])
    let s := s.setReg (Reg.TDMA_CI r) (s.reg (Reg.TDMA_CI r) + 1)
    let s := { s with look := { s.look with ring := (r + 1) % 4 } }
    let s := if stop then s.setFld (Reg.TDMA_CFG r) 0 0 0 else s
    if d.irq then s.raise (Ev.TDMA_DONE r) else s
  | _ => s

/-- Ring r goes on with its operation, and ends it when it is over. -/
def State.ringGo (s : State) (r : Nat) : State := (s.tdmaGo r (s.ringAt r)).ringDone r

/-- An operation of some ring is in progress; the device serves one descriptor at a time (R300). -/
def State.ringBusy (s : State) : Option Nat := (List.range 4).find? fun r => (s.trun r).isSome

/-- Ring r serves its descriptor, or goes on with the one it serves. -/
def State.ringServe (s : State) (r : Nat) : State :=
  match s.ringBusy with
  | some k => if k = r then s.ringGo r else s
  | none => if s.ringTurn r then (s.ringTake r).ringGo r else s

/-- A command of table DMA: the descriptor that ring r serves names the row's operation. `ue` is the byte offset of a word of
table SRAM found uncorrectable (R287). -/
def State.ringStep (s : State) (r : Nat) (ue : Option Nat) (op : Nat → Bool) : Out :=
  if s.running && op (s.ringOp r) then .next ((ue.elim s (s.spoil 8 0)).ringServe r) else .next s

/-- TDMA_READ (R302); it serves the descriptors of an unassigned OP too (R303). -/
def execTdmaRead (r : Nat) (ue : Option Nat) (s : State) : Out :=
  s.ringStep r ue fun n => n == 1 || n == 0 || decide (6 < n)
/-- TDMA_INSERT (R302). -/
def execTdmaInsert (r : Nat) (ue : Option Nat) (s : State) : Out := s.ringStep r ue fun n => n == 2
/-- TDMA_DELETE (R302). -/
def execTdmaDelete (r : Nat) (ue : Option Nat) (s : State) : Out := s.ringStep r ue fun n => n == 3
/-- WRITE_SLOT (R302). -/
def execWriteSlot (r : Nat) (_ : Option Nat) (s : State) : Out := s.ringStep r none fun n => n == 4
/-- LOCK_BUCKET (R302). -/
def execLockBucket (r : Nat) (_ : Option Nat) (s : State) : Out := s.ringStep r none fun n => n == 5
/-- UNLOCK_BUCKET (R302). -/
def execUnlockBucket (r : Nat) (_ : Option Nat) (s : State) : Out := s.ringStep r none fun n => n == 6

/-! ### The update unit (R288, R289) -/

/-- The table of an update. -/
def State.updTable (s : State) (u : Update) : Nat :=
  match u with
  | .touch t _ _ _ => t
  | .helper id _ => ((s.help.cmds.find? fun k => k.id == id).map fun k => hSel k.word).getD 0
  | .op k _ => ((s.trun k).map fun x => x.desc.table).getD 0
  | .aging t _ _ => t

/-- The DRAM requests of an update are T-class: those of a T-class helper command (R422). -/
def State.updTclass (s : State) (u : Update) : Bool :=
  match u with
  | .helper id _ => s.help.cmds.any fun k => k.id == id && k.tclass
  | _ => false

/-- An update is applied. -/
def State.updDo (s : State) (u : Update) : State :=
  match u with
  | .touch t b k key => s.applyTouch t b k key
  | .helper id pol =>
    match s.help.cmds.find? (fun k => k.id == id) with
    | some k => s.applyHelper k pol
    | none => s
  | .op k pol =>
    match s.trun k with
    | some x =>
      match s.tdmaUpdate x pol with
      | (r, v) => v.setTrun k (some (x.stand (.done r)))
    | none => s
  | .aging t b pol => s.ageBucket t b pol

/-- An update changes nothing: its table is not present (ERR 0x2, R419), or its data uncorrectable (ERR 0x3, R287). -/
def State.updFail (s : State) (u : Update) (err : BitVec 4) : State :=
  match u with
  | .helper id _ => s.updHlp id fun k => { k with stage := .done, err := err }
  | .op k _ => s.updRun k fun x => x.stand (.done (x.desc.ends 6))
  | .touch _ _ _ _ => s
  | .aging _ _ _ => s

/-- The update at the head of the queue leaves it. -/
def State.updPop (s : State) : State := { s with help := { s.help with updates := s.help.updates.tail } }

/-- UPDATE_UNIT_APPLY (R289): the update whose turn it is is applied, once the far lines it reads are at hand. `ue` is the
byte offset of a word found uncorrectable in table SRAM, or in the lookup cache for a far table. -/
def State.updateApply (s : State) (ue : Option Nat) : State :=
  match s.help.updates with
  | [] => s
  | u :: _ =>
    match (if s.tFar (s.updTable u) then ue else none) with
    | some off => ((s.updPop.farEnd .update).ueError 9 0 off).updFail u 3
    | none =>
      match (ue.elim s (s.spoil 8 0)).farRun .update (s.updTclass u) (fun v => ((), v.updDo u)) with
      | (.done _, v) => v.updPop
      | (.waits, v) => v
      | (.gone, v) => v.updPop.updFail u 2

end Sys2Proof.Machine
end

