-- ==== Sys2Proof/Machine/Classifier.lean ====
section
/-! DEFINITION. Step 2 of R24: parsing, key, hash, class and key action (R347, R348, R350), the stream filter
(R349) and the meters (R357 to R364). -/

namespace Sys2Proof.Machine

open Sys2Proof

/-! ### The parser (R347) -/

/-- What the parser found: the outer tag, L3_OFF and L4_OFF. -/
structure Parsed where
  tag : Option Nat
  l3 : Option Nat
  l4 : Option Nat
  deriving DecidableEq, Repr

/-- Two bytes as the wire orders them. -/
def be16 (b : List Byte) (i : Nat) : Nat := (byteAt b i).toNat * 256 + (byteAt b (i + 1)).toNat

/-- The type 0x8100 or 0x88A8 of a VLAN tag. -/
def isTag (ty : Nat) : Bool := ty = 0x8100 || ty = 0x88A8

/-- The offset of the EtherType after up to two tags. -/
def etherAt (b : List Byte) : Nat :=
  if isTag (be16 b 12) then (if isTag (be16 b 16) then 20 else 16) else 12

/-- The network header: its offset and whether it is IPv4. -/
def netHeader (b : List Byte) : Option (Nat × Bool) :=
  let n := min b.length 256
  let t := etherAt b
  let o := t + 2
  let ver := (byteAt b o).toNat / 16
  let ihl := (byteAt b o).toNat % 16
  if n < o then none
  else if be16 b t = 0x0800 ∧ ver = 4 ∧ 5 ≤ ihl ∧ o + 20 ≤ n then some (o, true)
  else if be16 b t = 0x86DD ∧ ver = 6 ∧ o + 40 ≤ n then some (o, false)
  else none

/-- The transport header's offset. -/
def transHeader (b : List Byte) (o : Nat) (v4 : Bool) : Option Nat :=
  let n := min b.length 256
  let proto := (byteAt b (if v4 then o + 9 else o + 6)).toNat
  let at_ := if v4 then o + 4 * ((byteAt b o).toNat % 16) else o + 40
  let size := if proto = 6 then 20 else 8
  if (proto = 6 ∨ proto = 17) ∧ (!v4 || be16 b (o + 6) % 8192 == 0) ∧ at_ + size ≤ n then some at_ else none

/-- The parse of an Ethernet frame. -/
def parseFrame (b : List Byte) : Parsed :=
  let tag := if isTag (be16 b 12) then some (be16 b 14) else none
  match netHeader b with
  | none => ⟨tag, none, none⟩
  | some (o, v4) => ⟨tag, some o, transHeader b o v4⟩

/-- A CAN record has no network or transport header and no tag. -/
def parseOf (can : Bool) (b : List Byte) : Parsed := if can then ⟨none, none, none⟩ else parseFrame b

/-- DSCP [5:3] of a found network header. -/
def dscpHigh (b : List Byte) (o : Nat) : Nat :=
  if (byteAt b o).toNat / 16 = 4 then (byteAt b (o + 1)).toNat / 32
  else (byteAt b o).toNat % 16 / 2

/-! ### Key, hash and class (R347) -/

/-- Byte i of a key field base: 0 the frame, 1 L3_OFF, 2 L4_OFF, 3 the metadata. -/
def keyByte (p : Parsed) (port : Nat) (b : List Byte) (base i : Nat) : Byte :=
  let from_ := fun (o : Option Nat) =>
    match o with
    | some k => if k + i < 256 ∧ k + i < b.length then byteAt b (k + i) else 0
    | none => 0
  match base with
  | 0 => from_ (some 0)
  | 1 => from_ p.l3
  | 2 => from_ p.l4
  | _ => if i = 0 then B8 port else 0

/-- Profile number of a port. -/
def State.profile (s : State) (port : Nat) : Nat := s.fld (Reg.PORT_CFG port) 7 4

/-- The key under profile k of epoch e. -/
def State.flowKey (s : State) (e k port : Nat) (p : Parsed) (b : List Byte) : List Byte :=
  (List.range 8).flatMap fun i =>
    let f := s.reg (Reg.CLS_PFLD e k i)
    (List.range (getF f 14 8)).map fun j => keyByte p port b (getF f 17 16) (getF f 7 0 + j)

/-- CRC-32C of the key, reflected, from the seed as written. -/
def flowHash (seed : Word) (key : List Byte) : Word :=
  W (key.foldl (fun a b => crcStep 32 0x1EDC6F41 true a b.toNat) seed.toNat)

/-- The class from CSRC. -/
def State.srcClass (s : State) (e k : Nat) (p : Parsed) (b : List Byte) : Nat :=
  let c := s.reg (Reg.CLS_PCTL e k)
  match getF c 22 21 with
  | 1 => match p.tag with
    | some t => t / 8192
    | none => getF c 25 23
  | 2 => match p.l3 with
    | some o => dscpHigh b o
    | none => getF c 25 23
  | _ => getF c 25 23

/-- The order domain of a hash. -/
def State.hashOd (s : State) (e k : Nat) (h : Word) : Nat :=
  let c := s.reg (Reg.CLS_PCTL e k)
  (getF c 15 0 + h.toNat % 2 ^ min 16 (getF c 20 16)) % 65536

/-! ### Key action (R348) -/

/-- What the key action of a frame gives. -/
structure Action where
  cls : Option Nat := none
  drop : Bool := false
  meter : Option Nat := none
  stream : Option Nat := none
  mdata : List Byte := []
  deriving DecidableEq, Repr

/-- An action-table value. -/
def actionOf (v : List Byte) : Action :=
  if v.length < 8 then {}
  else
    let w := leNat (v.take 8)
    { cls := if w / 8 % 2 = 1 then some (w % 8) else none
      drop := w / 16 % 2 = 1
      meter := if w / 32 % 2 = 1 then some (w / 2 ^ 32 % 65536) else none
      stream := if w / 64 % 2 = 1 then some (w / 256 % 4096) else none
      mdata := if 24 ≤ v.length then (v.drop 8).take 16 else [] }

/-- The action lookup of a key in epoch e: a table not usable in the epoch is a miss. -/
def State.keyAction (s : State) (e k : Nat) (key : List Byte) : Action × State :=
  let t := s.fld (Reg.CLS_PACT e k) 5 0
  if !s.flag (Reg.CLS_PCTL e k) 26 || !s.tReady t || !s.flag (Reg.TBL_CTRL t) e then ({}, s)
  else
    let fitted := if s.tDirect t then fit 4 key else fit (s.tKlen t) key
    if s.indexBad t fitted then ({}, s)
    else
      match s.lookup t fitted with
      | (.hit x, u) => (actionOf x.value, u)
      | (_, u) => ({}, u)

/-! ### The stream filter (R349) -/

/-- The stream filter of handle h: whether it drops a frame of `len` bytes. -/
def State.streamFilter (s : State) (h len : Nat) : Bool × State :=
  let r := Reg.CLS_SFILT h
  let lim := s.fld r 13 0
  if s.flag r 15 then (true, s)
  else if 0 < lim ∧ lim < len then (true, if s.flag r 14 then s.setFld r 15 15 1 else s)
  else (false, s)

/-! ### Meters (R359 to R362, R364) -/

/-- Meter m. -/
def State.meter (s : State) (m : Nat) : Meter := Tab.get {} s.meters m
def State.setMeter (s : State) (m : Nat) (x : Meter) : State := { s with meters := Tab.set {} s.meters m x }

/-- The parameters of a meter profile: mode, rates in kb/s and burst sizes in 1/256 byte. -/
structure MProf where
  trtcm : Bool
  cir : Nat
  pir : Nat
  cbs : Nat
  pbs : Nat
  deriving DecidableEq, Repr

def State.mprof (s : State) (p : Nat) : MProf :=
  { trtcm := s.flag (Reg.MTR_PMODE p) 0, cir := (s.reg (Reg.MTR_CIR p)).toNat, pir := (s.reg (Reg.MTR_PIR p)).toNat,
    cbs := s.fld (Reg.MTR_CBS p) 23 0 * 256, pbs := s.fld (Reg.MTR_PBS p) 23 0 * 256 }

/-- Tokens of dt ns at a rate in kb/s, in 1/256 byte, rounded down. -/
def tokensOf (dt rate : Nat) : Nat := dt * rate * 256 / 8000000

/-- The algorithm of R360 on a frame of `a` bytes: the color (0 green, 1 yellow, 2 red) and the meter. A bucket above a
size that a profile write has lowered is first cut to it (R362). -/
def Meter.run (m : Meter) (p : MProf) (pre a now : Nat) : Nat × Meter :=
  let dt := now - m.last
  let n := a * 256
  if p.trtcm then
    let tc := min p.cbs (m.tc + tokensOf dt p.cir)
    let tp := min p.pbs (m.tp + tokensOf dt p.pir)
    let m := { m with last := now }
    if pre = 2 ∨ tp < n then (2, { m with tc := tc, tp := tp })
    else if pre = 1 ∨ tc < n then (1, { m with tc := tc, tp := tp - n })
    else (0, { m with tc := tc - n, tp := tp - n })
  else
    let add := tokensOf dt p.cir
    let held := min p.cbs m.tc
    let spare := held + add - p.cbs
    let tc := min p.cbs (held + add)
    let te := min p.pbs (m.tp + spare)
    let m := { m with last := now }
    if pre = 0 ∧ n ≤ tc then (0, { m with tc := tc - n, tp := te })
    else if pre ≠ 2 ∧ n ≤ te then (1, { m with tc := tc, tp := te - n })
    else (2, { m with tc := tc, tp := te })

/-- The meter counts a frame of a color (R381). -/
def Meter.count (m : Meter) (color : Nat) : Meter :=
  match color with
  | 0 => { m with green := satInc 32 m.green }
  | 1 => { m with yellow := satInc 32 m.yellow }
  | _ => { m with red := satInc 32 m.red }

/-- What a meter does with a frame: its color, whether it drops it, the remarked class. -/
structure Metered where
  color : Nat
  drop : Bool
  cls : Option Nat
  deriving DecidableEq, Repr

/-- Meter m applied to a frame of accounted length `a` with outer tag `tag` (R359 to R361). -/
def State.runMeter (s : State) (m a : Nat) (tag : Option Nat) : Metered × State :=
  let c := s.reg (Reg.MTR_CFG m)
  if !bitOf c 8 then (⟨0, false, none⟩, s)
  else
    let p := getF c 7 0
    let mode := s.reg (Reg.MTR_PMODE p)
    let pre := if bitOf mode 1 && getF mode 3 2 == 1 then
        (match tag with
          | some t => t / 4096 % 2
          | none => 0)
      else 0
    let (color, x) := (s.meter m).run (s.mprof p) pre a s.fr
    let s := s.setMeter m (x.count color)
    let act := getF mode (5 + 2 * color) (4 + 2 * color)
    (⟨color, act == 1, if act = 2 then some (getF mode (14 + 4 * color) (12 + 4 * color)) else none⟩, s)

/-! ### Step 2 (R347) -/

/-- Reasons for a drop that no register counts (log entry 13). -/
inductive DropWhy where
  | badFrame | macControl | macsec | action | stream | cells | canOff | hostDesc | hostLong | policy
  deriving DecidableEq, Repr

def DropWhy.code : DropWhy → Nat
  | .badFrame => 0
  | .macControl => 1
  | .macsec => 2
  | .action => 3
  | .stream => 4
  | .cells => 5
  | .canOff => 6
  | .hostDesc => 7
  | .hostLong => 8
  | .policy => 9

def State.dropped (s : State) (why : DropWhy) (port : Nat) : State := s.countDrop why.code port

/-- Step 2 for a frame of a port, taken at time `ts`: the frame as it enters its FIFO, or none when it is
dropped. -/
def State.classify (s : State) (port : Nat) (b : List Byte) (fab : Option FabIn) (ts : DomTime) :
    Option IFrame × State :=
  let e := s.ing
  let k := s.profile port
  let p := parseOf (s.portKind port = .can) b
  let key := s.flowKey e k port p b
  let h := flowHash (s.reg (Reg.CLS_PSEED e k)) key
  let od := match fab with
    | some f => f.od
    | none => s.hashOd e k h
  let cls := match fab with
    | some f => f.cls
    | none => s.srcClass e k p b
  let (act, s) := s.keyAction e k key
  let cls := act.cls.getD cls
  let pool := s.fld (if cls < 4 then Reg.PORT_POOL_LO port else Reg.PORT_POOL_HI port) (8 * (cls % 4) + 4) (8 * (cls % 4))
  if act.drop then (none, s.dropped .action port)
  else
    let (cut, s) := match act.stream with
      | some st => s.streamFilter st b.length
      | none => (false, s)
    if cut then (none, s.dropped .stream port)
    else
      let (m, s) := match act.meter with
        | some n => s.runMeter n (s.accIn port b.length) p.tag
        | none => (⟨0, false, none⟩, s)
      if m.drop then (none, s)
      else
        (some {
          bytes := b, port := port, cls := m.cls.getD cls, pool := pool, epoch := e, profile := k, od := od, hash := h,
          color := m.color, stream := act.stream.getD 0, l3 := p.l3.getD 255, l4 := p.l4.getD 255,
          mdata := match fab with
            | some f => f.hdr
            | none => act.mdata
          fab := fab.isSome, tsSec := ts.sec.toNat, tsNs := ts.ns, tsFrac := B8 ts.fracByte, stalled := false }, s)

end Sys2Proof.Machine
end

