-- ==== Sys2Proof/Machine/Macsec.lean ====
section
/-! DEFINITION. Port MACsec (R329, R330, R469): the SecTAG, the protection of a frame and its validation, as
IEEE 802.1AE-2018 defines them, with AES-GCM (NIST SP 800-38D). -/

namespace Sys2Proof.Machine

open Sys2Proof

/-! ### AES-GCM -/

/-- Data in counter mode, n blocks, from this counter block on. -/
def ctrMode (key : List Byte) : Nat → List Byte → List Byte → List Byte
  | 0, _, _ => []
  | n + 1, ctr, m => xorBytes (m.take 16) (aesEnc key ctr) ++ ctrMode key n (inc32 ctr) (m.drop 16)

def padBlock (m : List Byte) : List Byte := m ++ List.replicate ((16 - m.length % 16) % 16) 0

/-- The tag of a ciphertext and its additional data under a 12-byte IV. -/
def gcmTagOf (key iv aad ct : List Byte) : List Byte :=
  let h := aesEnc key (List.replicate 16 0)
  let m := padBlock aad ++ padBlock ct ++ beBytes 8 (aad.length * 8) ++ beBytes 8 (ct.length * 8)
  let g := (blocks16 (m.length / 16) m).foldl (ghashStep h) (List.replicate 16 0)
  xorBytes g (aesEnc key (iv ++ [0, 0, 0, 1]))

/-- Encryption and decryption. -/
def gcmCrypt (key iv m : List Byte) : List Byte := ctrMode key (ceilDiv m.length 16) (iv ++ [0, 0, 0, 2]) m

/-! ### The SecTAG -/

/-- A SecTAG as received, with the length of the secure data behind it. -/
structure SecTag where
  es : Bool
  sc : Bool
  scb : Bool
  enc : Bool
  changed : Bool
  an : Nat
  pn : Nat
  sci : Nat
  size : Nat
  data : Nat
  deriving DecidableEq, Repr, Inhabited

/-- The suite has 64-bit packet numbers. -/
def SecY.xpn (y : SecY) : Bool := decide (2 ≤ y.suite)

/-- A frame with EtherType 0x88E5 carries a SecTAG. -/
def hasSecTag (b : List Byte) : Bool := be16 b 12 == 0x88E5

/-- The SecTAG of a frame that carries one, if it is valid. -/
def secTag (xpn : Bool) (b : List Byte) : Option SecTag :=
  let f := byteAt b 14
  let sl := (byteAt b 15).toNat
  let size := if f.getLsbD 5 then 16 else 8
  let rest := b.length - 12 - size
  let t : SecTag :=
    { es := f.getLsbD 6, sc := f.getLsbD 5, scb := f.getLsbD 4, enc := f.getLsbD 3, changed := f.getLsbD 2
      an := f.toNat % 4, pn := beNat ((b.drop 16).take 4), sci := beNat ((b.drop 20).take 8), size := size
      data := if sl = 0 then rest - 16 else sl }
  if f.getLsbD 7 || (t.sc && (t.es || t.scb)) || decide (48 ≤ sl) || (!xpn && t.pn == 0)
      || decide (rest < (if sl = 0 then 48 else sl) + 16) then none
  else some t

/-- The 12-byte IV of a packet number. -/
def macsecIv (y : SecY) (a : SecA) (sci pn : Nat) : List Byte :=
  if y.xpn then xorBytes (beBytes 4 a.ssci.toNat ++ beBytes 8 pn) (fit 12 a.salt) else beBytes 8 sci ++ beBytes 4 pn

/-! ### Reception -/

/-- The number of a receive SA and of a transmit SA. -/
def saRx (sc an : Nat) : Nat := 4096 + sc * 4 + an
def saTx (port an : Nat) : Nat := port * 4 + an

def State.secy (s : State) (port : Nat) : SecY := Tab.get {} s.ports.secys port
def State.setSecy (s : State) (port : Nat) (x : SecY) : State :=
  { s with ports := { s.ports with secys := Tab.set {} s.ports.secys port x } }
def State.sa (s : State) (k : Nat) : SecA := Tab.get {} s.ports.sas k
def State.setSa (s : State) (k : Nat) (x : SecA) : State :=
  { s with ports := { s.ports with sas := Tab.set {} s.ports.sas k x } }

/-- The receive SCs of a port. -/
def State.rxScs (s : State) (port : Nat) : List (Nat × RxSc) :=
  s.ports.rxscs.filter fun p => p.2.en && p.2.port == port

/-- The receive SC that a tag names: by its SCI, explicit or from the source address, or the port's only one. -/
def State.rxScOf (s : State) (port : Nat) (t : SecTag) (b : List Byte) : Option (Nat × RxSc) :=
  let named := fun (sci : Nat) => (s.rxScs port).find? fun p => p.2.sci.toNat == sci
  if t.sc then named t.sci
  else if t.es then named (beNat ((b.drop 6).take 6) * 2 ^ 16 + (!t.scb).toNat)
  else match s.rxScs port with
    | [p] => some p
    | _ => none

/-- The packet number a tag stands for: with XPN its upper half follows the lowest acceptable one. -/
def SecTag.fullPn (t : SecTag) (y : SecY) (a : SecA) : Nat :=
  let low := a.pn - y.window
  if y.xpn then
    t.pn + (if low.testBit 31 && !t.pn.testBit 31 then low / 2 ^ 32 + 1 else low / 2 ^ 32) * 2 ^ 32
  else t.pn

/-- The user data of a protected frame, if the frame is valid. -/
def SecTag.unlock (t : SecTag) (y : SecY) (a : SecA) (sci pn : Nat) (b : List Byte) : Option (List Byte) :=
  let user := (b.drop (12 + t.size)).take t.data
  let icv := (b.drop (12 + t.size + t.data)).take 16
  let iv := macsecIv y a sci pn
  let clear := if t.enc then y.offset else user.length
  let aad := b.take (12 + t.size) ++ user.take clear
  if t.enc == t.changed && gcmTagOf a.key iv aad (user.drop clear) == icv then
    some (user.take clear ++ gcmCrypt a.key iv (user.drop clear))
  else none

/-- A received frame at a port with a secure channel (R24 step 1): the frame without its SecTAG and ICV, or none where
it is dropped. In Disabled mode nothing is validated; what was encrypted cannot be read then. -/
def State.macsecIn (s : State) (port : Nat) (b : List Byte) : Option (List Byte) × State :=
  let y := s.secy port
  let bad : Option (List Byte) × State := (none, s.setSecy port { y with dropped := y.dropped + 1 })
  if !s.chip.crypto || decide (48 ≤ port) || (!y.strict && (s.rxScs port).isEmpty) then (some b, s)
  else if !hasSecTag b then (if y.strict then bad else (some b, s))
  else
    match secTag y.xpn b with
    | none => bad
    | some t =>
      if !y.strict then
        (if t.enc || t.changed then bad else (some (b.take 12 ++ (b.drop (12 + t.size)).take t.data), s))
      else
        match s.rxScOf port t b with
        | none => bad
        | some (i, c) =>
          let a := s.sa (saRx i t.an)
          let pn := t.fullPn y a
          if !a.en || (y.replay && decide (pn + y.window < a.pn)) then bad
          else
            match t.unlock y a c.sci.toNat pn b with
            | none => bad
            | some u => (some (b.take 12 ++ u), s.setSa (saRx i t.an) { a with pn := max a.pn (pn + 1) })

/-! ### Transmission -/

/-- The protected frame: SecTAG, the user data encrypted from the confidentiality offset on, and the ICV. -/
def macsecProtect (y : SecY) (a : SecA) (b : List Byte) : List Byte :=
  let user := b.drop 12
  let iv := macsecIv y a y.sci.toNat a.pn
  let head := b.take 12 ++ [0x88, 0xE5, B8 (0x0C + y.sc.toNat * 0x20 + y.txAn), B8 (if user.length < 48 then user.length else 0)]
    ++ beBytes 4 a.pn ++ (if y.sc then beBytes 8 y.sci.toNat else [])
  let ct := gcmCrypt a.key iv (user.drop y.offset)
  head ++ user.take y.offset ++ ct ++ gcmTagOf a.key iv (head ++ user.take y.offset) ct

end Sys2Proof.Machine
end

