-- ==== Sys2Proof/Machine/Ingress.lean ====
section
/-! DEFINITION. Steps 1, 3 and 4 of R24 and R28: reception, MACsec (R329, R330), MAC Control (R328), ingress
FIFOs and PFC (R331 to R333, R242), receive timestamps (R403 to R406), CAN reception (R336, R339), admission
(R240, R256, R257, R66), the host port's H2D rings (R341, R342) and link changes. -/

namespace Sys2Proof.Machine

open Sys2Proof

/-! ### Timestamps (R404 to R406) -/

/-- A quad mode with RS-FEC alignment markers at egress index x (R323, R405). -/
def State.rsFec (s : State) (x : Nat) : Bool :=
  let v := s.reg (Reg.PORT_QUAD (x / 4))
  decide (x < 48) && (getF v 2 0 == 1 || (getF v 2 0 == 2 && getF v 5 4 == 2))

/-- The receive correction in force at egress index x, in 1/256 ns: the nominal one while GBX_LOCK = 0 (R405). -/
def State.gbxCorr (s : State) (x : Nat) : Nat :=
  if x = 48 then 0
  else if s.flag (Reg.TS_GBX x) 16 then s.fld (Reg.TS_GBX x) 15 0
  else (Config.gbxNominal (s.quadMode (x / 4))).toNat

/-- The correction that was in force at egress index x `n` of 1/256 ns ago; one updated in that cycle counts only
afterwards (R406). -/
def State.gbxAgo (s : State) (x n : Nat) : Nat :=
  let at_ := (s.fr * 256 - n) / 256
  (((Tab.get [] s.ports.gbxPast x).takeWhile fun p => decide (at_ ≤ p.1)).getLast?.map (·.2)).getD (s.gbxCorr x)

/-- The timestamp of a frame whose first bit after the SFD crossed the balls of a port `n` of 1/256 ns ago (R403,
R404). -/
def State.rxStamp (s : State) (port n : Nat) : DomTime :=
  let t := s.timeAgo n
  match eqIndex port with
  | some x => if x < 49 then t.shift (-(signed 24 (s.fld (Reg.TS_CAL_RX x) 23 0)) - (s.gbxAgo x n : Int)) else t
  | none => t

/-- The correction of egress index x is about to change: the one until now is kept for frames still arriving. -/
def State.gbxNote (s : State) (x : Nat) : State :=
  { s with ports := { s.ports with gbxPast := Tab.upd [] s.ports.gbxPast x fun l =>
      (s.fr, s.gbxCorr x) :: l.filter fun p => decide (s.fr < p.1 + PAST_NS) } }

/-- GBX_LOCK falls at egress index x, and the filter starts anew (R405). -/
def State.gbxUnlock (s : State) (x : Nat) : State :=
  let s := (s.gbxNote x).setFld (Reg.TS_GBX x) 16 16 0
  { s with ports := { s.ports with gbxRej := Tab.set 0 s.ports.gbxRej x 0, gbxSeen := Tab.set 0 s.ports.gbxSeen x 0 } }

/-- A correction is taken at egress index x. -/
def State.gbxTake (s : State) (x m : Nat) : State :=
  let s := (s.gbxNote x).setFld (Reg.TS_GBX x) 15 0 m
  { s with ports := { s.ports with gbxRej := Tab.set 0 s.ports.gbxRej x 0 } }

/-- Two measurements differ by at most `lim` of 1/256 ns. -/
def within (a b lim : Nat) : Bool := decide (a - b ≤ lim ∧ b - a ≤ lim)

/-- A measurement at an alignment marker, or at the lock of a mode without markers (R405, R406). -/
def State.marker (s : State) (x m : Nat) : State :=
  let locked := s.flag (Reg.TS_GBX x) 16
  if !s.rsFec x then (if locked then s else (s.gbxTake x m).setFld (Reg.TS_GBX x) 16 16 1)
  else if !locked then
    let seen := Tab.get 0 s.ports.gbxSeen x
    if 0 < seen ∧ within (seen - 1) m 256 then (s.gbxTake x m).setFld (Reg.TS_GBX x) 16 16 1
    else { s with ports := { s.ports with gbxSeen := Tab.set 0 s.ports.gbxSeen x (m + 1) } }
  else if within (s.fld (Reg.TS_GBX x) 15 0) m 1024 then s.gbxTake x m
  else
    let n := Tab.get 0 s.ports.gbxRej x
    if 2 ≤ n then (s.gbxTake x m).raise Ev.TS_GBX
    else
      let s := s.bumpF (Reg.TS_GBX x) 31 24
      { s with ports := { s.ports with gbxRej := Tab.set 0 s.ports.gbxRej x (n + 1) } }

/-- Egress index x can measure its correction: an Ethernet port with its link up, or lane 0 of an LFL quad in service
(R405, R458). -/
def State.measures (s : State) (x : Nat) : Bool :=
  decide (x < 48) && ((s.portKind x == .eth && s.flag (Reg.PORT_STAT x) 0)
    || (x % 4 == 0 && s.portKind (128 + x / 4) == .lfl && s.portOn (128 + x / 4)))

/-- ALIGNMENT_MARKER (R406). -/
def execAlignmentMarker (x : Nat) (meas : BitVec 16) (s : State) : Out :=
  if s.measures x then .next (s.marker x meas.toNat) else .next s

/-- LINK_CHANGE (R324, R353, R405): each change of LINK raises EV_PORT_LINK; a fall ends GBX_LOCK. -/
def State.linkChange (s : State) (port : Nat) (up : Bool) (rate : Nat) : State :=
  let x := if port = 96 then 48 else port
  let s := s.creditSync x
  let s := { s with ports := { s.ports with rate := Tab.set 0 s.ports.rate port rate } }
  let s := if !up && port != 96 then s.gbxUnlock x else s
  if s.flag (Reg.PORT_STAT port) 0 = up then s
  else (s.setFld (Reg.PORT_STAT port) 0 0 up.toNat).raise (Ev.PORT_LINK x)

/-- LINK_CHANGE (R353). -/
def execLinkChange (port : Nat) (up : Bool) (rateMbps : Nat) (s : State) : Out :=
  if s.portKind port == .eth || s.portKind port == .mgmt then .next (s.linkChange port up rateMbps) else .next s

/-! ### Pauses by the partner (R328) -/

/-- PRIO_c of a port (R353). -/
def State.prioOf (s : State) (port c : Nat) : Nat := s.fld (Reg.PORT_PFC port) (3 * c + 10) (3 * c + 8)

/-- Class c of a port is paused for a number of quanta of 512 bit times; 0 ends the pause. -/
def State.pauseClass (s : State) (port c quanta : Nat) : State :=
  match eqIndex port with
  | none => s
  | some x =>
    let r := s.portRate port
    let p := s.eport x
    let u := if quanta = 0 ∨ r = 0 then 0 else s.fr + ceilDiv (quanta * 512000) r
    s.setEport x { p with pauseUntil := Tab.set 0 p.pauseUntil c u }

/-- A class is paused by the partner. -/
def State.pausedBy (s : State) (x c : Nat) : Bool := Tab.get 0 (s.eport x).pauseUntil c != 0

/-- A PFC frame (R328). -/
def State.pfcIn (s : State) (port : Nat) (en : Byte) (times : List Nat) : State :=
  if s.flag (Reg.PORT_CFG port) 2 then
    (List.range 8).foldl (fun t c =>
      let p := t.prioOf port c
      if en.toNat / 2 ^ p % 2 = 1 then t.pauseClass port c (times.getD p 0) else t) s
  else s.dropped .macControl port

/-- A PAUSE frame (R328). -/
def State.pauseIn (s : State) (port quanta : Nat) : State :=
  if s.flag (Reg.PORT_CFG port) 1 then (List.range 8).foldl (fun t c => t.pauseClass port c quanta) s
  else s.dropped .macControl port

/-- PFC_FRAME_RECEIVE (R328). -/
def execPfcFrameReceive (port : Nat) (en : Byte) (times : List Nat) (s : State) : Out :=
  if s.portOn port && !s.hub.fatal then .next (s.pfcIn port en times) else .next s

/-- PAUSE_FRAME_RECEIVE (R328). -/
def execPauseFrameReceive (port quanta : Nat) (s : State) : Out :=
  if s.portOn port && !s.hub.fatal then .next (s.pauseIn port quanta) else .next s

/-- The pause of a class has run out. -/
def State.pauseEnd (s : State) (port c : Nat) : State :=
  match eqIndex port with
  | none => s
  | some x =>
    let p := s.eport x
    if Tab.get 0 p.pauseUntil c ≤ s.fr then s.setEport x { p with pauseUntil := Tab.set 0 p.pauseUntil c 0 } else s

/-- PAUSE_EXPIRE (R328). -/
def execPauseExpire (port cls : Nat) (s : State) : Out := .next (s.pauseEnd port cls)

/-! ### Ingress FIFOs and PFC (R331 to R333, R242) -/

/-- The FIFO of a class of a port. -/
def State.fifo (s : State) (port c : Nat) : List IFrame := Tab.get [] s.ports.ififo (port * 8 + c)
def State.setFifo (s : State) (port c : Nat) (l : List IFrame) : State :=
  { s with ports := { s.ports with ififo := Tab.set [] s.ports.ififo (port * 8 + c) l } }

/-- Units of 256 bytes. -/
def unitsOf (len : Nat) : Nat := ceilDiv len 256

/-- Occupancy of a FIFO in units. -/
def State.fifoUsed (s : State) (port c : Nat) : Nat := (s.fifo port c).foldl (fun n f => n + unitsOf f.bytes.length) 0
/-- SIZE of a FIFO. -/
def State.fifoSize (s : State) (port c : Nat) : Nat := s.fld (Reg.PORT_IFIFO port c) 9 0
/-- A frame of `len` bytes fits (R331). -/
def State.fifoFits (s : State) (port c len : Nat) : Bool := decide (s.fifoUsed port c + unitsOf len ≤ s.fifoSize port c)

/-- Class c of an Ethernet port sends PFC (R333). -/
def State.pfcSends (s : State) (port c : Nat) : Bool :=
  decide (port < 48) && s.portOn port && s.flag (Reg.PORT_PFC port) c && decide (0 < s.fld (Reg.PORT_IFIFO port c) 19 10)

/-- The priority that class c of a port keeps paused at the partner. -/
def State.pfcOn (s : State) (port c : Nat) : Option Nat := Tab.get none s.ports.pfcOn (port * 8 + c)
def State.setPfc (s : State) (port c : Nat) (p : Option Nat) : State :=
  { s with ports := { s.ports with
      pfcOn := Tab.set none s.ports.pfcOn (port * 8 + c) p
      pfcAt := Tab.set 0 s.ports.pfcAt (port * 8 + c) s.fr } }

/-- PFC of a class after a change of its occupancy or of its registers (R242, R333). -/
def State.pfcTest (s : State) (port c : Nat) : State :=
  let n := s.fifoUsed port c
  let r := s.reg (Reg.PORT_IFIFO port c)
  let sends := s.pfcSends port c
  match s.pfcOn port c with
  | some p =>
    if !sends then
      let s := s.setPfc port c none
      if (List.range 8).any (fun k => s.pfcOn port k == some p) then s else s.pin (.pfc port p 0)
    else if n ≤ getF r 29 20 then (s.setPfc port c none).pin (.pfc port p 0)
    else s
  | none =>
    if sends && decide (getF r 19 10 ≤ n) then
      (s.setPfc port c (some (s.prioOf port c))).pin (.pfc port (s.prioOf port c) 0xFFFF)
    else s

/-- PFC_REFRESH (R333): half of 0xFFFF quanta has passed at the port rate and the FIFO stays above XON. -/
def execPfcRefresh (port cls : Nat) (s : State) : Out :=
  match s.pfcOn port cls with
  | some p =>
    if s.running && s.pfcSends port cls && decide (s.fld (Reg.PORT_IFIFO port cls) 29 20 < s.fifoUsed port cls
        ∧ Tab.get 0 s.ports.pfcAt (port * 8 + cls) + 0xFFFF * 256000 / s.portRate port ≤ s.fr) then
      .next ((s.setPfc port cls (some p)).pin (.pfc port p 0xFFFF))
    else .next s
  | none => .next s

/-- Nothing is dropped for want of room at the host port and on a link; a FIFO with SIZE = 0 takes nothing (R242,
R331). -/
def State.noDrop (s : State) (port c : Nat) : Bool :=
  (s.portKind port == .host || s.portKind port == .lfl) && decide (0 < s.fifoSize port c)

/-- A classified frame enters its FIFO, or is dropped and counted (R242, R331). -/
def State.fifoEnter (s : State) (f : IFrame) : State :=
  if s.fifoFits f.port f.cls f.bytes.length || s.noDrop f.port f.cls then
    (s.setFifo f.port f.cls (s.fifo f.port f.cls ++ [f])).pfcTest f.port f.cls
  else s.bump (Reg.PORT_IDROP f.port f.cls)

/-- Step 2 of a frame: false while its action lookup waits for lines of a far table (R298, R347). A table that is not
present gives no hit (R419). -/
def State.stepTwoTry (s : State) (port : Nat) (f : StepTwo) : Bool × State :=
  let enter := fun (r : Option IFrame × State) =>
    match r with
    | (none, u) => u
    | (some x, u) => u.fifoEnter x
  match s.farRun (.frame port) false (fun u => u.classify port f.bytes f.fab f.ts) with
  | (.done x, u) => (true, enter (x, u))
  | (.waits, u) => (false, u)
  | (.gone, u) => (true, enter (u.classify port f.bytes f.fab f.ts))

/-- The frames of a port whose step 2 waits, in order of arrival. -/
def State.stepTwoQ (s : State) (port : Nat) : List StepTwo := Tab.get [] s.ports.step2 port
def State.setStepTwoQ (s : State) (port : Nat) (l : List StepTwo) : State :=
  { s with ports := { s.ports with step2 := Tab.set [] s.ports.step2 port l } }

/-- The frames that wait at step 2 of a port go on in order, as far as they can. -/
def State.stepTwoPump (port : Nat) : Nat → State → State
  | 0, s => s
  | n + 1, s =>
    match s.stepTwoQ port with
    | [] => s
    | f :: rest =>
      match s.stepTwoTry port f with
      | (true, u) => State.stepTwoPump port n (u.setStepTwoQ port rest)
      | (false, u) => u

/-- Step 2 and the entry of a frame into its FIFO, after the frames of its port that arrived before it. -/
def State.stepTwo (s : State) (port : Nat) (b : List Byte) (fab : Option FabIn) (ts : DomTime) : State :=
  let wait := fun (u : State) => u.setStepTwoQ port (u.stepTwoQ port ++ [⟨b, fab, ts⟩])
  if !(s.stepTwoQ port).isEmpty then wait s
  else
    match s.stepTwoTry port ⟨b, fab, ts⟩ with
    | (true, u) => u
    | (false, u) => wait u

/-! ### Step 1 (R24) -/

/-- WH_IB_MAC as bytes: byte 0 in HI [15:8], byte 1 in HI [7:0], bytes 2 to 5 in LO, high byte first (R496). -/
def State.ibMac (s : State) : List Byte :=
  beBytes 2 (s.fld Reg.WH_IB_MAC_HI 15 0) ++ beBytes 4 (s.reg Reg.WH_IB_MAC_LO).toNat

/-- An in-band command frame (R479). -/
def State.inBandFrame (s : State) (port : Nat) (b : List Byte) : Bool :=
  port == 96 && be16 b 12 == 0x88B5 && b.take 6 == s.ibMac

/-- A MAC Control frame is consumed (R328); the opcodes and their fields are those of IEEE 802.3. -/
def State.macControl (s : State) (port : Nat) (b : List Byte) : State :=
  match be16 b 14 with
  | 0x0101 => s.pfcIn port (byteAt b 17) ((List.range 8).map fun i => be16 b (18 + 2 * i))
  | 0x0001 => s.pauseIn port (be16 b 16)
  | _ => s.dropped .macControl port

/-- A frame with a good FCS and length at a port in service. -/
def State.frameIn (s : State) (port : Nat) (b : List Byte) (age : Nat) : State :=
  if be16 b 12 = 0x8808 then s.macControl port b
  else
    match s.macsecIn port b with
    | (none, u) => u
    | (some c, u) => u.stepTwo port c none (u.rxStamp port age)

/-- The last bit of a frame crosses the balls of an Ethernet or management port (R24, R340, R479); frames of the host
port come from its rings (R27). In Minimal
mode the management port passes in-band command frames only (R512). -/
def State.frameReceive (s : State) (r : RxFrame) : State :=
  let k := s.portKind r.port
  let lenOk := decide (60 ≤ r.bytes.length ∧ r.bytes.length ≤ 9596)
  if s.hub.fatal || !(k == .eth || k == .mgmt) then s
  else if s.minimal then
    (if s.inBandFrame r.port r.bytes && r.fcsOk && lenOk then
      { s with ctl := { s.ctl with inBand := s.ctl.inBand ++ [r.bytes] } }
    else s)
  else if !s.portOn r.port then s
  else if !lenOk || !r.fcsOk then s.dropped .badFrame r.port
  else if s.inBandFrame r.port r.bytes then { s with ctl := { s.ctl with inBand := s.ctl.inBand ++ [r.bytes] } }
  else s.frameIn r.port r.bytes r.age

/-- FRAME_RECEIVE (R24). -/
def execFrameReceive (r : RxFrame) (s : State) : Out := .next (s.frameReceive r)

/-! ### CAN reception (R28, R336, R339) -/

/-- Bit b of a CAN record's FLAGS: RTR 0, IDE 1, BRS 2, FDF 3, ESI 4, XLF 6. -/
def canFlag (f : Byte) (b : Nat) : Bool := f.toNat / 2 ^ b % 2 = 1

/-- The number of data bytes of a CAN frame (R336): XLLEN for XL, none for a remote frame, the DLC-coded count else. -/
def canCount (f : Byte) (dlc xllen : Nat) : Nat :=
  if canFlag f 6 then xllen
  else if canFlag f 0 then 0
  else if canFlag f 3 then [0, 1, 2, 3, 4, 5, 6, 7, 8, 12, 16, 20, 24, 32, 48, 64].getD dlc 64
  else min dlc 8

/-- The CAN record of a received frame (R336): the fields of the other frame kind and the reserved bits are 0, and the
data are the bytes its kind and length codes give. -/
def canRecord (r : CanRec) (ts : DomTime) : List Byte :=
  let f := r.flags &&& 0x5F
  let xl := canFlag f 6
  let w := if canFlag f 1 && !xl then 2 ^ 29 else 2 ^ 11
  [f, if xl then 0 else r.dlc &&& 0x0F, if xl then r.sdt else 0, if xl then r.vcid else 0]
    ++ leBytes 4 (r.id.toNat % w) ++ leBytes 8 ts.nanos ++ leBytes 4 (if xl then r.af.toNat else 0)
    ++ leBytes 2 (if xl then r.xllen.toNat else 0) ++ [if xl then r.xflags &&& 1 else 0] ++ List.replicate 9 0
    ++ fit (canCount f (r.dlc.toNat % 16) r.xllen.toNat) r.data

/-- The channel is active: EN, and not bus-off (R338, R354). -/
def State.canActive (s : State) (n : Nat) : Bool :=
  decide (n < s.chip.cans) && s.flag (Reg.CAN_MODE n) 0 && decide (s.fld (Reg.CAN_STAT n) 17 16 < 2)

/-- The receive error counter of a channel, which CAN_STAT shows up to 127 (R354). -/
def State.canRec (s : State) (n : Nat) : Nat :=
  s.fld (Reg.CAN_STAT n) 15 9 + (Tab.get CanCh.idle s.ports.can n).beyond

/-- STATE and the error counters of a channel (ISO 11898-1; log entry 14). -/
def State.canCounts (s : State) (n tec cnt : Nat) : State :=
  let st := if 256 ≤ tec then 2 else if 128 ≤ tec ∨ 127 < cnt then 1 else 0
  let s := { s with ports := { s.ports with can := Tab.upd CanCh.idle s.ports.can n fun c => { c with beyond := cnt - 127 } } }
  s.setReg (Reg.CAN_STAT n) (setF (setF (setF (s.reg (Reg.CAN_STAT n)) 8 0 (min tec 511)) 15 9 (min cnt 127)) 17 16 st)

/-- A frame received without error (ISO 11898-1; log entry 14): the counter falls by 1, and from above 127 to a value of
119 to 127, which no source gives. -/
def State.canRecFall (s : State) (n : Nat) : Nat × State :=
  let c := s.canRec n
  if 127 < c then
    let (v, t) := s.free
    (119 + v.toNat % 9, t)
  else (c - 1, s)

/-- A frame ends on the bus of a channel. -/
def State.canReceive (s : State) (n : Nat) (r : CanRec) (ok : Bool) : State :=
  let port := 64 + n
  let tec := s.fld (Reg.CAN_STAT n) 8 0
  if !ok then (s.bump (Reg.CAN_RX_ERR n)).canCounts n tec (min (s.canRec n + 1) 128)
  else
    let (cnt, s) := s.canRecFall n
    let s := s.canCounts n tec cnt
    let mode := s.reg (Reg.CAN_MODE n)
    if !s.flag (Reg.PORT_CFG port) 0 || (canFlag r.flags 3 && !bitOf mode 1) || (canFlag r.flags 6 && !bitOf mode 2) then
      s.dropped .canOff port
    else s.stepTwo port (canRecord r (s.domTime 0)) none (s.domTime 0)

/-- CAN_FRAME_RECEIVE (R28). -/
def execCanFrameReceive (n : Nat) (r : CanRec) (ok : Bool) (s : State) : Out :=
  if s.running && s.canActive n then .next (s.canReceive n r ok) else .next s

/-! ### Admission (R66, R240, R256, R257) -/

/-- Throttling lets the classifier create one more E-class job in this window (R66). -/
def State.throttleRoom (s : State) : Bool :=
  let lvl := s.fld Reg.PACE_STATUS 19 16
  lvl == 0 || decide (s.pace.made < s.pace.latched * (16 - lvl) / 16)

/-- The window of a domain (R257). -/
def State.window (s : State) (od : Nat) : Nat := ((s.od od).next - (s.od od).head).toNat

/-- The queue a frame's job is for (R222, R223). -/
def State.frameQueue (s : State) (f : IFrame) : Nat := s.shardOf f.od * 8 + (s.classMap f.epoch f.cls).1

/-- The target queue admits a job (R240): no back-pressure, a free entry, and no recall or due job before it. -/
def State.queueAdmits (s : State) (q : Nat) : Bool := !s.qBp q && s.qRoom q && !s.recallWaits q && !s.dueWaits q

/-- The job of an admitted frame in the cells from `h` (R224, R256). -/
def State.frameJob (s : State) (f : IFrame) (h : Nat) : Job :=
  { cell := h, len := f.bytes.length, port := f.port, cls := f.cls, epoch := f.epoch,
    tclass := (s.classMap f.epoch f.cls).2, fab := f.fab, od := f.od, seq := (s.od f.od).next.toNat, hash := f.hash,
    tsNs := f.tsNs, tsSec := f.tsSec, tsFrac := f.tsFrac, prio := (s.classMap f.epoch f.cls).1, profile := f.profile,
    color := f.color, stream := f.stream, l3 := f.l3, l4 := f.l4, cells := unitsOf f.bytes.length, pool := f.pool,
    mdata := fit 16 f.mdata }

/-- JOB_CREATE (R256, R270): sequence number, epoch count, queue. -/
def State.createJob (s : State) (f : IFrame) (h : Nat) : State :=
  let q := s.frameQueue f
  let j := s.herd.nextJob
  let x := s.frameJob f h
  let d := s.od f.od
  let s := { (s.setJob j x) with pace := if x.tclass then s.pace else { s.pace with made := s.pace.made + 1 } }
  let s := { s with herd := { s.herd with nextJob := j + 1 } }
  let s := s.setOd f.od { d with next := d.next + 1 }
  let s := s.setFld (epochCnt f.epoch) 17 0 (s.fld (epochCnt f.epoch) 17 0 + 1)
  (s.enqueue j q false).startTimer f.od

/-- The free units of every class of the link on quad q go to the sender, while the link is up (R442, R443). -/
def State.creditOut (s : State) (q : Nat) : State :=
  if s.linkUp q then
    s.pin (.credit q ((List.range 8).map fun c => s.fifoSize (128 + q) c - s.fifoUsed (128 + q) c))
  else s

/-- The frame at the head of a FIFO leaves it; on an LFL port the sender gets its credit back (R443). -/
def State.fifoPop (s : State) (port c : Nat) : State :=
  let s := (s.setFifo port c (s.fifo port c).tail).pfcTest port c
  if port < 128 then s else s.creditOut (port - 128)

/-- The head frame is held by its domain's window: counted once (R257). -/
def State.winStall (s : State) (port c : Nat) (f : IFrame) (rest : List IFrame) : State :=
  if f.stalled then s
  else (s.setFifo port c ({ f with stalled := true } :: rest)).bump Reg.HERD_WIN_STALL

/-- Steps 3 and 4 for the head frame of a FIFO (R24, R66, R240, R256, R257, R313). -/
def State.admitOne (s : State) (port c : Nat) : State :=
  match s.fifo port c with
  | [] => s
  | f :: rest =>
    if s.window f.od = 8192 then s.winStall port c f rest
    else if !s.queueAdmits (s.frameQueue f) || (!(s.classMap f.epoch f.cls).2 && !s.throttleRoom) then s
    else
      match s.knAlloc f.pool (unitsOf f.bytes.length) with
      | (none, u) => (u.dropped .cells port).fifoPop port c
      | (some h, u) => ((u.putFrame h f.bytes).createJob f h).fifoPop port c

/-- FRAME_ADMIT (R240). -/
def execFrameAdmit (port cls : Nat) (s : State) : Out :=
  if s.running then .next (s.admitOne port cls) else .next s

/-! ### Host rings (R341 to R343) -/

/-- Base and size of the host ring whose registers start at `r`. -/
def State.hpBase (s : State) (r : Nat) : Nat := (s.reg r).toNat + (s.reg (r + 4)).toNat * 2 ^ 32
def State.hpSize (s : State) (r : Nat) : Nat := 2 ^ s.fld (r + 8) 11 8
/-- The ring has a posted descriptor and runs. -/
def State.hpRuns (s : State) (r : Nat) : Bool := s.flag (r + 8) 0 && s.reg (r + 12) != s.reg (r + 16)
/-- The address of the ring's next descriptor. -/
def State.hpAt (s : State) (r : Nat) : Nat := s.hpBase r + 16 * ((s.reg (r + 16)).toNat % s.hpSize r)

/-- A descriptor completes: its words, then CI, then the event (R342). -/
def State.hpDone (s : State) (q : Nat) (d2h irq : Bool) (r a : Nat) (len status : Nat) (port : Option Nat) : State :=
  let m := s.mem.host
  let m := if d2h then m.put (a + 8) (leBytes 2 len) else m
  let m := m.put (a + 11) [B8 status]
  let m := match port with
    | some p => m.put (a + 12) (leBytes 4 p)
    | none => m
  let s := { s with mem := { s.mem with host := m } }
  let s := s.setReg (r + 16) (s.reg (r + 16) + 1)
  if irq then s.raise (Ev.HOST_RING q d2h) else s

/-- H2D: the next descriptor of pair q (R342). The host port stops fetching while the frame does not fit
(R242) or its action lookup waits for a far table (R347). -/
def State.h2d (s : State) (q : Nat) : State :=
  let r := Reg.HP_H2D_BASE_LO q
  let a := s.hpAt r
  let d := s.mem.host.bytes a 16
  let len := leNat ((d.drop 8).take 2)
  let ctrl := (byteAt d 10).toNat
  let irq := ctrl / 16 % 2 = 1
  let done := fun (t : State) (st : Nat) => t.hpDone q false irq r a len st none
  if len = 0 then done (s.dropped .hostDesc 97) 2
  else if 9596 < len then done (s.dropped .hostDesc 97) 3
  else
    let b := s.mem.host.bytes (leNat (d.take 8)) len
    let b := if len < 60 then fit 60 b else b
    if be16 b 12 = 0x8808 then done (s.macControl 97 b) 1
    else
      let enter := fun (r : Option IFrame × State) =>
        match r with
        | (none, u) => done u 1
        | (some f, u) =>
          let f := if ctrl / 8 % 2 = 1 then { f with cls := ctrl % 8 } else f
          if u.fifoFits 97 f.cls b.length then done (u.fifoEnter f) 1 else s
      match s.farRun (.frame 97) false (fun u => u.classify 97 b none (u.domTime 0)) with
      | (.done x, u) => enter (x, u)
      | (.waits, u) => u
      | (.gone, u) => enter (u.classify 97 b none (u.domTime 0))

/-- H2D_DESCRIPTOR (R342). -/
def execH2dDescriptor (q : Nat) (s : State) : Out :=
  if s.running && decide (q < 16) && s.portOn 97 && s.hub.busMaster && s.hpRuns (Reg.HP_H2D_BASE_LO q) then
    .next (s.h2d q)
  else .next s

end Sys2Proof.Machine
end

