-- ==== Sys2Proof/Machine/Egress.lean ====
section
/-! DEFINITION. The Egress scheduler (R365 to R385): queues, gates, credit, DRR, transmission, transmit
timestamps (R407), and the D2H rings (R342). -/

namespace Sys2Proof.Machine

open Sys2Proof

/-! ### Gate lists (R370 to R374) -/

/-- The segments of one cycle of a list with entries: entries without time dropped, the list cut off at the cycle's
end or its last gates held to it. -/
def cycleSegs (cycle : Nat) : List (Byte × Nat) → Nat → Byte → List (Byte × Nat)
  | [], used, last => if used < cycle then [(last, cycle - used)] else []
  | (g, n) :: t, used, last =>
    if n = 0 then cycleSegs cycle t used last
    else if cycle ≤ used then []
    else (g, min n (cycle - used)) :: cycleSegs cycle t (used + n) g

/-- The segments of a list's cycle; a list with entries of which none has time keeps every gate closed (R370). -/
def segsOf (cycle : Nat) (l : List (Byte × Nat)) : List (Byte × Nat) := cycleSegs cycle l 0 0

/-- The segments from position `pos` to the end of the cycle. -/
def segsFrom : List (Byte × Nat) → Nat → List (Byte × Nat)
  | [], _ => []
  | (g, n) :: t, pos => if pos < n then (g, n - pos) :: t else segsFrom t (pos - n)

/-- The time a gate stays open from the head of a list of segments: none when through all of them. -/
def openRun (c : Nat) : List (Byte × Nat) → Option Nat
  | [] => none
  | (g, n) :: t => if gateBit g c then (openRun c t).map (n + ·) else some 0

/-- The position of a time in the cycle of a list. -/
def cyclePos (cycle base t : Nat) : Nat := (((t : Int) - (base : Int)) % ((max cycle 1 : Nat) : Int)).toNat

/-- The gates of a list at time t. -/
def gatesAt (l : List (Byte × Nat)) (cycle base t : Nat) : Byte :=
  if l.isEmpty then 255
  else ((segsFrom (segsOf cycle l) (cyclePos cycle base t)).head?.map (·.1)).getD 0

/-- The open window of class c from time t in a list alone: none when the gate never closes (R371). -/
def openWindow (l : List (Byte × Nat)) (cycle base t c : Nat) : Option Nat :=
  if l.isEmpty then none
  else
    let segs := segsOf cycle l
    let pos := cyclePos cycle base t
    openRun c (segsFrom segs pos ++ segs)

/-- The longest continuous opening of gate c in a list, counted across the cycle's end: none when unbounded
(R372). -/
def maxOpen (l : List (Byte × Nat)) (cycle c : Nat) : Option Nat :=
  if l.isEmpty then none
  else
    let segs := segsOf cycle l
    if segs.all (fun p => gateBit p.1 c) then none
    else some (((List.range segs.length).map fun i => (openRun c (segs.drop i ++ segs)).getD 0).foldl max 0)

/-- The PTP time of a domain in ns. -/
def State.ptpNs (s : State) (d : Nat) : Nat := (s.domTime d).nanos

/-- The gates of egress index x now. -/
def State.gatesNow (s : State) (x : Nat) : Byte :=
  let p := s.eport x
  gatesAt p.oper p.operCycle p.operBase (s.ptpNs p.operDom)

/-- The switch time of the pending list, in 2^−40 ns of its domain (R373). -/
def EPort.pendUnits (p : EPort) : Nat := p.pendAt * 2 ^ 40 + p.pendFrac

/-- The open window of class c at egress index x in 2^−40 ns, followed across a pending switch (R371): none when the
gate never closes. Each list is read at its own domain's time, fraction included. -/
def State.gateWindow (s : State) (x c : Nat) : Option Nat :=
  let p := s.eport x
  let t := s.domTime p.operDom
  let w := if gateBit (s.gatesNow x) c then
      (openWindow p.oper p.operCycle p.operBase t.nanos c).map fun n => n * 2 ^ 40 - t.frac.toNat
    else some 0
  if s.flag (Reg.EQ_GCL_CTRL x) 17 then
    let left := p.pendUnits - (s.domTime p.pendDom).units
    let cut := match w with
      | some n => decide (n < left)
      | none => false
    if cut then w
    else if gateBit (gatesAt p.pendList p.pendCycle p.pendBase p.pendAt) c then
      (openWindow p.pendList p.pendCycle p.pendBase p.pendAt c).map fun n => left + n * 2 ^ 40 - p.pendFrac
    else some left
  else w

/-! ### Outputs that end -/

/-- Output k ends: sent or discarded (R141). A transit frame frees its own cells. -/
def State.outEnd (s : State) (k : Nat) : State :=
  let o := s.out k
  let s := { s with herd := { s.herd with outs := Tab.set Output.none s.herd.outs k Output.none } }
  match o.job with
  | some j => s.settle j
  | none => if o.cell = KN_NULL then s else s.knFree o.cell o.pool true true

/-- The head of the queue of class c leaves it (R368). -/
def State.eqPop (s : State) (x c : Nat) : State :=
  let p := s.eport x
  let l := (s.eq x c).tail
  let p := { p with queues := Tab.set [] p.queues c l }
  if l.isEmpty then
    let g := s.fld (Reg.EQ_CLASS x c) 2 0
    let p := { p with deficit := Tab.set 0 p.deficit c 0 }
    if Tab.get 8 p.turn g = c then
      let mem := (List.range 8).filter fun k => decide (s.fld (Reg.EQ_CLASS x k) 2 0 = g)
      let nxt := ((mem.filter fun k => decide (c < k)).head?.orElse fun _ => mem.head?).getD c
      s.setEport x { p with started := Tab.set false p.started g false, turn := Tab.set 8 p.turn g nxt }
    else s.setEport x p
  else s.setEport x p

/-- The head of a queue is discarded and counted in register r. -/
def State.eqDiscard (s : State) (x c r : Nat) : State :=
  match s.eq x c with
  | [] => s
  | k :: _ => ((s.eqPop x c).bump r).outEnd k

/-- Accounted length and fit of output k at egress index x against an opening of `w` units of 2^−40 ns (R358, R371,
R372). -/
def State.outAcc (s : State) (x k : Nat) : Nat := s.accOut (eqPort x) (s.out k).len
def State.fitsIn (s : State) (x k w : Nat) : Bool :=
  decide (s.outAcc x k * 8000 * 2 ^ 40 ≤ w * s.portRate (eqPort x))

/-- Head frames of class c that no opening can take are dropped (R372). -/
def State.gateDrops (s : State) (x c : Nat) : Nat → State
  | 0 => s
  | n + 1 =>
    match s.eq x c, Tab.get none (s.eport x).maxwin c with
    | k :: _, some w =>
      if s.fitsIn x k (w * 2 ^ 40) then s else (s.eqDiscard x c (Reg.EQ_GATE_DROP x c)).gateDrops x c n
    | _, _ => s

/-- All classes of an egress index. -/
def State.gateDropsAll (s : State) (x : Nat) : State :=
  (List.range 8).foldl (fun t c => t.gateDrops x c (t.eq x c).length) s

/-! ### List switches (R372 to R374) -/

/-- The pending list becomes operational. -/
def State.gclDo (s : State) (x : Nat) : State :=
  let s := s.creditSync x
  let p := s.eport x
  let mw := (List.range 8).foldl (fun (t : Tab (Option Nat)) c =>
    Tab.set none t c (maxOpen p.pendList p.pendCycle c)) []
  let p := { p with oper := p.pendList, operCycle := p.pendCycle, operBase := p.pendBase, operDom := p.pendDom,
                    maxwin := mw, entry := 0 }
  let s := s.setEport x p
  let s := s.setEport x { p with gates := s.gatesNow x }
  let r := Reg.EQ_GCL_CTRL x
  let s := (s.setFld r 17 17 0).setFld r 18 18 (1 - s.fld r 18 18)
  let s := s.setFld (Reg.EQ_GCL_OPER x) 10 0 p.oper.length
  s.gateDropsAll x

/-- A pending switch whose time has come (R373, R374). -/
def State.gclDue (s : State) (x : Nat) : Bool :=
  s.flag (Reg.EQ_GCL_CTRL x) 17 && decide ((s.eport x).pendUnits ≤ (s.domTime (s.eport x).pendDom).units)

/-- The list position follows the domain time; a switch that is due takes effect first (R369, R374). -/
def State.gateMove (s : State) (x : Nat) : State :=
  let s := if s.gclDue x then s.gclDo x else s.creditSync x
  let p := s.eport x
  let segs := segsOf p.operCycle p.oper
  let pos := cyclePos p.operCycle p.operBase (s.ptpNs p.operDom)
  s.setEport x { p with gates := s.gatesNow x, entry := segs.length - (segsFrom segs pos).length }

/-- The egress index is one of R365. -/
def eqPresent (x : Nat) : Bool := decide (x < 62)

/-- GATE_ENTRY (R370). -/
def execGateEntry (x : Nat) (s : State) : Out :=
  if s.running && eqPresent x then .next (s.gateMove x) else .next s

/-- GCL_SWITCH (R373). -/
def execGclSwitch (x : Nat) (s : State) : Out :=
  if s.running && eqPresent x && s.gclDue x then .next (s.gclDo x) else .next s

/-- The admin buffer of egress index x (R370, R385). -/
def State.gclAdmin (s : State) (x : Nat) : Nat := 1 - s.fld (Reg.EQ_GCL_CTRL x) 18 18
/-- Word i of the admin buffer. -/
def State.gclWord (s : State) (x i : Nat) : Word := Tab.get 0 (Tab.get [] (s.eport x).adm (s.gclAdmin x)) i

/-- COMMIT (R373), with the control register as the write leaves it. -/
def State.gclCommit (s : State) (x : Nat) : State :=
  let r := Reg.EQ_GCL_CTRL x
  let n := s.fld r 10 0
  let d := s.fld r 13 12
  let cycle := s.fld (Reg.EQ_GCL_CYCLE x) 29 0
  if 1024 < n ∨ (0 < n ∧ (cycle = 0 ∨ 1000000000 < cycle)) then s.setFld r 19 19 1
  else
    let base := ((s.reg (Reg.EQ_GCL_BASE_SEC_LO x)).toNat + s.fld (Reg.EQ_GCL_BASE_SEC_HI x) 15 0 * 2 ^ 32) * GIGA
      + s.fld (Reg.EQ_GCL_BASE_NS x) 29 0
    let t := s.domTime d
    let due := t.nanos + 2000
    let up := due + (decide (0 < t.frac.toNat)).toNat
    let at_ := if n = 0 then due else if up ≤ base then base else base + ceilDiv (up - base) cycle * cycle
    let l := (List.range n).map fun i => (B8 (s.gclWord x (2 * i)).toNat, (s.gclWord x (2 * i + 1)).toNat)
    let s := s.setFld r 17 17 1
    s.setEport x { s.eport x with
      pendList := l
      pendCycle := cycle
      pendBase := base
      pendDom := d
      pendAt := at_
      pendFrac := if n = 0 then t.frac.toNat else 0 }

/-- A TB_ADJ of a domain moves every list of that domain (R374). -/
def State.gatesFollow (s : State) (d : Nat) : State :=
  (List.range 62).foldl (fun t x =>
    let p := t.eport x
    if (!p.oper.isEmpty && p.operDom == d) || (t.flag (Reg.EQ_GCL_CTRL x) 17 && p.pendDom == d) then t.gateMove x
    else t) s

/-! ### Queues (R366) -/

/-- The earliest output on its path (R21, R260): outputs of jobs take the Herder's path in the order of release, frames
in transit one path for each port and class. -/
def State.pathFirst (s : State) (k : Nat) (o : Output) : Bool :=
  !(s.herd.outs.any fun p =>
    p.1 != k && p.2.place == .path && decide (p.2.order < o.order) && p.2.job.isSome == o.job.isSome
      && (o.job.isSome || (p.2.port == o.port && p.2.cls == o.cls)))

/-- FREE of EQ_STORE (R384). -/
def State.egressFree (s : State) : Nat := 131072 - s.egressUsed

/-- An output reaches the CAN protocol engine (R29, R337, R338). -/
def State.outBytes (s : State) (k : Nat) : List Byte :=
  let o := s.out k
  o.hdr ++ s.frameBytes o.cell o.strip o.tailLen

/-- A malformed transmit record (R337). -/
def State.canBad (s : State) (n : Nat) (b : List Byte) : Bool :=
  let f := byteAt b 0
  let mode := s.reg (Reg.CAN_MODE n)
  let id := leNat ((b.drop 4).take 4)
  let xl := canFlag f 6
  let fd := canFlag f 3
  let n := canCount f (byteAt b 1).toNat (leNat ((b.drop 20).take 2))
  decide (b.length ≠ 32 + n) || (canFlag f 0 && (fd || xl)) || (fd && xl) || (fd && !bitOf mode 1) || (xl && !bitOf mode 2)
    || decide ((if canFlag f 1 && !xl then 2 ^ 29 else 2 ^ 11) ≤ id)

/-- A read of the cells that hold the tail of an output: whether one is uncorrectable (R529). -/
def State.tailCheck (s : State) (o : Output) : Bool × State :=
  (s.chain ((o.strip + o.tailLen + 255) / 256) (if o.tailLen = 0 then KN_NULL else o.cell)).foldl
    (fun (r : Bool × State) h =>
      let (b, t) := r.2.eccRead 6 0 (h * 256) 256
      (r.1 || b, t)) (false, s)

/-- A record joins its channel's transmit queue, or is discarded and counted (R337, R338, R529). -/
def State.canEnqueue (s : State) (k n : Nat) : State :=
  let c := Tab.get CanCh.idle s.ports.can n
  let (ue, s) := s.tailCheck (s.out k)
  if ue then (s.bump (Reg.CAN_TX_BAD n)).outEnd k
  else if !s.flag (Reg.PORT_CFG (64 + n)) 0 then (s.dropped .canOff (64 + n)).outEnd k
  else if s.canBad n (s.outBytes k) then (s.bump (Reg.CAN_TX_BAD n)).outEnd k
  else if 32 ≤ c.txq.length then (s.bump (Reg.CAN_TX_DROP n)).outEnd k
  else
    let s := s.setOut k { s.out k with place := .queued }
    { s with ports := { s.ports with can := Tab.set CanCh.idle s.ports.can n { c with txq := c.txq ++ [(k, 0)] } } }

/-- A host or LFL output that finds no room is held at the Herder in its place, and the outputs of its order domain
behind it with it (R366). A frame in transit waits on its path. -/
def State.outBack (s : State) (k : Nat) : State :=
  let o := s.out k
  match o.job with
  | some j =>
    let od := (s.job j).od
    { s with herd := { s.herd with outs := s.herd.outs.map fun p =>
        if p.2.place == .path && decide (o.order ≤ p.2.order) && p.2.job.any (fun i => (s.job i).od == od) then
          (p.1, { p.2 with place := .store })
        else p } }
  | none => s

/-- An output joins the queue of its port and class, or is dropped and counted (R366). -/
def State.eqJoin (s : State) (k x : Nat) : State :=
  let o := s.out k
  let c := o.cls
  let lossless := s.portKind o.port == .host || s.portKind o.port == .lfl
  if !s.portOn o.port then (s.bump (Reg.EQ_DROP x c)).outEnd k
  else if s.fld (Reg.EQ_CLASS x c) 27 16 ≤ (s.eq x c).length ∨ s.egressFree = 0 then
    (if lossless then s.outBack k else (s.bump (Reg.EQ_DROP x c)).outEnd k)
  else
    let s := (s.creditSync x).setOut k { o with place := .queued }
    let p := s.eport x
    (s.setEport x { p with queues := Tab.upd [] p.queues c (· ++ [k]) }).gateDrops x c 1

/-- Output k arrives from the Herder (R29, R366, R453): a routed one takes the next hop of this moment, and with no route
left it is dropped and counted (log entry 16). -/
def State.outArrive (s : State) (k : Nat) : State :=
  let o := s.out k
  if o.place = .path ∧ s.pathFirst k o then
    if o.routed && (s.nextHop (hdrDst o.fabHdr) (hdrOd o.fabHdr)).isNone then (s.bump Reg.FAB_NOROUTE).outEnd k
    else
      let port := s.outPort o
      let s := s.setOut k { o with port := port }
      match eqIndex port with
      | some x => s.eqJoin k x
      | none => s.canEnqueue k (port - 64)
  else s

/-- EGRESS_ENQUEUE (R366). -/
def execEgressEnqueue (k : Nat) (s : State) : Out :=
  if s.running then .next (s.outArrive k) else .next s

/-- EN of a port falls: every queued output is discarded and counted (R366). -/
def State.portDrain (s : State) (port : Nat) : State :=
  match eqIndex port with
  | none => s
  | some x =>
    let s := s.creditSync x
    let s := (List.range 8).foldl (fun t c =>
      (t.eq x c).foldl (fun u _ => u.eqDiscard x c (Reg.EQ_DROP x c)) t) s
    s.herdKick

/-! ### The choice (R367 to R369) -/

/-- The LFL link and its credit of a class let output k start: never in a CONFLICT (R443, R450). -/
def State.lflCredit (s : State) (x c k : Nat) : Bool :=
  if s.portKind (eqPort x) = .lfl then
    s.linkUp (eqPort x - 128) && !s.fabConflict && decide (unitsOf (s.out k).len ≤ Tab.get 0 (s.eport x).fabCredit c)
  else true

/-- The head frame of class c is eligible (R367, R377). -/
def State.eligible (s : State) (x c : Nat) : Bool :=
  match s.eq x c with
  | [] => false
  | k :: _ =>
    let p := s.eport x
    let fits := match s.gateWindow x c with
      | none => true
      | some w => s.fitsIn x k w
    let credit := !s.cbsOn x c ||
      (decide (0 ≤ Tab.get 0 p.credit c) && decide (0 < s.fld (Reg.EQ_CBS x c) 16 0))
    let posted := if x = 49 then s.hpRuns (Reg.HP_D2H_BASE_LO (s.out k).hq) else true
    gateBit p.gates c && fits && credit && decide (0 < s.fld (Reg.EQ_QUANTUM x c) 15 0) && !s.pausedBy x c
      && s.lflCredit x c k && posted

/-- The DRR of one group (R368): the class that sends, and the port after it. -/
def State.drr (s : State) (x g : Nat) (mem able : List Nat) : Nat → EPort → Option (Nat × EPort)
  | 0, _ => none
  | n + 1, p =>
    let t0 := Tab.get 8 p.turn g
    let c := if mem.contains t0 then t0
      else ((mem.filter fun k => decide (t0 < k ∧ t0 < 8)).head?.orElse fun _ => mem.head?).getD 0
    let p := if c = t0 then p else { p with turn := Tab.set 8 p.turn g c, started := Tab.set false p.started g false }
    let p := if able.contains c && !Tab.get false p.started g then
        { p with deficit := Tab.upd 0 p.deficit c (· + s.fld (Reg.EQ_QUANTUM x c) 15 0)
                 started := Tab.set false p.started g true }
      else p
    let a := match s.eq x c with
      | k :: _ => s.outAcc x k
      | [] => 0
    let d := Tab.get 0 p.deficit c
    if able.contains c && decide (a ≤ d) then some (c, { p with deficit := Tab.set 0 p.deficit c (d - a) })
    else
      let nxt := ((mem.filter fun k => decide (c < k)).head?.orElse fun _ => mem.head?).getD c
      s.drr x g mem able n { p with started := Tab.set false p.started g false, turn := Tab.set 8 p.turn g nxt }

/-- MACsec on transmit takes the next packet number of the port's SA, and protects the frame under it, or the frame is
dropped (R330). -/
def State.macsecOut (s : State) (x : Nat) : Bool × State :=
  let y := s.secy x
  if !s.chip.crypto || decide (48 ≤ x) || !y.protect then (true, s.setEport x { s.eport x with sec := none })
  else
    let k := saTx x y.txAn
    let a := s.sa k
    let bits := if 2 ≤ y.suite then 64 else 32
    if !a.en || decide (2 ^ bits ≤ a.pn) then (false, s.setSecy x { y with dropped := y.dropped + 1 })
    else
      let s := s.setSa k { a with pn := a.pn + 1, en := decide (a.pn + 1 < 2 ^ bits) }
      let s := s.setEport x { s.eport x with sec := some (y, a) }
      (true, if a.pn + 1 = 3 * 2 ^ (bits - 2) then s.raise (Ev.MACSEC_PN x) else s)

/-- Output k starts on port x. -/
def State.startTx (s : State) (x c k : Nat) : State :=
  let o := s.out k
  match s.macsecOut x with
  | (false, u) => u.outEnd k
  | (true, u) =>
    let u := u.setOut k { o with place := .sending, startFr := u.fr }
    let p := u.eport x
    u.setEport x { p with
      sending := some k
      stamps := (List.range 4).map u.domTime
      fabCredit := if u.portKind (eqPort x) = .lfl then Tab.upd 0 p.fabCredit c (· - unitsOf o.len) else p.fabCredit }

/-- The port is in service for transmission. -/
def State.txOpen (s : State) (x : Nat) : Bool := eqPresent x && s.portOn (eqPort x) && (s.eport x).sending.isNone

/-- EGRESS_SELECT (R367 to R369): gate changes first, then the choice. -/
def State.select (s : State) (x : Nat) : State :=
  let s := (s.gateMove x).gateDropsAll x
  let able := (List.range 8).filter fun c => s.eligible x c
  let groups := able.map fun c => s.fld (Reg.EQ_CLASS x c) 2 0
  match groups.foldl (fun (b : Option Nat) g => some (max (b.getD 0) g)) none with
  | none => s.herdKick
  | some g =>
    let mem := (List.range 8).filter fun c => decide (s.fld (Reg.EQ_CLASS x c) 2 0 = g)
    let inG := able.filter fun c => mem.contains c
    match s.drr x g mem inG 100000 (s.eport x) with
    | none => s.herdKick
    | some (c, p) =>
      let k := (s.eq x c).headD 0
      (((s.setEport x p).eqPop x c).startTx x c k).herdKick

/-- EGRESS_SELECT (R368). -/
def execEgressSelect (x : Nat) (s : State) : Out :=
  if s.running && s.txOpen x then .next (s.select x) else .next s

/-! ### The end of a transmission (R24 step 10, R407) -/

/-- The frame as the balls carry it, without FCS: the fabric header, the frame, padded to 60 bytes (R139, R445). -/
def State.wireBytes (s : State) (k : Nat) : List Byte :=
  let b := s.outBytes k
  (s.out k).fabHdr ++ (if b.length < 60 then fit 60 b else b)

/-- The frame as port x sends it, protected where its SecY protects it (R329). -/
def State.sentBytes (s : State) (x k : Nat) : List Byte :=
  match (s.eport x).sec with
  | some (y, a) => macsecProtect y a (s.wireBytes k)
  | none => s.wireBytes k

/-- The lowest domain whose TB_DOM_CFG.NUM is n (R407). -/
def State.domOf (s : State) (n : Nat) : Option Nat :=
  (List.range 4).find? fun d => decide (s.fld (Reg.TB_DOM_CFG d) 7 0 = n)

/-- A PTP event message's timestamp enters the port's FIFO of 16 (R407). -/
def State.txtsRecord (s : State) (x : Nat) (b : List Byte) : State :=
  let o := etherAt b + 2
  let ty := (byteAt b o).toNat % 16
  if x < 49 ∧ be16 b (o - 2) = 0x88F7 ∧ (ty = 0 ∨ ty = 2 ∨ ty = 3) then
    let p := s.eport x
    if 16 ≤ p.txts.length then (s.bumpF (Reg.TXTS_STAT x) 31 16).raise Ev.TXTS_OVF
    else
      let dom := s.domOf (byteAt b (o + 4)).toNat
      let d := dom.getD 0
      let lat := Config.txLatency x s.freeCtr
      let t := (p.stamps.getD d default).shift (signed 24 (s.fld (Reg.TS_CAL_TX x) 23 0) + (lat.toNat : Int))
      let hdr := be16 b (o + 30) + ty * 2 ^ 16 + d * 2 ^ 20 + dom.isNone.toNat * 2 ^ 22 + 2 ^ 31
      { (s.setEport x { p with txts := p.txts ++ [(hdr, t)] }) with freeCtr := s.freeCtr + 1 }
  else s

/-- The last bit of the output in transmission has left (R24, R138, R141, R529); on a link, control frames that wait go
before the next data frame (R444). -/
def State.txEnd (s : State) (x k : Nat) (ue : Bool) : State :=
  let s := s.creditSync x
  let b := s.wireBytes k
  let w := s.sentBytes x k
  let o := s.out k
  let (bad, s) := s.tailCheck o
  let s := if ue && !bad then s.ueError 6 0 (o.cell * 256) else s
  let s := s.setEport x { s.eport x with sending := none }
  let s := if x = 49 then s else (s.pin (.frame (eqPort x) w (ue || bad))).txtsRecord x b
  let s := if s.portKind (eqPort x) = .lfl then s.ctlPump (eqPort x - 128) else s
  s.outEnd k

/-- The transmission of output k is over: its time has passed (R358), which MACsec makes 32 bytes longer (the table of
S_OUT in chapter 14), and a frame to the host has been written or dropped as well. -/
def State.txOver (s : State) (x k : Nat) : Bool :=
  (x != 49 || (s.out k).place == .sent) && decide ((s.out k).startFr + s.txTime (eqPort x) (s.outAcc x k + if (s.eport x).sec.isSome then 32 else 0) ≤ s.fr)

/-- TRANSMIT_END (R24). -/
def execTransmitEnd (x : Nat) (ue : Bool) (s : State) : Out :=
  match (s.eport x).sending with
  | some k => if s.running && s.txOver x k then .next (s.txEnd x k ue) else .next s
  | none => .next s

/-! ### D2H rings (R342) -/

/-- The frame chosen for a D2H ring that has no posted descriptor any more waits in the Egress scheduler again, at the
head of its queue, and its class gets back what the frame cost it (R342). -/
def State.d2hBack (s : State) : State :=
  match (s.eport 49).sending with
  | some k =>
    let o := s.out k
    if o.place == .sending && !s.hpRuns (Reg.HP_D2H_BASE_LO o.hq) then
      let s := (s.creditSync 49).setOut k { o with place := .queued }
      let p := s.eport 49
      s.setEport 49 { p with
        sending := none
        queues := Tab.upd [] p.queues o.cls (k :: ·)
        deficit := Tab.upd 0 p.deficit o.cls (· + s.outAcc 49 k) }
    else s
  | none => s

/-- The next descriptor of D2H ring q: without a buffer it completes with STATUS 0x04; else it takes the frame in
transmission to the ring. -/
def State.d2h (s : State) (q : Nat) : State :=
  let r := Reg.HP_D2H_BASE_LO q
  let a := s.hpAt r
  let d := s.mem.host.bytes a 16
  let size := leNat ((d.drop 8).take 2)
  let irq := (byteAt d 10).toNat / 16 % 2 = 1
  if size = 0 then (s.hpDone q true irq r a 0 4 none).d2hBack
  else
    match (s.eport 49).sending with
    | none => s
    | some k =>
      let o := s.out k
      if o.hq ≠ q ∨ o.place ≠ .sending then s
      else
        let b := s.wireBytes k
        let s := s.setOut k { o with place := .sent }
        if size < b.length then (s.dropped .hostLong 97).hpDone q true irq r a size 3 none
        else
          let s := { s with mem := { s.mem with host := s.mem.host.put (leNat (d.take 8)) b } }
          s.hpDone q true irq r a b.length 1 (some ((o.job.map fun j => (s.job j).port).getD 0))

/-- D2H_DESCRIPTOR (R342). -/
def execD2hDescriptor (q : Nat) (s : State) : Out :=
  if s.running && decide (q < 16) && s.hub.busMaster && s.hpRuns (Reg.HP_D2H_BASE_LO q) then .next (s.d2h q)
  else .next s

/-! ### CAN transmission (R338, R339) -/

/-- The arbitration value of a record: the base identifier, then RTR or SRR, IDE, the rest of an extended
identifier, its RTR, as ISO 11898-1 ranks them. -/
def canRank (b : List Byte) : Nat :=
  let f := byteAt b 0
  let id := leNat ((b.drop 4).take 4)
  if canFlag f 1 && !canFlag f 6 then (id / 2 ^ 18) * 2 ^ 21 + 3 * 2 ^ 19 + id % 2 ^ 18 * 2 + (canFlag f 0).toNat
  else id * 2 ^ 21 + (canFlag f 0).toNat * 2 ^ 20

/-- The record a channel offers: the lowest rank, the first among equals. -/
def State.canOffer (s : State) (l : List (Nat × Nat)) : Option (Nat × Nat) :=
  l.foldl (fun (b : Option (Nat × Nat)) p =>
    match b with
    | none => some p
    | some r => if canRank (s.outBytes p.1) < canRank (s.outBytes r.1) then some p else b) none

def State.setCan (s : State) (n : Nat) (l : List (Nat × Nat)) : State :=
  { s with ports := { s.ports with can := Tab.upd CanCh.idle s.ports.can n fun c => { c with txq := l } } }

/-- An attempt failed: the record stays until RETRY is used up (R338). -/
def State.canRetry (s : State) (n : Nat) (l : List (Nat × Nat)) (k tries : Nat) : State :=
  let r := s.fld (Reg.CAN_MODE n) 11 8
  if r ≠ 15 ∧ r < tries + 1 then ((s.setCan n (l.filter fun p => p.1 != k)).bump (Reg.CAN_TX_DROP n)).outEnd k
  else s.setCan n (l.map fun p => if p.1 = k then (k, tries + 1) else p)

/-- The queue of a channel at bus-off is discarded with counts (R338). -/
def State.canDiscard (s : State) (n : Nat) (l : List (Nat × Nat)) : State :=
  l.foldl (fun t p => (t.bump (Reg.CAN_TX_DROP n)).outEnd p.1) (s.setCan n [])

/-- A record as it goes on the bus: TS is ignored, and BRS and ESI without FDF (R337). -/
def canSent (b : List Byte) : List Byte :=
  let f := byteAt b 0
  [if canFlag f 3 then f else f &&& 0xEB] ++ (b.drop 1).take 7 ++ List.replicate 8 0 ++ b.drop 16

/-- Bus-off: the queue is discarded with counts and the event raised (R338). -/
def State.canBusOff (s : State) (n : Nat) : State :=
  ((s.canCounts n 256 (s.canRec n)).canDiscard n (Tab.get CanCh.idle s.ports.can n).txq).raise (Ev.CAN_BUSOFF n)

/-- CAN_TRANSMIT of the record on offer. -/
def State.canTransmit (s : State) (n : Nat) (r : CanResult) : State :=
  let l := (Tab.get CanCh.idle s.ports.can n).txq
  let tec := s.fld (Reg.CAN_STAT n) 8 0
  let rec_ := s.canRec n
  match s.canOffer l with
  | none => s
  | some (k, tries) =>
    match r with
    | .sent =>
      ((((s.canCounts n (tec - 1) rec_).pin (.frame (64 + n) (canSent (s.outBytes k)) false)).setCan n
        (l.filter fun p => p.1 != k))).outEnd k
    | .lost => s.canRetry n l k tries
    | .error => if 256 ≤ tec + 8 then s.canBusOff n else (s.canCounts n (tec + 8) rec_).canRetry n l k tries
    | .busOff => s.canBusOff n

/-- CAN_TRANSMIT (R338): nothing is sent with LISTEN = 1 (R339) or PORT_CFG.EN = 0 (R353). -/
def execCanTransmit (n : Nat) (r : CanResult) (s : State) : Out :=
  if s.running && s.canActive n && s.portOn (64 + n) && !s.flag (Reg.CAN_MODE n) 3 then .next (s.canTransmit n r) else .next s

/-- CAN_BUSOFF_RECOVERY (R338). -/
def execCanBusoffRecovery (n : Nat) (s : State) : Out :=
  if s.running && decide (n < s.chip.cans) && s.flag (Reg.CAN_MODE n) 0 && s.flag (Reg.CAN_MODE n) 4
      && decide (s.fld (Reg.CAN_STAT n) 17 16 = 2) then .next (s.canCounts n 0 0)
  else .next s

end Sys2Proof.Machine
end

