-- ==== Sys2Proof/Machine/TimeRows.lean ====
section
/-! DEFINITION. The Time base's clock source, steps and sets, captures and 1PPS (R398, R401, R408, R410 to
R412). -/

namespace Sys2Proof.Machine

open Sys2Proof

/-! ### The clock (R398) -/

/-- TBCLK_LOSS_OF_LOCK (R398). -/
def execTbclkLossOfLock (s : State) : Out :=
  let s := s.setFld Reg.TB_STAT 1 1 0
  .next (if s.flag Reg.TB_STAT 0 then s else (s.setFld Reg.TB_STAT 0 0 1).raise Ev.TB_CLK)

/-- TBCLK_LOCK (R398). -/
def execTbclkLock (s : State) : Out := .next (s.setFld Reg.TB_STAT 1 1 1)

/-- A write of SRC_RET (R398). -/
def State.srcReturn (s : State) : State :=
  if s.flag Reg.TB_STAT 1 && s.flag Reg.TB_STAT 0 then (s.setFld Reg.TB_STAT 0 0 0).raise Ev.TB_CLK else s

/-! ### Steps and sets (R401) -/

/-- The time of a domain moved by whole seconds and nanoseconds, its fraction unchanged. -/
def DomTime.move (t : DomTime) (sec ns : Int) : DomTime :=
  DomTime.ofUnits (((t.units : Int) + (sec * GIGA + ns) * 2 ^ 40) % ((2 : Int) ^ 88 * GIGA)).toNat

/-- A GO of domain d is pending: TB_ADJ_CTRL.GO reads 1 (R401). -/
def State.adjPending (s : State) (d : Nat) : Bool := s.flag (Reg.TB_ADJ_CTRL d) 17

/-- The NS of domain d is in the range of its OP (R401). -/
def State.adjInRange (s : State) (d : Nat) : Bool :=
  let ns := (s.reg (Reg.TB_ADJ_NS d)).toNat
  if s.flag (Reg.TB_ADJ_CTRL d) 16 then decide (ns ≤ 999999999)
  else decide (-999999999 ≤ signed 32 ns) && decide (signed 32 ns ≤ 999999999)

/-- GO in domain d with its fields as the write leaves them (R401): accepted, it waits for the next cycle boundary
(log entry 42). -/
def State.tbGo (s : State) (d : Nat) : State :=
  if s.adjInRange d then s.setFld (Reg.TB_ADJ_CTRL d) 17 17 1 else s.setFld (Reg.TB_ADJ_CTRL d) 18 18 1

/-- What a step or set of domain d makes of its time (R401). -/
def State.adjusted (s : State) (d : Nat) : DomTime :=
  let c := s.reg (Reg.TB_ADJ_CTRL d)
  let sec := (s.reg (Reg.TB_ADJ_SEC d)).toNat
  let ns := (s.reg (Reg.TB_ADJ_NS d)).toNat
  if bitOf c 16 then { sec := BitVec.ofNat 48 (getF c 15 0 * 2 ^ 32 + sec), ns := ns, frac := 0 }
  else (s.domTime d).move (signed 32 sec) (signed 32 ns)

/-- A pending GO of domain d applies (R374, R401, R402). -/
def State.adjApply (s : State) (d : Nat) : State :=
  if s.adjPending d then
    (((((s.notePast d).setDomTime d (s.adjusted d)).setFld (Reg.TB_ADJ_CTRL d) 17 17 0).raise Ev.TB_STEP).gatesFollow d)
  else s

/-! ### Captures (R411, R412) -/

/-- The domain times into three registers each, by their offsets. -/
def State.capture (s : State) (ns lo hi : Nat → Nat) : State :=
  (List.range 4).foldl (fun t d =>
    let x := t.domTime d
    ((t.setReg (ns d) (W x.ns)).setReg (lo d) x.secLo).setReg (hi d) x.secHi) s

/-- SNAP (R412). -/
def State.snap (s : State) : State :=
  ((s.setReg Reg.TB_SNAP_FR_LO (W s.fr)).setReg Reg.TB_SNAP_FR_HI (W (s.fr / 2 ^ 32))).capture
    Reg.TB_SNAP_NS Reg.TB_SNAP_SEC_LO Reg.TB_SNAP_SEC_HI

/-- PPS_IN_EDGE (R411). -/
def execPpsInEdge (s : State) : Out :=
  let s := ((s.setReg Reg.TB_PPS_FR_LO (W s.fr)).setReg Reg.TB_PPS_FR_HI (W (s.fr / 2 ^ 32))).capture
    Reg.TB_PPS_NS Reg.TB_PPS_SEC_LO Reg.TB_PPS_SEC_HI
  let s := if s.flag Reg.TB_PPS_CFG 30 then s.setFld Reg.TB_PPS_CFG 31 31 1 else s.setFld Reg.TB_PPS_CFG 30 30 1
  .next (s.raise Ev.TB_PPS)

/-! ### 1PPS_OUT (R410) -/

/-- PPS_W_US and PPS_OUT_EN let a pulse start. -/
def State.ppsArmed (s : State) : Bool := s.flag Reg.TB_PPS_CFG 0 && decide (0 < s.fld Reg.TB_PPS_CFG 27 8)

/-- PPS_OUT (R410): the domain has rolled over by counting in this cycle. -/
def execPpsOut (s : State) : Out :=
  if s.tb.rolled && s.ppsArmed then
    .next (({ s with tb := { s.tb with
      rolled := false, ppsHigh := true, ppsUntil := s.fr + s.fld Reg.TB_PPS_CFG 27 8 * 1000 } }).pin (.pps true))
  else .next s

/-- 1PPS_OUT falls. -/
def State.ppsLow (s : State) : State :=
  if s.tb.ppsHigh then ({ s with tb := { s.tb with ppsHigh := false } }).pin (.pps false) else s

/-- PPS_PULSE_END (R410). -/
def execPpsPulseEnd (s : State) : Out :=
  if s.tb.ppsHigh && decide (s.tb.ppsUntil ≤ s.fr) then .next s.ppsLow else .next s

/-! ### Transmit timestamps (R408) -/

/-- A read of TXTS_HDR: the oldest entry leaves the FIFO and its time is latched. -/
def State.txtsPop (s : State) (x : Nat) : Word × State :=
  let p := s.eport x
  match p.txts with
  | [] => (0, s)
  | (h, t) :: rest =>
    let s := (((s.setEport x { p with txts := rest }).setReg (Reg.TXTS_NS x) (W t.ns)).setReg (Reg.TXTS_SEC_LO x)
      t.secLo).setReg (Reg.TXTS_SEC_HI x) t.secHi
    (W h, { s with hiLatch := Tab.set 0 s.hiLatch (Reg.TXTS_SEC_HI x) t.secHi })

end Sys2Proof.Machine
end

