-- ==== Sys2Proof/Machine/Clock.lean ====
section
/-! DEFINITION. What one nanosecond of the Time base clock does (R397, R399, R401, R410, R443). -/

namespace Sys2Proof.Machine

open Sys2Proof

/-- The credit updates that travel at least once per microsecond on every LFL link that is up (R443). -/
def State.creditsDue (s : State) : State :=
  if s.fr % 1000 = 0 then (List.range 12).foldl State.creditOut s else s

/-- One cycle of the Time base clock: the counts, then the steps and sets that apply at this boundary, then the credit
updates that are due. -/
def State.tick (s : State) : State := ((List.range 4).foldl State.adjApply s.count).creditsDue

end Sys2Proof.Machine
end

