-- ==== Sys2Proof/Machine/Arith.lean ====
section
/-! DEFINITION. Arithmetic and logic of the engines (R124, R127). -/

namespace Sys2Proof.Machine

open Sys2Proof

/-- d := d op s, or only its flags (R127): the operation gets the width, both operands and the carry. -/
def aluRegs (f : Nat → Nat → Nat → Nat → Alu) (wr : Bool) (c : Nat) (o : Operands) (s : State) : Eff :=
  let r := f o.bits (s.dest c o o.d) (s.opnd c o o.s) (s.ctx c).cf.toNat
  Eff.ok ((if wr then s.setR c (regNo o o.d) (W r.res) else s).setFlags c r)

/-- d := d op imm, or only its flags (R127). -/
def aluImm (f : Nat → Nat → Nat → Nat → Alu) (wr : Bool) (c : Nat) (o : Operands) (s : State) : Eff :=
  let r := f o.bits (s.dest c o o.d) o.immW (s.ctx c).cf.toNat
  Eff.ok ((if wr then s.setR c (regNo o o.d) (W r.res) else s).setFlags c r)

/-- MOV and MOVI copy without touching FLAGS (R127). -/
def bodyMov (c : Nat) (o : Operands) (s : State) : Eff := Eff.ok (s.setR c (regNo o o.d) (W (s.opnd c o o.s)))
def bodyMovi (c : Nat) (o : Operands) (s : State) : Eff := Eff.ok (s.setR c (regNo o o.d) (W o.immW))

def opAdd (w a b _k : Nat) : Alu := Alu.add w a b 0
def opSub (w a b _k : Nat) : Alu := Alu.sub w a b 0
def opAdc (w a b k : Nat) : Alu := Alu.add w a b k
def opSbc (w a b k : Nat) : Alu := Alu.sub w a b k
def opAnd (w a b _k : Nat) : Alu := Alu.logic w (a &&& b)
def opOr (w a b _k : Nat) : Alu := Alu.logic w (a ||| b)
def opXor (w a b _k : Nat) : Alu := Alu.logic w (a ^^^ b)
def opNot (w _a b _k : Nat) : Alu := Alu.logic w (2 ^ w - 1 - b)
def opNeg (w _a b _k : Nat) : Alu := Alu.sub w 0 b 0

/-- NOP (R124). -/
def execNop (c : Nat) (o : Operands) (s : State) : Out := s.runIssue .nop c o fun _ _ s => Eff.ok s
/-- ADD (R127). -/
def execAdd (c : Nat) (o : Operands) (s : State) : Out := s.runIssue .add c o (aluRegs opAdd true)
/-- SUB (R127). -/
def execSub (c : Nat) (o : Operands) (s : State) : Out := s.runIssue .sub c o (aluRegs opSub true)
/-- ADC (R127). -/
def execAdc (c : Nat) (o : Operands) (s : State) : Out := s.runIssue .adc c o (aluRegs opAdc true)
/-- SBC (R127). -/
def execSbc (c : Nat) (o : Operands) (s : State) : Out := s.runIssue .sbc c o (aluRegs opSbc true)
/-- AND (R127). -/
def execAnd (c : Nat) (o : Operands) (s : State) : Out := s.runIssue .and c o (aluRegs opAnd true)
/-- OR (R127). -/
def execOr (c : Nat) (o : Operands) (s : State) : Out := s.runIssue .or c o (aluRegs opOr true)
/-- XOR (R127). -/
def execXor (c : Nat) (o : Operands) (s : State) : Out := s.runIssue .xor c o (aluRegs opXor true)
/-- CMP (R127). -/
def execCmp (c : Nat) (o : Operands) (s : State) : Out := s.runIssue .cmp c o (aluRegs opSub false)
/-- TST (R127). -/
def execTst (c : Nat) (o : Operands) (s : State) : Out := s.runIssue .tst c o (aluRegs opAnd false)
/-- NOT (R127). -/
def execNot (c : Nat) (o : Operands) (s : State) : Out := s.runIssue .not c o (aluRegs opNot true)
/-- NEG (R127). -/
def execNeg (c : Nat) (o : Operands) (s : State) : Out := s.runIssue .neg c o (aluRegs opNeg true)
/-- ADDI (R127). -/
def execAddi (c : Nat) (o : Operands) (s : State) : Out := s.runIssue .addi c o (aluImm opAdd true)
/-- SUBI (R127). -/
def execSubi (c : Nat) (o : Operands) (s : State) : Out := s.runIssue .subi c o (aluImm opSub true)
/-- ANDI (R127). -/
def execAndi (c : Nat) (o : Operands) (s : State) : Out := s.runIssue .andi c o (aluImm opAnd true)
/-- ORI (R127). -/
def execOri (c : Nat) (o : Operands) (s : State) : Out := s.runIssue .ori c o (aluImm opOr true)
/-- XORI (R127). -/
def execXori (c : Nat) (o : Operands) (s : State) : Out := s.runIssue .xori c o (aluImm opXor true)
/-- CMPI (R127). -/
def execCmpi (c : Nat) (o : Operands) (s : State) : Out := s.runIssue .cmpi c o (aluImm opSub false)
/-- MOV (R127). -/
def execMov (c : Nat) (o : Operands) (s : State) : Out := s.runIssue .mov c o bodyMov
/-- MOVI (R127). -/
def execMovi (c : Nat) (o : Operands) (s : State) : Out := s.runIssue .movi c o bodyMovi

end Sys2Proof.Machine
end

