-- ==== Sys2Proof/Machine/Bits.lean ====
section
/-! DEFINITION. Bit, CRC, coprocessor and special-register instructions (R86, R133 to R135). -/

namespace Sys2Proof.Machine

open Sys2Proof

/-- A result at the operation width from s, with the flags of a logic result (R134). -/
def bitFlags (f : Nat → Nat → Nat) (c : Nat) (o : Operands) (s : State) : Eff :=
  let r := Alu.logic o.bits (f o.bits (s.opnd c o o.s))
  Eff.ok ((s.setR c (regNo o o.d) (W r.res)).setFlags c r)

/-- A result at the operation width from s without flags (R134). -/
def bitPlain (f : Nat → Nat → Nat) (c : Nat) (o : Operands) (s : State) : Eff :=
  Eff.ok (s.setR c (regNo o o.d) (W (f o.bits (s.dest c o o.s))))

/-- POS and len of a field descriptor (R134). -/
def fieldPos (o : Operands) : Nat := getF o.imm 4 0
def fieldLen (o : Operands) : Nat := getF o.imm 12 8 + 1

def bodyExt (c : Nat) (o : Operands) (s : State) : Eff :=
  let r := Alu.logic o.bits (s.opnd c o o.s / 2 ^ fieldPos o % 2 ^ fieldLen o)
  Eff.ok ((s.setR c (regNo o o.d) (W r.res)).setFlags c r)

def bodyIns (c : Nat) (o : Operands) (s : State) : Eff :=
  let d := s.dest c o o.d
  let p := 2 ^ fieldPos o
  let m := 2 ^ fieldLen o
  Eff.ok (s.setR c (regNo o o.d) (W (d - d / p % m * p + s.dest c o o.s % m * p)))

/-- CRCB (R135). -/
def bodyCrcb (c : Nat) (o : Operands) (s : State) : Eff :=
  let x := s.ctx c
  let wc := crcWidth x.crcCfg
  let poly := crcPoly x.polyLo x.polyHi x.crcCfg
  let b := s.opnd c o o.s
  let d := o.d.toNat
  if wc = 64 then
    if o.sh || decide (d % 2 = 1) || decide (12 < d) then ⟨s, .trap 1, false⟩
    else
      let v := crcStep 64 poly (crcRefl x.crcCfg) ((s.greg c d).toNat + (s.greg c (d + 1)).toNat * 2 ^ 32) b
      Eff.ok ((s.setG c d (W (v % 2 ^ 32))).setG c (d + 1) (W (v / 2 ^ 32)))
  else
    let r := regNo o o.d
    Eff.ok (s.setR c r (W (crcStep wc poly (crcRefl x.crcCfg) ((s.greg c r).toNat % 2 ^ wc) b)))

/-- MTC (R133). -/
def bodyMtc (c : Nat) (o : Operands) (s : State) : Eff :=
  let k := o.d.toNat
  let r := o.s.toNat
  let old := Tab.get 0 (s.ctx c).c k
  let new := if o.cx then setLane old o.x.toNat (s.greg c r)
    else BitVec.ofNat 128 (leNat ((List.range 4).flatMap fun i => leBytes 4 (s.greg c (r + i)).toNat))
  Eff.ok (s.updCtx c fun x => { x with c := Tab.set 0 x.c k new })

/-- MFC (R133). -/
def bodyMfc (c : Nat) (o : Operands) (s : State) : Eff :=
  let v := Tab.get 0 (s.ctx c).c o.s.toNat
  let r := o.d.toNat
  if o.cx then Eff.ok (s.setG c r (lane v o.x.toNat))
  else Eff.ok ((List.range 4).foldl (fun t i => t.setG c (r + i) (lane v i)) s)

/-- Special register `n` as MFSP reads it (R86). -/
def Ctx.special (x : Ctx) (n : Nat) : Option Word :=
  match n with
  | 0 => some (W x.pc.toNat)
  | 1 => some x.flags
  | 2 => some x.mlo
  | 3 => some x.mhi
  | 4 => some x.polyLo
  | 5 => some x.polyHi
  | 6 => some (W x.crcCfg.toNat)
  | _ => none

/-- The context after an MTSP of special register `n` (R86). -/
def Ctx.putSpecial (x : Ctx) (n : Nat) (v : Word) : Option Ctx :=
  match n with
  | 1 => some (x.putFlags v)
  | 2 => some { x with mlo := v }
  | 3 => some { x with mhi := v }
  | 4 => some { x with polyLo := v }
  | 5 => some { x with polyHi := v }
  | 6 => some { x with crcCfg := BitVec.ofNat 3 v.toNat }
  | _ => none

def bodyMfsp (c : Nat) (o : Operands) (s : State) : Eff :=
  match (s.ctx c).special o.s.toNat with
  | some v => Eff.ok (s.setR c (regNo o o.d) v)
  | none => ⟨s, .trap 1, false⟩

def bodyMtsp (c : Nat) (o : Operands) (s : State) : Eff :=
  match (s.ctx c).putSpecial o.d.toNat (s.greg c (regNo o o.s)) with
  | some x => Eff.ok (s.setCtx c x)
  | none => ⟨s, .trap 1, false⟩

/-- The parity of the 1 bits (R134). -/
def parityOf (w n : Nat) : Nat := popCount w n % 2
/-- Byte reversal at a width (R134). -/
def swapAt (w n : Nat) : Nat := swapBytes (w / 8) n

/-- CRCB (R135). -/
def execCrcb (c : Nat) (o : Operands) (s : State) : Out := s.runIssue .crcb c o bodyCrcb
/-- PAR (R134). -/
def execPar (c : Nat) (o : Operands) (s : State) : Out := s.runIssue .par c o (bitFlags parityOf)
/-- POPC (R134). -/
def execPopc (c : Nat) (o : Operands) (s : State) : Out := s.runIssue .popc c o (bitFlags popCount)
/-- BREV (R134). -/
def execBrev (c : Nat) (o : Operands) (s : State) : Out := s.runIssue .brev c o (bitPlain revBits)
/-- BSWAP (R134). -/
def execBswap (c : Nat) (o : Operands) (s : State) : Out := s.runIssue .bswap c o (bitPlain swapAt)
/-- EXT (R134). -/
def execExt (c : Nat) (o : Operands) (s : State) : Out := s.runIssue .ext c o bodyExt
/-- INS (R134). -/
def execIns (c : Nat) (o : Operands) (s : State) : Out := s.runIssue .ins c o bodyIns
/-- MTC (R133). -/
def execMtc (c : Nat) (o : Operands) (s : State) : Out := s.runIssue .mtc c o bodyMtc
/-- MFC (R133). -/
def execMfc (c : Nat) (o : Operands) (s : State) : Out := s.runIssue .mfc c o bodyMfc
/-- MFSP (R86). -/
def execMfsp (c : Nat) (o : Operands) (s : State) : Out := s.runIssue .mfsp c o bodyMfsp
/-- MTSP (R86). -/
def execMtsp (c : Nat) (o : Operands) (s : State) : Out := s.runIssue .mtsp c o bodyMtsp

end Sys2Proof.Machine
end

