-- ==== Sys2Proof/Machine/IoPorts.lean ====
section
/-! DEFINITION. The I/O space of a context (R100 to R102, R137, R144, R162, R164, R175, R318, R409, R523). -/

namespace Sys2Proof.Machine

open Sys2Proof

/-- CTX_STATUS (R102). -/
def Ctx.status (x : Ctx) : Word :=
  W (x.hlpDone.toNat + 2 * x.hlpAbsent.toNat + 4 * x.tclass.toNat + 8 * x.rsvHit.toNat + 16 * x.forked.toNat
    + 32 * (x.epoch % 2))

/-- HLP_STATUS (R175). -/
def Ctx.hlpStatus (x : Ctx) : Word :=
  W (x.hlpHit.toNat + 2 * x.hlpLearned.toNat + 4 * x.hlpEvict.toNat + 16 * x.hlpErr.toNat + 256 * x.hlpKind.toNat
    + 4096 * x.hlpBusy.toNat)

/-- TRAP_INFO (R144). -/
def Ctx.trapInfo (x : Ctx) : Word := W (x.trapCause.toNat + 16 * x.trapNest.toNat + 65536 * x.trapPc.toNat)

/-- FORK_INFO (R164). -/
def State.forkInfo (s : State) (c : Nat) : Word :=
  let x := s.ctx c
  let kids := (List.range 8).foldl (fun n k =>
    let y := s.ctx (c / 8 * 8 + k)
    if y.live && y.parent == some c then n + 2 ^ (8 + k) else n) 0
  let free := s.freeNums (engOf c)
  W (numOf c
    + (match x.parent with
        | some p => 16 * numOf p + 128
        | none => 0)
    + kids + 2 ^ 16 * free.length + 2 ^ 20 * (free.filter (s.ownsSlot (packOf c))).length)

/-- What a port read answers: a value, a stall at a Leash lock, and whether the port is reserved. -/
inductive IoAns where
  | value (v : Word)
  | stall (lock : Nat)
  | reserved
  deriving DecidableEq, Repr

/-- A read of a port (R100, R101). -/
def State.ioRead (s : State) (c port : Nat) : IoAns × State :=
  let x := s.ctx c
  if 0x1000 ≤ port ∧ port < 0x2000 then
    match s.leashRead (port - 0x1000) (ownerId c) with
    | (.status v, t) => (.value v, t)
    | (.stall, t) => (.stall (port - 0x1000), t)
  else if 0x300 ≤ port ∧ port < 0x340 then (.value 0, s)
  else
    match port with
    | 0x0000 => (.value (W (ownerId c)), s)
    | 0x0001 => (.value x.status, s)
    | 0x0002 => (.value (W x.psmPage.toNat), s)
    | 0x0003 => (.value (W x.csmPage.toNat), s)
    | 0x0004 => (.value (W x.spLim.toNat), s)
    | 0x0005 => (.value (s.forkInfo c), s)
    | 0x0006 => (.value x.evFlags, s)
    | 0x0007 => (.value x.trapInfo, s)
    | 0x0100 => (.value x.arg0, s)
    | 0x0101 => (.value x.arg1, s)
    | 0x0110 | 0x0111 | 0x0112 | 0x0113 | 0x0114 => (.value 0, s)
    | 0x01F0 => (.value x.hlpStatus, s)
    | 0x0200 => (.value x.emitDst, s)
    | 0x0201 => (.value x.emitHdr, s)
    | 0x0202 => (.value x.emitTail, s)
    | 0x0207 | 0x0210 | 0x0211 | 0x0212 => (.value 0, s)
    | 0x0340 => (.value x.knResult, s)
    | 0x0341 => (.value (W x.knLinkSel.toNat), s)
    | 0x0342 => (.value (W (s.cellNext x.knLinkSel.toNat)), s)
    | 0x2000 => (.value 0, s)
    | 0x2080 =>
      let cap : TbCapture := { fr := BitVec.ofNat 64 s.fr, time := s.domTime x.domSel.toNat }
      (.value (W s.fr), s.updCtx c fun y => { y with tbCap := cap })
    | 0x2081 => (.value (W (x.tbCap.fr.toNat / 2 ^ 32)), s)
    | 0x2082 => (.value (W x.domSel.toNat), s)
    | 0x2083 => (.value (W x.tbCap.time.ns), s)
    | 0x2084 => (.value x.tbCap.time.secLo, s)
    | 0x2085 => (.value x.tbCap.time.secHi, s)
    | _ => (.reserved, s)

/-- A write to a helper command port (R177). -/
def State.hlpPort (s : State) (c : Nat) (kind : HlpKind) (v : Word) : Eff :=
  if (s.ctx c).hlpBusy then ⟨s, .trap 1, false⟩ else Eff.ok (s.hlpCommit c kind v)

/-- KN_ALLOC[p] (R314, R318). -/
def State.knAllocPort (s : State) (c p : Nat) (v : Word) : State :=
  let (r, s) := s.knAlloc p (getF v 5 0)
  s.updCtx c fun x => { x with knResult := match r with
    | some h => W (h + 2 ^ 30)
    | none => W (KN_NULL + 2 ^ 31) }

/-- KN_FREE[p] (R316, R318). -/
def State.knFreePort (s : State) (p : Nat) (v : Word) : State := s.knFree (getF v 17 0) p (bitOf v 31) false

/-- A write of a whole word to a port (R100, R101). -/
def State.ioWrite (s : State) (c port : Nat) (v : Word) : Eff :=
  if 0x1000 ≤ port ∧ port < 0x2000 then Eff.ok (s.leashWrite (port - 0x1000) (ownerId c))
  else if 0x300 ≤ port ∧ port < 0x320 then Eff.ok (s.knAllocPort c (port - 0x300) v)
  else if 0x320 ≤ port ∧ port < 0x340 then Eff.ok (s.knFreePort (port - 0x320) v)
  else
    match port with
    | 0x0001 => Eff.ok (s.updCtx c fun x => { x with rsvHit := x.rsvHit && !bitOf v 3 })
    | 0x0002 => Eff.ok (s.updCtx c fun x => { x with psmPage := BitVec.ofNat 4 v.toNat })
    | 0x0003 => Eff.ok (s.updCtx c fun x => { x with csmPage := BitVec.ofNat 9 v.toNat })
    | 0x0004 => Eff.ok (s.updCtx c fun x => { x with spLim := BitVec.ofNat 16 v.toNat })
    | 0x0006 => Eff.ok (s.updCtx c fun x => { x with evFlags := x.evFlags &&& ~~~v })
    | 0x0000 | 0x0005 | 0x0007 | 0x01F0 | 0x0340 | 0x0342 => Eff.ok s
    | 0x2080 | 0x2081 | 0x2083 | 0x2084 | 0x2085 => Eff.ok s
    | 0x0100 => Eff.ok (s.updCtx c fun x => { x with arg0 := v })
    | 0x0101 => Eff.ok (s.updCtx c fun x => { x with arg1 := v })
    | 0x0110 => s.hlpPort c .hash v
    | 0x0111 => s.hlpPort c .crc v
    | 0x0112 => s.hlpPort c .aes v
    | 0x0113 => s.hlpPort c .lookup v
    | 0x0114 => s.hlpPort c .dma v
    | 0x0200 => Eff.ok (s.updCtx c fun x => { x with emitDst := v &&& 0x00F1F7FF })
    | 0x0201 => Eff.ok (s.updCtx c fun x => { x with emitHdr := v &&& 0x1FFFF })
    | 0x0202 => Eff.ok (s.updCtx c fun x => { x with emitTail := v &&& 0x3FFF })
    | 0x0207 => s.emitGo c v
    | 0x0210 => s.drop c
    | 0x0211 => s.delay c v
    | 0x0212 => s.release c
    | 0x0341 => Eff.ok (s.updCtx c fun x => { x with knLinkSel := BitVec.ofNat 18 v.toNat })
    | 0x2000 => Eff.ok (s.raise (Ev.SW (getF v 4 0)))
    | 0x2082 => Eff.ok (s.updCtx c fun x => { x with domSel := BitVec.ofNat 2 v.toNat })
    | _ => ⟨s, .seq, true⟩

/-! ### IN, INR, OUT, OUTR (R101, R132) -/

/-- The port of an IN or OUT (immediate), an INR (register s) or an OUTR (register d). -/
def State.portOf (s : State) (op : EOp) (c : Nat) (o : Operands) : Nat :=
  match op with
  | .inr => (s.greg c (regNo o o.s)).toNat % 65536
  | .outr => (s.greg c (regNo o o.d)).toNat % 65536
  | _ => o.imm.toNat % 65536

/-- The word an OUT or OUTR writes: the value at the operation width, zero-extended. -/
def State.outWord (s : State) (c : Nat) (o : Operands) : Word := W (s.opnd c o o.s)

/-- The body of IN and INR. -/
def bodyIn (op : EOp) (c : Nat) (o : Operands) (s : State) : Eff :=
  let r := regNo o o.d
  match s.ioRead c (s.portOf op c o) with
  | (.value v, t) => Eff.ok (t.land c r (W (v.toNat % 2 ^ o.bits)))
  | (.stall i, t) => Eff.ok (t.updCtx c fun x => { x with wait := .leash i r o.size })
  | (.reserved, t) => ⟨t.land c r 0, .seq, true⟩

/-- The body of OUT and OUTR. -/
def bodyOut (op : EOp) (c : Nat) (o : Operands) (s : State) : Eff :=
  s.ioWrite c (s.portOf op c o) (s.outWord c o)

/-- IN (R132). -/
def execInp (c : Nat) (o : Operands) (s : State) : Out := s.runIssue .inp c o (bodyIn .inp)
/-- INR (R132). -/
def execInr (c : Nat) (o : Operands) (s : State) : Out := s.runIssue .inr c o (bodyIn .inr)
/-- OUT (R132). -/
def execOutp (c : Nat) (o : Operands) (s : State) : Out := s.runIssue .outp c o (bodyOut .outp)
/-- OUTR (R132). -/
def execOutr (c : Nat) (o : Operands) (s : State) : Out := s.runIssue .outr c o (bodyOut .outr)

/-- An OUT or OUTR that the wheel has latched, when its port and word are those a row names. -/
def State.runOut (s : State) (c : Nat) (o : Operands) (row : Nat → Word → Bool) : Out :=
  if (s.issued .outp c o).isSome && row (s.portOf .outp c o) (s.outWord c o) then
    s.runIssue .outp c o (bodyOut .outp)
  else if (s.issued .outr c o).isSome && row (s.portOf .outr c o) (s.outWord c o) then
    s.runIssue .outr c o (bodyOut .outr)
  else .next s

/-- An IN or INR that the wheel has latched, when its port is the one a row names. -/
def State.runIn (s : State) (c : Nat) (o : Operands) (row : Nat → Bool) : Out :=
  if (s.issued .inp c o).isSome && row (s.portOf .inp c o) then
    s.runIssue .inp c o (bodyIn .inp)
  else if (s.issued .inr c o).isSome && row (s.portOf .inr c o) then
    s.runIssue .inr c o (bodyIn .inr)
  else .next s

/-- EMIT_GO (R138). -/
def execEmitGo (c : Nat) (o : Operands) (s : State) : Out := s.runOut c o fun p _ => p == 0x207
/-- DROP (R140). -/
def execDrop (c : Nat) (o : Operands) (s : State) : Out := s.runOut c o fun p _ => p == 0x210
/-- DELAY (R142). -/
def execDelay (c : Nat) (o : Operands) (s : State) : Out := s.runOut c o fun p _ => p == 0x211
/-- RELEASE (R263). -/
def execRelease (c : Nat) (o : Operands) (s : State) : Out := s.runOut c o fun p _ => p == 0x212
/-- HASH_H0 (R184). -/
def execHashH0 (c : Nat) (o : Operands) (s : State) : Out := s.runOut c o fun p v => p == 0x110 && hOp v == 0
/-- HASH_H1 (R184). -/
def execHashH1 (c : Nat) (o : Operands) (s : State) : Out := s.runOut c o fun p v => p == 0x110 && hOp v == 1
/-- HASH_H0_H1 (R184). -/
def execHashH0H1 (c : Nat) (o : Operands) (s : State) : Out := s.runOut c o fun p v => p == 0x110 && hOp v == 2
/-- CRC_STEPS (R185). -/
def execCrcSteps (c : Nat) (o : Operands) (s : State) : Out := s.runOut c o fun p v => p == 0x111 && hOp v == 0
/-- CHECKSUM (R185). -/
def execChecksum (c : Nat) (o : Operands) (s : State) : Out := s.runOut c o fun p v => p == 0x111 && hOp v == 1
/-- AES_ENC (R186). -/
def execAesEnc (c : Nat) (o : Operands) (s : State) : Out := s.runOut c o fun p v => p == 0x112 && hOp v == 0
/-- AES_DEC (R186). -/
def execAesDec (c : Nat) (o : Operands) (s : State) : Out := s.runOut c o fun p v => p == 0x112 && hOp v == 1
/-- GCM_ENC (R186). -/
def execGcmEnc (c : Nat) (o : Operands) (s : State) : Out := s.runOut c o fun p v => p == 0x112 && hOp v == 2
/-- GCM_DEC (R186). -/
def execGcmDec (c : Nat) (o : Operands) (s : State) : Out := s.runOut c o fun p v => p == 0x112 && hOp v == 3
/-- GHASH (R186). -/
def execGhash (c : Nat) (o : Operands) (s : State) : Out := s.runOut c o fun p v => p == 0x112 && hOp v == 4
/-- GCM_TAG (R186). -/
def execGcmTag (c : Nat) (o : Operands) (s : State) : Out := s.runOut c o fun p v => p == 0x112 && hOp v == 5
/-- CMAC_UPD (R186). -/
def execCmacUpd (c : Nat) (o : Operands) (s : State) : Out := s.runOut c o fun p v => p == 0x112 && hOp v == 6
/-- CMAC_FIN (R186). -/
def execCmacFin (c : Nat) (o : Operands) (s : State) : Out := s.runOut c o fun p v => p == 0x112 && hOp v == 7
/-- LOOKUP_READ (R187). -/
def execLookupRead (c : Nat) (o : Operands) (s : State) : Out := s.runOut c o fun p v => p == 0x113 && hOp v == 0
/-- LOOKUP_LEARN (R187). -/
def execLookupLearn (c : Nat) (o : Operands) (s : State) : Out := s.runOut c o fun p v => p == 0x113 && hOp v == 1
/-- LOOKUP_INSERT (R187). -/
def execLookupInsert (c : Nat) (o : Operands) (s : State) : Out := s.runOut c o fun p v => p == 0x113 && hOp v == 2
/-- LOOKUP_DELETE (R187). -/
def execLookupDelete (c : Nat) (o : Operands) (s : State) : Out := s.runOut c o fun p v => p == 0x113 && hOp v == 3
/-- DMA_GET (R188). -/
def execDmaGet (c : Nat) (o : Operands) (s : State) : Out := s.runOut c o fun p v => p == 0x114 && hOp v == 0
/-- DMA_PUT (R188). -/
def execDmaPut (c : Nat) (o : Operands) (s : State) : Out := s.runOut c o fun p v => p == 0x114 && hOp v == 1
/-- KN_ALLOC (R314). -/
def execKnAlloc (c : Nat) (o : Operands) (s : State) : Out :=
  s.runOut c o fun p _ => decide (0x300 ≤ p ∧ p < 0x320)
/-- KN_FREE (R316). -/
def execKnFree (c : Nat) (o : Operands) (s : State) : Out :=
  s.runOut c o fun p _ => decide (0x320 ≤ p ∧ p < 0x340)
/-- EV_RAISE (R523). -/
def execEvRaise (c : Nat) (o : Operands) (s : State) : Out := s.runOut c o fun p _ => p == 0x2000
/-- TBR_FR_LO_READ (R409). -/
def execTbrFrLoRead (c : Nat) (o : Operands) (s : State) : Out := s.runIn c o fun p => p == 0x2080

end Sys2Proof.Machine
end

