-- ==== Sys2Proof/Machine/DramRows.lean ====
section
/-! DEFINITION. Training, opening and error log of the DRAM controllers (R431, R432). -/

namespace Sys2Proof.Machine

open Sys2Proof

/-- The density that CAP names, in GiB of one channel's share: 2, 4, 8 or 16 (R436). -/
def capGib (cap : Nat) : Nat := 2 ^ cap

/-- A write of TRAIN = 1 starts training (R432). -/
def State.trainStart (s : State) (i : Nat) : State := (s.setFld (Reg.DDR_CTRL i) 1 1 1).setFld (Reg.DDR_CTRL i) 2 2 0

/-- TRAINING_DONE (R424, R432, R434): `density` is the capacity in GiB that each of the four channels reads. Every delay is
at its trained value, and the rounds of write tracking count from here (log entry 49). -/
def State.trainDone (s : State) (i : Nat) (ok : Bool) (density : List Nat) : State :=
  let r := Reg.DDR_CTRL i
  let cap := s.fld r 10 8
  let good := ok && cap != 0 && density.length == 4 && density.all fun d => d == capGib cap
  let s := (s.setFld r 1 1 0).setFld r 3 3 (!good).toNat
  let s := if good then s.setFld r 2 2 1 else s
  let s := { s with dram := { s.dram with
    trackFrom := Tab.set 0 s.dram.trackFrom i s.fr, trackCh := Tab.set 0 s.dram.trackCh i 0 } }
  (List.range 4).foldl (fun t ch => t.setDch i ch { t.dch i ch with
    openRow := [], lastRow := [], pred := [], readDelay := [], writeDelay := [] }) s

/-- TRAINING_DONE (R432). -/
def execTrainingDone (i : Nat) (ok : Bool) (density : List Nat) (s : State) : Out :=
  if decide (i < s.chip.ddrs) && s.flag (Reg.DDR_CTRL i) 1 then .next (s.trainDone i ok density) else .next s

/-- A read of DDR_ERR_POP (R431, R440): LEFT counts the entries left. -/
def State.ddrPop (s : State) : Word × State :=
  match s.dram.log with
  | [] => (0, s)
  | e :: rest =>
    (W (rest.length + 2 ^ 31),
      ((({ s with dram := { s.dram with log := rest } }).setReg Reg.DDR_ERR_ADDR e.addr).setReg Reg.DDR_ERR_INFO
        e.info).setReg Reg.DDR_ERR_TS e.ts)

/-- A read of ERR_POP (R530, R538). -/
def State.errPop (s : State) : Word × State :=
  match s.hub.errLog with
  | [] => (0, s)
  | e :: rest =>
    (W (rest.length + 2 ^ 31),
      ((({ s with hub := { s.hub with errLog := rest } }).setReg Reg.ERR_ADDR e.addr).setReg Reg.ERR_INFO
        e.info).setReg Reg.ERR_TS e.ts)

end Sys2Proof.Machine
end

