-- ==== Sys2Proof/Machine/Pace.lean ====
section
/-! DEFINITION. The Pace governor (R40 to R67): the computation at a window end, HOLD and its causes, AVSBus,
calibration and elastic throttling. The measurements of the canary rings, samplers and temperature monitors are
operands of the commands. -/

namespace Sys2Proof.Machine

open Sys2Proof

/-- HOLD (R54). -/
def State.hold (s : State) : Bool := s.flag Reg.PACE_STATUS 0
def State.paceEn (s : State) : Bool := s.flag Reg.PACE_CTRL 0
def State.paceManual (s : State) : Bool := s.flag Reg.PACE_CTRL 2
def State.turnCeil (s : State) : Nat := s.fld Reg.PACE_TURN_CEIL 11 0
def State.vset (s : State) : Nat := s.fld Reg.PACE_VDD 9 0
def State.vmin (s : State) : Nat := s.fld Reg.PACE_LIMITS 9 0
def State.vmax (s : State) : Nat := s.fld Reg.PACE_LIMITS 25 16
def State.avsFault (s : State) : Bool := s.flag Reg.PACE_STATUS 5

/-- The number of the window the free-running count stands in (R45). -/
def State.paceWindow (s : State) : Nat := s.fr / 10000

/-- Pace runs its control: EN = 1 outside Minimal mode (R64). -/
def State.paceRuns (s : State) : Bool := s.paceEn && !s.minimal

/-- The reasons of R56 in their order, but for re-arming. -/
def State.paceReason (s : State) : Option Nat :=
  if !s.paceRuns then some 1
  else if s.paceManual then some 7
  else if !s.flag Reg.PACE_STATUS 1 then some 2
  else if s.pace.predOver then some 3
  else if s.pace.turnOver then some 4
  else if s.avsFault then some 5
  else if s.pace.ceilChanged then some 6
  else none

/-- HOLD falls with a cause (R57); the re-arm count starts again (R54). -/
def State.holdFall (s : State) (cause : Nat) : State :=
  let s := ((s.setFld Reg.PACE_STATUS 0 0 0).setFld Reg.PACE_STATUS 8 8 1).setFld Reg.PACE_STATUS 15 12 cause
  let s := (s.bump Reg.PACE_HOLD_DROPS).setReg Reg.PACE_LAST_DROP_LO (W s.fr)
  let s := s.setReg Reg.PACE_LAST_DROP_HI (W (s.fr / 2 ^ 32))
  ({ s with pace := { s.pace with rearm := 0 } }).raise Ev.PACE_LIMIT

/-- Between window ends HOLD falls at once when a reason holds, and CAUSE shows the first (R55, R56). -/
def State.paceJudge (s : State) : State :=
  match s.paceReason with
  | some c => if s.hold then s.holdFall c else s.setFld Reg.PACE_STATUS 15 12 c
  | none => if s.hold then s else s.setFld Reg.PACE_STATUS 15 12 8

/-- A failed AVSBus transaction, or a good one (R53); two failures in a row declare a fault. -/
def State.avsDeclare (s : State) : State :=
  if s.avsFault then s
  else ((s.setFld Reg.PACE_STATUS 5 5 1).bumpF Reg.PACE_AVS 23 16).paceJudge

def State.avsResult (s : State) (ok : Bool) : State :=
  let n := if ok then 0 else s.pace.avsFails + 1
  let s := { s with pace := { s.pace with avsFails := n } }
  if 2 ≤ n then s.avsDeclare else s

/-- AVS_WRITE_VOUT (R50, R51, R53): a Write Vout that is due goes out to the rail of PACE_AVS with a commit, at
most one per window, unless a fault stands. -/
def execAvsWriteVout (ok : Bool) (s : State) : Out :=
  if s.pace.writeDue && ((s.minimal || (s.paceEn && !s.avsFault)) && s.pace.writeWin != s.paceWindow + 1) then
    let s := s.pin (.avsWrite (s.fld Reg.PACE_AVS 3 0) s.vset)
    let s := { s with pace :=
      { s.pace with
        writeDue := false, writeWin := s.paceWindow + 1, lastCommit := if ok then some s.fr else s.pace.lastCommit } }
    .next (s.avsResult ok)
  else .next s

/-- VREAD_MV (R72); the spec states no value where the reading does not fit its field (log entry 5). -/
def State.setVread (s : State) (mv : Nat) : State :=
  if mv < 1024 then s.setFld Reg.PACE_VDD 25 16 mv
  else let (v, s) := s.free
       s.setFld Reg.PACE_VDD 25 16 v.toNat

/-- AVS_READ_VOUT (R50, R51, R53, R72): the one Read Vout of a window, at its end before the computation (log
entry 15). -/
def execAvsReadVout (ok : Bool) (mv : Nat) (s : State) : Out :=
  if (s.paceEn || s.minimal) && s.pace.readWin != s.paceWindow + 1 then
    let s := s.pin (.avsRead (s.fld Reg.PACE_AVS 3 0))
    let s := { s with pace := { s.pace with readWin := s.paceWindow + 1 } }
    let near := decide (mv ≤ s.vset + 15 ∧ s.vset ≤ mv + 15)
    let s := if ok then s.setVread mv else s
    if ok && (s.avsFault && near) then
      let s := s.setFld Reg.PACE_STATUS 5 5 0
      .next ({ s with pace := { s.pace with avsFails := 0, cleared := true } }).paceJudge
    else
      let s := s.avsResult ok
      let settled := match s.pace.lastCommit with
        | none => true
        | some t => decide (t + 8000 < s.fr)
      .next (if ok && (!near && settled) then s.avsDeclare else s)
  else .next s

/-- A picosecond value in a 12-bit field; the spec states none for a value that does not fit (log entry 5). -/
def State.setPs (s : State) (off ps : Nat) : State :=
  if ps < 4096 then s.setFld off 11 0 ps
  else let (v, s) := s.free
       s.setFld off 11 0 v.toNat

/-- The longest of a pack's four ring means (R43) and its ring, the lowest on a tie (log entry 48). -/
def ringLongest (l : List Nat) : Nat × Nat :=
  (List.range 4).foldl (fun (best : Nat × Nat) k => if best.1 < l.getD k 0 then (l.getD k 0, k) else best) (0, 0)

/-- CANARY_p in picoseconds (R43): a mean in 1/256 ns, rounded up. -/
def canaryPs (x : PaceMeas) (p : Nat) : Nat := ceilDiv ((ringLongest (x.rings.getD p [])).1 * 1000) 256

/-- LIVE_MAX_p of the window that ends (R44). -/
def State.liveMax (s : State) (x : PaceMeas) (p : Nat) : Nat :=
  max (Tab.get 0 s.pace.liveMax p) (x.liveMax.getD p 0)

/-- SAMPLES_p of the window (R44). -/
def State.samples (s : State) (p : Nat) : Nat := Tab.get 0 s.pace.samples p

/-- What the rings and the sampler of a present pack report at every window end, controlled or not (R43, R81). -/
def State.paceReport (s : State) (x : PaceMeas) (p : Nat) : State :=
  let s := (s.setReg (Reg.PACE_PK_CANARY p) (W ((ringLongest (x.rings.getD p [])).2 * 0x10000))).setPs
    (Reg.PACE_PK_CANARY p) (canaryPs x p)
  (s.setReg (Reg.PACE_PK_LIVE p) (W (min (s.samples p) 65535 * 0x10000))).setPs (Reg.PACE_PK_LIVE p) (s.liveMax x p)

/-- PRED_p (R46, R47). -/
def pacePred (can ratio margin : Nat) : Nat := ceilDiv (can * ratio * (256 + margin)) (256 * 4096)

/-- The computation of R46 for one present pack: its new ratio and windows; answers PRED_p. -/
def State.pacePack (s : State) (x : PaceMeas) (p : Nat) : Nat × State :=
  let can := canaryPs x p
  let live := s.liveMax x p
  let n := s.samples p
  let old := s.fld (Reg.PACE_PK_RATIO p) 15 0
  let lw := s.fld (Reg.PACE_PK_CAL p) 6 0
  let iw := s.fld (Reg.PACE_PK_CAL p) 14 8
  let isLive := decide (max (s.fld Reg.PACE_CFG 7 0) 1 ≤ n)
  let (open0, s) := if isLive && can == 0 then s.free else (0, s)
  let r := if can = 0 then open0.toNat % 2 ^ 16 else ceilDiv (live * 4096) can
  let ratio :=
    if isLive then (if old < r then r else old - (old - r) / 2 ^ s.fld Reg.PACE_CFG2 7 4) else old
  let ratio := min (max ratio 0x800) 0x2000
  let lw := if isLive then min (lw + 1) 64 else lw
  let iw := if isLive then iw else min (iw + 1) 64
  let s := s.setReg (Reg.PACE_PK_RATIO p) (W ratio)
  let s := s.setReg (Reg.PACE_PK_CAL p) (W (lw + iw * 256 + (decide (lw = 64 ∨ iw = 64)).toNat * 0x10000))
  (pacePred can ratio (s.fld Reg.PACE_CFG 15 8), s)

/-- The largest value of a list by pack, the lowest index on a tie (R71). -/
def maxAt (l : List (Nat × Nat)) : Nat × Nat :=
  l.foldl (fun best x => if best.1 < x.1 then x else best) (l.headD (0, 0))

/-- VSET after the window (R46, R49, R53, R59). -/
def State.newVset (s : State) (pred : Nat) : Nat :=
  if s.avsFault || s.pace.cleared then s.vset
  else if s.paceManual then min (max (s.fld Reg.PACE_CTRL 17 8) s.vmin) s.vmax / 5 * 5
  else
    let v := min (max s.vset s.vmin) s.vmax
    let sens := s.fld Reg.PACE_SLEW 13 8
    let up := s.turnCeil - s.fld Reg.PACE_CFG 23 16
    let dn := up - s.fld Reg.PACE_CFG 31 24
    if up < pred then min s.vmax (v + 5 * min (s.fld Reg.PACE_SLEW 2 0) (ceilDiv (pred - up) sens))
    else if pred < dn then max s.vmin (v - 5 * min (s.fld Reg.PACE_SLEW 6 4) ((dn - pred) / sens))
    else v

/-- Every present pack is calibrated (R61). -/
def State.calibrated (s : State) : Bool := (List.range s.chip.packs).all fun p => s.flag (Reg.PACE_PK_CAL p) 16

/-- The throttle level after the window (R65, R66). -/
def State.throttle (s : State) (pred : Nat) (tj : Int) : State :=
  let lvl := s.fld Reg.PACE_STATUS 19 16
  let top := s.fld Reg.PACE_THROT 11 8
  let hot := s.flag Reg.PACE_CTRL 1 && (decide (0 < top) &&
    ((s.vset == s.vmax && decide (s.turnCeil - s.fld Reg.PACE_CFG 23 16 < pred)) ||
      decide ((s.fld Reg.PACE_THROT 7 0 : Int) ≤ tj)))
  let new := if hot then min (lvl + 1) top else lvl - 1
  let s := if lvl = 0 ∧ new = 1 then { s with pace := { s.pace with latched := s.pace.created } } else s
  s.setFld Reg.PACE_STATUS 19 16 new

/-- HOLD at a window end (R54 to R56, R63). -/
def State.paceDecide (s : State) : State :=
  let clean := !s.pace.predOver && (!s.pace.turnOver && !s.avsFault)
  let n := if clean then min (s.pace.rearm + 1) 16 else 0
  let s := { s with pace := { s.pace with rearm := n, ceilChanged := false } }
  match s.paceReason with
  | some _ => s.paceJudge
  | none =>
    if n < max (s.fld Reg.PACE_CFG2 3 0) 1 then
      (if s.hold then s.holdFall 8 else s.setFld Reg.PACE_STATUS 15 12 8)
    else
      let s := (s.setFld Reg.PACE_STATUS 0 0 1).setFld Reg.PACE_STATUS 15 12 0
      { s with pace := { s.pace with everHeld := true } }

/-- The count stands at a window boundary that has not been computed yet (R45). -/
def State.windowDue (s : State) : Bool := s.fr % 10000 == 0 && decide (s.pace.win < s.paceWindow)

/-- A new window opens at the boundary: the sampler's two values start again and the jobs made in the old one
are kept (R44, R66). -/
def State.windowOpen (s : State) : State :=
  { s with pace := { s.pace with
    win := s.paceWindow, created := s.pace.made, made := 0, liveMax := [], samples := [] } }

/-- The computation of R46 with HOLD, calibration and throttling (R53 to R56, R61, R63, R65) at a window end. -/
def State.paceCompute (s : State) (x : PaceMeas) : State :=
  let s := s.setReg Reg.PACE_WIN_CNT (s.reg Reg.PACE_WIN_CNT + 1)
  let ps := List.range s.chip.packs
  let (preds, s) := ps.foldl (fun (a : List (Nat × Nat) × State) p =>
    let (v, t) := a.2.pacePack x p
    (a.1 ++ [(v, p)], t)) ([], s)
  let pred := maxAt preds
  let obs := maxAt (ps.map fun p => (s.liveMax x p, p))
  let s := (s.setReg Reg.PACE_PRED (W (pred.2 * 0x10000))).setPs Reg.PACE_PRED pred.1
  let s := (s.setReg Reg.PACE_TURN_OBS (W (obs.2 * 0x10000))).setPs Reg.PACE_TURN_OBS obs.1
  let s := if s.calibrated then s.setFld Reg.PACE_STATUS 1 1 1 else s
  let v := s.newVset pred.1
  let s := { s with pace := { s.pace with
    writeDue := s.pace.writeDue || (v != s.vset)
    predOver := decide (s.turnCeil < pred.1)
    turnOver := decide (s.turnCeil < obs.1)
    cleared := false } }
  let s := (s.setFld Reg.PACE_VDD 9 0 v).paceDecide
  let bw := s.fld Reg.PACE_CFG2 19 8
  let s := if bw ≠ 0 ∧ bw ≤ (s.reg Reg.PACE_WIN_CNT).toNat ∧ !s.pace.everHeld then
      s.setFld Reg.PACE_STATUS 4 4 1 else s
  s.throttle pred.1 x.tj

/-- PACE_WINDOW_END (R43 to R49, R53 to R66): at the boundary of a window, once, what the rings and samplers
report; the computation only while Pace runs its control (R64). -/
def execPaceWindowEnd (x : PaceMeas) (s : State) : Out :=
  if s.windowDue then
    let s := (List.range s.chip.packs).foldl (fun t p => t.paceReport x p) s
    .next (if s.paceRuns then (s.paceCompute x).windowOpen else s.windowOpen)
  else .next s


/-- SAMPLER_ROTATE (R44): a microsecond after its last move the sampler of a present pack moves to the next of
its 16 engines. -/
def execSamplerRotate (p : Nat) (s : State) : Out :=
  if p < s.chip.packs ∧ Tab.get 0 s.pace.rotAt p + 1000 ≤ s.fr then
    .next { s with pace := { s.pace with
      sampler := Tab.set 0 s.pace.sampler p ((Tab.get 0 s.pace.sampler p + 1) % 16)
      rotAt := Tab.set 0 s.pace.rotAt p s.fr } }
  else .next s

/-- SAMPLED_TURN_OVER_CEIL (R44, R55): a measured turn longer than TURN_CEIL counts in LIVE_MAX_p and drops HOLD
at once. -/
def execSampledTurnOverCeil (p ps : Nat) (s : State) : Out :=
  if p < s.chip.packs ∧ s.turnCeil < ps then
    let s := { s with pace := { s.pace with
      liveMax := Tab.set 0 s.pace.liveMax p (max (Tab.get 0 s.pace.liveMax p) ps) } }
    .next (if s.paceRuns then ({ s with pace := { s.pace with turnOver := true } }).paceJudge else s)
  else .next s

/-- EN goes from 0 to 1 (R60): what the samplers have measured in the window so far is no longer used; PK_CANARY
and PK_LIVE stand until the next window end (log entry 48). -/
def State.paceStart (s : State) : State :=
  let s := s.setFld Reg.PACE_VDD 9 0 (min (max 850 s.vmin) s.vmax)
  let s := (List.range s.chip.packs).foldl (fun t p =>
    (t.setReg (Reg.PACE_PK_RATIO p) (t.reg Reg.PACE_FUSE_RATIO)).setReg (Reg.PACE_PK_CAL p) 0) s
  let s := ((s.setReg Reg.PACE_WIN_CNT 0).setFld Reg.PACE_STATUS 1 1 0).setFld Reg.PACE_STATUS 4 4 0
  ({ s with pace := { s.pace with
      rearm := 0, writeDue := true, cleared := false, predOver := false, turnOver := false
      ceilChanged := false, everHeld := false, liveMax := [], samples := [] } }).paceJudge

/-- EN is cleared (R55, R63 to R65): VSET is held and the calibration state is discarded; PACE_PK_RATIO reads the
last ratio until EN rises (DESIGN CHOICE, log entry 48). -/
def State.paceStop (s : State) : State :=
  let s := s.paceJudge
  let s := (List.range s.chip.packs).foldl (fun t p => t.setReg (Reg.PACE_PK_CAL p) 0) s
  let s := ((s.setFld Reg.PACE_STATUS 1 1 0).setFld Reg.PACE_STATUS 4 4 0).setFld Reg.PACE_STATUS 19 16 0
  { s with pace := { s.pace with rearm := 0, everHeld := false, predOver := false, turnOver := false } }

/-- A write of PACE_CTRL that takes effect (R55, R59, R60, R64, R68). -/
def State.wrPaceCtrl (s : State) (v : Word) : State :=
  let was := s.paceEn
  let s := s.setReg Reg.PACE_CTRL (v &&& 0x3FF07)
  if s.minimal then s
  else if !was && s.paceEn then s.paceStart
  else if was && !s.paceEn then s.paceStop
  else s.paceJudge

/-- A write of PACE_TURN_CEIL (R55, R70); answers whether the value is legal. What the last window end found of
the old ceiling stands until the next (DESIGN CHOICE, log entry 48). -/
def State.wrTurnCeil (s : State) (v : Word) : State × Bool :=
  let c := getF v 11 0
  if c < 550 ∨ 1200 < c then (s, false)
  else if c = s.turnCeil then (s, true)
  else
    let s := s.setReg Reg.PACE_TURN_CEIL (W c)
    (({ s with pace := { s.pace with ceilChanged := true, rearm := 0 } }).paceJudge, true)

/-- Entry to Minimal mode (R55, R64, R65): HOLD falls, the level returns to 0 and 850 mV is commanded once. -/
def State.paceMinimal (s : State) : State :=
  let s := (s.setFld Reg.PACE_VDD 9 0 850).setFld Reg.PACE_STATUS 19 16 0
  ({ s with pace := { s.pace with writeDue := true } }).paceJudge

end Sys2Proof.Machine
end

