-- ==== Sys2Proof/Machine/Signature.lean ====
section
/-! DEFINITION. What the ROM checks an image with (R505): SHA-384 and SHA-256 (FIPS 180-4), and the verification of
an ECDSA signature on the curve P-384 (FIPS 186-4). -/

namespace Sys2Proof.Machine

open Sys2Proof

/-! ### SHA-2 -/

/-- The round constants of SHA-384; the upper halves of the first 64 are those of SHA-256. -/
def shaK : List Nat :=
  [0x428A2F98D728AE22, 0x7137449123EF65CD, 0xB5C0FBCFEC4D3B2F, 0xE9B5DBA58189DBBC] ++
  [0x3956C25BF348B538, 0x59F111F1B605D019, 0x923F82A4AF194F9B, 0xAB1C5ED5DA6D8118] ++
  [0xD807AA98A3030242, 0x12835B0145706FBE, 0x243185BE4EE4B28C, 0x550C7DC3D5FFB4E2] ++
  [0x72BE5D74F27B896F, 0x80DEB1FE3B1696B1, 0x9BDC06A725C71235, 0xC19BF174CF692694] ++
  [0xE49B69C19EF14AD2, 0xEFBE4786384F25E3, 0x0FC19DC68B8CD5B5, 0x240CA1CC77AC9C65] ++
  [0x2DE92C6F592B0275, 0x4A7484AA6EA6E483, 0x5CB0A9DCBD41FBD4, 0x76F988DA831153B5] ++
  [0x983E5152EE66DFAB, 0xA831C66D2DB43210, 0xB00327C898FB213F, 0xBF597FC7BEEF0EE4] ++
  [0xC6E00BF33DA88FC2, 0xD5A79147930AA725, 0x06CA6351E003826F, 0x142929670A0E6E70] ++
  [0x27B70A8546D22FFC, 0x2E1B21385C26C926, 0x4D2C6DFC5AC42AED, 0x53380D139D95B3DF] ++
  [0x650A73548BAF63DE, 0x766A0ABB3C77B2A8, 0x81C2C92E47EDAEE6, 0x92722C851482353B] ++
  [0xA2BFE8A14CF10364, 0xA81A664BBC423001, 0xC24B8B70D0F89791, 0xC76C51A30654BE30] ++
  [0xD192E819D6EF5218, 0xD69906245565A910, 0xF40E35855771202A, 0x106AA07032BBD1B8] ++
  [0x19A4C116B8D2D0C8, 0x1E376C085141AB53, 0x2748774CDF8EEB99, 0x34B0BCB5E19B48A8] ++
  [0x391C0CB3C5C95A63, 0x4ED8AA4AE3418ACB, 0x5B9CCA4F7763E373, 0x682E6FF3D6B2B8A3] ++
  [0x748F82EE5DEFB2FC, 0x78A5636F43172F60, 0x84C87814A1F0AB72, 0x8CC702081A6439EC] ++
  [0x90BEFFFA23631E28, 0xA4506CEBDE82BDE9, 0xBEF9A3F7B2C67915, 0xC67178F2E372532B] ++
  [0xCA273ECEEA26619C, 0xD186B8C721C0C207, 0xEADA7DD6CDE0EB1E, 0xF57D4F7FEE6ED178] ++
  [0x06F067AA72176FBA, 0x0A637DC5A2C898A6, 0x113F9804BEF90DAE, 0x1B710B35131C471B] ++
  [0x28DB77F523047D84, 0x32CAAB7B40C72493, 0x3C9EBE0A15C9BEBC, 0x431D67C49C100D4C] ++
  [0x4CC5D4BECB3E42B6, 0x597F299CFC657E2A, 0x5FCB6FAB3AD6FAEC, 0x6C44198C4A475817]

def sha256Init : List Nat :=
  [0x6A09E667, 0xBB67AE85, 0x3C6EF372, 0xA54FF53A] ++ [0x510E527F, 0x9B05688C, 0x1F83D9AB, 0x5BE0CD19]

def sha384Init : List Nat :=
  [0xCBBB9D5DC1059ED8, 0x629A292A367CD507, 0x9159015A3070DD17, 0x152FECD8F70E5939] ++
  [0x67332667FFC00B31, 0x8EB44A8768581511, 0xDB0C2E0D64F98FA7, 0x47B5481DBEFA4FA4]

/-- Rotation right of a word of w bits. -/
def rotrW (w n x : Nat) : Nat := x / 2 ^ n + x % 2 ^ n * 2 ^ (w - n)

/-- Three rotations XORed. -/
def bigSigma (w a b c x : Nat) : Nat := rotrW w a x ^^^ rotrW w b x ^^^ rotrW w c x

/-- Two rotations and a shift XORed. -/
def smallSigma (w a b c x : Nat) : Nat := rotrW w a x ^^^ rotrW w b x ^^^ x / 2 ^ c

/-- The sigma functions of both word sizes. -/
def shaS0 (w x : Nat) : Nat := if w = 32 then bigSigma 32 2 13 22 x else bigSigma 64 28 34 39 x
def shaS1 (w x : Nat) : Nat := if w = 32 then bigSigma 32 6 11 25 x else bigSigma 64 14 18 41 x
def shas0 (w x : Nat) : Nat := if w = 32 then smallSigma 32 7 18 3 x else smallSigma 64 1 8 7 x
def shas1 (w x : Nat) : Nat := if w = 32 then smallSigma 32 17 19 10 x else smallSigma 64 19 61 6 x

/-- The message schedule, newest first, with n more words. -/
def shaSchedule (w : Nat) : Nat → List Nat → List Nat
  | 0, l => l
  | n + 1, l =>
    withNat ((shas1 w (l.getD 1 0) + l.getD 6 0 + shas0 w (l.getD 14 0) + l.getD 15 0) % 2 ^ w) fun x =>
      shaSchedule w n (x :: l)

/-- One round on the eight working variables. -/
def shaRound (w : Nat) (v : List Nat) (k x : Nat) : List Nat :=
  match v with
  | [a, b, c, d, e, f, g, h] =>
    withNat (h + shaS1 w e + ((e &&& f) ^^^ ((2 ^ w - 1 - e) &&& g)) + k + x) fun t1 =>
      withNat ((t1 + shaS0 w a + ((a &&& b) ^^^ (a &&& c) ^^^ (b &&& c))) % 2 ^ w) fun a' =>
        withNat ((d + t1) % 2 ^ w) fun e' => [a', a, b, c, e', e, f, g]
  | l => l

/-- One block of the message. -/
def shaBlock (w : Nat) (hs : List Nat) (block : List Byte) : List Nat :=
  let m := (List.range 16).map fun i => beNat ((block.drop (i * (w / 8))).take (w / 8))
  let ws := (shaSchedule w (if w = 32 then 48 else 64) m.reverse).reverse
  let ks := if w = 32 then (shaK.take 64).map (· / 2 ^ 32) else shaK
  let v := (List.zip ks ws).foldl (fun v p => shaRound w v p.1 p.2) hs
  List.zipWith (fun a b => (a + b) % 2 ^ w) hs v

/-- All blocks of a padded message. -/
def shaBlocks (w : Nat) : Nat → List Nat → List Byte → List Nat
  | 0, hs, _ => hs
  | n + 1, hs, m => shaBlocks w n (shaBlock w hs (m.take (2 * w))) (m.drop (2 * w))

/-- A message padded to whole blocks, its length in bits at the end. -/
def shaPad (w : Nat) (m : List Byte) : List Byte :=
  let bl := 2 * w
  let len := m.length + 1 + w / 4
  m ++ 0x80 :: List.replicate ((bl - len % bl) % bl) 0 ++ beBytes (w / 4) (m.length * 8)

def sha2 (w : Nat) (init : List Nat) (m : List Byte) : List Byte :=
  let p := shaPad w m
  (shaBlocks w (p.length / (2 * w)) init p).flatMap fun x => beBytes (w / 8) x

/-- SHA-256. -/
def sha256 (m : List Byte) : List Byte := sha2 32 sha256Init m

/-- SHA-384. -/
def sha384 (m : List Byte) : List Byte := (sha2 64 sha384Init m).take 48

/-! ### P-384 -/

namespace P384

def p : Nat := 2 ^ 384 - 2 ^ 128 - 2 ^ 96 + 2 ^ 32 - 1
def n : Nat :=
  0xFFFFFFFFFFFFFFFFFFFFFFFFFFFFFFFFFFFFFFFFFFFFFFFFC7634D81F4372DDF581A0DB248B0A77AECEC196ACCC52973
def b : Nat :=
  0xB3312FA7E23EE7E4988E056BE3F82D19181D9C6EFE8141120314088F5013875AC656398D8A2ED19D2A85C8EDD3EC2AEF
def gx : Nat :=
  0xAA87CA22BE8B05378EB1C71EF320AD746E1D3B628BA79B9859F741E082542A385502F25DBF55296C3A545E3872760AB7
def gy : Nat :=
  0x3617DE4A96262C6F5D9E98BF9292DC29F8F41DBD289A147CE9DA3113B5F0B8C00A60B1CE1D7E819D7A431D7C90EA0E5F

def mul (x y : Nat) : Nat := x * y % p
def sub (x y : Nat) : Nat := (x + p - y) % p

/-- A point in Jacobian coordinates; z = 0 is the point at infinity. -/
structure Point where
  x : Nat
  y : Nat
  z : Nat
  deriving DecidableEq, Repr, Inhabited

/-- A point, its coordinates evaluated. -/
def mk3 (x y z : Nat) : Point := withNat x fun x => withNat y fun y => withNat z fun z => ⟨x, y, z⟩

def infinity : Point := ⟨1, 1, 0⟩

def double (q : Point) : Point :=
  withNat (mul q.z q.z) fun d => withNat (mul q.y q.y) fun g => withNat (mul q.x g) fun be =>
    withNat (3 * mul (sub q.x d) ((q.x + d) % p) % p) fun al =>
      withNat (sub (mul al al) (8 * be % p)) fun x =>
        mk3 x (sub (mul al (sub (4 * be % p) x)) (8 * mul g g % p)) (2 * mul q.y q.z % p)

def add (u v : Point) : Point :=
  if u.z = 0 then v
  else if v.z = 0 then u
  else
    withNat (mul u.z u.z) fun z1 => withNat (mul v.z v.z) fun z2 =>
      withNat (mul u.x z2) fun u1 => withNat (mul (mul u.y v.z) z2) fun s1 =>
        withNat (sub (mul v.x z1) u1) fun h => withNat (sub (mul (mul v.y u.z) z1) s1) fun r =>
          if h = 0 then (if r = 0 then double u else infinity)
          else
            withNat (mul h h) fun h2 => withNat (mul h h2) fun h3 => withNat (mul u1 h2) fun w =>
              withNat (sub (mul r r) ((h3 + 2 * w) % p)) fun x =>
                mk3 x (sub (mul r (sub w x)) (mul s1 h3)) (mul (mul h u.z) v.z)

/-- u1 * G + u2 * Q from the highest bit on, the k lowest bits left; `gq` is G + Q. -/
def combine (g q gq : Point) (u1 u2 : Nat) : Nat → Point → Point
  | 0, a => a
  | k + 1, a =>
    let d := double a
    combine g q gq u1 u2 k
      (match u1.testBit k, u2.testBit k with
        | false, false => d
        | true, false => add d g
        | false, true => add d q
        | true, true => add d gq)

/-- x ^ e mod m, the k lowest bits of e left. -/
def powMod (m x e : Nat) : Nat → Nat → Nat
  | 0, a => a
  | k + 1, a => withNat (if e.testBit k then a * a % m * x % m else a * a % m) fun t => powMod m x e k t

/-- The inverse modulo the group order, which is prime. -/
def invOrder (x : Nat) : Nat := powMod n x (n - 2) 384 1

/-- An affine point on the curve. -/
def onCurve (x y : Nat) : Bool :=
  decide (x < p ∧ y < p) && mul y y == (mul (mul x x) x + b + sub 0 (3 * x % p)) % p

end P384

/-- The signature r, s verifies over `msg` under the key (x, y), each 48 bytes big-endian (R505). -/
def ecdsaP384 (key sig msg : List Byte) : Bool :=
  let x := beNat (key.take 48)
  let y := beNat (key.drop 48)
  let r := beNat (sig.take 48)
  let s := beNat (sig.drop 48)
  if P384.onCurve x y && decide (0 < r ∧ r < P384.n ∧ 0 < s ∧ s < P384.n) then
    withNat (P384.invOrder s) fun w => withNat (beNat (sha384 msg) * w % P384.n) fun u1 =>
      withNat (r * w % P384.n) fun u2 =>
        let g : P384.Point := ⟨P384.gx, P384.gy, 1⟩
        let q : P384.Point := ⟨x, y, 1⟩
        let t := P384.combine g q (P384.add g q) u1 u2 384 P384.infinity
        t.z != 0 && (P384.mul r (P384.mul t.z t.z) == t.x ||
          (decide (r + P384.n < P384.p) && P384.mul (r + P384.n) (P384.mul t.z t.z) == t.x))
  else false

end Sys2Proof.Machine
end

