-- ==== Sys2Proof/Machine/Fabric.lean ====
section
/-! DEFINITION. The Larust fabric (R441 to R458): links, hellos, link-state records, addresses, routes, data frames
on a link, credit, and Leash accesses of a peer. -/

namespace Sys2Proof.Machine

open Sys2Proof

/-! ### Links -/

/-- Hellos, election and routing run (R459, R512, R531). -/
def State.fabRuns (s : State) : Bool := s.chip.fabric && s.flag Reg.FAB_CFG 0 && s.running
/-- Quad q runs as an LFL link in service. -/
def State.lflOn (s : State) (q : Nat) : Bool := s.portKind (128 + q) == .lfl && s.portOn (128 + q)
/-- This device's UID (R447). -/
def State.ownUid (s : State) : BitVec 64 := s.chip.uid
/-- The address came from the FAB_ID pins (R447). -/
def State.strapped (s : State) : Bool := s.fld Reg.FAB_STAT 11 8 != 15
/-- The quads of the links that are up. -/
def State.upLinks (s : State) : List Nat := (List.range s.chip.quads).filter fun q => s.linkUp q

/-- This device's link-state record (R448). -/
def State.ownRecord (s : State) : LinkRecord :=
  { uid := s.ownUid, dev := s.fld Reg.FAB_STAT 3 0, addrV := s.flag Reg.FAB_STAT 4, strapped := s.strapped,
    links := s.upLinks.map fun q => (s.fld (Reg.FAB_LNK_STAT q) 7 4, (s.fabLink q).peerUid), hops := 0 }

/-- A record goes out on every up link but one (R448). -/
def State.flood (s : State) (r : LinkRecord) (but : Option Nat) : State :=
  s.upLinks.foldl (fun t q => if but = some q then t else t.pin (.record q r)) s

/-- This device's record goes out on every up link (R448). -/
def State.floodOwn (s : State) : State :=
  let r := s.ownRecord
  let s := { s with fab := { s.fab with own := if s.fab.own.contains r then s.fab.own else r :: s.fab.own } }
  s.flood r none

/-! ### The known devices (R448, R451) -/

/-- A device reached by links: its hop count and the first links of its shortest paths. -/
structure FabNode where
  uid : BitVec 64
  hops : Nat
  nh : List Nat
  deriving DecidableEq, Repr

/-- A path to a device joins those found at the same hop count. -/
def joinNode (acc : List FabNode) (u : BitVec 64) (h : Nat) (nh : List Nat) : List FabNode :=
  if acc.any fun n => n.uid == u then
    acc.map fun n => if n.uid = u then { n with nh := (n.nh ++ nh).dedup } else n
  else acc ++ [⟨u, h, nh⟩]

/-- The record held of a device. -/
def State.recordOf (s : State) (u : BitVec 64) : Option LinkRecord :=
  (s.fab.records.find? fun p => p.2.uid == u).map (·.2)

/-- The devices one hop beyond a frontier. -/
def State.beyond (s : State) (seen front : List FabNode) (h : Nat) : List FabNode :=
  front.foldl (fun acc n =>
    (((s.recordOf n.uid).map (·.links)).getD []).foldl (fun acc p =>
      if p.2 = s.ownUid ∨ seen.any (fun x => x.uid == p.2) then acc else joinNode acc p.2 h n.nh) acc) []

/-- The devices from a frontier on, at most n hops farther. -/
def State.spread (s : State) : Nat → List FabNode → List FabNode → Nat → List FabNode
  | 0, seen, _, _ => seen
  | n + 1, seen, front, h =>
    let new := s.beyond seen front h
    if new.isEmpty then seen else s.spread n (seen ++ new) new (h + 1)

/-- The devices within n hops of this one, itself left out. -/
def State.fabNodes (s : State) (n : Nat) : List FabNode :=
  let first := s.upLinks.foldl (fun acc q => joinNode acc (s.fabLink q).peerUid 1 [q]) []
  s.spread (n - 1) first first 2

/-- The UIDs this device knows over its links. -/
def State.knownUids (s : State) : List (BitVec 64) := (s.fabNodes 16).map (·.uid)

/-- The records of the devices within n hops. -/
def State.knownRecords (s : State) : List LinkRecord := s.knownUids.filterMap s.recordOf

/-- A change of the set of known UIDs restarts the wait of an election (R449). -/
def State.noteUids (s : State) (was : List (BitVec 64)) : State :=
  let now := s.knownUids
  if was.all (fun u => now.contains u) && now.all (fun u => was.contains u) then s
  else { s with fab := { s.fab with changed := s.fr } }

/-- UP falls (R442, R460): what waits for the control channel is lost with the link (log entry 16). -/
def State.linkDown (s : State) (q : Nat) : State :=
  if s.linkUp q then
    let was := s.knownUids
    let s := ((s.setFld (Reg.FAB_LNK_STAT q) 0 0 0).setFld (Reg.FAB_LNK_STAT q) 1 1 0).bump (Reg.FAB_LNK_DOWNS q)
    let s := (s.raise (Ev.FAB_LINK q)).setFabLink q { s.fabLink q with ctlq := [], ctlOut := 0 }
    (s.noteUids was).floodOwn
  else s

/-- UP rises: credits start at 0, and this device advertises its own (R442 to R444). -/
def State.linkRise (s : State) (q : Nat) (uid : BitVec 64) : State :=
  let was := s.knownUids
  let s := (s.setFld (Reg.FAB_LNK_STAT q) 0 0 1).setFabLink q { s.fabLink q with peerUid := uid, ctlq := [], ctlOut := 0 }
  let s := s.setEport (50 + q) { s.eport (50 + q) with fabCredit := [] }
  ((s.creditOut q).noteUids was).floodOwn

/-- CONFLICT is set (R450). -/
def State.conflict (s : State) : State :=
  if s.fabConflict then s else (s.setFld Reg.FAB_STAT 6 6 1).raise Ev.FAB_CONFLICT

/-- An elected device gives up its address and elects again (R450). -/
def State.yieldAddr (s : State) : State :=
  let s := (s.setFld Reg.FAB_STAT 4 4 0).setFld Reg.FAB_STAT 5 5 0
  let s := { s with fab := { s.fab with changed := s.fr } }
  s.floodOwn

/-- What a device's record says of addresses (R450). A record of this device's UID that this device never flooded is that of
a second device with its UID. -/
def State.judgeRecord (s : State) (r : LinkRecord) : State :=
  if r.uid = s.ownUid then
    if s.fab.own.contains { r with hops := 0 } then s else s.conflict
  else if 16 < s.knownUids.length + 1 then s.conflict
  else
    match s.fabDev with
    | none => s
    | some d =>
      if !r.addrV || r.dev != d then s
      else if s.strapped then (if r.strapped then s.conflict else s)
      else if r.strapped || decide (r.uid.toNat < s.ownUid.toNat) then s.yieldAddr
      else s

/-- A link-state record is stored and judged (R448 to R450). -/
def State.takeRecord (s : State) (r : LinkRecord) : State :=
  let was := s.knownUids
  let s := if r.uid = s.ownUid then s
    else { s with fab := { s.fab with records := Tab.insert s.fab.records r.uid.toNat r } }
  (s.noteUids was).judgeRecord r

/-! ### Hellos (R442, R448, R458) -/

/-- A signed 24-bit calibration register. -/
def State.calOf (s : State) (off : Nat) : Int := signed 24 (s.fld off 23 0)

/-- The gearbox correction of a hello received on quad q: none on a link with RS-FEC (R458). -/
def State.fabCorr (s : State) (q : Nat) : Int := if s.fld (Reg.PORT_QUAD q) 5 4 = 2 then 0 else (s.gbxCorr (4 * q) : Int)

/-- HELLO_SEND on quad q: its transmit count and the PTP time at that instant, both corrected to the balls. -/
def State.helloSend (s : State) (q : Nat) : State :=
  let cal := s.calOf (Reg.FAB_LNK_CAL_TX q)
  let t := (((s.fr * 256 : Nat) : Int) + cal).toNat
  let l := s.fabLink q
  let r := s.ownRecord
  let time := ((((s.domTime (s.fld Reg.FAB_CFG 5 4)).units / 2 ^ 32 : Nat) : Int) + cal).toNat
  let h : Hello :=
    { uid := s.ownUid, dev := r.dev, addrV := r.addrV, strapped := r.strapped, quad := q, echo := l.heard,
      t1 := t, peerTime := time, t2 := l.rxT2, t3 := t, named := l.rxT1, record := r }
  ({ s with fab := { s.fab with own := if s.fab.own.contains r then s.fab.own else r :: s.fab.own } }).pin (.hello q h)

/-- HELLO_SEND (R448): every up or training link sends a hello every 1 ms. -/
def execHelloSend (q : Nat) (s : State) : Out :=
  if s.fabRuns && s.lflOn q then .next (s.helloSend q) else .next s

/-- A register takes a number if it fits its 32 bits; else the spec states no value (log entry 5). -/
def State.setFit (s : State) (off : Nat) (lo hi v : Int) : State :=
  if lo ≤ v ∧ v < hi then s.setReg off (W (v % 2 ^ 32).toNat)
  else let (x, s) := s.free
       s.setReg off (W x.toNat)

/-- Link delay and offset from a hello received now (R458). t1 of the delay is the transmit count of the hello
that the peer received at t2, which its hello names (log entry 16). -/
def State.helloTime (s : State) (q : Nat) (h : Hello) : State :=
  let adj := -(s.calOf (Reg.FAB_LNK_CAL_RX q)) - s.fabCorr q
  let t4 := ((s.fr * 256 : Nat) : Int) + adj
  let delay := ((t4 - (h.named : Int)) - ((h.t3 : Int) - (h.t2 : Int))) / 2
  let own := (((s.domTime (s.fld Reg.FAB_CFG 5 4)).units / 2 ^ 32 : Nat) : Int) + adj
  let s := s.setFit (Reg.FAB_LNK_DELAY q) 0 (2 ^ 32) delay
  let s := s.setFit (Reg.FAB_LNK_OFS q) (-(2 ^ 31)) (2 ^ 31) ((h.peerTime : Int) + delay - own)
  s.setFld (Reg.FAB_LNK_STAT q) 1 1 1

/-- A hello arrives on quad q (R442, R450, R458). -/
def State.helloIn (s : State) (q : Nat) (h : Hello) : State :=
  let l := s.fabLink q
  let t4 := ((s.fr * 256 : Nat) : Int) - s.calOf (Reg.FAB_LNK_CAL_RX q) - s.fabCorr q
  let dev := s.fld (Reg.FAB_LNK_STAT q) 7 4
  let s := s.setFabLink q { l with lock := true, heard := h.uid, lastHello := s.fr, rxT1 := h.t1, rxT2 := t4.toNat }
  let s := (s.setFld (Reg.FAB_LNK_STAT q) 7 4 h.dev).setFld (Reg.FAB_LNK_STAT q) 11 8 h.quad
  let s := if h.uid = s.ownUid then s.conflict else s
  let s := if s.linkUp q && dev != h.dev % 16 then s.floodOwn else s
  let s := if s.linkUp q && l.peerUid != h.uid then s.linkDown q
    else if !s.linkUp q && h.echo == s.ownUid then s.linkRise q h.uid
    else s
  let s := s.takeRecord h.record
  if s.linkUp q && h.echo == s.ownUid then s.helloTime q h else s

/-- HELLO_RECEIVE (R458). -/
def execHelloReceive (q : Nat) (h : Hello) (s : State) : Out :=
  if s.fabRuns && s.lflOn q then .next (s.helloIn q h) else .next s

/-- DEAD_MS of silence; 0 and 1 act as 2 (R459). -/
def State.deadNs (s : State) : Nat := max 2 (s.fld Reg.FAB_CFG 11 8) * 1000000

/-- HELLO_TIMEOUT (R442). -/
def execHelloTimeout (q : Nat) (s : State) : Out :=
  if s.linkUp q && decide ((s.fabLink q).lastHello + s.deadNs ≤ s.fr) then .next (s.linkDown q) else .next s

/-- LOSS_OF_BLOCK_LOCK (R442). -/
def execLossOfBlockLock (q : Nat) (s : State) : Out :=
  let s := s.linkDown q
  .next ((s.setFabLink q { s.fabLink q with lock := false }).gbxUnlock (4 * q))

/-- LINK_STATE_RECORD (R448): stored, and forwarded up to 4 hops. -/
def execLinkStateRecord (q : Nat) (r : LinkRecord) (s : State) : Out :=
  if s.fabRuns && s.linkUp q then
    let s := s.takeRecord r
    .next (if r.uid ≠ s.ownUid ∧ r.hops < 3 then s.flood { r with hops := r.hops + 1 } (some q) else s)
  else .next s

/-- RECORD_FLOOD (R448). -/
def execRecordFlood (s : State) : Out :=
  if s.fabRuns then .next (s.floodOwn) else .next s

/-! ### Routes (R451, R454, R455) -/

/-- FAB_ROUTE of address d. An address that two devices claim has no route (R450); this device's own shows hop count
0 (log entry 16). -/
def State.routeWord (s : State) (nodes : List FabNode) (d : Nat) : Word :=
  let claim := nodes.filter fun n =>
    match s.recordOf n.uid with
    | some r => r.addrV && r.dev == d
    | none => false
  if s.fabDev = some d then (if claim.isEmpty then 8 else 0)
  else
    match claim with
    | [n] =>
      match (List.range 12).filter fun q => n.nh.contains q with
      | [] => 0
      | [a] => W (n.hops + 8 + a * 16)
      | a :: b :: _ => W (n.hops + 8 + a * 16 + b * 256 + 0x1000)
    | _ => 0

/-- The UID of the device at address d. -/
def State.uidAt (s : State) (nodes : List FabNode) (d : Nat) : BitVec 64 :=
  if s.fabDev = some d then s.ownUid
  else
    match nodes.find? fun n => ((s.recordOf n.uid).map fun r => r.addrV && r.dev == d).getD false with
    | some n => n.uid
    | none => 0

/-- UID held for address d (R459). -/
def State.peerUidReg (s : State) (d : Nat) : BitVec 64 :=
  BitVec.ofNat 64 ((s.reg (Reg.FAB_PEER_UID_LO d)).toNat + (s.reg (Reg.FAB_PEER_UID_HI d)).toNat * 2 ^ 32)

/-- The fabric pairs toward a lost peer: what is posted there is withdrawn (R455, R473). -/
def State.fabLost (s : State) (d : Nat) : State :=
  [0, 1].foldl (fun t f =>
    if Tab.get 0 t.ctl.fabDst f = d then
      { t with ctl := { t.ctl with wh := Tab.upd WhBlock.idle t.ctl.wh (8 + 2 * f) fun x => { x with lost := x.full } } }
    else t) s

/-- The new route of address d, with what a peer lost or gained brings (R455). -/
def State.routeOne (s : State) (nodes : List FabNode) (d : Nat) : State :=
  let old := s.reg (Reg.FAB_ROUTE d)
  let new := s.routeWord nodes d
  let u := s.uidAt nodes d
  let own := s.fabDev = some d
  let lost := bitOf old 3 && !own && (!bitOf new 3 || u != s.peerUidReg d)
  let gained := bitOf new 3 && !own && !bitOf old 3
  let s := s.setReg (Reg.FAB_ROUTE d) new
  let s := if bitOf new 3 then
      (s.setReg (Reg.FAB_PEER_UID_LO d) (W u.toNat)).setReg (Reg.FAB_PEER_UID_HI d) (W (u.toNat / 2 ^ 32))
    else s
  let s := if lost then (s.leashBreak (0x4000 + d)).fabLost d else s
  if lost || gained then s.raise Ev.FAB_PEER else s

/-- Shortest paths are computed again (R451). -/
def State.recompute (s : State) : State :=
  let nodes := s.fabNodes 4
  let changed := (List.range 16).any fun d =>
    getF (s.reg (Reg.FAB_ROUTE d)) 12 3 != getF (s.routeWord nodes d) 12 3 && s.fabDev != some d
  let s := (List.range 16).foldl (fun t d => t.routeOne nodes d) s
  let s := s.setFld Reg.FAB_STAT 20 16 (nodes.length + 1)
  if changed then s.bump Reg.FAB_REROUTES else s

/-- ROUTE_RECOMPUTE (R451). -/
def execRouteRecompute (s : State) : Out := if s.fabRuns then .next s.recompute else .next s

/-- The address an electing device takes (R449): the lowest free one, after those that electing devices of lower UID
take. -/
def State.electAddr (s : State) : Option Nat :=
  let rs := s.knownRecords
  let free := (List.range 16).filter fun d => !(rs.any fun r => r.addrV && r.dev == d)
  let before := (rs.filter fun r => !r.addrV && !r.strapped && decide (r.uid.toNat < s.ownUid.toNat)).length
  free[before]?

/-- ELECTION (R449). -/
def execElection (s : State) : Out :=
  if s.fabRuns && !s.strapped && s.fabDev.isNone && decide (s.fab.changed + 10000000 ≤ s.fr) then
    match s.electAddr with
    | some d =>
      let s := ((s.setFld Reg.FAB_STAT 3 0 d).setFld Reg.FAB_STAT 4 4 1).setFld Reg.FAB_STAT 5 5 1
      .next (s.floodOwn)
    | none => .next s
  else .next s

/-! ### Frames (R443, R445, R446, R453) -/

/-- The header with one more device crossed. -/
def hopped (b : List Byte) : List Byte := b.set 2 (byteAt b 2 + 8)

/-- A frame in transit leaves for its next hop (R453). -/
def State.transit (s : State) (q : Nat) (b : List Byte) : State :=
  let c := hdrF b 2 2 0
  if 3 ≤ hdrHops b then (s.bump Reg.FAB_TTL_DROP).creditOut q
  else
    match s.nextHop (hdrDst b) (hdrOd b) with
    | none => (s.bump Reg.FAB_NOROUTE).creditOut q
    | some n =>
      if !s.linkUp n then (s.bump Reg.FAB_NOROUTE).creditOut q
      else if s.fabConflict then (s.dropped .policy (128 + q)).creditOut q
      else
        let f := b.drop 16
        let pool := s.fld (if c < 4 then Reg.PORT_POOL_LO (128 + q) else Reg.PORT_POOL_HI (128 + q)) (8 * (c % 4) + 4) (8 * (c % 4))
        match s.knAlloc pool (unitsOf f.length) with
        | (none, u) => (u.dropped .cells (128 + q)).creditOut q
        | (some h, u) =>
          let k := u.herd.nextOut
          let o : Output :=
            { port := 128 + n, cls := c, tailLen := f.length, cell := h, pool := pool, place := .path, order := k,
              fabHdr := (hopped b).take 16, routed := true }
          let u := (u.putFrame h f)
          let u := { u with herd := { u.herd with nextOut := k + 1 } }
          (u.setOut k o).creditOut q

/-- The frame of a good type 0 header: this device's own, or in transit. The sender hears of the units that are left
(R443). -/
def State.fabData (s : State) (q : Nat) (b : List Byte) (age : Nat) : State :=
  let f := b.drop 16
  if s.fabDev = some (hdrDst b) then
    if f.length < 60 ∨ 9596 < f.length then (s.dropped .badFrame (128 + q)).creditOut q
    else (s.stepTwo (128 + q) f (some ⟨hdrOd b, hdrF b 2 2 0, b.take 16⟩) (s.rxStamp (128 + q) age)).creditOut q
  else s.transit q b

/-- A frame arrives on a link (R445, R446). -/
def State.fabFrame (s : State) (q : Nat) (b : List Byte) (ok : Bool) (age : Nat) : State :=
  if !ok || hdrF b 0 3 0 != 1 || decide (3 < hdrType b) || decide (b.length < 16) then
    (s.bump (Reg.FAB_LNK_ERR q)).creditOut q
  else if hdrType b = 0 then s.fabData q b age
  else s

/-- FABRIC_FRAME_RECEIVE (R403, R453). -/
def execFabricFrameReceive (q : Nat) (bytes : List Byte) (rx : FabRx) (s : State) : Out :=
  if s.running && s.lflOn q && s.linkUp q then .next (s.fabFrame q bytes rx.fcsOk rx.age) else .next s

/-- CREDIT_UPDATE (R443): the control channel's credit comes back with it (log entry 16). -/
def execCreditUpdate (q : Nat) (credits : List Nat) (s : State) : Out :=
  if s.lflOn q && s.linkUp q then
    let x := 50 + q
    let s := s.setEport x { s.eport x with
      fabCredit := (List.range 8).foldl (fun (t : Tab Nat) c => Tab.set 0 t c (credits.getD c 0)) [] }
    .next ((s.setFabLink q { s.fabLink q with ctlOut := 0 }).ctlPump q)
  else .next s

/-! ### Leash accesses (R457) -/

/-- A Leash access by peer d (R457). -/
def State.fabLeash (s : State) (d off : Nat) (write : Bool) : State :=
  if off < 0x400000 ∨ 0x404000 ≤ off ∨ off % 4 ≠ 0 then s.fabStatus d 4
  else
    let i := (off - 0x400000) / 4
    if write then s.leashWrite i (0x4000 + d)
    else
      match s.leashRead i (0x4000 + d) with
      | (.status v, u) => u.fabStatus d v
      | (.stall, u) => u

/-- FABRIC_LEASH_ACCESS (R457). -/
def execFabricLeashAccess (d off : Nat) (write : Bool) (s : State) : Out :=
  if s.chip.fabric && decide (d < 16) && s.running then .next (s.fabLeash d off write) else .next s

end Sys2Proof.Machine
end

