-- ==== Sys2Proof/Machine/BootOps.lean ====
section
/-! DEFINITION. What a write of SYS_BOOT_CTRL and SYS_WDOG does (R507 to R509, R513, R517, R518). -/

namespace Sys2Proof.Machine

open Sys2Proof

/-- A self reset follows in 1 ms, if none is due earlier (R498, R507). -/
def State.selfResetSoon (s : State) : State :=
  { s with boot := { s.boot with resetAt := some ((s.boot.resetAt).getD (s.fr + 1000000)) } }

/-- An attempt records one REASON, the first (R499). -/
def State.noteReason (s : State) (r : Nat) : State :=
  if s.boot.failed then s
  else
    let t := s.setFld Reg.SYS_BOOT_STATUS 7 0 r
    { t with boot := { t.boot with failed := true } }

/-- REASON becomes `r` and a self reset follows (R507, R517). -/
def State.bootFail (s : State) (r : Nat) : State := (s.noteReason r).selfResetSoon

/-- DONE (R508). -/
def State.bootDone (s : State) : State :=
  (s.setFld Reg.SYS_BOOT_TRIES 3 0 0).setFld Reg.SYS_BOOT_STATUS 13 12 1

/-- A write of SYS_BOOT_CTRL: DONE, then a nonzero FAIL. Minimal mode ends by neither (R513, log entry 17). -/
def State.bootCtrl (s : State) (v : Word) : State :=
  if s.minimal then s
  else
    let s := if bitOf v 0 then s.bootDone else s
    if getF v 15 8 = 0 then s else s.bootFail (getF v 15 8)

/-- A write of SYS_WDOG restarts the count, with KICK or by the write of PERIOD_MS (R509, R518). -/
def State.wdogWrite (s : State) (v : Word) : State :=
  { s.setReg Reg.SYS_WDOG (W (getF v 15 0)) with boot := { s.boot with wdogAt := s.fr } }

/-- The watchdog count has reached PERIOD_MS (R509). -/
def State.wdogDue (s : State) : Bool :=
  let p := s.fld Reg.SYS_WDOG 15 0
  decide (0 < p ∧ s.boot.wdogAt + p * 1000000 ≤ s.fr)

end Sys2Proof.Machine
end

