-- ==== Sys2Proof/Machine/Debug.lean ====
section
/-! DEFINITION. The Debug block (R532 to R539): sessions, DBG_CMD, and the registers and memories of the selected
context. -/

namespace Sys2Proof.Machine

open Sys2Proof

/-- The context that DBG_SEL names. -/
def State.dbgCtx (s : State) : Nat :=
  s.fld Reg.DBG_SEL 4 0 * 128 + s.fld Reg.DBG_SEL 11 8 * 8 + s.fld Reg.DBG_SEL 18 16

/-- The pack that DBG_SEL names is present (R9, R539). -/
def State.dbgHere (s : State) : Bool := decide (s.fld Reg.DBG_SEL 4 0 < s.chip.packs)

/-! ### Sessions (R533) -/

/-- A write of ATTACH: 0 ends the session and breaks the locks of owner 0x5000 (R207, R533). -/
def State.dbgAttach (s : State) (v : Word) : State :=
  let s := s.setReg Reg.DBG_SESSION (W (v.toNat % 2))
  if bitOf v 0 then s else s.leashBreak 0x5000

/-! ### DBG_CMD (R534) -/

/-- The live contexts in scope: 0 context, 1 engine, 2 pack, 3 device. -/
def State.dbgScope (s : State) (scope : Nat) : List Nat :=
  let c := s.dbgCtx
  ((s.ctxs.filter fun p => p.2.live &&
    (match scope with
    | 0 => p.1 == c
    | 1 => p.1 / 8 == c / 8
    | 2 => p.1 / 128 == c / 128
    | _ => true)).map (·.1)).dedup

/-- A write of DBG_CMD (R534, R539). -/
def State.dbgCmd (s : State) (v : Word) : State :=
  let op := getF v 2 0
  let scope := getF v 5 4
  if op = 0 ∨ 5 ≤ op then s
  else if scope < 3 ∧ !s.dbgHere then s.dbgErr 3
  else
    let cs := s.dbgScope scope
    if cs.isEmpty then s.dbgErr 1
    else if op = 3 ∧ scope ≠ 0 then s
    else s.dbgGo op cs

/-! ### Registers of the selected context (R535, R539) -/

/-- PC as a debugger sees it: a context that waits, or that stands at a BRK, is at that instruction (R533, R534). -/
def Ctx.dbgPc (x : Ctx) : BitVec 16 := if x.wait == .none && !x.atBrk then x.pc else x.pc - BitVec.ofNat 16 x.waitLen

/-- DBG_STAT. -/
def State.dbgStat (s : State) : Word :=
  if s.dbgHere then
    let x := s.ctx s.dbgCtx
    W (x.halted.toNat + x.frozen.toNat * 2 + (x.stopped && x.wait != .none).toNat * 4 + x.live.toNat * 8
      + s.hub.dbgErr.toNat * 16 + x.dbgPc.toNat * 0x10000)
  else W 0x30

/-- The value of DBG_REG[n] of a context. -/
def Ctx.dbgGet (x : Ctx) (n : Nat) : Word :=
  if n < 16 then Tab.get 0 x.g n
  else if n < 32 then
    match n with
    | 16 => x.flags
    | 17 => x.mlo
    | 18 => x.mhi
    | 19 => x.polyLo
    | 20 => x.polyHi
    | 21 => W x.crcCfg.toNat
    | 22 => W x.dbgPc.toNat
    | 23 => W x.resume.toNat
    | _ => 0
  else W ((Tab.get 0 x.c ((n - 32) / 4)).toNat / 2 ^ (32 * ((n - 32) % 4)))

/-- The context with DBG_REG[n] written. A written PC is the address of the next instruction, or of the instruction
whose wait goes on (log entry 18). -/
def Ctx.dbgSet (x : Ctx) (n : Nat) (v : Word) : Ctx :=
  if n < 16 then { x with g := Tab.set 0 x.g n v }
  else if n < 32 then
    match n with
    | 16 => x.putFlags v
    | 17 => { x with mlo := v }
    | 18 => { x with mhi := v }
    | 19 => { x with polyLo := v }
    | 20 => { x with polyHi := v }
    | 21 => { x with crcCfg := BitVec.ofNat 3 v.toNat }
    | 22 =>
      let pc := BitVec.ofNat 16 v.toNat
      { x with pc := if x.wait == .none then pc else pc + BitVec.ofNat 16 x.waitLen, atBrk := false, multi := 0 }
    | 23 => { x with resume := BitVec.ofNat 16 v.toNat }
    | _ => x
  else
    let i := (n - 32) / 4
    { x with c := Tab.set 0 x.c i (setLane (Tab.get 0 x.c i) ((n - 32) % 4) v) }

/-- Why an access to DBG_REG[n] fails: an absent pack, a reserved index, a context that runs; 0 when it does not
fail. -/
def State.dbgDeny (s : State) (n : Nat) : Nat :=
  if !s.dbgHere then 3
  else if 24 ≤ n ∧ n < 32 then 4
  else if n < 64 ∧ !(s.ctx s.dbgCtx).stopped then 2
  else 0

/-- A read of DBG_REG[n]. -/
def State.dbgRegRead (s : State) (n : Nat) : Word × State :=
  let e := s.dbgDeny n
  if e ≠ 0 then (0, s.dbgErr e)
  else if 64 ≤ n then (Tab.get 0 (s.eng (s.dbgCtx / 8)).s (n - 64), s)
  else ((s.ctx s.dbgCtx).dbgGet n, s)

/-- A write of DBG_REG[n]: no SWR flag is set (R535). -/
def State.dbgRegWrite (s : State) (n : Nat) (v : Word) : State :=
  let e := s.dbgDeny n
  if e ≠ 0 then s.dbgErr e
  else if 64 ≤ n then s.updEng (s.dbgCtx / 8) fun g => { g with s := Tab.set 0 g.s (n - 64) v }
  else s.updCtx s.dbgCtx fun x => x.dbgSet n v

/-! ### Memories of the selection (R535, R539) -/

/-- A word read that meets uncorrectable data returns 0xFFFF_FFFF (R529). -/
def State.eccWord (s : State) (mem inst a : Nat) (v : Nat) : Word × State :=
  match s.eccRead mem inst a 4 with
  | (true, t) => (0xFFFFFFFF, t)
  | (false, t) => (W v, t)

/-- The memories that the Debug block opens. -/
inductive DbgMem where
  | lmem | scratch | job
  deriving DecidableEq, Repr

/-- The job of the selected context, if it has one. -/
def State.dbgJob (s : State) : Option Nat := (s.ctx s.dbgCtx).job

/-- A read of the word at byte `a`. -/
def State.dbgMemRead (s : State) (m : DbgMem) (a : Nat) : Word × State :=
  if !s.dbgHere then (0, s.dbgErr 3)
  else
    let c := s.dbgCtx
    let e := c / 8
    match m with
    | .lmem => s.eccWord 1 e a (s.mem.ldm.rdN (e * 0x8000 + a) 4)
    | .scratch => s.eccWord 5 e (numOf c * 256 + a) (s.mem.scratch.rdN (c * 256 + a) 4)
    | .job =>
      match s.dbgJob with
      | none => (0, s)
      | some j =>
        s.eccWord 5 e (0x800 + numOf c * 512 + a)
          (if a < 256 then (s.job j).hdr.rdN a 4 else leNat (((s.job j).bufDesc.drop (a - 256)).take 4))

/-- Bytes of the descriptor in the job buffer, written over by the debugger. -/
def Job.patch (x : Job) (a : Nat) (v : Word) : Job :=
  { x with dpatch := (List.range 4).foldl (fun t i => Tab.set Option.none t (a + i) (some (B8 (v.toNat / 256 ^ i)))) x.dpatch }

/-- A write of the word at byte `a`. -/
def State.dbgMemWrite (s : State) (m : DbgMem) (a : Nat) (v : Word) : State :=
  if !s.dbgHere then s.dbgErr 3
  else
    let c := s.dbgCtx
    match m with
    | .lmem => { s with mem := { s.mem with ldm := s.mem.ldm.wrN (c / 8 * 0x8000 + a) 4 v.toNat } }
    | .scratch => { s with mem := { s.mem with scratch := s.mem.scratch.wrN (c * 256 + a) 4 v.toNat } }
    | .job =>
      match s.dbgJob with
      | none => s
      | some j =>
        s.updJob j fun x => if a < 256 then { x with hdr := x.hdr.wrN a 4 v.toNat } else x.patch (a - 256) v

end Sys2Proof.Machine
end

