-- ==== Sys2Proof/Machine/Whistle.lean ====
section
/-! DEFINITION. Whistle blocks (R470 to R474, R477, R495) and their rows. -/

namespace Sys2Proof.Machine

open Sys2Proof

/-- GO (R471). -/
def State.whGo (s : State) (b : Nat) : State :=
  let x := s.whb b
  if x.full || x.timeout then s
  else s.setWhb b { x with posted := x.stage, full := true, lost := false, start := s.fr }

/-- The reply that a K2H block held leaves the head of its queue (R477). -/
def State.replyTaken (s : State) (h : Nat) (blk : List Word) : State :=
  match Tab.get [] s.ctl.replyQ h with
  | r :: t =>
    if r = blk then
      let late := Tab.get [] s.ctl.lateQ h
      { s with ctl := { s.ctl with
          replyQ := Tab.set [] s.ctl.replyQ h (t ++ late.take 1), lateQ := Tab.set [] s.ctl.lateQ h (late.drop 1) } }
    else s
  | [] => s

/-- TAKE (R472). -/
def State.whTake (s : State) (b : Nat) : State :=
  let x := s.whb b
  if x.full then
    let s := s.setWhb b { x with full := false }
    if b < 8 ∧ b % 2 = 1 then s.replyTaken (b / 2) x.posted else s
  else s

/-- A write of 1 to TIMEOUT by either side (R470). -/
def State.whClear (s : State) (b : Nat) : State := s.setWhb b { s.whb b with timeout := false }

/-- The host side sends on H2K blocks, the Keepers on K2H blocks. -/
def whSends (host : Bool) (b : Nat) : Bool := host == decide (b % 2 = 0)

/-- A write of a data word: by the sender, into the staging buffer (R470). -/
def State.whData (s : State) (host : Bool) (b i : Nat) (v : Word) : State :=
  if whSends host b then s.setWhb b { s.whb b with stage := (s.whb b).stage.set i v } else s

/-- A read of a data word (R470). -/
def State.whRead (s : State) (host : Bool) (b i : Nat) : Word :=
  let x := s.whb b
  if whSends host b then x.stage.getD i 0 else if x.full then x.posted.getD i 0 else 0

/-- A write of a control word (R470 to R472): the clear of TIMEOUT, then GO of the sender or TAKE of the receiver (log
entry 19). -/
def State.whCtrl (s : State) (host : Bool) (b : Nat) (v : Word) : State :=
  let s := if bitOf v 3 then s.whClear b else s
  if whSends host b then (if bitOf v 0 then s.whGo b else s)
  else if bitOf v 2 then s.whTake b else s

/-- A read of a control word. -/
def State.whStat (s : State) (b : Nat) : Word := W ((s.whb b).full.toNat * 2 + (s.whb b).timeout.toNat * 8)

/-! ### Timeouts (R473) -/

/-- The receiver of a block is in reset or does not serve the pair. -/
def State.whDead (s : State) (b : Nat) : Bool :=
  if b < 8 then
    decide (b % 2 = 0) && (Tab.get false s.ctl.keeperDown 0 || ((s.minimal || s.boot.romWait) && decide (2 ≤ b)))
  else if b = 8 ∨ b = 10 then (s.whb b).lost || !s.flag (Reg.FAB_ROUTE (Tab.get 0 s.ctl.fabDst (b / 2 - 4))) 3
  else Tab.get false s.ctl.keeperDown 0

/-- The timeout of a block is due. -/
def State.whDue (s : State) (b : Nat) : Bool :=
  let tmo := s.fld Reg.WH_CFG 19 0
  (s.whb b).full && (s.whDead b || decide (0 < tmo ∧ (s.whb b).start + tmo * 1000 ≤ s.fr))

/-- EV_WH_TIMEOUT of a block: the host pairs and the fabric pairs have a source, the export pair has none. -/
def State.whEvent (s : State) (b : Nat) : State := if b < 12 then s.raise (Ev.WH_TIMEOUT (b / 2)) else s

/-- The block is withdrawn. -/
def State.whExpire (s : State) (b : Nat) : State :=
  (s.setWhb b { s.whb b with full := false, timeout := true }).whEvent b

/-- WHISTLE_TIMEOUT (R473). -/
def execWhistleTimeout (b : Nat) (s : State) : Out :=
  if decide (b ≤ 12) && s.whDue b then .next (s.whExpire b) else .next s

end Sys2Proof.Machine
end

