-- ==== Sys2Proof/Machine/RegRead.lean ====
section
/-! DEFINITION. What the registers of BAR0 show (R9, R10, R14, R15, R17, R18, R35, R578): presence, live values,
clearing reads, latched high words. -/

namespace Sys2Proof.Machine

open Sys2Proof

/-- The unit a register belongs to is present, and its port valid (R9, R23, R353, R365, R427, R460). -/
def State.present (s : State) (r : RegDesc) (ix : List Nat) : Bool :=
  let i := ix.headD 0
  match r.tag with
  | .always => true
  | .pack => decide (i < s.chip.packs)
  | .packOr32 => decide (i < s.chip.packs ∨ i = 32)
  | .quad => decide (i < s.chip.quads)
  | .port => s.portValid i
  | .can => decide (i < s.chip.cans)
  | .shard => decide (i / 8 < s.chip.shards)
  | .scent => s.chip.scent
  | .fab => s.chip.fabric
  | .fablink => s.chip.fabric && decide (i < s.chip.quads)
  | .ddr => decide (i < s.chip.ddrs)
  | .ddrreg => decide (i < s.chip.ddrs) && (ix.getD 1 0 != 3 || s.chip.scent)
  | .eqport | .tsport => s.portValid (eqPort i)
  | .metro => s.chip.metro

/-- The unit a register belongs to is absent from the part (R9). A port that exists but is invalid in the mode of its quad
belongs to no absent unit: the host's write to its registers meets R34, as the first access of R39's example does (log
entry 3). -/
def State.unitAbsent (s : State) (r : RegDesc) (ix : List Nat) : Bool :=
  let gone := fun n => [1, 2, 7].all (fun m => portKindIn s.chip (fun _ => m) n == .none) || (decide (128 ≤ n) && !s.chip.fabric)
  match r.tag with
  | .port => gone (ix.headD 0)
  | .eqport | .tsport => gone (eqPort (ix.headD 0))
  | _ => !s.present r ix

/-- The bits of a register whose fields have an access code. -/
def RegDesc.mask (r : RegDesc) (p : Acc → Bool) : Word :=
  W (r.fields.foldl (fun n f => if p f.acc then n + (2 ^ f.wd - 1) * 2 ^ f.lo else n) 0)

/-! ### The island's window (R551) -/

/-- The mirror is current: ALIVE. -/
def State.metAlive (s : State) : Bool := s.island.powered && s.flag Reg.MET_STAT 0

/-- Entries held. -/
def State.metCount (s : State) : Nat := min 1024 s.island.entries

/-- Word i of a byte string as the window shows it. -/
def wordAt (b : List Byte) (i : Nat) : Word := W (leNat ((b.drop (4 * i)).take 4))

/-- A register of the window; before the mirror is current only the fuses show (log entry 20). -/
def State.metView (s : State) (id : RegId) (i : Nat) : Word :=
  let x := s.island
  if !x.powered then 0
  else if id = .MET_STAT then
    (if s.metAlive then
      W (1 + x.fuseBlown.toNat * 2 + x.sealLow.toNat * 4 + x.adcOk.toNat * 8 + x.slot % 2 * 16 + s.metCount * 0x10000)
    else W (x.fuseBlown.toNat * 2))
  else if id = .MET_AUDIT then W (x.audit % 4096)
  else if !s.metAlive then 0
  else
    match id with
    | .MET_HEAD => W (x.entries - 1)
    | .MET_FW_ID => x.fwId
    | .MET_FW_DIGEST => wordAt (sha256 (Tab.get [] x.fw x.slot)) i
    | .MET_PARAM_DIGEST =>
      wordAt (sha256 (Config.paramBytes x.params)) i
    | .MET_PUBKEY => wordAt x.pubKey i
    | .MET_LOG => wordAt (Tab.get [] x.log (i / 32)) (i % 32)
    | _ => 0

/-! ### Live values -/

/-- The engine number and pack of the two array indices of an engine register. -/
def engIx (ix : List Nat) : Nat := ix.headD 0 * 16 + ix.getD 1 0

/-- A bit per context of an engine. -/
def State.ctxBits (s : State) (e : Nat) (p : Ctx → Bool) : Nat :=
  (List.range 8).foldl (fun n k => n + (p (s.ctx (e * 8 + k))).toNat * 2 ^ k) 0

/-- ENG_CTX (R170). -/
def State.engCtx (s : State) (e : Nat) : Word :=
  W (s.ctxBits e (fun x => x.live) + s.ctxBits e (fun x => x.live && x.tclass) * 0x100
    + s.ctxBits e (fun x => x.live && x.counted) * 0x10000 + s.ctxBits e (fun x => x.live && x.stopped) * 0x1000000)

/-- PEND of the host vectors from `v` on (R524, R537). -/
def State.vecBits (s : State) (v : Nat) : Word :=
  W ((List.range 32).foldl (fun n k => n + (s.vecPending (v + k)).toNat * 2 ^ k) 0)

/-- The classes of a port that its partner pauses (R353). -/
def State.pausedBits (s : State) (port : Nat) : Nat :=
  match eqIndex port with
  | some x => (List.range 8).foldl (fun n c => n + (s.pausedBy x c).toNat * 2 ^ c) 0
  | none => 0

/-- HLP_TPEAK levels of groups `g` on (R196). -/
def State.tLoads (s : State) (p : Nat) (gs : List Nat) : Nat :=
  gs.foldl (fun n g => n + min 255 (s.tLoad p g) * 2 ^ (8 * (g % 4))) 0

/-- The bits of packs that are present. -/
def Chip.packMask (c : Chip) : Word := W (2 ^ c.packs - 1)

/-- The value of a present register, as a master of the host side or of the Keepers' side sees it. -/
def State.view (s : State) (host : Bool) (id : RegId) (ix : List Nat) (off : Nat) : Word :=
  let i := ix.headD 0
  let j := ix.getD 1 0
  let v := s.reg off
  let e := engIx ix
  match id with
  | .SYS_GPIO_IN =>
    (s.reg Reg.SYS_GPIO_OUT &&& s.reg Reg.SYS_GPIO_OE) ||| (v &&& ~~~(s.reg Reg.SYS_GPIO_OE))
  | .WH_H2K_DATA => s.whRead host (2 * i) j
  | .WH_K2H_DATA => s.whRead host (2 * i + 1) j
  | .WH_H2K_CTRL => s.whStat (2 * i)
  | .WH_K2H_CTRL => s.whStat (2 * i + 1)
  | .EV_VEC_PEND_LO => s.vecBits 0
  | .EV_VEC_PEND_HI => s.vecBits 32
  | .ERR_STAT => setF v 4 0 s.hub.errLog.length
  | .PACE_STATUS => setF (setF v 2 2 (s.fld Reg.PACE_VDD 9 0 == s.vmax).toNat) 3 3 (0 < getF v 19 16 : Bool).toNat
  | .LEASH_GRP_ACC_LO => v &&& s.chip.packMask
  | .LEASH_PEEK => s.leashPeek i
  | .DSP_QSTAT => setF (setF v 14 0 (s.qDepth i)) 31 31 (s.qBp i).toNat
  | .DSP_POOL => W (16384 - s.poolUsed + (16384 - s.dlyUsed) * 0x10000)
  | .HERD_OD_STAT => W ((s.od (s.fld Reg.HERD_OD_SEL 15 0)).head.toNat + (s.od (s.fld Reg.HERD_OD_SEL 15 0)).next.toNat * 0x10000)
  | .TBL_LOCKS => W s.look.locks.length
  | .KN_CELL => s.knCell i
  | .PORT_STAT => setF v 15 8 (s.pausedBits i)
  | .MTR_RD_TC => W ((s.meter (s.fld Reg.MTR_RD_SEL 15 0)).tc / 256)
  | .MTR_RD_TP => W ((s.meter (s.fld Reg.MTR_RD_SEL 15 0)).tp / 256)
  | .MTR_RD_GREEN => W (s.meter (s.fld Reg.MTR_RD_SEL 15 0)).green
  | .MTR_RD_YELLOW => W (s.meter (s.fld Reg.MTR_RD_SEL 15 0)).yellow
  | .MTR_RD_RED => W (s.meter (s.fld Reg.MTR_RD_SEL 15 0)).red
  | .EQ_QSTAT => W ((s.eq i j).length % 4096 + min 0xFFFF (Tab.get 0 (s.eport i).deficit j) * 0x10000)
  | .EQ_CREDIT => BitVec.ofInt 32 (Tab.get 0 ((s.creditSync i).eport i).credit j / 8000)
  | .EQ_STORE => W s.egressFree
  | .EQ_GCL_GATES => s.gclWord i (2 * j) &&& 0xFF
  | .EQ_GCL_INTERVAL => s.gclWord i (2 * j + 1)
  | .TB_FR_LO => W s.fr
  | .TB_FR_HI => W (s.fr / 2 ^ 32)
  | .TS_GBX => setF v 15 0 (s.gbxCorr i)
  | .TXTS_STAT => setF v 4 0 (s.eport i).txts.length
  | .DDR_ERR_STAT => setF v 6 0 s.dram.log.length
  | .ENG_CTX => s.engCtx e
  | .ENG_DL_STATUS => setF v 24 24 (0 < s.ctxBits e (fun x => x.frozen) : Bool).toNat
  | .ENG_RST => W ((s.eng e).rstBusy.toNat * 2)
  | .ENG_TURN_T_LO => W (s.eng e).turnsT.toNat
  | .ENG_TURN_T_HI => W ((s.eng e).turnsT.toNat / 2 ^ 32)
  | .ENG_TURN_E_LO => W (s.eng e).turnsE.toNat
  | .ENG_TURN_E_HI => W ((s.eng e).turnsE.toNat / 2 ^ 32)
  | .ENG_TURN_B_LO => W (s.eng e).turnsB.toNat
  | .ENG_TURN_B_HI => W ((s.eng e).turnsB.toNat / 2 ^ 32)
  | .PORT_QUAD | .CAN_MODE => if s.minimal then 0 else v
  | .FAB_LNK_STAT | .FAB_LNK_CAL_RX | .FAB_LNK_CAL_TX | .FAB_LNK_DELAY | .FAB_LNK_OFS | .FAB_LNK_ERR | .FAB_LNK_DOWNS =>
    if s.quadMode i = 7 then v else 0
  | .MET_STAT | .MET_AUDIT | .MET_HEAD | .MET_FW_ID | .MET_FW_DIGEST | .MET_PARAM_DIGEST | .MET_PUBKEY | .MET_LOG =>
    s.metView id i
  | .DBG_STAT => s.dbgStat
  | _ => v

/-- The level at which a PEAK field restarts, in its place (R196, R219, R251, R275, R578). -/
def State.peakLevel (s : State) (id : RegId) (ix : List Nat) : Word :=
  let i := ix.headD 0
  match id with
  | .LEASH_MW_STAT => W (Tab.get [] s.leash.mwq i).length
  | .DSP_QSTAT => W (s.qDepth i * 0x10000)
  | .HERD_STORE => W ((0x8000 - s.storeFree) * 0x10000)
  | .HLP_TPEAK0 => W (s.tLoads i [0, 1, 2, 3])
  | .HLP_TPEAK1 => W (s.tLoads i [4, 5])
  | _ => 0

/-- What a clearing read leaves (R15, R381, R578). -/
def State.readClears (s : State) (r : RegDesc) (ix : List Nat) (off : Nat) : State :=
  let sel := s.fld Reg.MTR_RD_SEL 15 0
  match r.id with
  | .MTR_RD_GREEN => s.setMeter sel { s.meter sel with green := 0 }
  | .MTR_RD_YELLOW => s.setMeter sel { s.meter sel with yellow := 0 }
  | .MTR_RD_RED => s.setMeter sel { s.meter sel with red := 0 }
  | .DBG_STAT => s.dbgErr 0
  | .DSP_SCENT_LOST => { s.setReg off 0 with disp := { s.disp with scentFirst := true } }
  | _ =>
    let m := r.mask fun a => a == .rc
    if m = 0 then s else s.setReg off ((s.reg off &&& ~~~m) ||| (s.peakLevel r.id ix &&& m))

/-! ### Pairs of words (R18) -/

/-- The high word of a pair, which shows what the last read of the low word latched. -/
def RegId.hiOf : RegId → Option RegId
  | .ENG_TURN_T_LO => some .ENG_TURN_T_HI
  | .ENG_TURN_E_LO => some .ENG_TURN_E_HI
  | .ENG_TURN_B_LO => some .ENG_TURN_B_HI
  | .TB_FR_LO => some .TB_FR_HI
  | .TB_SNAP_FR_LO => some .TB_SNAP_FR_HI
  | .TB_PPS_FR_LO => some .TB_PPS_FR_HI
  | .PACE_LAST_DROP_LO => some .PACE_LAST_DROP_HI
  | .TB_SNAP_SEC_LO => some .TB_SNAP_SEC_HI
  | .TB_PPS_SEC_LO => some .TB_PPS_SEC_HI
  | .TXTS_SEC_LO => some .TXTS_SEC_HI
  | _ => none

def RegId.isHi : RegId → Bool
  | .ENG_TURN_T_HI | .ENG_TURN_E_HI | .ENG_TURN_B_HI | .TB_FR_HI | .TB_SNAP_FR_HI | .TB_PPS_FR_HI
  | .PACE_LAST_DROP_HI | .TB_SNAP_SEC_HI | .TB_PPS_SEC_HI | .TXTS_SEC_HI => true
  | _ => false

/-- The word a read of a present register returns, the pairs of R18 included. -/
def State.shown (s : State) (host : Bool) (id : RegId) (ix : List Nat) (off : Nat) : Word :=
  if id.isHi then Tab.get 0 s.hiLatch off else s.view host id ix off

/-- A read of a low word latches the high word. -/
def State.latchHi (s : State) (host : Bool) (id : RegId) (ix : List Nat) (off : Nat) : State :=
  match id.hiOf with
  | some h => { s with hiLatch := Tab.set 0 s.hiLatch (off + 4) (s.view host h ix (off + 4)) }
  | none => s

/-! ### A read -/

/-- A read of a present register other than a lock: its value, and the state. `clear` is false for a read that
clears nothing and pops nothing (R35; log entry 21). -/
def State.regRead (s : State) (host clear : Bool) (r : RegDesc) (ix : List Nat) (off : Nat) : Word × State :=
  let i := ix.headD 0
  let j := ix.getD 1 0
  match r.id with
  | .ERR_POP => if clear then s.errPop else (s.errPop.1, s)
  | .DDR_ERR_POP => if clear then s.ddrPop else (s.ddrPop.1, s)
  | .TXTS_HDR => if clear then s.txtsPop i else ((s.txtsPop i).1, s)
  | .PK_ISTORE => s.eccWord 4 i (4 * j) (s.mem.istore.rdN (i * 0x10000 + 4 * j) 4)
  | .PK_PSM => s.eccWord 2 i (4 * j) (s.mwRead i (4 * j) 4)
  | .DBG_REG => s.dbgRegRead i
  | .DBG_LMEM => s.dbgMemRead .lmem (4 * i)
  | .DBG_SCRATCH => s.dbgMemRead .scratch (4 * i)
  | .DBG_JOB => s.dbgMemRead .job (4 * i)
  | _ =>
    let t := s.latchHi host r.id ix off
    (s.shown host r.id ix off, if clear then t.readClears r ix off else t)

end Sys2Proof.Machine
end

