-- ==== Sys2Proof/Machine/RegWrite.lean ====
section
/-! DEFINITION. What a write that reaches a register does (R15, R16, R492): the effect with the fields it leaves
unchanged, and how CMD_REG_WRITE judges it. -/

namespace Sys2Proof.Machine

open Sys2Proof

/-- How a write is judged (R492): taken whole, with a value out of range or refused, or with something ignored in the
unit's current state. -/
inductive WrSt where
  | ok | bad | quiesce
  deriving DecidableEq, Repr

/-- The judgement of a write with the state it leaves. -/
abbrev Wr := WrSt × State

/-- What a register with plain fields stores: RW bits as written, W1C bits cleared by 1 (R15). -/
def RegDesc.next (r : RegDesc) (old v : Word) : Word :=
  let rw := r.mask fun a => a == .rw
  ((old &&& ~~~rw) ||| (v &&& rw)) &&& ~~~(v &&& r.mask fun a => a == .w1c)

/-- A write to a register with plain fields. -/
def State.store (s : State) (r : RegDesc) (off : Nat) (v : Word) : State := s.setReg off (r.next (s.reg off) v)

/-- A word with one field as it was. -/
def keepF (v old : Word) (hi lo : Nat) : Word := setF v hi lo (getF old hi lo)

/-- A field that a write would change. -/
def fieldMoves (v old : Word) (hi lo : Nat) : Bool := getF v hi lo != getF old hi lo

/-- The judgement `q` where a condition holds, otherwise that of the write itself. -/
def judge (c : Bool) (q : WrSt) (w : Wr) : Wr := if c then (q, w.2) else w

/-- A write that is ignored whole. -/
def State.ignored (s : State) (q : WrSt) : Wr := (q, s)

/-! ### Logs and events -/

/-- A write to a first-event log (R39): VALID rearms it, OVF clears alone. -/
def State.rearm (s : State) (off validBit ovfBit : Nat) (v : Word) : State :=
  let s := if bitOf v validBit then s.setReg off (setF 0 ovfBit ovfBit (s.fld off ovfBit ovfBit)) else s
  if bitOf v ovfBit then s.setFld off ovfBit ovfBit 0 else s

/-- The vector an EV_ROUTE value gives its source (R525). -/
def routeVec (v : Word) : List Nat := [getF v 5 0]

/-- The vectors of the present sources of a group that a test selects (R525). -/
def State.vecsOf (s : State) (g : Nat) (p : Nat → Bool) : List Nat :=
  ((List.range 32).filter fun b => evPresent s.chip (32 * g + b) && p b).flatMap
    fun b => routeVec (s.reg (Reg.EV_ROUTE (32 * g + b)))

/-- A write of EV_STATUS (R525, R537). -/
def State.wrEvStatus (s : State) (g : Nat) (v : Word) : State :=
  let off := Reg.EV_STATUS g
  (s.setReg off (s.reg off &&& ~~~v)).touchVecs (s.vecsOf g fun b => bitOf v b)

/-- The present sources of a group as bits. -/
def evMask (c : Chip) (g : Nat) : Word :=
  W ((List.range 32).foldl (fun n b => n + (evPresent c (32 * g + b)).toNat * 2 ^ b) 0)

/-- A write of EV_ENABLE (R522, R525). -/
def State.wrEvEnable (s : State) (g : Nat) (v : Word) : State :=
  (s.setReg (Reg.EV_ENABLE g) (v &&& evMask s.chip g)).touchVecs (s.vecsOf g fun _ => true)

/-- A write of EV_ROUTE (R522, R525). -/
def State.wrEvRoute (s : State) (src : Nat) (v : Word) : State :=
  if evPresent s.chip src then
    let off := Reg.EV_ROUTE src
    (s.setReg off (v &&& 0x73F)).touchVecs (routeVec (s.reg off) ++ routeVec v)
  else s

/-! ### Pace (R70, R73, R74) -/

def State.wrPaceLimits (s : State) (r : RegDesc) (off : Nat) (v : Word) : Wr :=
  let lo := getF v 9 0
  let hi := getF v 25 16
  if lo < 650 ∨ 900 < lo ∨ hi < 650 ∨ 900 < hi ∨ lo % 5 ≠ 0 ∨ hi % 5 ≠ 0 ∨ hi < lo then s.ignored .bad
  else (.ok, s.store r off v)

def State.wrPaceSlew (s : State) (r : RegDesc) (off : Nat) (v : Word) : Wr :=
  if getF v 2 0 = 0 ∨ getF v 13 8 = 0 then s.ignored .bad else (.ok, s.store r off v)

def State.wrPaceCeil (s : State) (v : Word) : Wr :=
  match s.wrTurnCeil v with
  | (t, true) => (.ok, t)
  | (t, false) => t.ignored .bad

/-! ### Dispatcher (R238, R250, R254) -/

/-- Queue p of every present shard is judged anew. -/
def State.refreshPrio (s : State) (p : Nat) : State :=
  (List.range s.chip.shards).foldl (fun t sh => t.qRefresh (sh * 8 + p)) s

def State.wrDtick (s : State) (r : RegDesc) (off : Nat) (v : Word) : Wr :=
  let t := getF v 19 0
  if t < 100 ∨ 1000000 < t then s.ignored .bad else (.ok, s.store r off v)

def State.wrQcfg (s : State) (r : RegDesc) (p off : Nat) (v : Word) : Wr :=
  if 0 < getF v 14 0 ∧ getF v 14 0 ≤ getF v 30 16 then s.ignored .bad
  else (.ok, (s.store r off v).refreshPrio p)

/-- A class of the ingress epoch maps to priority p (R580). -/
def State.prioUsed (s : State) (p : Nat) : Bool := (List.range 8).any fun c => (s.classMap s.ing c).1 == p

def State.wrQlim (s : State) (r : RegDesc) (p off : Nat) (v : Word) : Wr :=
  if 16384 < getF v 14 0 then s.ignored .bad
  else
    let s := (s.store r off v).refreshPrio p
    (.ok, if s.qLimit p = 0 ∧ s.prioUsed p then s.raise Ev.CFG_ZERO else s)

/-- A write of DSP_SCENT_CTRL (R245, R246, R254). -/
def State.wrScentCtrl (s : State) (v : Word) : Wr :=
  let off := Reg.DSP_SCENT_CTRL
  let old := s.reg off
  let en := bitOf old 0
  let badSize := decide (getF v 12 8 < 10 ∨ 26 < getF v 12 8)
  let w := if en || badSize then keepF v old 12 8 else v
  let base := s.scentBase
  let noRing := !en && bitOf w 0 && !s.dramPresent base (8 * 2 ^ getF w 12 8)
  let w := if noRing then setF w 0 0 0 else w
  let t := s.setReg off (w &&& 0x1F03)
  let t := if !en && bitOf w 0 then
      ((t.setReg Reg.DSP_SCENT_WR 0).setReg Reg.DSP_SCENT_RD 0).scentMarker
    else t
  judge badSize .bad (judge ((en && fieldMoves v old 12 8) || noRing) .quiesce (.ok, t))

/-- A write that is ignored while a condition of the unit holds. -/
def State.wrUnless (s : State) (busy : Bool) (r : RegDesc) (off : Nat) (v : Word) : Wr :=
  if busy then s.ignored .quiesce else (.ok, s.store r off v)

/-! ### Tables (R280, R282, R297, R306, R307) -/

def State.wrTblDef (s : State) (r : RegDesc) (t off : Nat) (v : Word) : Wr :=
  let c := s.reg (Reg.TBL_CTRL t)
  if getF c 1 0 ≠ 0 ∨ bitOf c 4 then s.ignored .quiesce
  else (.ok, ((s.store r off v).setFld (Reg.TBL_CTRL t) 3 3 0).dropLocks t)

def State.wrTblPolicy (s : State) (r : RegDesc) (off : Nat) (v : Word) : Wr :=
  if 500 < getF v 8 0 ∨ getF v 11 10 = 3 then s.ignored .bad else (.ok, s.store r off v)

/-- A write of TBL_CTRL: one that sets an EPV bit of a table that is not READY is ignored; else EPV, AGE_MS, then INIT
judged against the EPV the write leaves (R280, R282, R283). -/
def State.wrTblCtrl (s : State) (t : Nat) (v : Word) : Wr :=
  let off := Reg.TBL_CTRL t
  let old := s.reg off
  let sets := getF v 1 0 &&& (3 - getF old 1 0)
  if sets ≠ 0 ∧ bitOf old 3 = false then s.ignored .quiesce
  else
    let s := s.setReg off (setF (setF old 1 0 (getF v 1 0)) 31 16 (getF v 31 16))
    let s := if getF old 31 16 = 0 ∧ getF v 31 16 ≠ 0 then
        s.ageStart t else s
    if bitOf v 2 then
      if s.fld off 1 0 ≠ 0 then s.ignored .quiesce
      else if s.tGeomOk t && s.tRegionOk t then (.ok, s.initStart t)
      else s.ignored .bad
    else (.ok, s)

def State.wrLfsr (s : State) (r : RegDesc) (off : Nat) (v : Word) : Wr :=
  if getF v 15 0 = 0 then s.ignored .bad else (.ok, s.store r off v)

/-! ### Rings (R304, R309, R341, R343) -/

/-- A ring's registers relative to its configuration register. -/
structure RingRegs where
  cfg : Nat
  pi : Nat
  ci : Nat
  szHi : Nat
  minLog : Nat
  maxLog : Nat

/-- A write of a ring's configuration. `loc` is true where the ring has a LOC bit; `there` tells whether the ring as
the write leaves it may be enabled. -/
def State.wrRingCfg (s : State) (k : RingRegs) (loc : Bool) (there : State → Bool) (v : Word) : Wr :=
  let old := s.reg k.cfg
  let en := bitOf old 0
  let badSize := decide (getF v k.szHi 8 < k.minLog ∨ k.maxLog < getF v k.szHi 8)
  let moves := fieldMoves v old k.szHi 8 || (loc && fieldMoves v old 1 1)
  let w := if en || badSize then keepF v old k.szHi 8 else v
  let w := if en then keepF w old 1 1 else w
  let body := setF (setF (setF old 0 0 0) k.szHi 8 (getF w k.szHi 8)) 1 1 (if loc then getF w 1 1 else 0)
  let t := s.setReg k.cfg body
  let noRing := !en && bitOf v 0 && !there t
  let on := bitOf v 0 && !noRing
  let t := t.setFld k.cfg 0 0 on.toNat
  let t := if on && !en then ((t.setFld k.cfg 16 16 0).setReg k.pi 0).setReg k.ci 0 else t
  judge badSize .bad (judge ((en && moves) || noRing) .quiesce (.ok, t))

/-- A write of PI: an overrun stops the ring (R304). -/
def State.wrRingPi (s : State) (k : RingRegs) (v : Word) : State :=
  let s := s.setReg k.pi v
  if 2 ^ s.fld k.cfg k.szHi 8 < (v - s.reg k.ci).toNat then (s.setFld k.cfg 16 16 1).setFld k.cfg 0 0 0 else s

def tdmaRing (r : Nat) : RingRegs := ⟨Reg.TDMA_CFG r, Reg.TDMA_PI r, Reg.TDMA_CI r, 12, 4, 16⟩
def h2dRing (q : Nat) : RingRegs := ⟨Reg.HP_H2D_CFG q, Reg.HP_H2D_PI q, Reg.HP_H2D_CI q, 11, 4, 14⟩
def d2hRing (q : Nat) : RingRegs := ⟨Reg.HP_D2H_CFG q, Reg.HP_D2H_PI q, Reg.HP_D2H_CI q, 11, 4, 14⟩

/-- A write of HP_D2H_CFG: a frame chosen for a ring that it stops waits in the scheduler again (R342). -/
def State.wrD2hCfg (s : State) (q : Nat) (v : Word) : Wr :=
  match s.wrRingCfg (d2hRing q) false (fun _ => true) v with
  | (st, t) => (st, t.d2hBack)

/-- A table DMA ring in DRAM lies in present, trained DRAM. -/
def State.tdmaThere (r : Nat) (s : State) : Bool :=
  !s.ringDram r || s.dramPresent (s.ringBase r) (32 * s.ringSize r)

/-- A write of TDMA_CFG: EN falls once the descriptor in progress is over (R304). -/
def State.wrTdmaCfg (s : State) (r : Nat) (v : Word) : Wr :=
  match s.trun r with
  | none => s.wrRingCfg (tdmaRing r) true (State.tdmaThere r) v
  | some _ =>
    match s.wrRingCfg (tdmaRing r) true (State.tdmaThere r) (v ||| 1) with
    | (st, t) => (st, t.updRun r fun x => { x with stop := !bitOf v 0 })

/-! ### Kennel (R312) -/

/-- A write that gives pool p a range. -/
def State.wrPool (s : State) (p base size : Nat) : Wr :=
  match s.knPoolRefused p base size with
  | (true, _) => s.ignored .bad
  | (false, true) => s.ignored .quiesce
  | (false, false) => (.ok, s.knPoolSet p base size)

/-! ### Ports (R323, R325, R332, R353, R366, R405, R441, R442) -/

/-- The FEC values of a mode (R323, R441). -/
def fecOk (m f : Nat) : Bool :=
  match m with
  | 1 => f == 2
  | 2 => decide (f ≤ 2)
  | 3 => decide (f ≤ 1)
  | 7 => f == 0 || f == 2
  | _ => f == 0

/-- The FIFO budget of a port in units (R332). -/
def fifoBudget (k : PortKind) (mode : Nat) : Nat :=
  match k with
  | .eth => if mode = 1 then 1536 else 384
  | .lfl => 1536
  | .mgmt => 64
  | .host => 256
  | .can => 128
  | .none => 0

/-- The ports of quad q. -/
def quadPorts (q : Nat) : List Nat := [4 * q, 4 * q + 1, 4 * q + 2, 4 * q + 3, 128 + q]

/-- The FIFO sizes of a port together. -/
def State.fifoSum (s : State) (port : Nat) : Nat := (List.range 8).foldl (fun n c => n + s.fifoSize port c) 0

/-- Every port that quad q has under mode m keeps its budget. -/
def State.budgetsOk (s : State) (q m : Nat) : Bool :=
  (quadPorts q).all fun n =>
    let k := portKindIn s.chip (fun p => if p = q then m else s.quadMode p) n
    k == .none || decide (s.fifoSum n ≤ fifoBudget k m)

/-- Quads in mode 7 when quad q has mode m. -/
def State.lflCount (s : State) (q m : Nat) : Nat :=
  ((List.range s.chip.quads).filter fun p => (if p = q then m else s.quadMode p) == 7).length

/-- A write of PORT_QUAD. -/
def State.wrQuad (s : State) (q : Nat) (v : Word) : Wr :=
  let off := Reg.PORT_QUAD q
  let m := getF v 2 0
  let f := getF v 5 4
  let old := s.reg off
  if s.minimal then s.ignored .quiesce
  else if !fecOk m f then s.ignored .bad
  else if m = getF old 2 0 ∧ f = getF old 5 4 then (.ok, s)
  else if (quadPorts q).any fun n => s.flag (Reg.PORT_CFG n) 0 then s.ignored .quiesce
  else if s.chip.lflMax < s.lflCount q m then s.ignored .bad
  else if !s.budgetsOk q m then s.ignored .quiesce
  else
    let s := if getF old 2 0 = 7 then s.linkDown q else s
    (.ok, (s.setReg off (v &&& 0x37)).herdKick)

/-- A write of PORT_CFG. -/
def State.wrPortCfg (s : State) (r : RegDesc) (n off : Nat) (v : Word) : Wr :=
  let was := s.flag off 0
  let t := s.store r off v
  let on := t.flag off 0
  let t := if was && !on then (if 128 ≤ n then (t.portDrain n).linkDown (n - 128) else t.portDrain n) else t
  (.ok, if n = 96 ∧ was ≠ on then t.setFld (Reg.TS_GBX 48) 16 16 on.toNat else t)

/-- A write of PORT_IFIFO. -/
def State.wrIfifo (s : State) (r : RegDesc) (n c off : Nat) (v : Word) : Wr :=
  let sum := s.fifoSum n - s.fifoSize n c + getF v 9 0
  if fifoBudget (s.portKind n) (s.quadMode (n / 4)) < sum ∨ getF v 19 10 < getF v 29 20 ∨ getF v 9 0 < getF v 19 10 then
    s.ignored .bad
  else
    let t := (s.store r off v).pfcTest n c
    (.ok, if 128 ≤ n ∧ s.fifoSize n c + 16 ≤ getF v 9 0 then t.creditOut (n - 128) else t)

/-- A write of PORT_PFC. -/
def State.wrPfc (s : State) (r : RegDesc) (n off : Nat) (v : Word) : State :=
  (List.range 8).foldl (fun t c => t.pfcTest n c) (s.store r off v)

/-! ### MDIO (R344 to R346) -/

def State.wrMdioCfg (s : State) (r : RegDesc) (off : Nat) (v : Word) : Wr :=
  let bad := decide (getF v 7 0 < 31)
  judge bad .bad (.ok, s.store r off (if bad then keepF v (s.reg off) 7 0 else v))

/-- A write of MDIO_RUN: START, then GO unless a run is in progress. -/
def State.wrMdioRun (s : State) (m : Nat) (v : Word) : Wr :=
  let off := Reg.MDIO_RUN m
  let s := s.setFld off 8 0 (getF v 8 0)
  if !bitOf v 16 then (.ok, s)
  else if s.flag off 17 then s.ignored .quiesce
  else
    let s := s.setReg off (W (getF v 8 0 + 2 ^ 17))
    let s := (List.range 32).foldl (fun t i => t.setReg (Reg.MDIO_RES m i) 0) s
    (.ok, { s with ports := { s.ports with mdioFrom := Tab.set 0 s.ports.mdioFrom m (getF v 8 0) } })

/-! ### CAN (R334, R335, R338) -/

/-- A write of CAN_MODE: a rise of EN ends bus-off. -/
def State.wrCanMode (s : State) (r : RegDesc) (n off : Nat) (v : Word) : Wr :=
  if s.minimal then s.ignored .quiesce
  else
    let t := s.store r off v
    (.ok, if !s.flag off 0 && t.flag off 0 && s.fld (Reg.CAN_STAT n) 17 16 == 2 then t.canCounts n 0 0 else t)

/-- A write of a bit-timing register with a rate limit in bit/s. -/
def State.wrCanTime (s : State) (r : RegDesc) (n off limit : Nat) (v : Word) : Wr :=
  let brp := getF v 7 0
  let t1 := getF v 15 8
  let t2 := getF v 22 16
  let sjw := getF v 30 24
  if s.flag (Reg.CAN_MODE n) 0 then s.ignored .quiesce
  else if brp = 0 ∨ t2 = 0 ∨ t2 < sjw ∨ limit * (brp * (1 + t1 + t2)) < 480000000 then s.ignored .bad
  else (.ok, s.store r off v)

/-! ### Classifier and meters (R355, R362, R380) -/

def State.wrPfld (s : State) (r : RegDesc) (e k i off : Nat) (v : Word) : Wr :=
  let sum := (List.range 8).foldl (fun n j =>
    n + if j = i then getF v 14 8 else s.fld (Reg.CLS_PFLD e k j) 14 8) 0
  if 64 < sum then s.ignored .bad else (.ok, s.store r off v)

def State.wrRate (s : State) (off : Nat) (v : Word) : Wr :=
  if 1200000000 < v.toNat then s.ignored .bad else (.ok, s.setReg off v)

def State.wrPmode (s : State) (r : RegDesc) (off : Nat) (v : Word) : Wr :=
  if 2 ≤ getF v 3 2 ∨ getF v 5 4 = 3 ∨ getF v 7 6 = 3 ∨ getF v 9 8 = 3 then s.ignored .bad
  else (.ok, s.store r off v)

/-- A write of MTR_CFG: a meter that starts, or changes its profile, starts full (R362). -/
def State.wrMtrCfg (s : State) (r : RegDesc) (m off : Nat) (v : Word) : State :=
  let old := s.reg off
  let s := s.store r off v
  if bitOf v 8 ∧ (!bitOf old 8 ∨ getF v 7 0 ≠ getF old 7 0) then
    let p := getF v 7 0
    s.setMeter m { s.meter m with
      tc := s.fld (Reg.MTR_CBS p) 23 0 * 256, tp := s.fld (Reg.MTR_PBS p) 23 0 * 256, last := s.fr }
  else s

/-! ### Egress (R358, R366, R373, R375 to R378, R383, R385, R580) -/

def State.wrOverhead (s : State) (r : RegDesc) (off : Nat) (v : Word) : Wr :=
  let o := getF v 6 0
  if 0x40 ≤ o ∧ o ≤ 0x6F then s.ignored .bad else (.ok, s.store r off v)

/-- A write of EQ_GCL_CTRL (R373). -/
def State.wrGclCtrl (s : State) (x : Nat) (v : Word) : Wr :=
  let off := Reg.EQ_GCL_CTRL x
  let old := s.reg off
  let s := if bitOf v 19 then s.setFld off 19 19 0 else s
  if bitOf old 17 then
    (if bitOf v 16 || fieldMoves v old 10 0 || fieldMoves v old 13 12 then .quiesce else .ok, s)
  else
    let s := (s.setFld off 10 0 (getF v 10 0)).setFld off 13 12 (getF v 13 12)
    (.ok, if bitOf v 16 then s.gclCommit x else s)

/-- A write of a word of the admin gate list (R373, R385). -/
def State.wrGclWord (s : State) (x i : Nat) (v : Word) : Wr :=
  if s.flag (Reg.EQ_GCL_CTRL x) 17 then s.ignored .quiesce
  else
    let p := s.eport x
    let b := s.gclAdmin x
    (.ok, s.setEport x { p with adm := Tab.set [] p.adm b (Tab.set 0 (Tab.get [] p.adm b) i v) })

/-- The credit of class c of index x is set. -/
def State.setCredit (s : State) (x c : Nat) (v : Int) : State :=
  s.setEport x { s.eport x with credit := Tab.set 0 (s.eport x).credit c v }

/-- A class with CBS_EN = 1 and no idle slope. -/
def State.cbsZero (s : State) (x c : Nat) : Bool := s.cbsOn x c && s.fld (Reg.EQ_CBS x c) 16 0 == 0

/-- A write of EQ_CLASS. -/
def State.wrEqClass (s : State) (r : RegDesc) (x c off : Nat) (v : Word) : State :=
  let s := s.creditSync x
  let was := s.cbsOn x c
  let s := s.store r off v
  let s := if s.cbsOn x c && !was then s.setCredit x c 0 else s
  let s := if getF v 27 16 = 0 ∨ s.cbsZero x c then s.raise Ev.CFG_ZERO else s
  s.herdKick

/-- A write of EQ_CBS. -/
def State.wrEqCbs (s : State) (r : RegDesc) (x c off : Nat) (v : Word) : Wr :=
  if 100000 < getF v 16 0 then s.ignored .bad
  else
    let s := (s.creditSync x).store r off v
    (.ok, if s.cbsZero x c then s.raise Ev.CFG_ZERO else s)

/-- A write of EQ_BURST cuts a credit above it. -/
def State.wrEqBurst (s : State) (r : RegDesc) (x c off : Nat) (v : Word) : State :=
  let s := (s.creditSync x).store r off v
  let top : Int := ((getF v 19 0 * 8000 : Nat) : Int)
  if top < Tab.get 0 (s.eport x).credit c then s.setCredit x c top else s

/-- A write of EQ_QUANTUM. -/
def State.wrQuantum (s : State) (r : RegDesc) (off : Nat) (v : Word) : State :=
  let s := s.store r off v
  if getF v 15 0 = 0 then s.raise Ev.CFG_ZERO else s

/-! ### Time base (R398, R400, R401, R410, R412) -/

def State.wrAdjFreq (s : State) (d off : Nat) (v : Word) : Wr :=
  let r := signed 32 v.toNat
  if r < -549755813 ∨ 549755813 < r then s.ignored .bad else (.ok, (s.notePast d).setReg off v)

/-- A write of TB_ADJ_CTRL: ERR, the fields, then GO; ignored while a GO is pending (R401). -/
def State.wrAdjCtrl (s : State) (r : RegDesc) (d off : Nat) (v : Word) : Wr :=
  if s.adjPending d then s.ignored .quiesce
  else
    let s := s.store r off v
    (.ok, if bitOf v 17 then s.tbGo d else s)

/-- A write of TB_PPS_CFG. -/
def State.wrPps (s : State) (r : RegDesc) (off : Nat) (v : Word) : Wr :=
  let bad := decide (999999 < getF v 27 8)
  let t := s.store r off (if bad then keepF v (s.reg off) 27 8 else v)
  judge bad .bad (.ok, if t.ppsArmed then t else t.ppsLow)

/-! ### DRAM (R418, R426, R427, R432, R436, R437, R580) -/

/-- An interface that is open. -/
def State.ddrOpen (s : State) (i : Nat) : Bool := s.flag (Reg.DDR_CTRL i) 0

def State.wrDdrMap (s : State) (r : RegDesc) (off : Nat) (v : Word) : Wr :=
  if s.chip.ddrs < 2 then (.ok, s)
  else if s.ddrOpen 0 || s.ddrOpen 1 then s.ignored .quiesce
  else
    let a := s.fld (Reg.DDR_CTRL 0) 10 8
    if bitOf v 0 ∧ (a = 0 ∨ a ≠ s.fld (Reg.DDR_CTRL 1) 10 8) then s.ignored .quiesce else (.ok, s.store r off v)

/-- A write of DDR_CTRL: OPEN, the fields, then TRAIN judged against the OPEN the write leaves. Write tracking that is
turned on counts its rounds from the write (R434; log entry 49). -/
def State.wrDdrCtrl (s : State) (i : Nat) (v : Word) : Wr :=
  let off := Reg.DDR_CTRL i
  let old := s.reg off
  if 5 ≤ getF v 10 8 then s.ignored .bad
  else
    let was := bitOf old 0
    let moves := was && (fieldMoves v old 5 4 || fieldMoves v old 10 8)
    let noOpen := bitOf v 0 && !was && !bitOf old 2
    let open_ := bitOf v 0 && !noOpen
    let t := s.setFld off 23 16 (getF v 23 16)
    let t := if getF old 23 16 = 0 ∧ 0 < getF v 23 16 then
        { t with dram := { t.dram with trackFrom := Tab.set 0 t.dram.trackFrom i t.fr } } else t
    let t := if was then t else (t.setFld off 5 4 (getF v 5 4)).setFld off 10 8 (getF v 10 8)
    let t := if bitOf v 24 then t.setFld off 24 24 0 else t
    let t := t.setFld off 0 0 open_.toNat
    let noTrain := bitOf v 1 && open_
    let t := if bitOf v 1 && !open_ then t.trainStart i else t
    judge (moves || noOpen || noTrain) .quiesce (.ok, t)

/-- A write of DDR_REG_CFG: a rise of EN fills the bucket. -/
def State.wrDdrReg (s : State) (r : RegDesc) (i p off : Nat) (v : Word) : Wr :=
  if 68264 < getF v 16 0 then s.ignored .bad
  else
    let rise := bitOf v 31 && !s.regOn i p
    let now := s.tokens i p
    let s := s.store r off v
    let s := s.setTokens i p (if rise then ((s.fld (Reg.DDR_REG_BURST i p) 19 0 * 1000 : Nat) : Int) else now)
    (.ok, if bitOf v 31 && getF v 16 0 == 0 then s.raise Ev.CFG_ZERO else s)

def State.wrDdrBurst (s : State) (r : RegDesc) (i p off : Nat) (v : Word) : State :=
  (s.setTokens i p (s.tokens i p)).store r off v

/-! ### Fabric (R447, R449) -/

/-- A write of FAB_CFG: with a rise of EN the election starts. -/
def State.wrFabCfg (s : State) (r : RegDesc) (off : Nat) (v : Word) : State :=
  let was := s.flag off 0
  let s := s.store r off v
  if !was && s.flag off 0 then { s with fab := { s.fab with changed := s.fr } } else s

/-! ### Packs and engines (R117, R118, R121, R156, R161, R165, R173, R174) -/

/-- A context of the pack is live. -/
def State.packLive (s : State) (p : Nat) : Bool := s.ctxs.any fun c => c.2.live && c.1 / 128 == p

/-- A wheel map gives no context more active slots than R156 allows. -/
def mapOk (m0 m1 : Word) (len : Nat) : Bool :=
  (List.range 8).all fun k =>
    decide (((List.range len).filter fun i => slotOwnerOf m0 m1 i == some k).length ≤ (if len = 8 then 1 else 2))

/-- A write of PACK_CFG. -/
def State.wrPackCfg (s : State) (r : RegDesc) (p off : Nat) (v : Word) : Wr :=
  let old := s.reg off
  let live := s.packLive p && (fieldMoves v old 0 0 || fieldMoves v old 1 1)
  let badCrit := decide (5 ≤ getF v 6 4)
  let w := if live then keepF (keepF v old 0 0) old 1 1 else v
  let badMap := fieldMoves w old 1 1
    && !mapOk (s.reg (Reg.WHEEL_MAP0 p)) (s.reg (Reg.WHEEL_MAP1 p)) (if bitOf w 1 then 16 else 8)
  let w := if badMap then keepF w old 1 1 else w
  let w := if badCrit then keepF w old 6 4 else w
  judge (badCrit || badMap) .bad (judge live .quiesce (.ok, s.store r off w))

def State.wrStack (s : State) (r : RegDesc) (off : Nat) (v : Word) : Wr :=
  let top := getF v 15 0
  let size := getF v 31 16
  if top % 4 ≠ 0 ∨ size % 4 ≠ 0 ∨ 0x8000 < top ∨ top < 8 * size then s.ignored .bad else (.ok, s.store r off v)

/-- A write of WHEEL_MAP0 or WHEEL_MAP1. -/
def State.wrWheelMap (s : State) (r : RegDesc) (p : Nat) (hi : Bool) (off : Nat) (v : Word) : Wr :=
  let m0 := if hi then s.reg (Reg.WHEEL_MAP0 p) else v
  let m1 := if hi then v else s.reg (Reg.WHEEL_MAP1 p)
  if s.packLive p then s.ignored .quiesce
  else if !mapOk m0 m1 (s.wheelLen p) then s.ignored .bad
  else (.ok, s.store r off v)

/-- A write of PACK_RST. -/
def State.wrPackRst (s : State) (p : Nat) (v : Word) : Wr :=
  if !bitOf v 0 then (.ok, s)
  else if s.flag (Reg.PACK_RST p) 1 then s.ignored .quiesce
  else (.ok, (s.setFld (Reg.PACK_RST p) 1 1 1).rstGo (packEngs p))

/-- A write of ENG_RST. -/
def State.wrEngRst (s : State) (e : Nat) (v : Word) : Wr :=
  if !bitOf v 0 then (.ok, s)
  else if (s.eng e).rstBusy then s.ignored .quiesce
  else (.ok, (s.updEng e fun g => { g with rstBusy := true }).rstGo [e])

/-- A write of ENG_DL_CFG returns the watch count to 0. -/
def State.wrDlCfg (s : State) (r : RegDesc) (e off : Nat) (v : Word) : State :=
  (s.store r off v).updEng e fun g => { g with watch := 0, bubbles := 0 }

/-! ### All registers -/

/-- A write that has reached a present register other than SYS_OWN, a lock and a Whistle block. -/
def State.regWrite (s : State) (r : RegDesc) (ix : List Nat) (off : Nat) (v : Word) : Wr :=
  let i := ix.headD 0
  let j := ix.getD 1 0
  let e := engIx ix
  match r.id with
  | .SYS_HOST_ACC => (.ok, s.rearm off 31 30 v)
  | .SYS_BOOT_CTRL => (.ok, s.bootCtrl v)
  | .SYS_WDOG => (.ok, s.wdogWrite v)
  | .EV_STATUS => (.ok, s.wrEvStatus i v)
  | .EV_ENABLE => (.ok, s.wrEvEnable i v)
  | .EV_SW_RAISE => (.ok, s.raise (Ev.SW (getF v 4 0)))
  | .EV_ROUTE => (.ok, s.wrEvRoute i v)
  | .PACE_CTRL => (.ok, s.wrPaceCtrl v)
  | .PACE_TURN_CEIL => s.wrPaceCeil v
  | .PACE_LIMITS => s.wrPaceLimits r off v
  | .PACE_SLEW => s.wrPaceSlew r off v
  | .LEASH_GRP_ACC_LO => (.ok, (s.setReg off (v &&& s.chip.packMask)).leashRecheck i)
  | .LEASH_GRP_ACC_HI => (.ok, (s.setReg off (v &&& 0x1D)).leashRecheck i)
  | .LEASH_DENY_LOG => (.ok, s.rearm off 15 14 v)
  | .DSP_DTICK => s.wrDtick r off v
  | .DSP_QCFG => s.wrQcfg r i off v
  | .DSP_QLIM => s.wrQlim r i off v
  | .DSP_SCENT_CTRL => s.wrScentCtrl v
  | .DSP_SCENT_BASE_LO | .DSP_SCENT_BASE_HI => s.wrUnless (s.flag Reg.DSP_SCENT_CTRL 0) r off v
  | .HERD_HOLE_LOG0 =>
    (.ok, let t := s.rearm off 31 30 v; if bitOf v 31 then t.setReg Reg.HERD_HOLE_LOG1 0 else t)
  | .TBL_GEOM | .TBL_BASE_LO | .TBL_BASE_HI | .TBL_SEED_LO | .TBL_SEED_HI => s.wrTblDef r i off v
  | .TBL_POLICY => s.wrTblPolicy r off v
  | .TBL_CTRL => s.wrTblCtrl i v
  | .TBL_CACHE_CTRL => (.ok, if bitOf v 0 then s.cacheFlush else s)
  | .TBL_LFSR => s.wrLfsr r off v
  | .TBL_PAR_LOG => (.ok, s.rearm off 31 30 v)
  | .TDMA_BASE_LO | .TDMA_BASE_HI => s.wrUnless (s.flag (Reg.TDMA_CFG i) 0) r off v
  | .TDMA_CFG => s.wrTdmaCfg i v
  | .TDMA_PI => (.ok, s.wrRingPi (tdmaRing i) v)
  | .KN_POOL_BASE => s.wrPool i (getF v 17 0) (s.poolSize i)
  | .KN_POOL_SIZE => s.wrPool i (s.poolBase i) (getF v 17 0)
  | .KN_ERR_LOG => (.ok, s.rearm off 31 30 v)
  | .PORT_QUAD => s.wrQuad i v
  | .PORT_CFG => s.wrPortCfg r i off v
  | .PORT_PFC => (.ok, s.wrPfc r i off v)
  | .PORT_IFIFO => s.wrIfifo r i j off v
  | .MDIO_CFG => s.wrMdioCfg r off v
  | .MDIO_RUN => s.wrMdioRun i v
  | .HP_H2D_BASE_LO | .HP_H2D_BASE_HI => s.wrUnless (s.flag (Reg.HP_H2D_CFG i) 0) r off v
  | .HP_D2H_BASE_LO | .HP_D2H_BASE_HI => s.wrUnless (s.flag (Reg.HP_D2H_CFG i) 0) r off v
  | .HP_H2D_CFG => s.wrRingCfg (h2dRing i) false (fun _ => true) v
  | .HP_D2H_CFG => s.wrD2hCfg i v
  | .HP_H2D_PI => (.ok, s.wrRingPi (h2dRing i) v)
  | .HP_D2H_PI => (.ok, (s.wrRingPi (d2hRing i) v).d2hBack)
  | .CAN_MODE => s.wrCanMode r i off v
  | .CAN_NBT => s.wrCanTime r i off 1000000 v
  | .CAN_DBT => s.wrCanTime r i off 8000000 v
  | .CAN_XBT => s.wrCanTime r i off 20000000 v
  | .CLS_PFLD => s.wrPfld r i j (ix.getD 2 0) off v
  | .MTR_CIR | .MTR_PIR => s.wrRate off v
  | .MTR_PMODE => s.wrPmode r off v
  | .MTR_CFG => (.ok, s.wrMtrCfg r i off v)
  | .EQ_OVERHEAD => s.wrOverhead r off v
  | .EQ_GCL_CTRL => s.wrGclCtrl i v
  | .EQ_GCL_CYCLE | .EQ_GCL_BASE_NS | .EQ_GCL_BASE_SEC_LO | .EQ_GCL_BASE_SEC_HI =>
    s.wrUnless (s.flag (Reg.EQ_GCL_CTRL i) 17) r off v
  | .EQ_GCL_GATES => s.wrGclWord i (2 * j) (v &&& 0xFF)
  | .EQ_GCL_INTERVAL => s.wrGclWord i (2 * j + 1) v
  | .EQ_CLASS => (.ok, s.wrEqClass r i j off v)
  | .EQ_QUANTUM => (.ok, s.wrQuantum r off v)
  | .EQ_CBS => s.wrEqCbs r i j off v
  | .EQ_BURST => (.ok, s.wrEqBurst r i j off v)
  | .TB_STAT => (.ok, if bitOf v 8 then s.srcReturn else s)
  | .TB_SNAP => (.ok, if bitOf v 0 then s.snap else s)
  | .TB_PPS_CFG => s.wrPps r off v
  | .TB_ADJ_FREQ => s.wrAdjFreq i off v
  | .TB_ADJ_SEC | .TB_ADJ_NS => s.wrUnless (s.adjPending i) r off v
  | .TB_ADJ_CTRL => s.wrAdjCtrl r i off v
  | .DDR_MAP => s.wrDdrMap r off v
  | .DDR_CTRL => s.wrDdrCtrl i v
  | .DDR_BANK_XOR0 | .DDR_BANK_XOR1 | .DDR_BANK_XOR2 | .DDR_BANK_XOR3 => s.wrUnless (s.ddrOpen i) r off v
  | .DDR_REG_CFG => s.wrDdrReg r i j off v
  | .DDR_REG_BURST => (.ok, s.wrDdrBurst r i j off v)
  | .FAB_CFG => (.ok, s.wrFabCfg r off v)
  | .PACK_CFG => s.wrPackCfg r i off v
  | .PACK_STACK => s.wrStack r off v
  | .PACK_RST => s.wrPackRst i v
  | .WHEEL_MAP0 => s.wrWheelMap r i false off v
  | .WHEEL_MAP1 => s.wrWheelMap r i true off v
  | .ENG_DL_CFG => (.ok, s.wrDlCfg r e off v)
  | .ENG_WAKE => (.ok, s.engWake e (getF v 2 0))
  | .ENG_RST => s.wrEngRst e v
  | .PK_ISTORE => (.ok, { s with mem := { s.mem with istore := s.mem.istore.wrN (i * 0x10000 + 4 * j) 4 v.toNat } })
  | .PK_PSM => (.ok, s.mwWrite i (4 * j) 4 v.toNat)
  | .DBG_SESSION => (.ok, s.dbgAttach v)
  | .DBG_CMD => (.ok, s.dbgCmd v)
  | .DBG_REG => (.ok, s.dbgRegWrite i v)
  | .DBG_LMEM => (.ok, s.dbgMemWrite .lmem (4 * i) v)
  | .DBG_SCRATCH => (.ok, s.dbgMemWrite .scratch (4 * i) v)
  | .DBG_JOB => (.ok, s.dbgMemWrite .job (4 * i) v)
  | _ => (.ok, s.store r off v)

end Sys2Proof.Machine
end

