-- ==== Sys2Proof/Machine/Bus.lean ====
section
/-! DEFINITION. The BAR0 window as the masters reach it (R14, R17, R32 to R39, R198, R532), and the rows that
are reads and writes of it. -/

namespace Sys2Proof.Machine

open Sys2Proof

/-- The masters of the register bus: the host, the debugger and a Keeper pair that runs. An engine reaches a lock
through its I/O port, a fabric peer through a frame (R198). -/
def State.onBus (s : State) : Master → Bool
  | .host | .debug => true
  | .keeper k => decide (k < 2) && !Tab.get false s.ctl.keeperDown k
  | .fabric _ | .ctx _ => false

/-- The side of Whistle a master stands on: a Keeper is the one side, the host and the debugger the other. -/
def Master.hostSide : Master → Bool
  | .keeper _ => false
  | _ => true

/-- A block marked Firmware in the BAR0 map (R31, R34): all but Whistle, Events, the Leash and the island's window. -/
def fwBlock (off : Nat) : Bool :=
  decide (off < 0x100000 ∨ (0x300000 ≤ off ∧ off < 0x400000) ∨ (0x500000 ≤ off ∧ off < 0x9F0000)
    ∨ (0xA00000 ≤ off ∧ off < 0x2000000))

/-- The window of the Metrology Island (R36). -/
def metWindow (off : Nat) : Bool := decide (0x2000000 ≤ off ∧ off < 0x2100000)

/-- The answer to the read that the bus serves. -/
def State.answer (s : State) (v : Word) : State := { s with rdata := v }

/-- Only the host's accesses are logged (R14, R39, R532). -/
def State.logHost (s : State) (m : Master) (off cause : Nat) (write : Bool) : State :=
  if m = .host then s.hostAccess off cause write else s

/-- An access that is not a naturally aligned word (R14). -/
def State.misaligned (s : State) (m : Master) (off : Nat) (write : Bool) : State :=
  (if write then s else s.answer 0).logHost m off 1 write

/-- A read of lock i: the status, or none yet while it stalls (R199). -/
def State.lockRead (s : State) (m : Master) (i : Nat) : State :=
  match s.leashRead i (Master.owner m) with
  | (.status v, t) => t.answer v
  | (.stall, t) => t

/-- A read of the host under FW_OWN clears nothing in a Firmware block (R35). -/
def State.readsClear (s : State) (m : Master) (off : Nat) : Bool := !(m == .host && s.fwOwn && fwBlock off)

/-- A read of a register (R9, R14, R15, R17, R35). -/
def State.regBusRead (s : State) (m : Master) (off : Nat) (r : RegDesc) (ix : List Nat) : State :=
  if !s.present r ix then s.answer 0
  else if r.id = .LEASH_LOCK then s.lockRead m (ix.headD 0)
  else
    match s.regRead (Master.hostSide m) (s.readsClear m off) r ix off with
    | (v, t) => t.answer v

/-- A read of BAR0. -/
def State.busRead (s : State) (m : Master) (off : Nat) : State :=
  if !s.onBus m then s
  else if off % 4 ≠ 0 then s.misaligned m off false
  else
    match findReg off with
    | none => s.answer 0
    | some (r, ix) => s.regBusRead m off r ix

/-- The write of the host is one that FW_OWN holds back (R33, R34). -/
def State.hostBarred (s : State) (m : Master) (r : RegDesc) (off : Nat) : Bool :=
  m == .host && (r.id == .SYS_OWN || (s.fwOwn && fwBlock off && r.id != .SYS_HOST_ACC))

/-- A write that reaches a present register (R15, R34). -/
def State.regBusPut (s : State) (m : Master) (off : Nat) (r : RegDesc) (ix : List Nat) (v : Word) : State :=
  let h := ix.headD 0
  match r.id with
  | .SYS_OWN => s.setReg Reg.SYS_OWN (W (v.toNat % 2))
  | .LEASH_LOCK => s.leashWrite h (Master.owner m)
  | .WH_H2K_DATA => s.whData (Master.hostSide m) (2 * h) (ix.getD 1 0) v
  | .WH_K2H_DATA => s.whData (Master.hostSide m) (2 * h + 1) (ix.getD 1 0) v
  | .WH_H2K_CTRL => s.whCtrl (Master.hostSide m) (2 * h) v
  | .WH_K2H_CTRL => s.whCtrl (Master.hostSide m) (2 * h + 1) v
  | _ => (s.regWrite r ix off v).2

/-- A write to a register (R9, R33, R34). -/
def State.regBusWrite (s : State) (m : Master) (off : Nat) (r : RegDesc) (ix : List Nat) (v : Word) : State :=
  if s.unitAbsent r ix then s
  else if s.hostBarred m r off then s.hostAccess off 2 true
  else if !s.present r ix then s
  else s.regBusPut m off r ix v

/-- A write to the island's window (R36). -/
def State.metWrite (s : State) (m : Master) (off : Nat) : State :=
  if s.chip.metro then s.logHost m off 3 true else s

/-- A write of BAR0. A reserved offset ignores it (R17). -/
def State.busWrite (s : State) (m : Master) (off : Nat) (v : Word) : State :=
  if !s.onBus m then s
  else if off % 4 ≠ 0 then s.misaligned m off true
  else if metWindow off then s.metWrite m off
  else
    match findReg off with
    | none => s
    | some (r, ix) => s.regBusWrite m off r ix v

/-! ### Rows that name a register -/

/-- The offset is a register of these names. -/
def offIs (ids : List RegId) (off : Nat) : Bool :=
  match findReg off with
  | some (r, _) => ids.contains r.id
  | none => false

/-- A write at an offset that a row gives, when it is one of the registers the row is about. -/
def State.rowWrite (s : State) (ids : List RegId) (m : Master) (off : Nat) (v : Word) : State :=
  if offIs ids off then s.busWrite m off v else s

/-- A write of element i of an array of n registers. -/
def State.ixWrite (s : State) (n i : Nat) (m : Master) (off : Nat) (v : Word) : State :=
  if i < n then s.busWrite m off v else s

/-- REGISTER_WRITE (R15, R34, R37). -/
def execRegisterWrite (m : Master) (off : Nat) (v : Word) (s : State) : Out := .next (s.busWrite m off v)
/-- READ_CLEAR (R15, R35, R578): a read that clears. -/
def execReadClear (m : Master) (off : Nat) (s : State) : Out := .next (s.busRead m off)
/-- COUNTER_LO_READ (R18). -/
def execCounterLoRead (m : Master) (off : Nat) (s : State) : Out := .next (s.busRead m off)
/-- MISALIGNED_ACCESS (R14): any access but a naturally aligned word. -/
def execMisalignedAccess (m : Master) (off size : Nat) (write : Bool) (s : State) : Out :=
  if s.onBus m && decide (off % 4 ≠ 0 ∨ size ≠ 4) then .next (s.misaligned m off write) else .next s
/-- FW_OWN_WRITE (R33). -/
def execFwOwnWrite (m : Master) (v : Word) (s : State) : Out := .next (s.busWrite m Reg.SYS_OWN v)

/-- The first-event logs (R39, R217, R271, R303, R319). -/
def firstLogs : List RegId := [.SYS_HOST_ACC, .LEASH_DENY_LOG, .HERD_HOLE_LOG0, .TBL_PAR_LOG, .KN_ERR_LOG]

/-- LOG_REARM (R39). -/
def execLogRearm (m : Master) (off : Nat) (v : Word) (s : State) : Out := .next (s.rowWrite firstLogs m off v)
/-- PACE_ENABLE (R60): a write of PACE_CTRL. -/
def execPaceEnable (m : Master) (v : Word) (s : State) : Out := .next (s.busWrite m Reg.PACE_CTRL v)
/-- PACE_DISABLE (R64). -/
def execPaceDisable (m : Master) (v : Word) (s : State) : Out := .next (s.busWrite m Reg.PACE_CTRL v)
/-- PACE_MANUAL_SET (R59). -/
def execPaceManualSet (m : Master) (v : Word) (s : State) : Out := .next (s.busWrite m Reg.PACE_CTRL v)
/-- PACE_MANUAL_CLEAR (R59). -/
def execPaceManualClear (m : Master) (v : Word) (s : State) : Out := .next (s.busWrite m Reg.PACE_CTRL v)
/-- TURN_CEIL_WRITE (R55). -/
def execTurnCeilWrite (m : Master) (v : Word) (s : State) : Out := .next (s.busWrite m Reg.PACE_TURN_CEIL v)
/-- PACK_RST (R121). -/
def execPackRst (m : Master) (p : Nat) (v : Word) (s : State) : Out := .next (s.ixWrite 32 p m (Reg.PACK_RST p) v)
/-- ENG_RST (R174). -/
def execEngRst (m : Master) (e : Nat) (v : Word) (s : State) : Out :=
  .next (s.ixWrite 512 e m (Reg.ENG_RST (e / 16) (e % 16)) v)
/-- ENG_WAKE (R173). -/
def execEngWake (m : Master) (e : Nat) (v : Word) (s : State) : Out :=
  .next (s.ixWrite 512 e m (Reg.ENG_WAKE (e / 16) (e % 16)) v)
/-- LEASH_GRP_ACC_WRITE (R210). -/
def execLeashGrpAccWrite (m : Master) (off : Nat) (v : Word) (s : State) : Out :=
  .next (s.rowWrite [.LEASH_GRP_ACC_LO, .LEASH_GRP_ACC_HI] m off v)
/-- SCENT_ENABLE (R254). -/
def execScentEnable (m : Master) (v : Word) (s : State) : Out := .next (s.busWrite m Reg.DSP_SCENT_CTRL v)
/-- TBL_GEOM_WRITE (R280): a write of a register that defines a table. -/
def execTblGeomWrite (m : Master) (off : Nat) (v : Word) (s : State) : Out :=
  .next (s.rowWrite [.TBL_GEOM, .TBL_BASE_LO, .TBL_BASE_HI, .TBL_SEED_LO, .TBL_SEED_HI] m off v)
/-- TBL_INIT (R280). -/
def execTblInit (m : Master) (t : Nat) (v : Word) (s : State) : Out := .next (s.ixWrite 64 t m (Reg.TBL_CTRL t) v)
/-- TBL_EPV_WRITE (R282). -/
def execTblEpvWrite (m : Master) (t : Nat) (v : Word) (s : State) : Out := .next (s.ixWrite 64 t m (Reg.TBL_CTRL t) v)
/-- CACHE_FLUSH (R298). -/
def execCacheFlush (m : Master) (v : Word) (s : State) : Out := .next (s.busWrite m Reg.TBL_CACHE_CTRL v)
/-- RING_PI_WRITE (R304, R342). -/
def execRingPiWrite (m : Master) (off : Nat) (v : Word) (s : State) : Out :=
  .next (s.rowWrite [.TDMA_PI, .HP_H2D_PI, .HP_D2H_PI] m off v)
/-- RING_ENABLE (R304, R341). -/
def execRingEnable (m : Master) (off : Nat) (v : Word) (s : State) : Out :=
  .next (s.rowWrite [.TDMA_CFG, .HP_H2D_CFG, .HP_D2H_CFG] m off v)
/-- KN_POOL_WRITE (R312). -/
def execKnPoolWrite (m : Master) (off : Nat) (v : Word) (s : State) : Out :=
  .next (s.rowWrite [.KN_POOL_BASE, .KN_POOL_SIZE] m off v)
/-- PORT_QUAD_WRITE (R325). -/
def execPortQuadWrite (m : Master) (q : Nat) (v : Word) (s : State) : Out :=
  .next (s.ixWrite 12 q m (Reg.PORT_QUAD q) v)
/-- MDIO_RUN (R344). -/
def execMdioRun (m : Master) (i : Nat) (v : Word) (s : State) : Out := .next (s.ixWrite 2 i m (Reg.MDIO_RUN i) v)
/-- MTR_CFG_WRITE (R362). -/
def execMtrCfgWrite (m : Master) (off : Nat) (v : Word) (s : State) : Out := .next (s.rowWrite [.MTR_CFG] m off v)
/-- PORT_DISABLE (R366): a write of PORT_CFG. -/
def execPortDisable (m : Master) (port : Nat) (v : Word) (s : State) : Out :=
  .next (s.ixWrite 256 port m (Reg.PORT_CFG port) v)
/-- GCL_COMMIT (R373). -/
def execGclCommit (m : Master) (x : Nat) (v : Word) (s : State) : Out := .next (s.ixWrite 62 x m (Reg.EQ_GCL_CTRL x) v)
/-- SRC_RET (R398). -/
def execSrcRet (m : Master) (v : Word) (s : State) : Out := .next (s.busWrite m Reg.TB_STAT v)
/-- TB_ADJ_STEP (R401): a write of TB_ADJ_CTRL. -/
def execTbAdjStep (m : Master) (d : Nat) (v : Word) (s : State) : Out := .next (s.ixWrite 4 d m (Reg.TB_ADJ_CTRL d) v)
/-- TB_ADJ_SET (R401). -/
def execTbAdjSet (m : Master) (d : Nat) (v : Word) (s : State) : Out := .next (s.ixWrite 4 d m (Reg.TB_ADJ_CTRL d) v)
/-- TB_SNAP (R412). -/
def execTbSnap (m : Master) (v : Word) (s : State) : Out := .next (s.busWrite m Reg.TB_SNAP v)
/-- TXTS_HDR_READ (R408). -/
def execTxtsHdrRead (m : Master) (x : Nat) (s : State) : Out :=
  if x < 49 then .next (s.busRead m (Reg.TXTS_HDR x)) else .next s
/-- TRAIN (R432). -/
def execTrain (m : Master) (i : Nat) (v : Word) (s : State) : Out := .next (s.ixWrite 2 i m (Reg.DDR_CTRL i) v)
/-- DDR_OPEN_WRITE (R432). -/
def execDdrOpenWrite (m : Master) (i : Nat) (v : Word) (s : State) : Out := .next (s.ixWrite 2 i m (Reg.DDR_CTRL i) v)
/-- DDR_ERR_POP_READ (R431). -/
def execDdrErrPopRead (m : Master) (s : State) : Out := .next (s.busRead m Reg.DDR_ERR_POP)
/-- ERR_POP_READ (R530). -/
def execErrPopRead (m : Master) (s : State) : Out := .next (s.busRead m Reg.ERR_POP)
/-- SYS_BOOT_CTRL_DONE (R508). -/
def execSysBootCtrlDone (m : Master) (v : Word) (s : State) : Out := .next (s.busWrite m Reg.SYS_BOOT_CTRL v)
/-- SYS_BOOT_CTRL_FAIL (R517). -/
def execSysBootCtrlFail (m : Master) (v : Word) (s : State) : Out := .next (s.busWrite m Reg.SYS_BOOT_CTRL v)
/-- KICK (R509). -/
def execKick (m : Master) (v : Word) (s : State) : Out := .next (s.busWrite m Reg.SYS_WDOG v)
/-- EV_STATUS_WRITE (R525). -/
def execEvStatusWrite (m : Master) (g : Nat) (v : Word) (s : State) : Out := .next (s.ixWrite 32 g m (Reg.EV_STATUS g) v)
/-- EV_ENABLE_WRITE (R525). -/
def execEvEnableWrite (m : Master) (g : Nat) (v : Word) (s : State) : Out := .next (s.ixWrite 32 g m (Reg.EV_ENABLE g) v)
/-- EV_ROUTE_WRITE (R525). -/
def execEvRouteWrite (m : Master) (src : Nat) (v : Word) (s : State) : Out :=
  .next (s.ixWrite 1024 src m (Reg.EV_ROUTE src) v)
/-- EV_SW_RAISE (R523). -/
def execEvSwRaise (m : Master) (v : Word) (s : State) : Out := .next (s.busWrite m Reg.EV_SW_RAISE v)

/-! ### Locks (R199, R203, R205) -/

/-- LEASH_ACQUIRE (R199): an IN of a context from the port of lock i, a read of a bus master, a frame of a peer. -/
def execLeashAcquire (m : Master) (i : Nat) (o : Operands) (s : State) : Out :=
  if 4096 ≤ i then .next s
  else
    match m with
    | .ctx c => s.runIn c o fun p => p == 0x1000 + i
    | .fabric d => execFabricLeashAccess d (0x400000 + 4 * i) false s
    | _ => .next (s.busRead m (Reg.LEASH_LOCK i))

/-- LEASH_RELEASE (R205). -/
def execLeashRelease (m : Master) (i : Nat) (o : Operands) (s : State) : Out :=
  if 4096 ≤ i then .next s
  else
    match m with
    | .ctx c => s.runOut c o fun p _ => p == 0x1000 + i
    | .fabric d => execFabricLeashAccess d (0x400000 + 4 * i) true s
    | _ => .next (s.busWrite m (Reg.LEASH_LOCK i) o.imm)

/-- The stall of a reader ends with TIMEOUT (R203). -/
def State.leashTmo (s : State) (i : Nat) (w : Waiter) : State :=
  let l := s.lock i
  ((s.setLock i { l with queue := l.queue.erase w }).bump Reg.LEASH_TMO_CNT).leashReply w.id.toNat 8

/-- LEASH_STALL_TIMEOUT (R203): one stalled read of a reader, whose TMO has run out. -/
def execLeashStallTimeout (i : Nat) (id : BitVec 16) (s : State) : Out :=
  match (s.lock i).queue.find? fun w => w.id == id && decide (w.deadline ≤ s.fr) with
  | some w => .next (s.leashTmo i w)
  | none => .next s

/-! ### Debug rows (R532 to R535) -/

/-- DBGACC (R532): an access of the debugger through JTAG. -/
def execDbgacc (off : Nat) (write : Bool) (v : Word) (s : State) : Out :=
  if write then .next (s.busWrite .debug off v) else .next (s.busRead .debug off)
/-- DBG_SESSION_ATTACH (R533). -/
def execDbgSessionAttach (m : Master) (v : Word) (s : State) : Out := .next (s.busWrite m Reg.DBG_SESSION v)
/-- DBG_SESSION_DETACH (R533): a write of ATTACH = 0, or TRST_N. -/
def execDbgSessionDetach (m : Master) (v : Word) (trst : Bool) (s : State) : Out :=
  if trst then .next (s.dbgAttach 0) else .next (s.busWrite m Reg.DBG_SESSION v)
/-- HALT (R534): a write of DBG_CMD. -/
def execHalt (m : Master) (v : Word) (s : State) : Out := .next (s.busWrite m Reg.DBG_CMD v)
/-- RESUME (R534). -/
def execResume (m : Master) (v : Word) (s : State) : Out := .next (s.busWrite m Reg.DBG_CMD v)
/-- STEP (R534). -/
def execStep (m : Master) (v : Word) (s : State) : Out := .next (s.busWrite m Reg.DBG_CMD v)
/-- ABORT (R534). -/
def execAbortDbg (m : Master) (v : Word) (s : State) : Out := .next (s.busWrite m Reg.DBG_CMD v)
/-- DBG_REG_ACCESS (R535). -/
def execDbgRegAccess (m : Master) (n : Nat) (write : Bool) (v : Word) (s : State) : Out :=
  if 72 ≤ n then .next s
  else if write then .next (s.busWrite m (Reg.DBG_REG n) v)
  else .next (s.busRead m (Reg.DBG_REG n))

/-! ### GPIO (R560) -/

/-- GPIO_INPUT_CHANGE (R560): the pins' level as the board drives it. -/
def execGpioInputChange (level : BitVec 16) (s : State) : Out := .next (s.setReg Reg.SYS_GPIO_IN (W level.toNat))

end Sys2Proof.Machine
end

