-- ==== Sys2Proof/Machine/Commands.lean ====
section
/-! DEFINITION. Command packets (R464 to R467, R475, R476, R480, R482): how a packet reads, what a reply is, and how it
goes back on its route. -/

namespace Sys2Proof.Machine

open Sys2Proof

/-! ### Status codes (R466) -/

namespace St
abbrev OK : Nat := 0
abbrev BUSY : Nat := 1
abbrev ABSENT : Nat := 2
abbrev BAD_PARAM : Nat := 3
abbrev DENIED : Nat := 4
abbrev QUIESCE_REQUIRED : Nat := 5
abbrev EPOCH_PENDING : Nat := 6
abbrev TIMEOUT : Nat := 7
abbrev NO_SPACE : Nat := 8
end St

/-! ### Packets (R464) -/

/-- The bytes with zeros up to a multiple of 4. -/
def pad4 (b : List Byte) : List Byte := b ++ List.replicate ((4 - b.length % 4) % 4) 0

/-- The first n words of a byte string. -/
def wordsOf (n : Nat) (b : List Byte) : List Word := (List.range n).map (wordAt b)

/-- Words as bytes. -/
def bytesOf (l : List Word) : List Byte := l.flatMap fun w => leBytes 4 w.toNat

/-- The little-endian number of n bytes from byte i. -/
def leAt (b : List Byte) (i n : Nat) : Nat := leNat ((b.drop i).take n)

/-- A packet whose 16 header bytes are there: its opcode and the request (R464). -/
def packetOf (r : Route) (b : List Byte) : Option (Nat × CmdReq) :=
  if b.length < 16 then none
  else
    let w0 := wordAt b 0
    let w1 := wordAt b 1
    let w3 := wordAt b 3
    some (getF w0 15 0,
      { route := r, version := getF w0 19 16, reply := bitOf w0 20,
        resv := decide (getF w0 23 21 ≠ 0 ∨ getF w1 31 24 ≠ 0 ∨ getF w3 31 4 ≠ 0), status := getF w1 23 16,
        tag := B8 (getF w0 31 24), len := getF w1 15 0, seq := wordAt b 2, authIdx := getF w3 3 0, params := b.drop 16 })

end Sys2Proof.Machine

namespace Sys2Proof

/-- LEN that a route carries (R464, R479, R482). -/
def lenLimit : Route → Nat
  | .host _ => 44
  | .indirect .. => 65520
  | .inBand _ => 9550
  | .fabric _ => 9580

/-- Check 1 of R467. -/
def CmdReq.formOk (q : CmdReq) : Bool :=
  q.version == 1 && !q.resv && !q.reply && q.status == 0 && decide (q.len ≤ lenLimit q.route)
    && decide (q.len ≤ q.params.length)

/-- The LEN parameter bytes. -/
def CmdReq.args (q : CmdReq) : List Byte := q.params.take q.len

end Sys2Proof

namespace Sys2Proof.Machine

open Sys2Proof

/-! ### Replies (R465, R475, R476, R480, R482) -/

/-- The header of a reply. -/
def replyHead (op : Nat) (q : CmdReq) (st len : Nat) : List Byte :=
  leBytes 4 (op + 2 ^ 16 + 2 ^ 20 + q.tag.toNat * 2 ^ 24) ++ leBytes 4 (len + st * 2 ^ 16) ++ leBytes 4 q.seq.toNat
    ++ leBytes 4 q.authIdx

/-- A reply packet. -/
def replyPacket (op : Nat) (q : CmdReq) (st : Nat) (b : List Byte) : List Byte :=
  pad4 (replyHead op q st b.length ++ b)

/-- The reply packet, or that of ST_NO_SPACE where the result exceeds what the route carries. -/
def replyWithin (n op : Nat) (q : CmdReq) (st : Nat) (b : List Byte) : List Byte :=
  if b.length ≤ n then replyPacket op q st b else replyPacket op q St.NO_SPACE []

/-- A COMPLETION block (R475). -/
def completion (head : List Byte) (cookie : Word) (written : Nat) : Reply :=
  W 4 :: wordsOf 4 head ++ [cookie, W written] ++ List.replicate 9 0

/-- What the firmware has sent on a route other than a host pair, or written to host memory. -/
def State.noteSent (s : State) (r : Route) (b : List Byte) : State :=
  { s with ctl := { s.ctl with sent := s.ctl.sent ++ [⟨r, b⟩] } }

/-- The reply of an INDIRECT request: written at RSP, then the COMPLETION (R476). -/
def State.replyAt (s : State) (op : Nat) (q : CmdReq) (st : Nat) (b : List Byte) (h rsp n : Nat) (cookie : Word) : State :=
  let p := replyPacket op q st b
  let out := if p.length ≤ n then p else replyHead op q St.NO_SPACE b.length
  if s.hub.busMaster then
    ((s.tdmaWrite false rsp out).noteSent q.route out).queueReply h (completion (out.take 16) cookie out.length)
  else s.queueReply h (completion (out.take 16) cookie 0)

/-- The tag of an in-band frame (R479): the CMAC over the EtherType and the packet. -/
def inBandTag (key packet : List Byte) : List Byte := cmac key ([0x88, 0xB5] ++ packet)

/-- The key in a slot (R481): slot 1 from OTP; empty where there is none. -/
def State.keyOf (s : State) (i : Nat) : List Byte := if i = 1 then s.chip.otpKey else Tab.get [] s.ctl.authKey i

/-- The frame of an in-band reply to address `src` (R479, R480). -/
def State.inBandReply (s : State) (src : List Byte) (authIdx : Nat) (p : List Byte) : List Byte :=
  let b := src ++ s.ibMac ++ [0x88, 0xB5] ++ p ++ inBandTag (s.keyOf authIdx) p
  if b.length < 60 then fit 60 b else b

/-- The management port carries a reply: its link is up, and it is in service or the device in Minimal mode (R480,
R512). -/
def State.mgmtUp (s : State) : Bool := s.flag (Reg.PORT_STAT 96) 0 && (s.minimal || s.portOn 96)

/-- The reply to a request goes back (R465, R476, R480, R482). -/
def State.sendReply (s : State) (op : Nat) (q : CmdReq) (st : Nat) (b : List Byte) : State :=
  match q.route with
  | .host h => s.queueReply h (W 1 :: wordsOf 15 (replyWithin 44 op q st b))
  | .indirect h rsp n cookie => s.replyAt op q st b h rsp n cookie
  | .inBand src =>
    if s.mgmtUp then
      let f := s.inBandReply src q.authIdx (replyWithin 9550 op q st b)
      (s.pin (.frame 96 f false)).noteSent q.route f
    else s.bump (Reg.PORT_IDROP 96 7)
  | .fabric d =>
    let p := replyWithin 9580 op q st b
    (s.fabControl 1 d p).noteSent q.route p

/-- The header of a reply to a request whose header could not be read (R465). -/
def bareHead : List Byte := leBytes 4 (2 ^ 16 + 2 ^ 20) ++ leBytes 4 (St.BAD_PARAM * 2 ^ 16) ++ List.replicate 8 0

/-! ### How a command ends -/

/-- A command replies, waits for hardware, or waits for what only the board can tell it. -/
inductive CmdEnd where
  | reply (st : Nat) (b : List Byte)
  | waits
  | parked
  deriving DecidableEq, Repr

/-- How a command ends, with the state. -/
abbrev CmdRes := CmdEnd × State

/-- A command that ends with a status and no result bytes. -/
def State.ends (s : State) (st : Nat) : CmdRes := (.reply st [], s)

/-- A command that ends with ST_OK and a result. -/
def State.gives (s : State) (b : List Byte) : CmdRes := (.reply St.OK b, s)

/-- What the board tells a command. -/
inductive CmdEnv where
  | none
  | records (l : List SurveyRec)
  | inTime (ok : Bool)
  deriving DecidableEq, Repr

/-- The bytes of a parameter that are to be 0. -/
def zeros (b : List Byte) (i n : Nat) : Bool := leAt b i n == 0

end Sys2Proof.Machine
end

