-- ==== Sys2Proof/Machine/CmdConfig.lean ====
section
/-! DEFINITION. The commands of groups 0x01xx to 0x06xx and 0x0Axx (R8, R469, R481 to R494, R513, R581): what each
checks and does once pair 0 executes it. -/

namespace Sys2Proof.Machine

open Sys2Proof

/-! ### Group 0x01: device -/

/-- Usable capacity of a DRAM interface in MiB (R8). -/
def State.usableMib (s : State) (i : Nat) : Nat :=
  let c := s.reg (Reg.DDR_CTRL i)
  if i < s.chip.ddrs ∧ bitOf c 2 ∧ getF c 10 8 ≠ 0 then capGib (getF c 10 8) * 1024 * 7 / 8 else 0

/-- CMD_GET_FEATURES (R8). -/
def State.cmdGetFeatures (s : State) (q : CmdReq) : CmdRes :=
  if q.len ≠ 0 then s.ends St.BAD_PARAM
  else
    s.gives (bytesOf [s.chip.census0, s.chip.census1, s.chip.fwVersion, W (s.usableMib 0), W (s.usableMib 1),
      W s.minimal.toNat])

/-- The window of BAR0. -/
def outsideBar (off : Nat) : Bool := decide (off % 4 ≠ 0 ∨ 0x4000000 ≤ off)

/-- The lock registers. -/
def isLock (off : Nat) : Bool := decide (0x400000 ≤ off ∧ off < 0x404000)

/-- A read as the host's, with nothing cleared (R35, R581). -/
def State.peek (s : State) (off : Nat) : Word × State :=
  match findReg off with
  | none => (0, s)
  | some (r, ix) => if s.present r ix then s.regRead true false r ix off else (0, s)

/-- The reads of CMD_REG_READ, in order. -/
def State.peekAll (s : State) : List Nat → List Word × State
  | [] => ([], s)
  | o :: t =>
    match s.peek o with
    | (v, u) =>
      match u.peekAll t with
      | (l, w) => (v :: l, w)

/-- CMD_REG_READ (R581): the first offset in parameter order that is refused gives the status. -/
def State.cmdRegRead (s : State) (q : CmdReq) : CmdRes :=
  if q.len % 4 ≠ 0 then s.ends St.BAD_PARAM
  else
    let offs := (wordsOf (q.len / 4) q.args).map fun w => w.toNat
    match offs.find? (fun o => outsideBar o || isLock o) with
    | some o => s.ends (if outsideBar o then St.BAD_PARAM else St.DENIED)
    | none =>
      match s.peekAll offs with
      | (l, t) => t.gives (bytesOf l)

/-! ### CMD_REG_WRITE (R486, R492) -/

/-- The spare epoch. -/
def State.spare (s : State) : Nat := 1 - s.ing

/-- A stage is open. -/
def State.stageOpen (s : State) : Bool := s.flag Reg.SYS_EPOCH 1

/-- The code region of an epoch: block numbers, rising (R490). -/
def State.code (s : State) (e : Nat) : List Nat := if e = 0 then s.ctl.code0 else s.ctl.code1

def State.setCode (s : State) (e : Nat) (l : List Nat) : State :=
  { s with ctl := if e = 0 then { s.ctl with code0 := l } else { s.ctl with code1 := l } }

/-- The 256-byte blocks that n bytes from `a` touch. -/
def touches (a n b : Nat) : Bool := decide (a / 256 ≤ b ∧ b * 256 < a + n)

/-- A load of n bytes at `a` is accepted (R490). -/
def State.loadOk (s : State) (a n : Nat) : Bool := s.stageOpen && !(s.code s.ing).any (touches a n)

/-- An accepted load adds its blocks to the region of the staged epoch. -/
def State.addCode (s : State) (a n : Nat) : State :=
  s.setCode s.spare ((List.range 256).filter fun b => (s.code s.spare).contains b || touches a n b)

/-- The epoch whose copy a register is (R483). -/
def epochOf (id : RegId) (ix : List Nat) : Option Nat :=
  match id with
  | .DSP_CLASS_MAP0 => some 0
  | .DSP_CLASS_MAP1 => some 1
  | .CLS_PCTL | .CLS_PACT | .CLS_PSEED | .CLS_PFLD => some (ix.headD 0)
  | .PACK_ENTRY => some (ix.getD 1 0 / 8)
  | _ => none

/-- EPV bits that a write moves, of the ingress epoch or without an open stage (R483, R486). -/
def State.epvDenied (s : State) (off : Nat) (v : Word) : Bool :=
  let old := s.reg off
  fieldMoves v old s.ing s.ing || (!s.stageOpen && fieldMoves v old s.spare s.spare)

/-- A write to a register is epoched state outside R486. -/
def State.epochDenied (s : State) (id : RegId) (ix : List Nat) (off : Nat) (v : Word) : Bool :=
  match epochOf id ix with
  | some e => !(s.stageOpen && e == s.spare)
  | none =>
    if id = .TBL_CTRL then s.epvDenied off v
    else id == .PK_ISTORE && !s.loadOk (4 * ix.getD 1 0) 4

/-- What Minimal mode leaves to CMD_REG_WRITE: the System, Event Hub and Debug blocks (R512). -/
def minimalBlock (off : Nat) : Bool :=
  decide (off < 0x100000 ∨ (0x200000 ≤ off ∧ off < 0x300000) ∨ (0x2100000 ≤ off ∧ off < 0x2200000))

/-- Offsets that no command writes: the Whistle block, SYS_OWN, the locks (R492). -/
def neverWritten (off : Nat) : Bool := decide ((0x100000 ≤ off ∧ off < 0x200000) ∨ off = Reg.SYS_OWN) || isLock off

/-- The status a judgement of a write gives (R492). -/
def WrSt.code : WrSt → Nat
  | .ok => St.OK
  | .bad => St.BAD_PARAM
  | .quiesce => St.QUIESCE_REQUIRED

/-- No context of the packs is live and their Fetch slots are empty (R494). -/
def State.packsEmpty (s : State) (ps : List Nat) : Bool :=
  ps.all fun p => !s.packLive p && (packEngs p).all fun e => (s.eng e).fs0.isNone && (s.eng e).fs1.isNone

/-- The pair changes EXPOSE, WHEEL_LEN or the wheel map of a pack that is not drained (R493). -/
def State.needsDrain (s : State) (r : RegDesc) (ix : List Nat) (off : Nat) (v : Word) : Bool :=
  let old := s.reg off
  let moves := (r.id == .PACK_CFG && (fieldMoves v old 0 0 || fieldMoves v old 1 1))
    || r.id == .WHEEL_MAP0 || r.id == .WHEEL_MAP1
  moves && !s.packsEmpty [ix.headD 0]

/-- A pair at a present register: a pair that would be taken in part changes nothing. -/
def State.pairReg (s : State) (r : RegDesc) (ix : List Nat) (off : Nat) (v : Word) : Nat × State :=
  if s.epochDenied r.id ix off v then (St.DENIED, s)
  else if s.needsDrain r ix off v then (St.QUIESCE_REQUIRED, s)
  else
    match s.regWrite r ix off v with
    | (.ok, t) => (St.OK, if r.id = .PK_ISTORE then t.addCode (4 * ix.getD 1 0) 4 else t)
    | (w, _) => (w.code, s)

/-- One pair (R492). A port that is only invalid in the mode of its quad is no absent unit: its registers ignore the write in
this state (log entry 3). -/
def State.pairWrite (s : State) (off : Nat) (v : Word) : Nat × State :=
  if outsideBar off then (St.BAD_PARAM, s)
  else if s.minimal && !minimalBlock off then (St.DENIED, s)
  else if metWindow off then (if s.chip.metro then St.DENIED else St.ABSENT, s)
  else if neverWritten off then (St.DENIED, s)
  else
    match findReg off with
    | none => (St.OK, s)
    | some (r, ix) =>
      if s.present r ix then s.pairReg r ix off v
      else (if s.unitAbsent r ix then St.ABSENT else St.QUIESCE_REQUIRED, s)

/-- The pairs in order, up to the first refusal: the number applied, the status, the state. -/
def State.pairs (s : State) : List (Nat × Word) → Nat → Nat × Nat × State
  | [], n => (n, St.OK, s)
  | (off, v) :: t, n =>
    match s.pairWrite off v with
    | (st, u) => if st = St.OK then u.pairs t (n + 1) else (n, st, u)

/-- CMD_REG_WRITE (R492). -/
def State.cmdRegWrite (s : State) (q : CmdReq) : CmdRes :=
  if q.len % 8 ≠ 0 then s.ends St.BAD_PARAM
  else
    match s.pairs ((List.range (q.len / 8)).map fun i => (leAt q.args (8 * i) 4, wordAt q.args (2 * i + 1))) 0 with
    | (n, st, t) => (.reply st (leBytes 4 n), t)

/-! ### Keys and reset -/

/-- CMD_AUTH_KEY_SET (R469, R481): from a host pair, or from a peer, whose commands run as from one (R482). -/
def State.cmdAuthKeySet (s : State) (q : CmdReq) : CmdRes :=
  let i := (byteAt q.args 0).toNat
  match q.route with
  | .inBand _ => s.ends St.DENIED
  | _ =>
    if q.len ≠ 20 ∨ !zeros q.args 1 3 ∨ i < 2 ∨ 15 < i then s.ends St.BAD_PARAM
    else
      { s with ctl := { s.ctl with
          authKey := Tab.set [] s.ctl.authKey i ((q.args.drop 4).take 16)
          authSeq := Tab.set 0 s.ctl.authSeq i 0 } }.ends St.OK

/-- CMD_SYS_RESET (R513): the reply, CLEAR, then a self reset in 1 ms. -/
def State.cmdSysReset (s : State) (q : CmdReq) : CmdRes :=
  if q.len ≠ 1 then s.ends St.BAD_PARAM
  else
    let t := if (byteAt q.args 0).toNat % 2 = 1 then s.setFld Reg.SYS_BOOT_TRIES 3 0 0 else s
    t.selfResetSoon.ends St.OK

/-! ### Group 0x02: MACsec (R329, R330, R469) -/

/-- Why a MACsec command is refused for its port: an absent quad, or a port without a SecY. -/
def State.macsecPort (s : State) (port : Nat) : Nat :=
  if 48 ≤ port then St.BAD_PARAM else if s.chip.quads ≤ port / 4 then St.ABSENT else St.OK

/-- The port at byte i of the parameters is of an absent quad: check 5 of R467, before LEN. -/
def State.macsecAbsent (s : State) (q : CmdReq) (i : Nat) : Bool :=
  decide (i < q.len) && s.macsecPort (byteAt q.args i).toNat == St.ABSENT

/-- CMD_MACSEC_SECY. -/
def State.cmdMacsecSecy (s : State) (q : CmdReq) : CmdRes :=
  let a := q.args
  let port := (byteAt a 0).toNat
  let offset := (byteAt a 2).toNat
  let f := (byteAt a 3).toNat
  if !s.chip.crypto || s.macsecAbsent q 0 then s.ends St.ABSENT
  else if q.len ≠ 16 then s.ends St.BAD_PARAM
  else if s.macsecPort port ≠ St.OK then s.ends (s.macsecPort port)
  else if 3 < (byteAt a 1).toNat ∨ !(offset == 0 || offset == 30 || offset == 50) ∨ 16 ≤ f then s.ends St.BAD_PARAM
  else
    (s.setSecy port { s.secy port with
      suite := (byteAt a 1).toNat, offset := offset, strict := decide (f % 2 = 1), replay := decide (f / 2 % 2 = 1),
      sc := decide (f / 4 % 2 = 1), protect := decide (f / 8 % 2 = 1), window := leAt a 4 4,
      sci := BitVec.ofNat 64 (leAt a 8 8) }).ends St.OK

/-- CMD_MACSEC_RXSC. -/
def State.cmdMacsecRxsc (s : State) (q : CmdReq) : CmdRes :=
  let a := q.args
  let port := (byteAt a 2).toNat
  if !s.chip.crypto || s.macsecAbsent q 2 then s.ends St.ABSENT
  else if q.len ≠ 12 then s.ends St.BAD_PARAM
  else if s.macsecPort port ≠ St.OK then s.ends (s.macsecPort port)
  else if 255 < leAt a 0 2 ∨ 2 ≤ (byteAt a 3).toNat then s.ends St.BAD_PARAM
  else
    let x : RxSc := { port := port, en := decide ((byteAt a 3).toNat = 1), sci := BitVec.ofNat 64 (leAt a 4 8) }
    ({ s with ports := { s.ports with rxscs := Tab.set {} s.ports.rxscs (leAt a 0 2) x } }).ends St.OK

/-- The next packet number of a transmit SA has reached the threshold of R330. -/
def pnReached (suite pn : Nat) : Bool := decide (3 * 2 ^ ((if 2 ≤ suite then 64 else 32) - 2) ≤ pn)

/-- CMD_MACSEC_SA. A transmit SA that is enabled is the one the port transmits under (log entry 22). -/
def State.cmdMacsecSa (s : State) (q : CmdReq) : CmdRes :=
  let a := q.args
  let port := (byteAt a 0).toNat
  let rx := decide ((byteAt a 1).toNat = 1)
  let an := (byteAt a 4).toNat
  let suite := (s.secy port).suite
  let en := decide ((byteAt a 5).toNat = 1)
  let pn := leAt a 8 8
  if !s.chip.crypto || s.macsecAbsent q 0 then s.ends St.ABSENT
  else if q.len ≠ 48 ∧ q.len ≠ 64 then s.ends St.BAD_PARAM
  else if s.macsecPort port ≠ St.OK then s.ends (s.macsecPort port)
  else if 1 < (byteAt a 1).toNat ∨ 3 < an ∨ 1 < (byteAt a 5).toNat ∨ !zeros a 6 2 ∨ (rx ∧ 255 < leAt a 2 2)
      ∨ q.len ≠ 32 + (if suite % 2 = 0 then 16 else 32) then s.ends St.BAD_PARAM
  else
    let x : SecA := { en := en, pn := pn, ssci := wordAt a 4, salt := (a.drop 20).take 12, key := a.drop 32 }
    if rx then (s.setSa (saRx (leAt a 2 2) an) x).ends St.OK
    else
      let t := s.setSa (saTx port an) x
      let t := if en then t.setSecy port { t.secy port with txAn := an } else t
      (if en && pnReached suite pn then t.raise (Ev.MACSEC_PN port) else t).ends St.OK

/-! ### Group 0x03: tables (R301 to R303, R469) -/

/-- A completed descriptor. -/
def tdescDone (b : List Byte) (r : TRes) : List Byte :=
  b.take 3 ++ B8 r.status :: leBytes 4 r.bucket ++ [B8 r.slot, B8 r.age] ++ b.drop 10

/-- EV_TDMA_DONE of a descriptor with IRQ: it belongs to no ring, and which ring's source asserts is open (log
entry 23). -/
def State.tblOpsIrq (s : State) (irq : Bool) : State :=
  if irq then
    match s.free with
    | (v, t) => t.raise (Ev.TDMA_DONE (v.toNat % 4))
  else s

/-- Table DMA takes up a descriptor of CMD_TBL_OPS: its buffers are in host memory. -/
def State.tblTake (s : State) (raw : List Byte) : State := (s.tdmaBegin 4 ⟨false, .ready, tdescOf raw, [], false, false⟩).tdmaGo 4 0

/-- The operation of CMD_TBL_OPS is over: its result. -/
def State.tblOver (s : State) : Option TRes :=
  match s.trun 4 with
  | some ⟨_, .done r, _, _, _, _⟩ => some r
  | _ => none

/-- CMD_TBL_OPS with the descriptor at the front of `left` in progress: the descriptors that are over leave one after the
other, and the command waits for the update unit where it must (R289, R300). -/
def State.tblOps : Nat → CmdReq → List Byte → List Byte → State → CmdRes
  | 0, _, _, out, s => s.gives out
  | n + 1, q, left, out, s =>
    match s.tblOver with
    | none => (.waits, { s with ctl := { s.ctl with tblWait := some (q, left, out) } })
    | some r =>
      let raw := left.take 32
      let t := (s.setTrun 4 none).tblOpsIrq (tdescOf raw).irq
      State.tblOps n q (left.drop 32) (out ++ tdescDone raw r) (if n = 0 then t else t.tblTake ((left.drop 32).take 32))

/-- CMD_TBL_OPS. After a FATAL error the Lookup Engine does not answer (R531). -/
def State.cmdTblOps (s : State) (q : CmdReq) : CmdRes :=
  if q.len % 32 ≠ 0 then s.ends St.BAD_PARAM
  else if s.hub.fatal then s.ends St.TIMEOUT
  else if q.len = 0 then s.gives []
  else State.tblOps (q.len / 32) q q.args [] (s.tblTake (q.args.take 32))

/-! ### Group 0x05: programs and packs (R490, R491, R494) -/

/-- The present packs of a mask. -/
def State.packsIn (s : State) (mask : Word) : List Nat := (List.range s.chip.packs).filter fun p => bitOf mask p

/-- A program image goes to an address of the instruction store of packs. -/
def State.putProg (s : State) (ps : List Nat) (addr : Nat) (img : List Byte) : State :=
  ps.foldl (fun t p => { t with mem := { t.mem with istore := t.mem.istore.put (p * 0x10000 + addr) img } }) s

/-- CMD_PROG_LOAD (R490). -/
def State.cmdProgLoad (s : State) (q : CmdReq) : CmdRes :=
  let a := q.args
  let addr := leAt a 4 2
  let img := a.drop 8
  let n := img.length
  if q.len < 8 ∨ !zeros a 6 2 ∨ addr % 4 ≠ 0 ∨ n % 4 ≠ 0 ∨ n = 0 ∨ 0x10000 < addr + n then s.ends St.BAD_PARAM
  else if !s.loadOk addr n then s.ends St.DENIED
  else
    ((s.putProg (s.packsIn (wordAt a 0)) addr img).addCode addr n).ends St.OK

/-- CMD_PROG_DROP (R491). -/
def State.cmdProgDrop (s : State) (q : CmdReq) : CmdRes :=
  let a := q.args
  let addr := leAt a 0 2
  let n := leAt a 4 4
  if q.len ≠ 8 ∨ !zeros a 2 2 ∨ addr % 256 ≠ 0 ∨ n % 256 ≠ 0 ∨ n = 0 ∨ 0x10000 < addr + n then s.ends St.BAD_PARAM
  else if !s.stageOpen then s.ends St.DENIED
  else (s.setCode s.spare ((s.code s.spare).filter fun b => !touches addr n b)).ends St.OK

/-- The Dispatcher places no job on the packs. -/
def State.drainOn (s : State) (ps : List Nat) : State :=
  { s with disp := { s.disp with drained := (List.range 32).filter fun p => s.disp.drained.contains p || ps.contains p } }

/-- CMD_PACK_DRAIN (R494). -/
def State.cmdPackDrain (s : State) (q : CmdReq) : CmdRes :=
  let ps := s.packsIn (wordAt q.args 0)
  let limit := leAt q.args 4 4
  if q.len ≠ 8 then s.ends St.BAD_PARAM
  else
    let t := s.drainOn ps
    if t.packsEmpty ps then t.ends St.OK
    else if limit = 0 then t.ends St.TIMEOUT
    else (.waits, { t with ctl := { t.ctl with drainWait := some (q, ps, t.fr + limit * 1000000) } })

/-- CMD_PACK_RESUME (R494). -/
def State.cmdPackResume (s : State) (q : CmdReq) : CmdRes :=
  if q.len ≠ 4 then s.ends St.BAD_PARAM
  else
    { s with disp := { s.disp with
        drained := s.disp.drained.filter fun p => !(s.packsIn (wordAt q.args 0)).contains p } }.ends St.OK

/-! ### Group 0x06: the fabric (R482) -/

/-- Device d is another device and reachable. -/
def State.peerThere (s : State) (d : Nat) : Bool :=
  decide (d < 16) && s.fabDev != some d && s.flag (Reg.FAB_ROUTE d) 3

/-- CMD_FAB_FORWARD: the packet goes out, and the reply is awaited for 100 ms. -/
def State.cmdFabForward (s : State) (q : CmdReq) : CmdRes :=
  let a := q.args
  let d := (byteAt a 0).toNat
  let n := leAt a 8 2
  let p := (a.drop 4).take (16 + n)
  if !s.chip.fabric then s.ends St.ABSENT
  else if q.len < 20 ∨ !zeros a 1 3 ∨ q.len < 20 + n ∨ 23 + n < q.len ∨ 9580 < n then s.ends St.BAD_PARAM
  else if !s.peerThere d then s.ends St.BAD_PARAM
  else
    let t := s.fabControl 1 d (pad4 p)
    (.waits, { t with ctl := { t.ctl with fwdWait := some (q, t.fr + 100000000) } })

/-! ### Group 0x0A: epochs (R485 to R489) -/

/-- Register `dst` becomes a copy of register `src`. -/
def State.copyReg (s : State) (src dst : Nat) : State := s.setReg dst (s.reg src)

/-- The class map of an epoch. -/
def classMapOff (e : Nat) : Nat := if e = 0 then Reg.DSP_CLASS_MAP0 else Reg.DSP_CLASS_MAP1

/-- The registers of the key profiles of an epoch. -/
def profileRegs (e : Nat) : List Nat :=
  (List.range 16).flatMap fun k =>
    [Reg.CLS_PCTL e k, Reg.CLS_PACT e k, Reg.CLS_PSEED e k] ++ (List.range 8).map fun i => Reg.CLS_PFLD e k i

/-- The program entries of an epoch. -/
def State.entryRegs (s : State) (e : Nat) : List Nat :=
  (List.range s.chip.packs).flatMap fun p => (List.range 8).map fun c => Reg.PACK_ENTRY p (8 * e + c)

/-- Every item of R483 of the ingress epoch is copied into the spare epoch. -/
def State.stageCopy (s : State) : State :=
  let i := s.ing
  let e := s.spare
  let pairs := (classMapOff i, classMapOff e)
    :: (profileRegs i).zip (profileRegs e) ++ (s.entryRegs i).zip (s.entryRegs e)
  let t := pairs.foldl (fun t p => t.copyReg p.1 p.2) s
  let t := (List.range 64).foldl (fun t k => t.setFld (Reg.TBL_CTRL k) e e (t.fld (Reg.TBL_CTRL k) i i)) t
  t.setCode e (t.code i)

/-- CMD_CFG_STAGE (R485). -/
def State.cmdCfgStage (s : State) (q : CmdReq) : CmdRes :=
  if q.len ≠ 0 then s.ends St.BAD_PARAM
  else if s.fld (Reg.HERD_EPOCH_CNT s.spare) 17 0 ≠ 0 then s.ends St.EPOCH_PENDING
  else if s.stageOpen then s.ends St.BAD_PARAM
  else (s.stageCopy.setFld Reg.SYS_EPOCH 1 1 1).ends St.OK

/-- EV_CFG_ZERO where the class map in force names a priority without queue entries (R580). -/
def State.cfgZero (s : State) : State :=
  if (List.range 8).any fun p => s.qLimit p == 0 && s.prioUsed p then s.raise Ev.CFG_ZERO else s

/-- CMD_CFG_COMMIT (R487, R488). -/
def State.cmdCfgCommit (s : State) (q : CmdReq) : CmdRes :=
  let old := s.ing
  if q.len ≠ 0 ∨ !s.stageOpen then s.ends St.BAD_PARAM
  else (((s.setReg Reg.SYS_EPOCH (W s.spare)).cfgZero).epochReport old).ends St.OK

/-- CMD_CFG_ABORT (R489). -/
def State.cmdCfgAbort (s : State) (q : CmdReq) : CmdRes :=
  if q.len ≠ 0 ∨ !s.stageOpen then s.ends St.BAD_PARAM else (s.setFld Reg.SYS_EPOCH 1 1 0).ends St.OK

/-- CMD_CFG_STATUS (R489). -/
def State.cmdCfgStatus (s : State) (q : CmdReq) : CmdRes :=
  if q.len ≠ 0 then s.ends St.BAD_PARAM else s.gives (leBytes 4 (s.reg Reg.SYS_EPOCH).toNat)

end Sys2Proof.Machine
end

