-- ==== Sys2Proof/Machine/Boot.lean ====
section
/-! DEFINITION. Resets and start-up (R498 to R512), and the commands of group 0x08xx (R503, R511, R514). -/

namespace Sys2Proof.Machine

open Sys2Proof

/-- The operating range of a surveyed rail in mV, in the order of the supply table (R561); rail 0 follows VSET. -/
def railRange (vset n : Nat) : Nat × Nat :=
  [(vset - 15, vset + 15), (728, 772), (873, 927), (1140, 1260), (1010, 1120), (470, 570), (1710, 1890),
    (3135, 3465)].getD n (0, 0)

/-- A 16-byte record of the report: TYPE, INDEX, STATUS and bytes 4 to 15 (R510). -/
def surveyRecord (ty index status : Nat) (data : List Byte) : List Byte :=
  [B8 ty, B8 index, B8 status, 0] ++ fit 12 data

/-- The record of an item; `on` says which ports run (R511). -/
def surveyBytes (vset : Nat) (on : Nat → Bool) : SurveyRec → List Byte
  | .rail n mv pmbus =>
    let (lo, hi) := railRange vset n
    let st := match mv with
      | some v => if lo ≤ v ∧ v ≤ hi then 0 else 1
      | none => 2
    surveyRecord 1 n st (leBytes 2 (mv.getD 0) ++ leBytes 2 lo ++ leBytes 2 hi ++ [B8 pmbus.toNat])
  | .load page ma rail => surveyRecord 2 page (if ma.isSome then 0 else 2) (leBytes 4 (ma.getD 0) ++ leBytes 2 rail)
  | .phy port cable master addr =>
    let st := if on port then 3 else if cable.isSome then 0 else 2
    let (len, able) := if on port then (0xFFFF, 0) else cable.getD (0xFFFF, 0)
    surveyRecord 3 port st (leBytes 2 len ++ leBytes 2 able ++ [B8 master, B8 addr])

/-- The record numbers a TYPE and an INDEX. -/
def surveyAt (ty n : Nat) : SurveyRec → Bool
  | .rail k _ _ => ty == 1 && k == n
  | .load k _ _ => ty == 2 && k == n
  | .phy k _ _ _ => ty == 3 && k == n

/-- A record with STATUS 1 or 2; a supply out of range (R510, R519). -/
def recFault (b : List Byte) : Bool := byteAt b 2 == 1 || byteAt b 2 == 2
def recSupply (b : List Byte) : Bool := byteAt b 0 == 1 && byteAt b 2 == 1

/-! ### Resets (R498, R499) -/

/-- The always-on registers: SYS_BOOT_TRIES, and REASON, SOURCE and SVN of SYS_BOOT_STATUS. -/
def State.keepAon (s old : State) : State :=
  let st := old.reg Reg.SYS_BOOT_STATUS
  let s := s.setReg Reg.SYS_BOOT_STATUS (setF (setF st 13 12 0) 14 14 0)
  let s := s.setReg Reg.SYS_BOOT_TRIES (old.reg Reg.SYS_BOOT_TRIES)
  { s with ctl := { s.ctl with authSeq := Tab.set 0 [] 1 (Tab.get 0 old.ctl.authSeq 1) } }

/-- A device whose FAB_ID straps give an address has it from reset (R447). -/
def State.strapAddr (s : State) : State :=
  if s.chip.fabric ∧ s.chip.fabId ≠ 15 then
    (s.setFld Reg.FAB_STAT 3 0 s.chip.fabId.toNat).setFld Reg.FAB_STAT 4 4 1
  else s

/-- The device as every reset leaves it: what lies outside the reset domain stays (R498, R541; log entry 24). -/
def State.cleared (s : State) (straps : Straps) : State :=
  { State.reset with
    chip := { s.chip with bootSel := straps.bootSel, fabId := straps.fabId }
    mem := { State.reset.mem with dram := s.mem.dram, host := s.mem.host, flash := s.mem.flash }
    dram := { poisoned := s.dram.poisoned, single := s.dram.single }
    island := s.island
    pins := s.pins
    freeCtr := s.freeCtr
    pending := s.pending }

/-- PORST_N. -/
def State.powerReset (s : State) (straps : Straps) : State := (s.cleared straps).strapAddr

/-- SYSRST_N and a self reset. -/
def State.warmReset (s : State) (straps : Straps) : State := ((s.cleared straps).keepAon s).strapAddr

/-- PORST_N (R498). -/
def execPorstN (straps : Straps) (s : State) : Out := .next (s.powerReset straps)

/-- SYSRST_N (R498, R507): while MODE = 0 it records REASON 0x09. -/
def execSysrstN (straps : Straps) (s : State) : Out :=
  .next ((if s.mode = 0 then s.noteReason 9 else s).warmReset straps)

/-- A self reset is due. -/
def State.resetDue (s : State) : Bool :=
  match s.boot.resetAt with
  | some t => decide (t ≤ s.fr)
  | none => false

/-- SELF_RESET (R498, R500, R507). -/
def execSelfReset (straps : Straps) (s : State) : Out := if s.resetDue then .next (s.warmReset straps) else .next s

/-- WATCHDOG_EXPIRY (R507, R509). -/
def execWatchdogExpiry (s : State) : Out :=
  if s.wdogDue && !s.minimal && !s.boot.failed then .next (s.bootFail 4) else .next s

/-- PCIE_LINK_DOWN (R207, R474), which PERST_N brings as well: the host pairs return to empty, their queued replies are
discarded, and the host's locks are released as broken. -/
def execPcieLinkDown (s : State) : Out :=
  let s := { s with ctl := { s.ctl with wh := s.ctl.wh.filter fun p => decide (8 ≤ p.1), replyQ := [], lateQ := [] } }
  .next (s.leashBreak 0x3000)

/-! ### Images (R501 to R506) -/

/-- What the ROM finds in a copy (R502, R505, R506): whether an image is there at all, whether it verifies, the SVN its
header names, and the image where it verifies. -/
structure ImageCheck where
  there : Bool
  ok : Bool
  svn : Nat
  image : List Byte
  deriving DecidableEq, Repr, Inhabited

/-- The device is unlocked: the OTP key hash is all zeros (R506). -/
def State.unlocked (s : State) : Bool := s.chip.keyHash.all fun b => b == 0

/-- A Keeper section lies in the body and fits the 512 KiB and 1 MiB of its pair (R461, R505). -/
def sectionFits (off len body : Nat) : Bool := decide (off + len ≤ body ∧ len ≤ 0x180000)

/-- The checks of R505 on a header, with the SVN from its low half, and the body. -/
def State.imageVerifies (s : State) (h body : List Byte) : Bool :=
  let n := leAt h 12 4
  let key := (h.drop 0x30).take 96
  sectionFits (leAt h 0x10 4) (leAt h 0x14 4) n && sectionFits (leAt h 0x18 4) (leAt h 0x1C 4) n
    && decide (s.chip.minSvn.toNat ≤ leAt h 8 4 ∧ leAt h 8 4 ≤ 65535)
    && (s.unlocked || sha384 key == s.chip.keyHash)
    && ecdsaP384 key ((h.drop 0x90).take 96) (h.take 0x90 ++ body)

/-- The ROM reads a copy of at most `limit` bytes and checks it. -/
def State.checkImage (s : State) (read : Nat → Nat → List Byte) (limit : Nat) : ImageCheck :=
  let h := read 0 256
  let n := leAt h 12 4
  let there := decide (256 ≤ limit) && leAt h 0 4 == 0x4956524C && decide (256 + n ≤ limit)
  let ok := there && s.imageVerifies h (read 256 n)
  { there := there, ok := ok, svn := leAt h 8 2, image := if ok then h ++ read 256 n else [] }

/-- Bytes of the flash. -/
def State.flashBytes (s : State) (a n : Nat) : List Byte := (s.mem.flash.bytes a n).map fun b => ~~~b

/-- Copy A or B (R502), within the flash. -/
def State.flashImage (s : State) (copy : Nat) : ImageCheck :=
  let base := copy * 0x1000000
  s.checkImage (fun a n => s.flashBytes (base + a) n) (min 0x1000000 (s.chip.flashSize - base))

/-- An image in host memory, which can be read while bus mastering is on (R503). -/
def State.hostImage (s : State) (addr len : Nat) : ImageCheck :=
  s.checkImage (fun a n => s.mem.host.bytes (addr + a) n) (if s.hub.busMaster then len else 0)

/-- An image that a neighbour serves (R504). -/
def State.lflImage (s : State) (b : List Byte) : ImageCheck := s.checkImage (fun a n => (b.drop a).take n) b.length

/-- SOURCE and SVN name the copy tried last; UNLOCKED as the fuses say (R506, R507). -/
def State.noteCopy (s : State) (src : Nat) (x : ImageCheck) : State :=
  ((s.setFld Reg.SYS_BOOT_STATUS 10 8 src).setFld Reg.SYS_BOOT_STATUS 31 16 x.svn).setFld
    Reg.SYS_BOOT_STATUS 14 14 s.unlocked.toNat

/-- The sources that BOOT_SEL selects, in order (R501): none where it selects Minimal mode. -/
def bootSources (sel : Nat) : List Nat :=
  match sel with
  | 0 => [0, 1]
  | 1 => [0, 1, 2]
  | 2 => [2]
  | 3 => [3]
  | _ => []

/-! ### The Survey (R510, R511, R519) -/

/-- The record of the LFL neighbour on quad q (R510). -/
def State.surveyLfl (s : State) (q : Nat) : List Byte :=
  let st := s.reg (Reg.FAB_LNK_STAT q)
  if s.linkUp q then
    surveyRecord 4 q 0 (leBytes 8 (s.fabLink q).peerUid.toNat ++ [B8 (getF st 7 4), B8 (getF st 11 8)])
  else surveyRecord 4 q 2 []

/-- The records of a Survey in the order of R510: the rails but for VDD_MET and VDDIO_MET, the loads, the PHYs, and the
neighbours of the quads in mode 7. -/
def State.surveyRecs (s : State) (l : List SurveyRec) : List (List Byte) :=
  let of := fun (ty n : Nat) => (l.filter (surveyAt ty n)).map (surveyBytes s.vset s.portOn)
  (List.range 8).flatMap (of 1) ++ (List.range 256).flatMap (of 2) ++ (List.range 256).flatMap (of 3)
    ++ ((List.range s.chip.quads).filter fun q => s.portKind (128 + q) == .lfl).map s.surveyLfl

/-- The report of a Survey, with SYS_SURVEY. -/
def State.surveyDone (s : State) (l : List SurveyRec) : State :=
  let recs := s.surveyRecs l
  let bad := (recs.filter recFault).length
  let t := s.setReg Reg.SYS_SURVEY (W (1 + recs.length % 256 * 2 ^ 8 + bad % 256 * 2 ^ 16))
  { t with boot := { t.boot with survey := recs.flatten } }

/-- The Survey has found a supply out of range. -/
def State.supplyOut (s : State) (l : List SurveyRec) : Bool := (s.surveyRecs l).any recSupply

/-! ### The start sequence (R507) -/

/-- The attempt stands at a step, from now on. -/
def State.atStage (s : State) (n : Nat) : State := { s with boot := { s.boot with stage := n, waitFrom := s.fr } }

/-- Entry to Minimal mode (R512). -/
def State.enterMinimal (s : State) : State :=
  let s := (s.setFld Reg.SYS_BOOT_STATUS 13 12 2).raise Ev.BOOT_FALLBACK
  { s.paceMinimal with ctl := { s.ctl with keeperDown := Tab.set false s.ctl.keeperDown 1 true } }

/-- Steps 9 and 10: the Survey; then the firmware enables the ports and writes DONE. -/
def State.bootEnd (s : State) (b : BootRun) : State :=
  let t := s.surveyDone b.survey
  if s.supplyOut b.survey then t.bootFail 3
  else
    let t := b.ports.foldl (fun t n => t.busWrite (.keeper 0) (Reg.PORT_CFG n) (t.reg (Reg.PORT_CFG n) ||| 1)) t
    (t.bootDone).atStage 0

/-- Step 8: the election has 50 ms. -/
def State.bootFab (s : State) (b : BootRun) : State :=
  if s.fabConflict then s.bootFail 7
  else if s.fabDev.isSome ∨ s.boot.waitFrom + 50000000 ≤ s.fr then s.bootEnd b
  else s

/-- A program fits the instruction store (R490). -/
def progFits (p : Word × Nat × List Byte) : Bool :=
  decide (p.2.1 % 4 = 0 ∧ p.2.2.length % 4 = 0 ∧ p.2.1 + p.2.2.length ≤ 0x10000)

/-- A program goes into the packs of its mask, and its blocks into the code region of epoch 0. -/
def State.bootLoadProg (s : State) (p : Word × Nat × List Byte) : State :=
  let s := s.putProg (s.packsIn p.1) p.2.1 p.2.2
  s.setCode 0 ((List.range 256).filter fun k => (s.code 0).contains k || touches p.2.1 p.2.2.length k)

/-- What step 7 sets up: the register writes and the programs of epoch 0. -/
def State.bootSetup (s : State) (b : BootRun) : State :=
  b.programs.foldl State.bootLoadProg (b.setup.foldl (fun t p => t.busWrite (.keeper 0) p.1 p.2) s)

/-- Step 7, then FAB_CFG.EN. -/
def State.bootProg (s : State) (b : BootRun) : State :=
  if !b.progOk || !b.programs.all progFits then s.bootFail 5
  else
  let s := s.bootSetup b
  if s.chip.fabric then
    let t := { s.setFld Reg.FAB_CFG 0 0 1 with fab := { s.fab with changed := s.fr } }
    (t.atStage 8).bootFab b
  else s.bootEnd b

/-- Step 6: HOLD or BOOT_FAIL. -/
def State.bootPace (s : State) (b : BootRun) : State :=
  if s.flag Reg.PACE_STATUS 4 then s.bootFail 6
  else if s.flag Reg.PACE_STATUS 0 then s.bootProg b
  else s

/-- The interfaces that firmware trains: those with a CAP. -/
def State.fitted (s : State) : List Nat := (List.range s.chip.ddrs).filter fun i => s.fld (Reg.DDR_CTRL i) 10 8 != 0

/-- Step 5 once training has ended, then PACE_CTRL.EN. -/
def State.bootDram (s : State) (b : BootRun) : State :=
  if s.fitted.any fun i => s.flag (Reg.DDR_CTRL i) 1 then s
  else if s.fitted.any fun i => s.flag (Reg.DDR_CTRL i) 3 then s.bootFail 2
  else
    let t := s.fitted.foldl (fun t i => t.setFld (Reg.DDR_CTRL i) 0 0 1) s
    ((t.wrPaceCtrl (t.reg Reg.PACE_CTRL ||| 1)).atStage 6).bootPace b

/-- Memories of a pair as its section of the running image leaves them: the first 512 KiB are its instruction memory (log
entry 44). -/
def keeperOf (b : List Byte) : Keeper :=
  { core0 := { live := true }, core1 := { live := true }, imem := Mem.put [] 0 (b.take 0x80000),
    dmem := Mem.put [] 0 (b.drop 0x80000) }

/-- Both Keeper pairs are loaded from the image (R462, R507). -/
def State.loadKeepers (s : State) : State :=
  let h := s.boot.image
  let part := fun (o : Nat) => ((h.drop 256).drop (leAt h o 4)).take (leAt h (o + 4) 4)
  { s with ctl := { s.ctl with keepers := Tab.set Keeper.idle (Tab.set Keeper.idle [] 0 (keeperOf (part 0x10))) 1 (keeperOf (part 0x18)) } }

/-- Steps 4 and 5: the firmware starts and trains each populated interface. -/
def State.bootLoad (s : State) (b : BootRun) : State :=
  let s := s.loadKeepers.wdogWrite 2000
  let s := (List.range s.chip.ddrs).foldl (fun t i =>
    if b.ddrCap.getD i 0 = 0 then t
    else (t.setFld (Reg.DDR_CTRL i) 10 8 (b.ddrCap.getD i 0)).trainStart i) s
  (s.atStage 5).bootDram b

/-- The ROM runs quads 0 to LFL_MAX − 1 in mode 7 and asks the neighbours for an image (R504): a type 1 frame without
content is the request (log entry 50). -/
def State.askNeighbours (s : State) : State :=
  (List.range s.chip.lflMax).foldl (fun t q =>
    ((t.setFld (Reg.PORT_QUAD q) 2 0 7).setFld (Reg.PORT_CFG (128 + q)) 0 0 1).pin
      (.control q (fabHeader 1 0 0 0 0 0xFF 0 0 0 0))) (s.atStage 2)

/-- A copy that verifies is the running image. -/
def State.keepImage (s : State) (x : ImageCheck) : State := { s with boot := { s.boot with image := x.image } }

/-- Step 3 over the fabric: the neighbour's image, for which the source has 2 s (R504). -/
def State.bootLfl (s : State) (b : BootRun) : State :=
  let late := fun (t : State) => if t.boot.waitFrom + 2000000000 ≤ t.fr then t.bootFail 0x0A else t
  match b.lfl with
  | none => late s
  | some img =>
    let x := s.lflImage img
    let t := s.noteCopy 3 x
    if x.ok then (t.keepImage x).bootLoad b else late t

/-- Step 3 over the sources left: the first copy that verifies is loaded; the PCIe source waits for a download.
`any` tells whether some copy was found. -/
def State.bootCopies (b : BootRun) : List Nat → Bool → State → State
  | [], any, s => s.bootFail (if any then 1 else 0x0A)
  | 2 :: _, _, s => { s.atStage 3 with boot := { (s.atStage 3).boot with romWait := true } }
  | src :: t, any, s =>
    if src = 3 then (if s.chip.fabric then s.askNeighbours.bootLfl b else s.bootFail 0x0A)
    else
      let x := s.flashImage src
      let s := s.noteCopy src x
      if x.ok then (s.keepImage x).bootLoad b else State.bootCopies b t (any || x.there) s

/-- Steps 1 to 3. -/
def State.bootFirst (s : State) (b : BootRun) : State :=
  let tries := s.fld Reg.SYS_BOOT_TRIES 3 0
  let srcs := bootSources s.chip.bootSel.toNat
  if max 1 (s.fld Reg.SYS_BOOT_TRIES 11 8) ≤ tries ∨ srcs = [] then s.enterMinimal
  else
    let s := s.setFld Reg.SYS_BOOT_TRIES 3 0 (tries + 1)
    if !b.otpOk then s.bootFail 8
    else if !b.supplyOk then s.bootFail 3
    else State.bootCopies b srcs false s

/-- The attempt goes on from the step it stands at. A download that has not verified within 10 s of the reset has
failed (R503). -/
def State.bootGo (s : State) (b : BootRun) : State :=
  if s.boot.romWait then
    (if 10000000000 ≤ s.fr then { s with boot := { s.boot with romWait := false } }.bootFail 0x0A else s)
  else
    match s.boot.stage with
    | 0 => s.bootFirst b
    | 2 => s.bootLfl b
    | 4 => s.bootLoad b
    | 5 => s.bootDram b
    | 6 => s.bootPace b
    | 8 => s.bootFab b
    | _ => s

/-- BOOT_START (R507): the ROM, then the firmware, run the attempt as far as it can go; where it waits for a download,
for training, for HOLD or for an address, the next BOOT_START goes on. -/
def execBootStart (b : BootRun) (s : State) : Out :=
  if decide (s.mode = 0) && s.boot.resetAt.isNone then .next (s.bootGo b) else .next s

/-! ### Group 0x08 (R503, R511, R514) -/

/-- CMD_SURVEY_RUN (R511): in operational mode. -/
def State.cmdSurveyRun (s : State) (q : CmdReq) (e : CmdEnv) : CmdRes :=
  if q.len ≠ 0 then s.ends St.BAD_PARAM
  else if s.minimal then s.ends St.DENIED
  else
    match e with
    | .records l =>
      let t := s.surveyDone l
      (if s.supplyOut l then t.raise Ev.SURVEY_FAULT else t).ends St.OK
    | _ => (.parked, s)

/-- CMD_SURVEY_GET (R511). -/
def State.cmdSurveyGet (s : State) (q : CmdReq) : CmdRes :=
  let off := leAt q.args 0 4
  let n := leAt q.args 4 2
  if q.len ≠ 6 then s.ends St.BAD_PARAM
  else if n = 0 then s.ends St.OK
  else if s.boot.survey.length < off + n then s.ends St.BAD_PARAM
  else s.gives ((s.boot.survey.drop off).take n)

/-- Erased bytes (log entry 7). -/
def State.flashErase (s : State) (a n : Nat) : State :=
  { s with mem := { s.mem with flash := clearRange s.mem.flash a n } }

/-- Programming clears bits and sets none (log entry 7). -/
def State.flashProgram (s : State) (a : Nat) (b : List Byte) : State :=
  { s with mem := { s.mem with
      flash := s.mem.flash.put a (List.zipWith (fun x y => x ||| ~~~y) (s.mem.flash.bytes a b.length) b) } }

/-- In operational mode a range that touches the copy named by SOURCE is closed (R514). -/
def State.flashClosed (s : State) (a n : Nat) : Bool :=
  let src := s.fld Reg.SYS_BOOT_STATUS 10 8
  !s.minimal && decide (src < 2) && rangesMeet a n (src * 0x1000000) 0x1000000

/-- CMD_FLASH_READ (R514). -/
def State.cmdFlashRead (s : State) (q : CmdReq) : CmdRes :=
  let a := leAt q.args 0 4
  let n := leAt q.args 4 2
  if q.len ≠ 6 ∨ s.chip.flashSize < a + n then s.ends St.BAD_PARAM else s.gives (s.flashBytes a n)

/-- CMD_FLASH_ERASE (R514). -/
def State.cmdFlashErase (s : State) (q : CmdReq) : CmdRes :=
  let a := leAt q.args 0 4
  let n := leAt q.args 4 4
  if q.len ≠ 8 ∨ a % 65536 ≠ 0 ∨ n % 65536 ≠ 0 ∨ n = 0 ∨ s.chip.flashSize < a + n then s.ends St.BAD_PARAM
  else if s.flashClosed a n then s.ends St.DENIED
  else (s.flashErase a n).ends St.OK

/-- CMD_FLASH_WRITE (R514). Of a write that does not end in time a part is programmed, how much is open (log entry 5). -/
def State.cmdFlashWrite (s : State) (q : CmdReq) (e : CmdEnv) : CmdRes :=
  let a := leAt q.args 0 4
  let b := q.args.drop 4
  if q.len < 4 ∨ s.chip.flashSize < a + b.length then s.ends St.BAD_PARAM
  else if s.flashClosed a b.length then s.ends St.DENIED
  else
    match e with
    | .inTime true => (s.flashProgram a b).ends St.OK
    | .inTime false =>
      match s.free with
      | (v, t) => (t.flashProgram a (b.take (v.toNat % (b.length + 1)))).ends St.TIMEOUT
    | _ => (.parked, s)

/-- CMD_IMG_VERIFY (R514): RESULT as R507 gives REASON. -/
def State.cmdImgVerify (s : State) (q : CmdReq) : CmdRes :=
  if q.len ≠ 1 ∨ 1 < (byteAt q.args 0).toNat then s.ends St.BAD_PARAM
  else
    let x := s.flashImage (byteAt q.args 0).toNat
    s.gives (leBytes 4 ((if x.ok then 0 else if x.there then 1 else 0x0A) + x.svn * 2 ^ 16))

/-- CMD_IMG_DOWNLOAD (R503). -/
def State.cmdImgDownload (s : State) (q : CmdReq) : CmdRes :=
  if !s.boot.romWait then s.ends St.DENIED
  else if q.len ≠ 12 then s.ends St.BAD_PARAM
  else
    let x := s.hostImage (leAt q.args 0 8) (leAt q.args 8 4)
    let t := s.noteCopy 2 x
    if x.ok then
      let t := t.keepImage x
      ({ t with boot := { t.boot with romWait := false, stage := 4 } }).ends St.OK
    else t.ends St.BAD_PARAM

end Sys2Proof.Machine
end

