-- ==== Sys2Proof/Machine/Control.lean ====
section
/-! DEFINITION. Branches, calls and returns (R115, R116, R130, R131), BRK and TRET (R147, R533). -/

namespace Sys2Proof.Machine

open Sys2Proof

/-- The word at a frame address, and whether it met uncorrectable data. -/
def State.frameRead (s : State) (c a : Nat) : Bool × Nat × State :=
  let b := a % 65536
  match s.dcheck c b 4 with
  | (bad, t) => (bad, t.dread c b 4, t)

/-- The body of CALL and CALLR (R115). -/
def State.callTo (s : State) (c : Nat) (target mask ret : Nat) : Eff :=
  let regs := frameRegs mask
  let g14 := (s.greg c 14).toNat
  let m := regs.foldl (fun a k => a + 2 ^ k) 0
  if g14 % 4 ≠ 0 then ⟨s, .trap 2, false⟩
  else if (g14 : Int) - 4 * (regs.length + 1) < ((s.ctx c).spLim.toNat : Int) then ⟨s, .trap 3, false⟩
  else
    let sp := (g14 + 2 ^ 32 - 4 * (regs.length + 1)) % 2 ^ 32
    let words := (sp % 65536, ret % 65536 * 65536 + m) ::
      ((List.range regs.length).zip regs).map fun p => ((sp + 4 * (p.1 + 1)) % 65536, (s.greg c p.2).toNat)
    let t := words.foldl (fun u p => u.dwrite c p.1 4 p.2) s
    ⟨t.setG c 14 (W sp), .to (BitVec.ofNat 16 target), words.any fun p => rsvWrite p.1⟩

/-- The body of RET (R116). -/
def State.retBody (s : State) (c : Nat) : Eff :=
  let g14 := (s.greg c 14).toNat
  if g14 % 4 ≠ 0 then ⟨s, .trap 2, false⟩
  else
    let (bad, link, t) := s.frameRead c g14
    if bad then ⟨t, .trap 7, false⟩
    else
      let regs := frameRegs (link % 65536)
      let at_ := fun (i : Nat) => g14 + 4 * (i + 1)
      let (bad, t) := (List.range regs.length).foldl (fun (p : Bool × State) i =>
        if p.1 then p else ((p.2.frameRead c (at_ i)).1, (p.2.frameRead c (at_ i)).2.2)) (false, t)
      if bad then ⟨t, .trap 7, false⟩
      else
        let u := ((List.range regs.length).zip regs).foldl
          (fun v p => v.setG c p.2 (W (t.dread c (at_ p.1 % 65536) 4))) t
        ⟨u.setG c 14 (W (g14 + 4 * (regs.length + 1))), .to (BitVec.ofNat 16 (link / 65536)),
          rsvRead (g14 % 65536) || (List.range regs.length).any fun i => rsvRead (at_ i % 65536)⟩

/-- JMP, Bcc and JMPR (R130, R131). -/
def bodyJmp (_c : Nat) (o : Operands) (s : State) : Eff := ⟨s, .to (BitVec.ofNat 16 o.imm.toNat), false⟩
def bodyBcc (c : Nat) (o : Operands) (s : State) : Eff :=
  if (s.ctx c).cond o.s.toNat then ⟨s, .to (BitVec.ofNat 16 o.imm.toNat), false⟩ else Eff.ok s
def bodyJmpr (c : Nat) (o : Operands) (s : State) : Eff :=
  ⟨s, .to (BitVec.ofNat 16 (s.greg c (regNo o o.s)).toNat), false⟩

/-- CALL is 5 bytes long (R124): the return address is the byte after it. -/
def bodyCall (c : Nat) (o : Operands) (s : State) : Eff :=
  s.callTo c o.imm.toNat o.mask.toNat ((s.ctx c).pc.toNat + 5)
/-- CALLR is 4 bytes long, and one more with SH (R124, R131). -/
def bodyCallr (c : Nat) (o : Operands) (s : State) : Eff :=
  s.callTo c (s.greg c (regNo o o.s)).toNat o.mask.toNat ((s.ctx c).pc.toNat + 4 + o.sh.toNat)
def bodyRet (c : Nat) (_o : Operands) (s : State) : Eff := s.retBody c

/-- BRK (R533): with a session open its context halts at the BRK; without one it traps. -/
def bodyBrk (c : Nat) (_o : Operands) (s : State) : Eff :=
  if s.flag Reg.DBG_SESSION 0 then
    Eff.ok ((s.updCtx c fun x => { x with halted := true, atBrk := true }).raise Ev.DBG_HALT)
  else ⟨s, .trap 5, false⟩

/-- TRET (R126, R147). -/
def bodyTret (c : Nat) (_o : Operands) (s : State) : Eff :=
  let x := s.ctx c
  if x.trapNest then ⟨s.updCtx c fun y => { y with trapNest := false }, .to x.resume, false⟩
  else ⟨s, .trap 1, false⟩

/-- JMP (R131). -/
def execJmp (c : Nat) (o : Operands) (s : State) : Out := s.runIssue .jmp c o bodyJmp
/-- Bcc (R130). -/
def execBcc (c : Nat) (o : Operands) (s : State) : Out := s.runIssue .bcc c o bodyBcc
/-- JMPR (R131). -/
def execJmpr (c : Nat) (o : Operands) (s : State) : Out := s.runIssue .jmpr c o bodyJmpr
/-- CALL (R115). -/
def execCall (c : Nat) (o : Operands) (s : State) : Out := s.runIssue .call c o bodyCall
/-- CALLR (R131). -/
def execCallr (c : Nat) (o : Operands) (s : State) : Out := s.runIssue .callr c o bodyCallr
/-- RET (R116). -/
def execRet (c : Nat) (o : Operands) (s : State) : Out := s.runIssue .ret c o bodyRet
/-- BRK (R533). -/
def execBrk (c : Nat) (o : Operands) (s : State) : Out := s.runIssue .brk c o bodyBrk
/-- TRET (R147). -/
def execTret (c : Nat) (o : Operands) (s : State) : Out := s.runIssue .tret c o bodyTret

end Sys2Proof.Machine
end

