-- ==== Sys2Proof/Machine/HubRows.lean ====
section
/-! DEFINITION. MDIO runs (R344, R345), MSI-X messages that waited (R525), FATAL errors (R531). -/

namespace Sys2Proof.Machine

open Sys2Proof

/-! ### MDIO (R344, R345) -/

/-- The answers of the PHY to the reads still to come; `none` is no answer. -/
abbrev MdioAns := List (Option (BitVec 16))

/-- A frame on the MDIO pins, from word 0 of a step. -/
def State.mdioFrame (s : State) (m : Nat) (w0 : Word) (data : Option (BitVec 16)) : State :=
  let cl45 := bitOf w0 4
  s.pin (.mdio m cl45 (getF w0 9 5) (if cl45 then getF w0 14 10 else 0)
    (if cl45 then getF w0 31 16 else getF w0 20 16) data)

/-- Result number `n` of a run, or a result discarded: OVF. -/
def State.mdioKeep (s : State) (m n : Nat) (v : BitVec 16) : State :=
  if n < 32 then s.setReg (Reg.MDIO_RES m n) (W v.toNat) else s.setFld (Reg.MDIO_RUN m) 19 19 1

/-- A POLL reads until it matches, once with POLL_MS = 0 (R345). With no answer that matches it has failed. -/
def State.mdioPoll (s : State) (m : Nat) (w0 : Word) (mask data : BitVec 16) (once : Bool) :
    MdioAns → Option MdioAns × State
  | [] => (none, s)
  | none :: _ => (none, s.mdioFrame m w0 none)
  | some v :: t =>
    let s := s.mdioFrame m w0 none
    if v &&& mask = data then (some t, s) else if once then (none, s) else s.mdioPoll m w0 mask data once t

/-- How a step leaves a run: it goes on with the answers left and the results so far, it is over, it failed. -/
inductive MdioNext where
  | go (ans : MdioAns) (n : Nat)
  | stop (n : Nat)
  | fail (n : Nat)
  deriving DecidableEq, Repr

/-- One step of a script with word 0 and word 1 (R344). -/
def State.mdioStep (s : State) (m : Nat) (w0 w1 : Word) (ans : MdioAns) (n : Nat) : MdioNext × State :=
  let data := BitVec.ofNat 16 (getF w1 15 0)
  let mask := BitVec.ofNat 16 (getF w1 31 16)
  match getF w0 3 0 with
  | 0 => (.stop n, s)
  | 1 => (.go ans n, s.mdioFrame m w0 (some data))
  | 2 =>
    let s := s.mdioFrame m w0 none
    match ans with
    | some v :: t => (.go t (n + 1), s.mdioKeep m n v)
    | _ => (.fail (n + 1), s.mdioKeep m n 0xFFFF)
  | 3 =>
    let s := s.mdioFrame m w0 none
    match ans with
    | some v :: t => (.go t n, s.mdioFrame m w0 (some ((v &&& ~~~mask) ||| (data &&& mask))))
    | _ => (.fail n, s)
  | 4 =>
    match s.mdioPoll m w0 mask data (s.fld (Reg.MDIO_CFG m) 23 16 == 0) ans with
    | (some t, u) => (.go t n, u)
    | (none, u) => (.fail n, u)
  | 5 => (.go ans n, s)
  | _ => (.fail n, s)

/-- Steps from `k` on; past step 511 the run has failed. The results, whether it failed, and the state. -/
def State.mdioSteps (m : Nat) : Nat → Nat → MdioAns → Nat → State → Nat × Bool × State
  | 0, _, _, n, s => (n, true, s)
  | f + 1, k, ans, n, s =>
    match s.mdioStep m (s.reg (Reg.MDIO_SCRIPT m (2 * k))) (s.reg (Reg.MDIO_SCRIPT m (2 * k + 1))) ans n with
    | (.go t n', u) => State.mdioSteps m f (k + 1) t n' u
    | (.stop n', u) => (n', false, u)
    | (.fail n', u) => (n', true, u)

/-- The run ends: BUSY clears, ERR and COUNT are set (R345, R346). -/
def State.mdioDone (s : State) (m : Nat) (ans : MdioAns) : State :=
  let k := Tab.get 0 s.ports.mdioFrom m
  match State.mdioSteps m (512 - k) k ans 0 s with
  | (n, bad, t) =>
    ((t.setFld (Reg.MDIO_RUN m) 17 17 0).setFld (Reg.MDIO_RUN m) 18 18 bad.toNat).setFld (Reg.MDIO_RUN m) 29 24
      (min n 32)

/-- MDIO_RUN_DONE (R345). -/
def execMdioRunDone (i : Nat) (answers : List (Option (BitVec 16))) (s : State) : Out :=
  if decide (i < 2) && s.flag (Reg.MDIO_RUN i) 17 then .next (s.mdioDone i answers) else .next s

/-! ### MSI-X (R525) -/

/-- A waiting message is sent when its conditions hold and its vector is still pending, else dropped. -/
def State.msgRetry (s : State) (v : Nat) : State :=
  if s.canSend v then
    let t := { s with hub := { s.hub with msgWait := s.hub.msgWait.filter fun x => x != v } }
    if s.vecPending v then t.pin (.msix v) else t
  else s

/-- The MSI-X table of BAR2 at byte offset `off` (R525, PCIe Base Specification): address, data and the mask bit of each
vector. -/
def State.msixTable (s : State) (off : Nat) : Word :=
  let v := off / 16
  let e := Tab.get default s.hub.msixTab v
  match off % 16 with
  | 0 => W e.1.toNat
  | 4 => W (e.1.toNat / 2 ^ 32)
  | 8 => e.2
  | _ => W (s.hub.vecMask.contains v).toNat

/-- The PBA of BAR2 at byte offset 0x1000 + `off`: a vector's bit reads 1 while its message waits (R525). -/
def State.msixPba (s : State) (off : Nat) : Word :=
  W ((List.range 32).foldl (fun n b => n + (s.hub.msgWait.contains (8 * off + b)).toNat * 2 ^ b) 0)

/-- MSIX_CONDITIONS_RESTORED (R525): the conditions as PCIe configuration leaves them, and what the host has written to
the MSI-X table. -/
def execMsixConditionsRestored (enable busMaster funcMask : Bool) (host : MsixHost) (s : State) : Out :=
  let t := { s with hub := { s.hub with
    msixEn := enable, busMaster := busMaster, funcMask := funcMask, vecMask := host.masked.filter fun v => decide (v < 64),
    msixTab := host.table.foldl (fun (t : Tab (BitVec 64 × Word)) (p : Nat × BitVec 64 × Word) =>
      Tab.set default t (p.1 % 64) p.2) s.hub.msixTab } }
  .next (t.hub.msgWait.foldl State.msgRetry t)

/-! ### FATAL errors (R531) -/

/-- The frame in transmission at egress index x ends with an inverted FCS. -/
def State.cutTx (s : State) (x : Nat) : State :=
  match (s.eport x).sending with
  | some k =>
    let t := s.setEport x { s.eport x with sending := none }
    if x = 49 then t else t.pin (.frame (eqPort x) (s.sentBytes x k) true)
  | none => s

/-- FATAL_ERROR (R530, R531). -/
def execFatalError (mem inst addr : Nat) (s : State) : Out :=
  .next ((s.fatalError mem inst addr).eports.foldl (fun t p => t.cutTx p.1) (s.fatalError mem inst addr))

end Sys2Proof.Machine
end

