-- ==== Sys2Proof/Machine/LoadStore.lean ====
section
/-! DEFINITION. Loads and stores of the engines (R92 to R99, R111, R132, R211). -/

namespace Sys2Proof.Machine

open Sys2Proof

/-- Write the base register after mode 4 or 5 (R108). -/
def State.putBase (s : State) (c : Nat) (o : Operands) (b : Option Nat) : State :=
  match b with
  | some v => s.setR c (regNo o o.s) (W v)
  | none => s

/-- LD (R93, R94, R97, R132, R211, R529). -/
def bodyLd (c : Nat) (o : Operands) (s : State) : Eff :=
  let (a, b) := s.ea c o
  let r := regNo o o.d
  if a % o.size ≠ 0 then ⟨s, .trap 2, false⟩
  else
    match s.dcheck c a o.size with
    | (true, t) => ⟨t, .trap 7, false⟩
    | (false, t) =>
      let u := t.putBase c o b
      if isMwLock o a then
        let (m, w) := t.mwPlace c a
        Eff.ok (u.mwAcquire m w c r)
      else ⟨u.land c r (W (t.dread c a o.size)), .seq, rsvRead a⟩

/-- ST (R93, R94, R97, R126, R132): the value is the register as it was before the base changed. -/
def bodySt (c : Nat) (o : Operands) (s : State) : Eff :=
  let (a, b) := s.ea c o
  if a % o.size ≠ 0 then ⟨s, .trap 2, false⟩
  else
    let v := s.dest c o o.d
    ⟨(s.dwrite c a o.size v).putBase c o b, .seq, rsvWrite a⟩

/-- LDI (R92, R132). -/
def bodyLdi (c : Nat) (o : Operands) (s : State) : Eff :=
  let (a, _) := s.ea c o
  match s.eccRead 4 (packOf c) a o.size with
  | (true, t) => ⟨t, .trap 7, false⟩
  | (false, t) => Eff.ok (t.land c (regNo o o.d) (W (t.iread (packOf c) a o.size)))

/-- LD (R132). -/
def execLd (c : Nat) (o : Operands) (s : State) : Out := s.runIssue .ld c o bodyLd
/-- ST (R132). -/
def execSt (c : Nat) (o : Operands) (s : State) : Out := s.runIssue .st c o bodySt
/-- LDI (R132). -/
def execLdi (c : Nat) (o : Operands) (s : State) : Out := s.runIssue .ldi c o bodyLdi

/-- MEMORY_WORD_LOCK_ACQUIRE (R211): the latched W-width ACQ load from pack shared memory or common SRAM. -/
def execMemoryWordLockAcquire (c : Nat) (o : Operands) (s : State) : Out :=
  if isMwLock o (s.ea c o).1 then s.runIssue .ld c o bodyLd else .next s

end Sys2Proof.Machine
end

