-- ==== Sys2Proof/Machine/Metrology.lean ====
section
/-! DEFINITION. The Metrology Island (R540 to R554): entries, offers, export, and the commands of group 0x09xx. -/

namespace Sys2Proof.Machine

open Sys2Proof

/-- The island is there and powered. -/
def State.metOn (s : State) : Bool := s.chip.metro && s.island.powered

def State.setIsland (s : State) (x : Island) : State := { s with island := x }

/-! ### Export (R553) -/

/-- The island posts a block: its GO is never ignored, and it clears TIMEOUT. -/
def State.metPost (s : State) (w : List Word) : State :=
  let n := s.island.posts + 1
  let b := (w ++ List.replicate 15 0).take 15 ++ [n]
  let s := s.setIsland { s.island with posts := n }
  s.setWhb 12 { stage := b, posted := b, full := true, timeout := false, start := s.fr }

/-! ### Entries (R546, R547, R552) -/

/-- The signed bytes 0x00 to 0x3F of an entry made now. -/
def State.metBody (s : State) (ty : Nat) (lost : Bool) (data : List Byte) : List Byte :=
  let x := s.island
  let t := s.domTime 0
  leBytes 4 x.entries ++ [B8 ty, B8 (1 + x.sealLow.toNat * 2 + lost.toNat * 4)] ++ leBytes 2 x.audit
    ++ leBytes 8 (x.rtcNs / 1000) ++ leBytes 6 t.sec.toNat ++ leBytes 4 t.ns ++ [0, 0] ++ leBytes 4 x.fwId.toNat
    ++ fit 32 data

/-- An entry is signed, entered, and announced. -/
def State.metEntry (s : State) (ty : Nat) (lost : Bool) (data : List Byte) : State :=
  let x := s.island
  let b := s.metBody ty lost data
  let e := b ++ fit 64 (Config.islandSign b)
  let s := s.setIsland { x with log := Tab.set [] x.log (x.entries % 1024) e, entries := x.entries + 1 }
  s.metPost [W 5, W x.entries, W ty, W x.audit]

/-- PERIOD_S, parameter 3 of the worked example (log entry 25). -/
def Island.period (x : Island) : Nat := (Tab.get 0 x.params 3).toNat

/-- The real-time counter stands at the end of a period that has no record yet (R545). -/
def Island.periodEnds (x : Island) : Bool :=
  decide (0 < x.period ∧ x.rtcNs % (x.period * 1000000000) = 0 ∧ x.recAt < x.rtcNs)

/-- MET_RECORD_PERIOD (R545): the record at the end of a period, once. -/
def execMetRecordPeriod (importMwh exportMwh : BitVec 64) (s : State) : Out :=
  let x := s.island
  if s.metOn && x.periodEnds then
    .next ((s.setIsland { x with recAt := x.rtcNs }).metEntry 1 false
      (leBytes 8 importMwh.toNat ++ leBytes 8 exportMwh.toNat))
  else .next s

/-- ADC_FAULT (R545): the ADC stops answering. -/
def execAdcFault (s : State) : Out :=
  if s.metOn && s.island.adcOk then .next ((s.metEntry 6 false []).setIsland { (s.metEntry 6 false []).island with adcOk := false })
  else .next s

/-- ADC_ANSWERING (R545). -/
def execAdcAnswering (s : State) : Out :=
  if s.metOn then .next (s.setIsland { s.island with adcOk := true }) else .next s

/-- SEAL_N_EDGE (R548): an island without power raises nothing. -/
def execSealNEdge (low : Bool) (s : State) : Out :=
  if s.chip.metro && s.island.sealLow != low then
    let t := s.setIsland { s.island with sealLow := low }
    .next (if s.island.powered then t.raise Ev.METRO_SEAL else t)
  else .next s

/-! ### The start of the island (R542, R544, R549) -/

/-- Free bytes: the spec leaves them to the island (log entry 5). -/
def State.freeBytes (s : State) : Nat → List Byte × State
  | 0 => ([], s)
  | n + 1 =>
    match s.free with
    | (v, t) =>
      match t.freeBytes n with
      | (l, u) => (leBytes 16 v.toNat ++ l, u)

/-- The slot that a start verifies: the new one runs, with an identifier of its own, or the previous one goes on and an
entry tells so. -/
def State.metSlot (s : State) (ok : Bool) : State :=
  let x := s.island
  if !x.newSlot then s
  else if ok then
    match s.free with
    | (v, t) => t.setIsland { x with slot := 1 - x.slot, fwId := W v.toNat, newSlot := false }
  else (s.setIsland { x with newSlot := false }).metEntry 3 false (List.replicate 32 0xFF)

/-- MET_RST_N (R541, R549): the core restarts; what it was judging is gone. -/
def execMetRstN (slotOk : Bool) (s : State) : Out :=
  if s.metOn then .next ((s.setIsland { s.island with posts := 0, offer := none }).metSlot slotOk) else .next s

/-- The key pair is made at the first start (R544). -/
def State.metKey (s : State) : State :=
  if s.island.pubKey = [] then
    match s.freeBytes 4 with
    | (k, t) => t.setIsland { t.island with pubKey := k }
  else s

/-- VDD_MET_POWER_UP (R542, R549): the slot is verified, then the firmware that runs enters the first record of an empty
log, and after it what a failed slot leaves. -/
def execVddMetPowerUp (slotOk : Bool) (s : State) : Out :=
  if s.chip.metro && !s.island.powered then
    let t := (s.setIsland { s.island with
      powered := true, log := [], entries := 0, rtcNs := 0, recAt := 0, posts := 0, offer := none, adcOk := true }).metKey
    .next (if slotOk then (t.metSlot true).metEntry 4 true [] else (t.metEntry 4 true []).metSlot false)
  else .next s

/-- VDD_MET_LOSS (R542, R551). -/
def execVddMetLoss (s : State) : Out :=
  if s.metOn then
    .next ((s.setFld Reg.MET_STAT 0 0 0).setIsland { s.island with
      powered := false, log := [], entries := 0, rtcNs := 0, recAt := 0, posts := 0, offer := none })
  else .next s

/-- MIRROR_REFILL (R551). -/
def execMirrorRefill (s : State) : Out := if s.metOn then .next (s.setFld Reg.MET_STAT 0 0 1) else .next s

/-! ### Offers (R548, R550) -/

/-- The first condition of R548 that fails; 0 when all hold. -/
def Island.judge (x : Island) (kind : Nat) (sealEnd imageOk paramOk : Bool) : Nat :=
  if !(x.offerLow && sealEnd) then 1
  else if x.fuseBlown then 2
  else if kind = 2 ∧ !imageOk then 3
  else if 4095 ≤ x.audit then 4
  else if kind = 1 ∧ !paramOk then 5
  else 0

/-- An accepted offer takes effect and is entered. -/
def State.metAccept (s : State) (kind : Nat) (b : List Byte) : State :=
  let x := { s.island with audit := s.island.audit + 1 }
  let s := match kind with
    | 1 =>
      let n := leAt b 0 4
      let old := Tab.get 0 x.params n
      let new := BitVec.ofNat 64 (leAt b 4 8)
      (s.setIsland { x with params := Tab.set 0 x.params n new }).metEntry 2 false
        (leBytes 4 n ++ leBytes 8 old.toNat ++ leBytes 8 new.toNat)
    | 2 =>
      (s.setIsland { x with fw := Tab.set [] x.fw (1 - x.slot) b, newSlot := true }).metEntry 3 false
        ((sha256 b).take 16)
    | _ => (s.setIsland { x with fuseBlown := true }).metEntry 5 false []
  s.raise Ev.METRO_SEAL

/-- The offer in the island's hands is judged: the reason, and the state with the result exported. -/
def State.metJudge (s : State) (kind : Nat) (b : List Byte) (sealEnd imageOk paramOk : Bool) : Nat × State :=
  let r := s.island.judge kind sealEnd imageOk paramOk
  let s := s.setIsland { s.island with offer := none }
  let s := if r = 0 then s.metAccept kind b else s
  (r, s.metPost [W 6, W r])

/-! ### Group 0x09 (R554) -/

/-- CMD_MET_INFO. -/
def State.cmdMetInfo (s : State) (q : CmdReq) : CmdRes :=
  if !s.chip.metro then s.ends St.ABSENT
  else if q.len ≠ 0 then s.ends St.BAD_PARAM
  else
    match s.peekAll ((List.range 48).map fun i => 0x2000000 + 4 * i) with
    | (l, t) => t.gives (bytesOf l)

/-- CMD_MET_READ: entries that the mirror holds. -/
def State.cmdMetRead (s : State) (q : CmdReq) : CmdRes :=
  let first := leAt q.args 0 4
  let n := leAt q.args 4 2
  let held := if s.metAlive then s.metCount else 0
  let d := (first + 2 ^ 32 - (s.island.entries - held) % 2 ^ 32) % 2 ^ 32
  if !s.chip.metro then s.ends St.ABSENT
  else if q.len ≠ 6 ∨ 64 < n then s.ends St.BAD_PARAM
  else if n = 0 then s.ends St.OK
  else if held < d + n then s.ends St.BAD_PARAM
  else s.gives ((List.range n).flatMap fun i => fit 128 (Tab.get [] s.island.log ((first + i) % 1024)))

/-- The layout of an offer. -/
def offerOk (q : CmdReq) : Bool :=
  zeros q.args 1 3 &&
    (match (byteAt q.args 0).toNat with
    | 1 => q.len == 16
    | 2 => decide (4 < q.len)
    | 3 => q.len == 4
    | _ => false)

/-- CMD_MET_OFFER: the island fetches the offer, and the command is in progress while it is judged (R468). An island without
power never answers. -/
def State.cmdMetOffer (s : State) (q : CmdReq) : CmdRes :=
  if !s.chip.metro then s.ends St.ABSENT
  else if q.len < 4 ∨ !offerOk q then s.ends St.BAD_PARAM
  else if s.island.offer.isSome || s.ctl.offerWait.isSome then s.ends St.BUSY
  else
    let t := if s.island.powered then
        s.setIsland { s.island with
          offer := some ((byteAt q.args 0).toNat, q.args.drop 4), offerLow := s.island.sealLow }
      else s
    (.waits, { t with ctl := { t.ctl with offerWait := some (q, t.fr + 10000000000) } })

end Sys2Proof.Machine
end

