-- ==== Sys2Proof/Machine/Serve.lean ====
section
/-! DEFINITION. Keeper pair 0 at work (R462, R463, R467, R468, R475 to R482): the order of the checks, one command at a
time, and the routes by which packets come and replies go. -/

namespace Sys2Proof.Machine

open Sys2Proof

/-! ### One command (R467) -/

/-- The assigned opcodes (R469, R503, R511, R514, R554). -/
def assigned (op : Nat) : Bool :=
  [0x0101, 0x0102, 0x0103, 0x0104, 0x0105, 0x0210, 0x0211, 0x0212, 0x0301, 0x0501, 0x0502, 0x0503, 0x0504, 0x0601,
    0x0A01, 0x0A02, 0x0A03, 0x0A04, 0x0801, 0x0802, 0x0810, 0x0811, 0x0812, 0x0813, 0x0814, 0x0901, 0x0902,
    0x0903].contains op

/-- Checks 5 and 6 and the effect, by opcode. -/
def State.cmdBody (s : State) (op : Nat) (q : CmdReq) (e : CmdEnv) : CmdRes :=
  match op with
  | 0x0101 => s.cmdGetFeatures q
  | 0x0102 => s.cmdRegRead q
  | 0x0103 => s.cmdRegWrite q
  | 0x0104 => s.cmdAuthKeySet q
  | 0x0105 => s.cmdSysReset q
  | 0x0210 => s.cmdMacsecSecy q
  | 0x0211 => s.cmdMacsecRxsc q
  | 0x0212 => s.cmdMacsecSa q
  | 0x0301 => s.cmdTblOps q
  | 0x0501 => s.cmdProgLoad q
  | 0x0502 => s.cmdPackDrain q
  | 0x0503 => s.cmdPackResume q
  | 0x0504 => s.cmdProgDrop q
  | 0x0601 => s.cmdFabForward q
  | 0x0801 => s.cmdSurveyRun q e
  | 0x0802 => s.cmdSurveyGet q
  | 0x0810 => s.cmdFlashRead q
  | 0x0811 => s.cmdFlashErase q
  | 0x0812 => s.cmdFlashWrite q e
  | 0x0813 => s.cmdImgVerify q
  | 0x0814 => s.cmdImgDownload q
  | 0x0901 => s.cmdMetInfo q
  | 0x0902 => s.cmdMetRead q
  | 0x0903 => s.cmdMetOffer q
  | 0x0A01 => s.cmdCfgStage q
  | 0x0A02 => s.cmdCfgCommit q
  | 0x0A03 => s.cmdCfgAbort q
  | 0x0A04 => s.cmdCfgStatus q
  | _ => s.ends St.BAD_PARAM

/-- An opcode that Minimal mode serves (R467). -/
def minimalOp (op : Nat) : Bool := op / 256 == 1 || op / 256 == 8

/-- An opcode that the ROM serves while it waits for a download (R503). -/
def romOp (op : Nat) : Bool := op == 0x0101 || op == 0x0814

/-- The checks of R467 in order, then the command. -/
def State.cmdExec (s : State) (op : Nat) (q : CmdReq) (e : CmdEnv) : CmdRes :=
  if !q.formOk || !assigned op then s.ends St.BAD_PARAM
  else if s.minimal && !minimalOp op then s.ends St.DENIED
  else if s.boot.romWait && !romOp op then s.ends St.DENIED
  else s.cmdBody op q e

/-! ### One at a time (R468) -/

/-- Pair 0 is in the middle of a command. -/
def State.cmdBusy (s : State) : Bool := s.ctl.drainWait.isSome || s.ctl.fwdWait.isSome || s.ctl.offerWait.isSome
    || s.ctl.tblWait.isSome

def State.setAccepted (s : State) (l : List (Nat × CmdReq)) : State := { s with ctl := { s.ctl with accepted := l } }

/-- Run a command whose turn it is: the state, or none while it lacks what the board has to tell it. -/
def State.cmdTurn (s : State) (op : Nat) (q : CmdReq) (e : CmdEnv) : Option State :=
  match s.cmdExec op q e with
  | (.reply st b, t) => some (t.sendReply op q st b)
  | (.waits, t) => some t
  | (.parked, _) => none

/-- A Survey that a command has started runs on: SYS_SURVEY.RUNNING (R511, R519). -/
def State.surveying (s : State) : Bool := s.flag Reg.SYS_SURVEY 1

/-- A command at the head of the queue waits for what the board tells it; a Survey runs meanwhile. -/
def State.park (s : State) (op : Nat) : State := if op = 0x0801 then s.setFld Reg.SYS_SURVEY 1 1 1 else s

/-- The accepted commands run in order, as far as they can. -/
def State.pump : Nat → State → State
  | 0, s => s
  | n + 1, s =>
    if s.cmdBusy then s
    else
      match s.ctl.accepted with
      | [] => s
      | (op, q) :: t =>
        match (s.setAccepted t).cmdTurn op q .none with
        | some u => State.pump n u
        | none => s.park op

/-- The accepted commands go on after one has ended. -/
def State.resumeCmds (s : State) : State := State.pump s.ctl.accepted.length s

/-- A command is accepted: it runs when its turn has come. The command at the head that lacked what the board tells it
runs with it. A second CMD_SURVEY_RUN is answered at once (R511). -/
def State.submit (s : State) (op : Nat) (q : CmdReq) (e : CmdEnv) : State :=
  let ends := !s.cmdBusy && s.ctl.accepted.head? == some (op, q) && e != .none
  if op = 0x0801 ∧ s.surveying ∧ q.formOk ∧ q.len = 0 ∧ ends = false then s.sendReply op q St.BUSY []
  else if s.cmdBusy then s.setAccepted (s.ctl.accepted ++ [(op, q)])
  else
    match s.ctl.accepted with
    | [] => (s.cmdTurn op q e).getD ((s.setAccepted [(op, q)]).park op)
    | _ :: t =>
      if ends then
        match (s.setAccepted t).cmdTurn op q e with
        | some u => u.resumeCmds
        | none => s
      else s.setAccepted (s.ctl.accepted ++ [(op, q)])

/-! ### Routes -/

/-- Pair 0 runs. -/
def State.pair0Up (s : State) : Bool := !Tab.get false s.ctl.keeperDown 0

/-- Pair 0 serves a host pair (R473, R503, R512). -/
def State.servesPair (s : State) (h : Nat) : Bool := decide (h < 4) && (h == 0 || !(s.minimal || s.boot.romWait))

/-- Pair 0 serves a route. -/
def State.serves (s : State) : Route → Bool
  | .host h => s.servesPair h
  | .indirect h .. => s.servesPair h
  | .inBand _ => !s.boot.romWait
  | .fabric d => decide (d < 16) && s.chip.fabric && !s.minimal && !s.boot.romWait

/-- A command packet that has passed its route. -/
def State.serve (s : State) (op : Nat) (q : CmdReq) (e : CmdEnv) : Out :=
  if s.pair0Up && s.serves q.route then .next (s.submit op q e) else .next s

/-- CMD_GET_FEATURES (R8). -/
def execCmdGetFeatures (q : CmdReq) (s : State) : Out := s.serve 0x0101 q .none
/-- CMD_REG_READ (R581). -/
def execCmdRegRead (q : CmdReq) (s : State) : Out := s.serve 0x0102 q .none
/-- CMD_REG_WRITE (R492). -/
def execCmdRegWrite (q : CmdReq) (s : State) : Out := s.serve 0x0103 q .none
/-- CMD_AUTH_KEY_SET (R481). -/
def execCmdAuthKeySet (q : CmdReq) (s : State) : Out := s.serve 0x0104 q .none
/-- CMD_SYS_RESET (R513). -/
def execCmdSysReset (q : CmdReq) (s : State) : Out := s.serve 0x0105 q .none
/-- CMD_MACSEC_SECY (R469). -/
def execCmdMacsecSecy (q : CmdReq) (s : State) : Out := s.serve 0x0210 q .none
/-- CMD_MACSEC_RXSC (R469). -/
def execCmdMacsecRxsc (q : CmdReq) (s : State) : Out := s.serve 0x0211 q .none
/-- CMD_MACSEC_SA (R469). -/
def execCmdMacsecSa (q : CmdReq) (s : State) : Out := s.serve 0x0212 q .none
/-- CMD_TBL_OPS (R469). -/
def execCmdTblOps (q : CmdReq) (s : State) : Out := s.serve 0x0301 q .none
/-- CMD_PROG_LOAD (R490). -/
def execCmdProgLoad (q : CmdReq) (s : State) : Out := s.serve 0x0501 q .none
/-- CMD_PACK_DRAIN (R494). -/
def execCmdPackDrain (q : CmdReq) (s : State) : Out := s.serve 0x0502 q .none
/-- CMD_PACK_RESUME (R494). -/
def execCmdPackResume (q : CmdReq) (s : State) : Out := s.serve 0x0503 q .none
/-- CMD_PROG_DROP (R491). -/
def execCmdProgDrop (q : CmdReq) (s : State) : Out := s.serve 0x0504 q .none
/-- CMD_FAB_FORWARD (R482). -/
def execCmdFabForward (q : CmdReq) (s : State) : Out := s.serve 0x0601 q .none
/-- CMD_CFG_STAGE (R485). -/
def execCmdCfgStage (q : CmdReq) (s : State) : Out := s.serve 0x0A01 q .none
/-- CMD_CFG_COMMIT (R487). -/
def execCmdCfgCommit (q : CmdReq) (s : State) : Out := s.serve 0x0A02 q .none
/-- CMD_CFG_ABORT (R489). -/
def execCmdCfgAbort (q : CmdReq) (s : State) : Out := s.serve 0x0A03 q .none
/-- CMD_CFG_STATUS (R489). -/
def execCmdCfgStatus (q : CmdReq) (s : State) : Out := s.serve 0x0A04 q .none
/-- CMD_SURVEY_RUN (R511). -/
def execCmdSurveyRun (q : CmdReq) (records : List SurveyRec) (s : State) : Out := s.serve 0x0801 q (.records records)
/-- CMD_SURVEY_GET (R511). -/
def execCmdSurveyGet (q : CmdReq) (s : State) : Out := s.serve 0x0802 q .none
/-- CMD_FLASH_READ (R514). -/
def execCmdFlashRead (q : CmdReq) (s : State) : Out := s.serve 0x0810 q .none
/-- CMD_FLASH_ERASE (R514). -/
def execCmdFlashErase (q : CmdReq) (s : State) : Out := s.serve 0x0811 q .none
/-- CMD_FLASH_WRITE (R514). -/
def execCmdFlashWrite (q : CmdReq) (inTime : Bool) (s : State) : Out := s.serve 0x0812 q (.inTime inTime)
/-- CMD_IMG_VERIFY (R514). -/
def execCmdImgVerify (q : CmdReq) (s : State) : Out := s.serve 0x0813 q .none
/-- CMD_IMG_DOWNLOAD (R503). -/
def execCmdImgDownload (q : CmdReq) (s : State) : Out := s.serve 0x0814 q .none
/-- CMD_MET_INFO (R554). -/
def execCmdMetInfo (q : CmdReq) (s : State) : Out := s.serve 0x0901 q .none
/-- CMD_MET_READ (R554). -/
def execCmdMetRead (q : CmdReq) (s : State) : Out := s.serve 0x0902 q .none
/-- CMD_MET_OFFER (R554). -/
def execCmdMetOffer (q : CmdReq) (s : State) : Out := s.serve 0x0903 q .none

/-! ### Commands that waited -/

/-- PACK_DRAIN_COMPLETE (R494): the packs are empty, or the limit has passed. -/
def execPackDrainComplete (s : State) : Out :=
  match s.ctl.drainWait with
  | none => .next s
  | some (q, ps, limit) =>
    let t := { s with ctl := { s.ctl with drainWait := none } }
    if s.packsEmpty ps then .next (t.sendReply 0x0502 q St.OK []).resumeCmds
    else if limit ≤ s.fr then .next (t.sendReply 0x0502 q St.TIMEOUT []).resumeCmds
    else .next s

/-- A forwarded command ends. -/
def State.fwdEnd (s : State) (q : CmdReq) (st : Nat) (b : List Byte) : State :=
  (({ s with ctl := { s.ctl with fwdWait := none } }).sendReply 0x0601 q st b).resumeCmds

/-- FAB_FORWARD_TIMEOUT (R482). -/
def execFabForwardTimeout (s : State) : Out :=
  match s.ctl.fwdWait with
  | some (q, limit) => if limit ≤ s.fr then .next (s.fwdEnd q St.TIMEOUT []) else .next s
  | none => .next s

/-- The offer command, if one waits, ends. -/
def State.offerEnd (s : State) (st : Nat) (b : List Byte) : State :=
  match s.ctl.offerWait with
  | some (q, _) => (({ s with ctl := { s.ctl with offerWait := none } }).sendReply 0x0903 q st b).resumeCmds
  | none => s

/-- MET_OFFER_JUDGE (R548): the island completes the offer in its hands. -/
def execMetOfferJudge (sealEnd imageOk paramOk : Bool) (s : State) : Out :=
  match s.island.offer with
  | some (kind, b) =>
    if s.metOn then
      match s.metJudge kind b sealEnd imageOk paramOk with
      | (0, t) => .next (t.offerEnd St.OK [])
      | (r, t) => .next (t.offerEnd St.DENIED [B8 r])
    else .next s
  | none => .next s

/-- MET_OFFER_TIMEOUT (R554). -/
def execMetOfferTimeout (s : State) : Out :=
  match s.ctl.offerWait with
  | some (_, limit) => if limit ≤ s.fr then .next (s.offerEnd St.TIMEOUT []) else .next s
  | none => .next s

/-! ### Host pairs (R475 to R477) -/

/-- The host pair of a route. -/
def pairOf : Route → Option Nat
  | .host h => some h
  | .indirect h .. => some h
  | _ => none

/-- Replies of pair h that are still to come. -/
def State.owed (s : State) (h : Nat) : Nat :=
  let qs := s.ctl.accepted.map (·.2) ++ (s.ctl.drainWait.map (·.1)).toList ++ (s.ctl.fwdWait.map (·.1)).toList
    ++ (s.ctl.offerWait.map (·.1)).toList ++ (s.ctl.tblWait.map (·.1)).toList
  (qs.filter fun q => pairOf q.route == some h).length

/-- The reply queue of pair h has room (R477). -/
def State.replyRoom (s : State) (h : Nat) : Bool := 
  decide ((Tab.get [] s.ctl.replyQ h).length + (Tab.get [] s.ctl.lateQ h).length + s.owed h < 16)

/-- An INDIRECT block (R476). -/
def State.takeIndirect (s : State) (h : Nat) (w : List Word) : State :=
  let req := (w.getD 1 0).toNat + (w.getD 2 0).toNat * 2 ^ 32
  let n := (w.getD 3 0).toNat
  let rsp := (w.getD 4 0).toNat + (w.getD 5 0).toNat * 2 ^ 32
  let cookie := w.getD 7 0
  let r := Route.indirect h rsp (w.getD 6 0).toNat cookie
  let bare := s.queueReply h (completion bareHead cookie 0)
  if !s.hub.busMaster ∨ n < 16 then bare
  else
    match packetOf r (s.mem.host.bytes req 16) with
    | none => bare
    | some (op, q) =>
      if n = 16 + q.len ∨ n = 16 + (q.len + 3) / 4 * 4 then
        s.submit op { q with params := s.mem.host.bytes (req + 16) (n - 16) } .none
      else s.queueReply h (completion (replyHead op q St.BAD_PARAM 0) cookie 0)

/-- A block that pair 0 has taken (R475). -/
def State.takeBlock (s : State) (h : Nat) (w : List Word) : State :=
  match (w.getD 0 0).toNat with
  | 1 =>
    match packetOf (.host h) (bytesOf (w.drop 1)) with
    | some (op, q) => s.submit op q .none
    | none => s
  | 2 => s.takeIndirect h w
  | _ => s.queueReply h (W 1 :: wordsOf 15 bareHead)

/-- H2K_BLOCK_TAKE (R477). -/
def execH2kBlockTake (h : Nat) (s : State) : Out :=
  if s.pair0Up && s.servesPair h && (s.whb (2 * h)).full && s.replyRoom h then
    .next ((s.whTake (2 * h)).takeBlock h (s.whb (2 * h)).posted)
  else .next s

/-- K2H_POST (R477): the head of the queue is posted once the block is free. -/
def execK2hPost (h : Nat) (s : State) : Out :=
  let x := s.whb (2 * h + 1)
  match Tab.get [] s.ctl.replyQ h with
  | r :: _ =>
    if s.pair0Up && s.servesPair h && !x.full && !x.timeout then .next ((s.setWhb (2 * h + 1) { x with stage := r }).whGo (2 * h + 1))
    else .next s
  | [] => .next s

/-! ### Whistle rows (R471, R472, R478, R553) -/

/-- The control register of block b of a host pair. -/
def whCtrlOff (b : Nat) : Nat := if b % 2 = 0 then Reg.WH_H2K_CTRL (b / 2) else Reg.WH_K2H_CTRL (b / 2)

/-- A fabric pair's outgoing block: pair 0 writes WH_FAB_DST and stages words inside the Keeper, then GO; the block goes to
the peer in a type 1 frame (R456, R471, R478). While a block is posted, WH_FAB_DST keeps its peer (log entry 19). -/
def State.fabGo (s : State) (b dst : Nat) (w : List Word) : State :=
  let x := s.whb b
  let s := s.setWhb b { x with stage := w ++ x.stage.drop w.length }
  if x.full || x.timeout then s
  else
    let s := { s with ctl := { s.ctl with fabDst := Tab.set 0 s.ctl.fabDst (b / 2 - 4) dst } }
    (s.whGo b).fabControl 1 dst (bytesOf (s.whb b).stage)

/-- WHISTLE_GO (R471): what pair 0 has written of a fabric pair, whose registers are not in BAR0 (R478), comes with
it. -/
def execWhistleGo (m : Master) (go : WhGo) (s : State) : Out :=
  if go.block < 8 then .next (s.busWrite m (whCtrlOff go.block) 1)
  else if (go.block = 8 ∨ go.block = 10) ∧ m = .keeper 0 ∧ s.pair0Up ∧ s.chip.fabric then
    .next (s.fabGo go.block (go.dst % 16) (go.words.take 16))
  else .next s

/-- The receiver of a block beyond the host pairs: pair 0 of the incoming fabric blocks and of the island's, the peer of
an outgoing fabric block. -/
def State.whReceiver (s : State) (m : Master) (b : Nat) : Bool :=
  match b with
  | 8 | 10 => m == .fabric (Tab.get 0 s.ctl.fabDst (b / 2 - 4))
  | 9 | 11 | 12 => m == .keeper 0 && s.pair0Up
  | _ => false

/-- The fabric pair whose peer is device d. -/
def State.fabPairOf (s : State) (d : Nat) : Option Nat := [0, 1].find? fun f => Tab.get 0 s.ctl.fabDst f == d

/-- A Whistle block from device d is posted. -/
def State.fabBlock (s : State) (d : Nat) (w : List Word) : State :=
  match s.fabPairOf d with
  | some f =>
    let x := s.whb (9 + 2 * f)
    if x.full || x.timeout then s
    else s.setWhb (9 + 2 * f) { x with posted := w, full := true, start := s.fr }
  | none => s

/-- The awaited reply of a forwarded command. -/
def State.fabReply (s : State) (d : Nat) (b : List Byte) (q : CmdReq) : State :=
  match s.ctl.fwdWait with
  | some (w, _) =>
    if (byteAt w.args 0).toNat = d then s.fwdEnd w St.OK (b.take ((16 + q.len + 3) / 4 * 4)) else s
  | none => s

/-- A command or reply packet from device d (R482). -/
def State.fabPacket (s : State) (d : Nat) (b : List Byte) : State :=
  match packetOf (.fabric d) b with
  | none => s
  | some (op, q) => if q.reply then s.fabReply d b q else s.submit op { q with authIdx := 0 } .none

/-- The content of a type 1 frame from device d: a block, whose word 0 is a KIND alone, or a packet. -/
def State.fabContent (s : State) (d : Nat) (b : List Byte) : State :=
  if leAt b 0 4 < 16 then s.fabBlock d (wordsOf 16 b) else s.fabPacket d b

/-- Pair 0 takes the block of a fabric pair from device d and serves it: a packet in a DIRECT block; any other KIND, 0x2
among them, is answered as R475 has an unknown one (R475, R478). -/
def State.takeFab (s : State) (d : Nat) (w : List Word) : State :=
  if (w.getD 0 0).toNat = 1 then s.fabPacket d (bytesOf (w.drop 1))
  else s.fabControl 1 d bareHead

/-- WHISTLE_TAKE (R472). -/
def execWhistleTake (m : Master) (b : Nat) (s : State) : Out :=
  if b < 8 then .next (s.busWrite m (whCtrlOff b) 4)
  else if s.whReceiver m b then
    let u := s.whTake b
    if (b = 9 ∨ b = 11) ∧ (s.whb b).full then
      .next (u.takeFab (Tab.get 0 s.ctl.fabDst (b / 2 - 4)) (s.whb b).posted)
    else .next u
  else .next s

/-! ### The management port (R479, R480) -/

/-- An in-band frame whose length is that of its packet: padded packet, tag, padding to 60 bytes. -/
def inBandFits (b : List Byte) (q : CmdReq) : Bool := b.length == max 60 (30 + (16 + q.len + 3) / 4 * 4)

/-- The packet of an in-band frame with its padding. -/
def inBandPacket (b : List Byte) (q : CmdReq) : List Byte := (b.drop 14).take ((16 + q.len + 3) / 4 * 4)

/-- A request is dropped and counted (R480). -/
def State.ibDrop (s : State) (counter : Nat) : State := (s.bump counter).raise Ev.CMD_AUTH

/-- A well-formed in-band request: authentication, replay, then the command. -/
def State.ibAccept (s : State) (b : List Byte) (op : Nat) (q : CmdReq) : State :=
  let key := s.keyOf q.authIdx
  let p := inBandPacket b q
  if q.authIdx = 0 ∨ key = [] ∨ ((b.drop (14 + p.length)).take 16) ≠ inBandTag key p then s.ibDrop Reg.WH_IB_BAD
  else if q.seq.toNat ≤ Tab.get 0 s.ctl.authSeq q.authIdx then s.ibDrop Reg.WH_IB_REPLAY
  else
    ({ s with ctl := { s.ctl with authSeq := Tab.set 0 s.ctl.authSeq q.authIdx q.seq.toNat } }).submit op q .none

/-- An in-band frame. A request that fails check 1 is answered under its key; without one it is dropped as R480
has it (log entry 26). -/
def State.ibFrame (s : State) (b : List Byte) : State :=
  match packetOf (.inBand ((b.drop 6).take 6)) (b.drop 14) with
  | none => s
  | some (op, q) =>
    if q.formOk && inBandFits b q then s.ibAccept b op q
    else if q.authIdx = 0 ∨ s.keyOf q.authIdx = [] then s.ibDrop Reg.WH_IB_BAD
    else s.sendReply op q St.BAD_PARAM []

/-- IN_BAND_COMMAND (R480): the oldest frame that the management port has passed to the Keepers. -/
def execInBandCommand (bytes : List Byte) (s : State) : Out :=
  match s.ctl.inBand with
  | b :: t =>
    if b = bytes ∧ s.pair0Up ∧ s.serves (.inBand []) then
      .next (({ s with ctl := { s.ctl with inBand := t } }).ibFrame b)
    else .next s
  | [] => .next s

/-! ### Control frames of the fabric (R444 to R446, R453, R456, R457, R478, R482) -/

/-- A control frame for this device. A type 2 frame holds the offset and then a word whose bit 0 is 1 for a write (log entry
16). -/
def State.fabOwn (s : State) (b : List Byte) : State :=
  match hdrType b with
  | 2 => s.fabLeash (hdrSrc b) (leAt (b.drop 16) 0 4) (bitOf (wordAt (b.drop 20) 0) 0)
  | 1 => if s.pair0Up then s.fabContent (hdrSrc b) (b.drop 16) else s
  | 3 => { s with leash := { s.leash with replies := s.leash.replies ++ [(0x2000, wordAt (b.drop 16) 0)] } }
  | _ => s

/-- A control frame for another device goes on toward it. -/
def State.fabOnward (s : State) (b : List Byte) : State :=
  match s.nextHop (hdrDst b) (hdrOd b) with
  | none => s.bump Reg.FAB_NOROUTE
  | some q =>
    if 3 ≤ hdrHops b then s.bump Reg.FAB_TTL_DROP
    else if s.linkUp q then s.ctlSend q (hopped b)
    else s.bump Reg.FAB_NOROUTE

/-- The pieces of an image, each as long as a frame carries. -/
def pieces : Nat → List Byte → List (List Byte)
  | 0, _ => []
  | n + 1, b => if b.isEmpty then [] else b.take 9596 :: pieces n (b.drop 9596)

/-- A neighbour without firmware asks for an image: this device's running image goes to it in type 1 frames on that link
(R504). -/
def State.serveImage (s : State) (q : Nat) : State :=
  let img := s.boot.image
  (pieces (img.length / 9596 + 1) img).foldl (fun t b =>
    t.ctlSend q (fabHeader 1 0 ((s.fabDev).getD 0) 0 0 0xFF 0 0 0 0 ++ b)) s

/-- A control frame that arrives on a link (R445, R446). -/
def State.controlFrame (s : State) (q : Nat) (b : List Byte) (ok : Bool) : State :=
  if !ok ∨ hdrF b 0 3 0 ≠ 1 ∨ 3 < hdrType b ∨ b.length < 16 then s.bump (Reg.FAB_LNK_ERR q)
  else if hdrType b = 0 then s
  else if hdrType b = 1 ∧ b.length = 16 then (if s.mode = 1 ∧ s.pair0Up then s.serveImage q else s)
  else if s.fabDev = some (hdrDst b) then s.fabOwn b
  else s.fabOnward b

/-- CONTROL_FRAME_RECEIVE (R456). -/
def execControlFrameReceive (q : Nat) (bytes : List Byte) (fcsOk : Bool) (s : State) : Out :=
  if s.fabRuns && decide (q < s.chip.quads) && s.lflOn q && s.linkUp q then .next (s.controlFrame q bytes fcsOk) else .next s

/-! ### Lockstep (R463) -/

/-- What pair 0 loses with its reset: the commands at hand, queued replies and frames, an open stage. -/
def State.pair0Lost (s : State) : State :=
  let s := ((s.setFld Reg.SYS_EPOCH 1 1 0).setFld Reg.SYS_SURVEY 1 1 0).setTrun 4 none
  { s with ctl := { s.ctl with
      accepted := [], replyQ := [], lateQ := [], inBand := [], drainWait := none, offerWait := none, fwdWait := none,
      tblWait := none
    } }

/-- What a Keeper pair holds, with both cores as a reset leaves them: the memories keep their contents. -/
def State.resetCores (s : State) (k : Nat) (live : Bool) : State :=
  { s with ctl := { s.ctl with
      keepers := Tab.upd Keeper.idle s.ctl.keepers k fun x => { x with core0 := { live := live }, core1 := { live := live } } } }

/-- A Keeper pair is reset (R463). -/
def State.keeperReset (s : State) (k : Nat) : State :=
  let s := (s.leashBreak (0x2000 + k)).resetCores k false
  let s := { s with ctl := { s.ctl with keeperDown := Tab.set false s.ctl.keeperDown k true } }
  if k = 0 then s.pair0Lost else s

/-- KEEPER_LOCKSTEP_MISMATCH (R463). -/
def execKeeperLockstepMismatch (k : Nat) (s : State) : Out :=
  if k < 2 ∧ Tab.get false s.ctl.keeperDown k = false then .next ((s.raise (Ev.KEEPER_LOCKSTEP k)).keeperReset k)
  else .next s

/-- KEEPER_RESTART (R463): the pair starts again from its image in memory, unless that reads uncorrectable, which resets it
as R529 has it. Minimal mode holds pair 1 in reset (R512). -/
def execKeeperRestart (k : Nat) (s : State) : Out :=
  if Tab.get false s.ctl.keeperDown k && !(s.minimal && k == 1) then
    match s.eccRead 0xA k 0 0x80000 with
    | (true, t) => .next t
    | (false, t) =>
      let t := t.resetCores k true
      let t := { t with ctl := { t.ctl with keeperDown := Tab.set false t.ctl.keeperDown k false } }
      .next (if k = 0 then t.notifyAll 1 else t)
  else .next s

end Sys2Proof.Machine
end

