-- ==== Sys2Proof/Machine/Shift.lean ====
section
/-! DEFINITION. Shifts, rotates and products of the engines (R128, R129). -/

namespace Sys2Proof.Machine

open Sys2Proof

/-- A shift of d by s modulo the width (R128). -/
def shiftRegs (f : Nat → Nat → Nat → Alu) (c : Nat) (o : Operands) (s : State) : Eff :=
  let r := f o.bits (s.dest c o o.d) (s.dest c o o.s % o.bits)
  Eff.ok ((s.setR c (regNo o o.d) (W r.res)).setFlags c r)

/-- A shift of d by the immediate modulo the width (R128). -/
def shiftImm (f : Nat → Nat → Nat → Alu) (c : Nat) (o : Operands) (s : State) : Eff :=
  let r := f o.bits (s.dest c o o.d) (o.immW % o.bits)
  Eff.ok ((s.setR c (regNo o o.d) (W r.res)).setFlags c r)

/-- MUL and MULS (R129): only MHI and MLO change. -/
def bodyMul (sgn : Bool) (c : Nat) (o : Operands) (s : State) : Eff :=
  let p := product o.bits (s.dest c o o.d) (s.opnd c o o.s) sgn
  Eff.ok (s.landProduct c p.1 p.2)

/-- SHL (R128). -/
def execShl (c : Nat) (o : Operands) (s : State) : Out := s.runIssue .shl c o (shiftRegs Alu.shl)
/-- SHR (R128). -/
def execShr (c : Nat) (o : Operands) (s : State) : Out := s.runIssue .shr c o (shiftRegs Alu.shr)
/-- SAR (R128). -/
def execSar (c : Nat) (o : Operands) (s : State) : Out := s.runIssue .sar c o (shiftRegs Alu.sar)
/-- ROL (R128). -/
def execRol (c : Nat) (o : Operands) (s : State) : Out := s.runIssue .rol c o (shiftRegs Alu.rol)
/-- ROR (R128). -/
def execRor (c : Nat) (o : Operands) (s : State) : Out := s.runIssue .ror c o (shiftRegs Alu.ror)
/-- SHLI (R128). -/
def execShli (c : Nat) (o : Operands) (s : State) : Out := s.runIssue .shli c o (shiftImm Alu.shl)
/-- SHRI (R128). -/
def execShri (c : Nat) (o : Operands) (s : State) : Out := s.runIssue .shri c o (shiftImm Alu.shr)
/-- SARI (R128). -/
def execSari (c : Nat) (o : Operands) (s : State) : Out := s.runIssue .sari c o (shiftImm Alu.sar)
/-- MUL (R129). -/
def execMul (c : Nat) (o : Operands) (s : State) : Out := s.runIssue .mul c o (bodyMul false)
/-- MULS (R129). -/
def execMuls (c : Nat) (o : Operands) (s : State) : Out := s.runIssue .muls c o (bodyMul true)

end Sys2Proof.Machine
end

