-- ==== Sys2Proof/Machine/Threads.lean ====
section
/-! DEFINITION. Context instructions (R136, R148 to R153, R162). -/

namespace Sys2Proof.Machine

open Sys2Proof

/-- FORK (R136, R149, R150, R152): the child's number goes into d before the child starts. -/
def bodyFork (c : Nat) (o : Operands) (s : State) : Eff :=
  let x := s.ctx c
  match s.forkNum (engOf c) x.tclass with
  | none => Eff.ok (s.updCtx c fun y => { y with cf := true })
  | some k =>
    let arg := s.greg c (regNo o o.s)
    let s := (s.setR c (regNo o o.d) (W k)).updCtx c fun y => { y with cf := false }
    Eff.ok (s.startCtx (engOf c * 8 + k)
      { Ctx.idle with pc := BitVec.ofNat 16 o.imm.toNat, g := Tab.set 0 [] 0 arg, tclass := x.tclass, forked := true,
                      epoch := x.epoch, job := x.job, parent := some c })

/-- The context a JOIN or KILL names, when it is a live direct child (R136, R153). -/
def State.childOf (s : State) (c : Nat) (o : Operands) : Option Nat :=
  let k := c / 8 * 8 + (s.greg c (regNo o o.s)).toNat % 8
  if (s.ctx k).live && (s.ctx k).parent == some c then some k else none

def bodyJoin (c : Nat) (o : Operands) (s : State) : Eff :=
  match s.childOf c o with
  | some k => Eff.ok (s.updCtx c fun x => { x with wait := .join (numOf k) })
  | none => Eff.ok s

def bodyKill (c : Nat) (o : Operands) (s : State) : Eff :=
  match s.childOf c o with
  | some k => Eff.ok (s.freeCtx k .squash)
  | none => Eff.ok s

def bodyEnd (c : Nat) (_o : Operands) (s : State) : Eff := ⟨s.freeCtx c .done, .stay, false⟩

def bodyWaith (c : Nat) (_o : Operands) (s : State) : Eff :=
  if (s.ctx c).hlpDone then Eff.ok s else Eff.ok (s.updCtx c fun x => { x with wait := .waith })

def bodyWaitev (c : Nat) (o : Operands) (s : State) : Eff :=
  let m := s.greg c (regNo o o.s)
  if m = 0 ∨ (s.ctx c).evFlags &&& m ≠ 0 then Eff.ok s
  else Eff.ok (s.updCtx c fun x => { x with wait := .waitev m })

/-- FORK (R136). -/
def execFork (c : Nat) (o : Operands) (s : State) : Out := s.runIssue .fork c o bodyFork
/-- JOIN (R136). -/
def execJoin (c : Nat) (o : Operands) (s : State) : Out := s.runIssue .join c o bodyJoin
/-- END (R136). -/
def execEnd (c : Nat) (o : Operands) (s : State) : Out := s.runIssue .endc c o bodyEnd
/-- KILL (R136). -/
def execKill (c : Nat) (o : Operands) (s : State) : Out := s.runIssue .kill c o bodyKill
/-- WAITH (R136). -/
def execWaith (c : Nat) (o : Operands) (s : State) : Out := s.runIssue .waith c o bodyWaith
/-- WAITEV (R136). -/
def execWaitev (c : Nat) (o : Operands) (s : State) : Out := s.runIssue .waitev c o bodyWaitev

end Sys2Proof.Machine
end

