-- ==== Sys2Proof/Machine/Wake.lean ====
section
/-! DEFINITION. What goes on when the update unit has applied an update or a DRAM read has returned (R289, R300, R347, R428,
R469). -/

namespace Sys2Proof.Machine

open Sys2Proof

/-- CMD_TBL_OPS goes on, and answers when its last descriptor is over. -/
def State.tblResume (s : State) : State :=
  match s.ctl.tblWait with
  | none => s
  | some (q, left, out) =>
    match State.tblOps (left.length / 32) q left out ({ s with ctl := { s.ctl with tblWait := none } }.tdmaGo 4 0) with
    | (.reply st b, t) => (t.sendReply 0x0301 q st b).resumeCmds
    | (_, t) => t

/-- The table DMA operation at k goes on. -/
def State.runResume (s : State) (k : Nat) : State := if k < 4 then s.ringGo k else s.tblResume

/-- The reader of far tables that a line has come for goes on, where no command of its own resumes it. -/
def State.farResume (s : State) (own : FarFor) : State :=
  match own with
  | .op k => s.runResume k
  | .frame p => State.stepTwoPump p (s.stepTwoQ p).length s
  | .helper _ => s
  | .update => s

/-- Who waits for a DRAM request goes on. -/
def State.dramResume (s : State) (d : DramTo) : State :=
  match d with
  | .op k => s.runResume k
  | .line _ own => s.farResume own
  | .helper _ => s
  | .posted => s
  | .idle => s

/-- DRAM_READ_COMPLETE (R428, R429): the oldest issued read of the channel returns, and who waits for it goes on. -/
def execDramReadComplete (i ch : Nat) (k : DramSense) (s : State) : Out :=
  match s.dramComplete i ch k.found k.lane0 k.lane1 with
  | (some r, t) => .next (if s.running then t.dramResume r.dest else t)
  | (none, t) => .next t

/-- A waiting CMD_TBL_OPS ends: after a FATAL error the Lookup Engine does not answer (R531). -/
def State.tblDead (s : State) : State :=
  match s.ctl.tblWait with
  | some (q, _) => ((({ s with ctl := { s.ctl with tblWait := none } }).setTrun 4 none).sendReply 0x0301 q St.TIMEOUT []).resumeCmds
  | none => s

/-- UPDATE_UNIT_APPLY (R289): the update at the head of the queue is applied, and a table DMA operation goes on with it. -/
def execUpdateUnitApply (ue : Option Nat) (s : State) : Out :=
  if s.running then
    match s.help.updates with
    | .op k _ :: _ => .next ((s.updateApply ue).runResume k)
    | _ => .next (s.updateApply ue)
  else .next (if s.hub.fatal then s.tblDead else s)

end Sys2Proof.Machine
end

