-- ==== Sys2Proof/Machine/Dispatch.lean ====
section
/-! DEFINITION. The dispatch of the commands to their meanings, one arm per row of spec/opcode_table.json. -/

namespace Sys2Proof.Machine

open Sys2Proof

def exec (i : Instr) (s : State) : Host.Outcome State Fault Refusal :=
  match i with
  | .cmdGetFeatures q => Sys2Proof.Machine.execCmdGetFeatures q s
  | .registerWrite m off v => Sys2Proof.Machine.execRegisterWrite m off v s
  | .readClear m off => Sys2Proof.Machine.execReadClear m off s
  | .counterLoRead m off => Sys2Proof.Machine.execCounterLoRead m off s
  | .misalignedAccess m off size write => Sys2Proof.Machine.execMisalignedAccess m off size write s
  | .fwOwnWrite m v => Sys2Proof.Machine.execFwOwnWrite m v s
  | .logRearm m off v => Sys2Proof.Machine.execLogRearm m off v s
  | .paceWindowEnd x => Sys2Proof.Machine.execPaceWindowEnd x s
  | .samplerRotate p => Sys2Proof.Machine.execSamplerRotate p s
  | .sampledTurnOverCeil p ps => Sys2Proof.Machine.execSampledTurnOverCeil p ps s
  | .avsWriteVout ok => Sys2Proof.Machine.execAvsWriteVout ok s
  | .avsReadVout ok mv => Sys2Proof.Machine.execAvsReadVout ok mv s
  | .paceEnable m v => Sys2Proof.Machine.execPaceEnable m v s
  | .paceDisable m v => Sys2Proof.Machine.execPaceDisable m v s
  | .paceManualSet m v => Sys2Proof.Machine.execPaceManualSet m v s
  | .paceManualClear m v => Sys2Proof.Machine.execPaceManualClear m v s
  | .turnCeilWrite m v => Sys2Proof.Machine.execTurnCeilWrite m v s
  | .wheelTurn e => Sys2Proof.Machine.execWheelTurn e s
  | .nop c o => Sys2Proof.Machine.execNop c o s
  | .brk c o => Sys2Proof.Machine.execBrk c o s
  | .add c o => Sys2Proof.Machine.execAdd c o s
  | .sub c o => Sys2Proof.Machine.execSub c o s
  | .adc c o => Sys2Proof.Machine.execAdc c o s
  | .sbc c o => Sys2Proof.Machine.execSbc c o s
  | .addi c o => Sys2Proof.Machine.execAddi c o s
  | .subi c o => Sys2Proof.Machine.execSubi c o s
  | .mov c o => Sys2Proof.Machine.execMov c o s
  | .movi c o => Sys2Proof.Machine.execMovi c o s
  | .andR c o => Sys2Proof.Machine.execAnd c o s
  | .orR c o => Sys2Proof.Machine.execOr c o s
  | .xorR c o => Sys2Proof.Machine.execXor c o s
  | .andi c o => Sys2Proof.Machine.execAndi c o s
  | .ori c o => Sys2Proof.Machine.execOri c o s
  | .xori c o => Sys2Proof.Machine.execXori c o s
  | .cmp c o => Sys2Proof.Machine.execCmp c o s
  | .cmpi c o => Sys2Proof.Machine.execCmpi c o s
  | .tst c o => Sys2Proof.Machine.execTst c o s
  | .notR c o => Sys2Proof.Machine.execNot c o s
  | .neg c o => Sys2Proof.Machine.execNeg c o s
  | .shl c o => Sys2Proof.Machine.execShl c o s
  | .shr c o => Sys2Proof.Machine.execShr c o s
  | .sar c o => Sys2Proof.Machine.execSar c o s
  | .rol c o => Sys2Proof.Machine.execRol c o s
  | .ror c o => Sys2Proof.Machine.execRor c o s
  | .shli c o => Sys2Proof.Machine.execShli c o s
  | .shri c o => Sys2Proof.Machine.execShri c o s
  | .sari c o => Sys2Proof.Machine.execSari c o s
  | .mul c o => Sys2Proof.Machine.execMul c o s
  | .muls c o => Sys2Proof.Machine.execMuls c o s
  | .ld c o => Sys2Proof.Machine.execLd c o s
  | .st c o => Sys2Proof.Machine.execSt c o s
  | .ldi c o => Sys2Proof.Machine.execLdi c o s
  | .inp c o => Sys2Proof.Machine.execInp c o s
  | .outp c o => Sys2Proof.Machine.execOutp c o s
  | .inr c o => Sys2Proof.Machine.execInr c o s
  | .outr c o => Sys2Proof.Machine.execOutr c o s
  | .jmp c o => Sys2Proof.Machine.execJmp c o s
  | .bcc c o => Sys2Proof.Machine.execBcc c o s
  | .jmpr c o => Sys2Proof.Machine.execJmpr c o s
  | .call c o => Sys2Proof.Machine.execCall c o s
  | .callr c o => Sys2Proof.Machine.execCallr c o s
  | .ret c o => Sys2Proof.Machine.execRet c o s
  | .mtc c o => Sys2Proof.Machine.execMtc c o s
  | .mfc c o => Sys2Proof.Machine.execMfc c o s
  | .crcb c o => Sys2Proof.Machine.execCrcb c o s
  | .par c o => Sys2Proof.Machine.execPar c o s
  | .popc c o => Sys2Proof.Machine.execPopc c o s
  | .brev c o => Sys2Proof.Machine.execBrev c o s
  | .bswap c o => Sys2Proof.Machine.execBswap c o s
  | .ext c o => Sys2Proof.Machine.execExt c o s
  | .ins c o => Sys2Proof.Machine.execIns c o s
  | .mfsp c o => Sys2Proof.Machine.execMfsp c o s
  | .mtsp c o => Sys2Proof.Machine.execMtsp c o s
  | .fork c o => Sys2Proof.Machine.execFork c o s
  | .join c o => Sys2Proof.Machine.execJoin c o s
  | .endCtx c o => Sys2Proof.Machine.execEnd c o s
  | .kill c o => Sys2Proof.Machine.execKill c o s
  | .waith c o => Sys2Proof.Machine.execWaith c o s
  | .waitev c o => Sys2Proof.Machine.execWaitev c o s
  | .tret c o => Sys2Proof.Machine.execTret c o s
  | .emitGo c o => Sys2Proof.Machine.execEmitGo c o s
  | .drop c o => Sys2Proof.Machine.execDrop c o s
  | .delay c o => Sys2Proof.Machine.execDelay c o s
  | .release c o => Sys2Proof.Machine.execRelease c o s
  | .packRst m p v => Sys2Proof.Machine.execPackRst m p v s
  | .packRstComplete p => Sys2Proof.Machine.execPackRstComplete p s
  | .engRst m e v => Sys2Proof.Machine.execEngRst m e v s
  | .engRstComplete e => Sys2Proof.Machine.execEngRstComplete e s
  | .deadlockDetect e => Sys2Proof.Machine.execDeadlockDetect e s
  | .engWake m e v => Sys2Proof.Machine.execEngWake m e v s
  | .jobStart e slot => Sys2Proof.Machine.execJobStart e slot s
  | .hashH0 c o => Sys2Proof.Machine.execHashH0 c o s
  | .hashH1 c o => Sys2Proof.Machine.execHashH1 c o s
  | .hashH0H1 c o => Sys2Proof.Machine.execHashH0H1 c o s
  | .crcSteps c o => Sys2Proof.Machine.execCrcSteps c o s
  | .checksum c o => Sys2Proof.Machine.execChecksum c o s
  | .aesEnc c o => Sys2Proof.Machine.execAesEnc c o s
  | .aesDec c o => Sys2Proof.Machine.execAesDec c o s
  | .gcmEnc c o => Sys2Proof.Machine.execGcmEnc c o s
  | .gcmDec c o => Sys2Proof.Machine.execGcmDec c o s
  | .ghash c o => Sys2Proof.Machine.execGhash c o s
  | .gcmTag c o => Sys2Proof.Machine.execGcmTag c o s
  | .cmacUpd c o => Sys2Proof.Machine.execCmacUpd c o s
  | .cmacFin c o => Sys2Proof.Machine.execCmacFin c o s
  | .lookupRead c o => Sys2Proof.Machine.execLookupRead c o s
  | .lookupLearn c o => Sys2Proof.Machine.execLookupLearn c o s
  | .lookupInsert c o => Sys2Proof.Machine.execLookupInsert c o s
  | .lookupDelete c o => Sys2Proof.Machine.execLookupDelete c o s
  | .dmaGet c o => Sys2Proof.Machine.execDmaGet c o s
  | .dmaPut c o => Sys2Proof.Machine.execDmaPut c o s
  | .helperComplete c ue => Sys2Proof.Machine.execHelperComplete c ue s
  | .leashAcquire m ix o => Sys2Proof.Machine.execLeashAcquire m ix o s
  | .leashRelease m ix o => Sys2Proof.Machine.execLeashRelease m ix o s
  | .leashStallTimeout ix id => Sys2Proof.Machine.execLeashStallTimeout ix id s
  | .leashGrpAccWrite m off v => Sys2Proof.Machine.execLeashGrpAccWrite m off v s
  | .memoryWordLockAcquire c o => Sys2Proof.Machine.execMemoryWordLockAcquire c o s
  | .frameReceive r => Sys2Proof.Machine.execFrameReceive r s
  | .canFrameReceive n r ok => Sys2Proof.Machine.execCanFrameReceive n r ok s
  | .frameAdmit port cls => Sys2Proof.Machine.execFrameAdmit port cls s
  | .pfcRefresh port cls => Sys2Proof.Machine.execPfcRefresh port cls s
  | .placement q => Sys2Proof.Machine.execPlacement q s
  | .parkExpire job => Sys2Proof.Machine.execParkExpire job s
  | .steal sh => Sys2Proof.Machine.execSteal sh s
  | .fetchSlotEnter e slot ue => Sys2Proof.Machine.execFetchSlotEnter e slot ue s
  | .recall e slot => Sys2Proof.Machine.execRecall e slot s
  | .scentTimeMarker => Sys2Proof.Machine.execScentTimeMarker s
  | .scentRecordWrite => Sys2Proof.Machine.execScentRecordWrite s
  | .scentEnable m v => Sys2Proof.Machine.execScentEnable m v s
  | .delayTick => Sys2Proof.Machine.execDelayTick s
  | .dueJobEnqueue sh => Sys2Proof.Machine.execDueJobEnqueue sh s
  | .heldCommit c => Sys2Proof.Machine.execHeldCommit c s
  | .holeTimeout od => Sys2Proof.Machine.execHoleTimeout od s
  | .tblGeomWrite m off v => Sys2Proof.Machine.execTblGeomWrite m off v s
  | .tblInit m t v => Sys2Proof.Machine.execTblInit m t v s
  | .tblInitDone t => Sys2Proof.Machine.execTblInitDone t s
  | .tblEpvWrite m t v => Sys2Proof.Machine.execTblEpvWrite m t v s
  | .updateUnitApply ue => Sys2Proof.Machine.execUpdateUnitApply ue s
  | .agingVisit t => Sys2Proof.Machine.execAgingVisit t s
  | .cacheFlush m v => Sys2Proof.Machine.execCacheFlush m v s
  | .cacheFlushDone => Sys2Proof.Machine.execCacheFlushDone s
  | .tdmaRead r ue => Sys2Proof.Machine.execTdmaRead r ue s
  | .tdmaInsert r ue => Sys2Proof.Machine.execTdmaInsert r ue s
  | .tdmaDelete r ue => Sys2Proof.Machine.execTdmaDelete r ue s
  | .writeSlot r ue => Sys2Proof.Machine.execWriteSlot r ue s
  | .lockBucket r ue => Sys2Proof.Machine.execLockBucket r ue s
  | .unlockBucket r ue => Sys2Proof.Machine.execUnlockBucket r ue s
  | .ringPiWrite m off v => Sys2Proof.Machine.execRingPiWrite m off v s
  | .ringEnable m off v => Sys2Proof.Machine.execRingEnable m off v s
  | .knAlloc c o => Sys2Proof.Machine.execKnAlloc c o s
  | .knFree c o => Sys2Proof.Machine.execKnFree c o s
  | .knPoolWrite m off v => Sys2Proof.Machine.execKnPoolWrite m off v s
  | .portQuadWrite m q v => Sys2Proof.Machine.execPortQuadWrite m q v s
  | .pfcFrameReceive port en times => Sys2Proof.Machine.execPfcFrameReceive port en times s
  | .pauseFrameReceive port quanta => Sys2Proof.Machine.execPauseFrameReceive port quanta s
  | .pauseExpire port cls => Sys2Proof.Machine.execPauseExpire port cls s
  | .linkChange port up rateMbps => Sys2Proof.Machine.execLinkChange port up rateMbps s
  | .alignmentMarker x meas => Sys2Proof.Machine.execAlignmentMarker x meas s
  | .canTransmit n r => Sys2Proof.Machine.execCanTransmit n r s
  | .canBusoffRecovery n => Sys2Proof.Machine.execCanBusoffRecovery n s
  | .h2dDescriptor q => Sys2Proof.Machine.execH2dDescriptor q s
  | .d2hDescriptor q => Sys2Proof.Machine.execD2hDescriptor q s
  | .mdioRun m ix v => Sys2Proof.Machine.execMdioRun m ix v s
  | .mdioRunDone ix answers => Sys2Proof.Machine.execMdioRunDone ix answers s
  | .mtrCfgWrite m off v => Sys2Proof.Machine.execMtrCfgWrite m off v s
  | .egressEnqueue out => Sys2Proof.Machine.execEgressEnqueue out s
  | .egressSelect x => Sys2Proof.Machine.execEgressSelect x s
  | .transmitEnd x ue => Sys2Proof.Machine.execTransmitEnd x ue s
  | .portDisable m port v => Sys2Proof.Machine.execPortDisable m port v s
  | .gateEntry x => Sys2Proof.Machine.execGateEntry x s
  | .gclCommit m x v => Sys2Proof.Machine.execGclCommit m x v s
  | .gclSwitch x => Sys2Proof.Machine.execGclSwitch x s
  | .tbclkLossOfLock => Sys2Proof.Machine.execTbclkLossOfLock s
  | .srcRet m v => Sys2Proof.Machine.execSrcRet m v s
  | .tbAdjStep m d v => Sys2Proof.Machine.execTbAdjStep m d v s
  | .tbAdjSet m d v => Sys2Proof.Machine.execTbAdjSet m d v s
  | .tbSnap m v => Sys2Proof.Machine.execTbSnap m v s
  | .tbrFrLoRead c o => Sys2Proof.Machine.execTbrFrLoRead c o s
  | .txtsHdrRead m x => Sys2Proof.Machine.execTxtsHdrRead m x s
  | .ppsOut => Sys2Proof.Machine.execPpsOut s
  | .ppsPulseEnd => Sys2Proof.Machine.execPpsPulseEnd s
  | .ppsInEdge => Sys2Proof.Machine.execPpsInEdge s
  | .train m ix v => Sys2Proof.Machine.execTrain m ix v s
  | .trainingDone ix ok density => Sys2Proof.Machine.execTrainingDone ix ok density s
  | .ddrOpenWrite m ix v => Sys2Proof.Machine.execDdrOpenWrite m ix v s
  | .regulatorEntry ix p => Sys2Proof.Machine.execRegulatorEntry ix p s
  | .dramRequestIssue ix ch => Sys2Proof.Machine.execDramRequestIssue ix ch s
  | .dramReadComplete ix ch ecc => Sys2Proof.Machine.execDramReadComplete ix ch ecc s
  | .refresh ix ch bank => Sys2Proof.Machine.execRefresh ix ch bank s
  | .writeTracking ix ch lanes => Sys2Proof.Machine.execWriteTracking ix ch lanes s
  | .idleTrackingRead ix ch row => Sys2Proof.Machine.execIdleTrackingRead ix ch row s
  | .ddrErrPopRead m => Sys2Proof.Machine.execDdrErrPopRead m s
  | .helloSend q => Sys2Proof.Machine.execHelloSend q s
  | .helloReceive q h => Sys2Proof.Machine.execHelloReceive q h s
  | .helloTimeout q => Sys2Proof.Machine.execHelloTimeout q s
  | .lossOfBlockLock q => Sys2Proof.Machine.execLossOfBlockLock q s
  | .linkStateRecord q r => Sys2Proof.Machine.execLinkStateRecord q r s
  | .recordFlood => Sys2Proof.Machine.execRecordFlood s
  | .routeRecompute => Sys2Proof.Machine.execRouteRecompute s
  | .election => Sys2Proof.Machine.execElection s
  | .fabricFrameReceive q bytes rx => Sys2Proof.Machine.execFabricFrameReceive q bytes rx s
  | .creditUpdate q credits => Sys2Proof.Machine.execCreditUpdate q credits s
  | .fabricLeashAccess d off write => Sys2Proof.Machine.execFabricLeashAccess d off write s
  | .cmdRegRead q => Sys2Proof.Machine.execCmdRegRead q s
  | .cmdRegWrite q => Sys2Proof.Machine.execCmdRegWrite q s
  | .cmdAuthKeySet q => Sys2Proof.Machine.execCmdAuthKeySet q s
  | .cmdSysReset q => Sys2Proof.Machine.execCmdSysReset q s
  | .cmdMacsecSecy q => Sys2Proof.Machine.execCmdMacsecSecy q s
  | .cmdMacsecRxsc q => Sys2Proof.Machine.execCmdMacsecRxsc q s
  | .cmdMacsecSa q => Sys2Proof.Machine.execCmdMacsecSa q s
  | .cmdTblOps q => Sys2Proof.Machine.execCmdTblOps q s
  | .cmdProgLoad q => Sys2Proof.Machine.execCmdProgLoad q s
  | .cmdPackDrain q => Sys2Proof.Machine.execCmdPackDrain q s
  | .packDrainComplete => Sys2Proof.Machine.execPackDrainComplete s
  | .cmdPackResume q => Sys2Proof.Machine.execCmdPackResume q s
  | .cmdProgDrop q => Sys2Proof.Machine.execCmdProgDrop q s
  | .cmdFabForward q => Sys2Proof.Machine.execCmdFabForward q s
  | .fabForwardTimeout => Sys2Proof.Machine.execFabForwardTimeout s
  | .cmdCfgStage q => Sys2Proof.Machine.execCmdCfgStage q s
  | .cmdCfgCommit q => Sys2Proof.Machine.execCmdCfgCommit q s
  | .cmdCfgAbort q => Sys2Proof.Machine.execCmdCfgAbort q s
  | .cmdCfgStatus q => Sys2Proof.Machine.execCmdCfgStatus q s
  | .whistleGo m b => Sys2Proof.Machine.execWhistleGo m b s
  | .whistleTake m b => Sys2Proof.Machine.execWhistleTake m b s
  | .whistleTimeout b => Sys2Proof.Machine.execWhistleTimeout b s
  | .h2kBlockTake h => Sys2Proof.Machine.execH2kBlockTake h s
  | .k2hPost h => Sys2Proof.Machine.execK2hPost h s
  | .inBandCommand bytes => Sys2Proof.Machine.execInBandCommand bytes s
  | .pcieLinkDown => Sys2Proof.Machine.execPcieLinkDown s
  | .keeperLockstepMismatch k => Sys2Proof.Machine.execKeeperLockstepMismatch k s
  | .keeperRestart k => Sys2Proof.Machine.execKeeperRestart k s
  | .porstN straps => Sys2Proof.Machine.execPorstN straps s
  | .sysrstN straps => Sys2Proof.Machine.execSysrstN straps s
  | .selfReset straps => Sys2Proof.Machine.execSelfReset straps s
  | .bootStart b => Sys2Proof.Machine.execBootStart b s
  | .cmdImgDownload q => Sys2Proof.Machine.execCmdImgDownload q s
  | .sysBootCtrlDone m v => Sys2Proof.Machine.execSysBootCtrlDone m v s
  | .sysBootCtrlFail m v => Sys2Proof.Machine.execSysBootCtrlFail m v s
  | .watchdogExpiry => Sys2Proof.Machine.execWatchdogExpiry s
  | .kick m v => Sys2Proof.Machine.execKick m v s
  | .cmdSurveyRun q records => Sys2Proof.Machine.execCmdSurveyRun q records s
  | .cmdSurveyGet q => Sys2Proof.Machine.execCmdSurveyGet q s
  | .cmdFlashRead q => Sys2Proof.Machine.execCmdFlashRead q s
  | .cmdFlashErase q => Sys2Proof.Machine.execCmdFlashErase q s
  | .cmdFlashWrite q inTime => Sys2Proof.Machine.execCmdFlashWrite q inTime s
  | .cmdImgVerify q => Sys2Proof.Machine.execCmdImgVerify q s
  | .evStatusWrite m g v => Sys2Proof.Machine.execEvStatusWrite m g v s
  | .evEnableWrite m g v => Sys2Proof.Machine.execEvEnableWrite m g v s
  | .evRouteWrite m src v => Sys2Proof.Machine.execEvRouteWrite m src v s
  | .evSwRaise m v => Sys2Proof.Machine.execEvSwRaise m v s
  | .evRaise c o => Sys2Proof.Machine.execEvRaise c o s
  | .msixConditionsRestored enable busMaster funcMask host => Sys2Proof.Machine.execMsixConditionsRestored enable busMaster funcMask host s
  | .fatalError mem inst addr => Sys2Proof.Machine.execFatalError mem inst addr s
  | .errPopRead m => Sys2Proof.Machine.execErrPopRead m s
  | .dbgacc off write v => Sys2Proof.Machine.execDbgacc off write v s
  | .dbgSessionAttach m v => Sys2Proof.Machine.execDbgSessionAttach m v s
  | .dbgSessionDetach m v trst => Sys2Proof.Machine.execDbgSessionDetach m v trst s
  | .halt m v => Sys2Proof.Machine.execHalt m v s
  | .resume m v => Sys2Proof.Machine.execResume m v s
  | .step m v => Sys2Proof.Machine.execStep m v s
  | .abortDbg m v => Sys2Proof.Machine.execAbortDbg m v s
  | .dbgRegAccess m n write v => Sys2Proof.Machine.execDbgRegAccess m n write v s
  | .metRecordPeriod importMwh exportMwh => Sys2Proof.Machine.execMetRecordPeriod importMwh exportMwh s
  | .adcFault => Sys2Proof.Machine.execAdcFault s
  | .sealNEdge low => Sys2Proof.Machine.execSealNEdge low s
  | .cmdMetInfo q => Sys2Proof.Machine.execCmdMetInfo q s
  | .cmdMetRead q => Sys2Proof.Machine.execCmdMetRead q s
  | .cmdMetOffer q => Sys2Proof.Machine.execCmdMetOffer q s
  | .metOfferJudge sealEnd imageOk paramOk => Sys2Proof.Machine.execMetOfferJudge sealEnd imageOk paramOk s
  | .metRstN slotOk => Sys2Proof.Machine.execMetRstN slotOk s
  | .vddMetPowerUp slotOk => Sys2Proof.Machine.execVddMetPowerUp slotOk s
  | .mirrorRefill => Sys2Proof.Machine.execMirrorRefill s
  | .tbclkLock => Sys2Proof.Machine.execTbclkLock s
  | .controlFrameReceive q bytes fcsOk => Sys2Proof.Machine.execControlFrameReceive q bytes fcsOk s
  | .vddMetLoss => Sys2Proof.Machine.execVddMetLoss s
  | .adcAnswering => Sys2Proof.Machine.execAdcAnswering s
  | .metOfferTimeout => Sys2Proof.Machine.execMetOfferTimeout s
  | .gpioInputChange level => Sys2Proof.Machine.execGpioInputChange level s

end Sys2Proof.Machine
end

