-- ==== Sys2Proof/Safety.lean ====
section
/-! DEFINITION. What counts as a run without a stop, and the words the statements are written in: what an engine
instruction leaves behind, and what a command leaves alone. -/

namespace Sys2Proof.Machine

open Sys2Proof

/-- A step that neither faults nor refuses. -/
def SafeStep (s : State) : Prop := ∃ t, step s = .next t

/-! ### Engine instructions -/

/-- A G register of the context once the delayed results that fall due with this instruction have landed over the
value `v` (R111, R113). -/
def Ctx.landed (x : Ctx) (r : Nat) (v : Word) : Word :=
  (x.pend.filter fun p => decide (p.left ≤ 1)).foldl (fun u p => if p.dst = .g r then p.lo else u) v

/-- MLO and MHI once the products that fall due have landed over `v` (R112, R113). -/
def Ctx.landedProduct (x : Ctx) (v : Word × Word) : Word × Word :=
  (x.pend.filter fun p => decide (p.left ≤ 1)).foldl (fun u p => if p.dst = .product then (p.lo, p.hi) else u) v

/-- The delayed results that wait for a later instruction (R113). -/
def Ctx.stillPending (x : Ctx) : List Pend :=
  (x.pend.filter fun p => decide (1 < p.left)).map fun p => { p with left := p.left - 1 }

/-- What one engine instruction does to its context: the registers it writes (0 to 15 G, 16 to 23 S), a product, the
results it delays, its flags as Z, C, N, V, where the program counter goes when not to the next byte, the context
fields it sets otherwise, and what it does outside contexts and engines. -/
structure Effect where
  wr : Nat → Option Word := fun _ => none
  product : Option (Word × Word) := none
  delayed : List Pend := []
  flags : Option (Bool × Bool × Bool × Bool) := none
  pc : Option (BitVec 16) := none
  own : Ctx → Ctx := id
  st : State → State := id

/-- The SWR flags that the S registers written raise in the other contexts of the engine (R163). -/
def Effect.swr (e : Effect) : Word :=
  (List.range 8).foldl (fun a j => if (e.wr (16 + j)).isSome then a ||| W (2 ^ (8 + j)) else a) 0

/-- One register written. -/
def wrOne (r : Nat) (v : Word) : Nat → Option Word := fun k => if k = r then some v else none

/-- From state `s` the instruction of `len` bytes that context `c` issued has run with effect `e` and left `t`.
Outside contexts and engines nothing changes but what `e` says; of the engines only that of `c`, which has issued and holds the S registers
written; of the other contexts only the SWR flag of its siblings when an S register is written (R163); of context `c`
only what `e` names, the delayed results that land (R113), the halt that ends a STEP (R534), and its hold, of which
this says nothing (R98, R123). -/
structure Ran (s t : State) (c len : Nat) (e : Effect) : Prop where
  rest : { t with ctxs := s.ctxs, engs := s.engs } = e.st s
  engines : ∀ k, k ≠ engOf c → t.eng k = s.eng k
  engine : { t.eng (engOf c) with s := (s.eng (engOf c)).s, issue := (s.eng (engOf c)).issue } = s.eng (engOf c)
  issue : (t.eng (engOf c)).issue = none
  regs : ∀ r, t.greg c r =
    if r < 16 then (s.ctx c).landed r ((e.wr r).getD (s.greg c r)) else (e.wr r).getD (s.greg c r)
  contexts : ∀ k, k ≠ c → t.ctx k =
    if k ∈ siblings c ∧ e.swr ≠ 0 then (s.ctx k).setEv e.swr else s.ctx k
  product : ((t.ctx c).mlo, (t.ctx c).mhi) =
    (s.ctx c).landedProduct (e.product.getD ((e.own (s.ctx c)).mlo, (e.own (s.ctx c)).mhi))
  delayed : (t.ctx c).pend = (s.ctx c).stillPending ++ e.delayed
  flags : ((t.ctx c).z, (t.ctx c).cf, (t.ctx c).n, (t.ctx c).v) =
    e.flags.getD ((e.own (s.ctx c)).z, (e.own (s.ctx c)).cf, (e.own (s.ctx c)).n, (e.own (s.ctx c)).v)
  pc : (t.ctx c).pc = e.pc.getD ((s.ctx c).pc + BitVec.ofNat 16 len)
  length : (t.ctx c).waitLen = len
  halted : (t.ctx c).halted = ((e.own (s.ctx c)).halted || (s.ctx c).stepping)
  stepping : (t.ctx c).stepping = false
  own : t.ctx c = { e.own (s.ctx c) with
    g := (t.ctx c).g, mlo := (t.ctx c).mlo, mhi := (t.ctx c).mhi, pend := (t.ctx c).pend, z := (t.ctx c).z,
    cf := (t.ctx c).cf, n := (t.ctx c).n, v := (t.ctx c).v, pc := (t.ctx c).pc, waitLen := (t.ctx c).waitLen,
    halted := (t.ctx c).halted, stepping := (t.ctx c).stepping, hold := (t.ctx c).hold, holds := (t.ctx c).holds,
    mulAge := (t.ctx c).mulAge }

/-- From state `s` the instruction of context `c` has taken the trap of cause `k` into the pack's handler and left `t`
(R146): every delayed result lands, CAUSE and PC are recorded, NEST is set, the context continues at VEC; `resume` is
where TRET will continue. -/
structure Trapped (s t : State) (c k : Nat) (resume : BitVec 16) : Prop where
  rest : { t with ctxs := s.ctxs, engs := s.engs } = s
  engines : ∀ e, t.eng e = if e = engOf c then { s.eng e with issue := none } else s.eng e
  contexts : ∀ j, j ≠ c → t.ctx j = s.ctx j
  regs : ∀ r < 16, t.greg c r =
    (s.ctx c).pend.foldl (fun u p => if p.dst = .g r then p.lo else u) (s.greg c r)
  product : ((t.ctx c).mlo, (t.ctx c).mhi) =
    (s.ctx c).pend.foldl (fun u p => if p.dst = .product then (p.lo, p.hi) else u) ((s.ctx c).mlo, (s.ctx c).mhi)
  own : t.ctx c = { s.ctx c with
    g := (t.ctx c).g, mlo := (t.ctx c).mlo, mhi := (t.ctx c).mhi, pend := [], wait := .none,
    trapCause := BitVec.ofNat 4 k, trapNest := true, trapPc := (s.ctx c).pc, resume := resume,
    pc := (s.reg (Reg.PACK_TRAP (packOf c))).setWidth 16, stepping := false,
    halted := (s.ctx c).halted || (s.ctx c).stepping, hold := (t.ctx c).hold, holds := (t.ctx c).holds,
    mulAge := (t.ctx c).mulAge }

/-- A trap of context `c` enters the handler: VALID = 1 and NEST = 0 (R145, R146). -/
def TrapReady (s : State) (c : Nat) : Prop :=
  s.flag (Reg.PACK_TRAP (packOf c)) 31 = true ∧ (s.ctx c).trapNest = false

/-- A load of `v` into register `d`, with the base register after mode 4 or 5 (R108, R111, R113). -/
def loadEffect (late : Bool) (d : Nat) (v : Word) (base : Option (Nat × Nat)) : Effect :=
  { wr := fun r =>
      match base with
      | some b => if r = b.1 then some (W b.2) else if r = d ∧ ¬ (late = true ∧ d < 16) then some v else none
      | none => if r = d ∧ ¬ (late = true ∧ d < 16) then some v else none
    delayed := if late = true ∧ d < 16 then [⟨.g d, v, 0, 1⟩] else [] }

/-- The base register after the access of mode 4 or 5, with its number (R108). -/
def baseAfter (s : State) (c : Nat) (o : Operands) : Option (Nat × Nat) :=
  (s.ea c o).2.map fun v => (regNo o o.s, v)

/-- The bytes of memory `m'` from address `a` on are the `n` bytes of `v`, and every other byte is as in `m`. -/
def Stored (m m' : Mem) (a n v : Nat) : Prop :=
  (∀ k < n, m'.rd (a + k) = B8 (v / 256 ^ k)) ∧ ∀ b, b < a ∨ a + n ≤ b → m'.rd b = m.rd b

/-- Context `c` issues an OUT or OUTR of `len` bytes to a port (R132). -/
def OutOf (s : State) (c : Nat) (o : Operands) (len port : Nat) : Prop :=
  (s.issued .outp c o = some len ∧ o.imm.toNat % 65536 = port) ∨
    (s.issued .outr c o = some len ∧ (s.greg c (regNo o o.d)).toNat % 65536 = port)

/-- Context `c` issues an IN or INR of `len` bytes from a port (R132). -/
def InOf (s : State) (c : Nat) (o : Operands) (len port : Nat) : Prop :=
  (s.issued .inp c o = some len ∧ o.imm.toNat % 65536 = port) ∨
    (s.issued .inr c o = some len ∧ (s.greg c (regNo o o.s)).toNat % 65536 = port)

/-- A write of master `m` at offset `off` reaches its register: the master is on the bus and FW_OWN does not hold the
host back (R33, R34). -/
def CanWrite (s : State) (m : Master) (off : Nat) : Prop :=
  s.onBus m = true ∧ (m = .host → off ≠ Reg.SYS_OWN ∧ (s.fwOwn = true → fwBlock off = false))

/-- The Herder has nothing to do in domain `d`, and job `j` is not its head: no output waits in the store, and the job
at the head still runs (R259, R260). -/
def HerdIdle (s : State) (d j : Nat) : Prop :=
  (∀ p ∈ s.herd.outs, p.2.place ≠ .store) ∧ s.isHead j = false ∧
    ∃ h, s.headJob d = some h ∧ h ≠ j ∧ (s.job h).hole = false ∧ (s.job h).retired = false ∧
      (s.job h).released = false ∧ (s.job h).aborted = false

/-- From `s` to `t` only these registers have changed. -/
def OnlyRegs (s t : State) (l : List Nat) : Prop :=
  (∀ k, k ∉ l → t.reg k = s.reg k) ∧ { t with regs := s.regs } = s

/-- From `s` to `t` only these registers and the Event Hub with its messages have changed. -/
def RegsAndHub (s t : State) (l : List Nat) : Prop :=
  (∀ k, k ∉ l → t.reg k = s.reg k) ∧ { t with regs := s.regs, hub := s.hub, pins := s.pins } = s

/-- EV_STATUS of a source is 1 (R520). -/
def Raised (t : State) (src : Nat) : Prop := t.flag (Reg.EV_STATUS (src / 32)) (src % 32) = true

/-- The register that holds EV_STATUS of a source. -/
def evReg (src : Nat) : Nat := Reg.EV_STATUS (src / 32)

/-- The Herder holds no output in the store (R259). -/
def StoreEmpty (s : State) : Prop := ∀ p ∈ s.herd.outs, p.2.place ≠ .store

/-- A whole number brought into `w` bits. -/
def narrow (w : Nat) (x : Int) : Nat := (x % ((2 ^ w : Nat) : Int)).toNat

/-- The effect of an arithmetic or logic instruction at `w` bits: the exact result `x`, narrowed, goes to register
`d` if it names one; Z and N come from it, C is `cf`, and V says that the signed result `y` does not fit (R84). -/
def aluEffect (w : Nat) (d : Option Nat) (x : Int) (cf : Bool) (y : Int) : Effect :=
  { wr := fun r => if d = some r then some (W (narrow w x)) else none
    flags := some (decide (narrow w x = 0), cf, decide (2 ^ (w - 1) ≤ narrow w x),
      !(decide (-((2 ^ (w - 1) : Nat) : Int) ≤ y) && decide (y < ((2 ^ (w - 1) : Nat) : Int)))) }

/-- Pair 0 executes a command packet at once: it runs and serves the packet's route, no other command is under way or
waits, the packet passes check 1 of R467, and neither Minimal mode nor a download bars it. -/
def TakesNow (s : State) (q : CmdReq) : Prop :=
  s.pair0Up = true ∧ s.serves q.route = true ∧ s.cmdBusy = false ∧ s.ctl.accepted = [] ∧ q.formOk = true ∧
    s.minimal = false ∧ s.boot.romWait = false

/-- The outcome is that command `op` has left a state with `p` and replied there with status `st` and result `b`. -/
def Replies (o : Out) (op : Nat) (q : CmdReq) (st : Nat) (b : List Byte) (p : State → Prop) : Prop :=
  ∃ u, p u ∧ o = .next (u.sendReply op q st b)

/-- The registers and every memory of the device are in their canonical form. -/
def Canon (s : State) : Prop :=
  Tab.wf none s.regs = true ∧ ∀ m ∈ [s.mem.istore, s.mem.psm, s.mem.csm, s.mem.ldm, s.mem.scratch, s.mem.cells,
    s.mem.flow, s.mem.tblram, s.mem.dram, s.mem.host, s.mem.flash], Mem.wf m = true

end Sys2Proof.Machine
end

