-- ==== Sys2Proof/Certificates/Slice0/Obligations.lean ====
section
/-! DEFINITION. The statements for the provers. Each docstring names the rules of the spec it rests on. -/

open Sys2Proof Sys2Proof.Machine

/-- A step takes the command at the front of the queue and runs it on the state with the rest of the queue. The model's
own choices in it: the queue of commands (log entry 1). -/
def Obligations.StepRunsFrontCommand : Prop :=
  ∀ (c : Instr) (rest : List Instr) (s : State), s.pending = c :: rest →
    step s = exec c { s with pending := rest }

/-- R127 and R84: the two-register forms at the operation width. R127 and R84: the immediate forms at the operation width.
The model's own choices in it: an instruction completes in a command of its own, once WHEEL_TURN has latched it (log
entry 4). -/
def Obligations.ArithmeticAndLogicAtTheWidth : Prop :=
  (∀ (s : State) (c : Nat) (o : Operands) (len : Nat),
     let w := o.bits
     let a := s.dest c o o.d
     let b := s.opnd c o o.s
     let k := (s.ctx c).cf.toNat
     let d := some (regNo o o.d)
     let x := signed w a
     let y := signed w b
     (s.issued .add c o = some len → ∃ t, exec (.add c o) s = .next t ∧
       Ran s t c len (aluEffect w d (a + b) (decide (2 ^ w ≤ a + b)) (x + y))) ∧
     (s.issued .adc c o = some len → ∃ t, exec (.adc c o) s = .next t ∧
       Ran s t c len (aluEffect w d (a + b + k) (decide (2 ^ w ≤ a + b + k)) (x + y + k))) ∧
     (s.issued .sub c o = some len → ∃ t, exec (.sub c o) s = .next t ∧
       Ran s t c len (aluEffect w d (a - b) (decide (a < b)) (x - y))) ∧
     (s.issued .sbc c o = some len → ∃ t, exec (.sbc c o) s = .next t ∧
       Ran s t c len (aluEffect w d (a - b - k) (decide (a < b + k)) (x - y - k))) ∧
     (s.issued .and c o = some len → ∃ t, exec (.andR c o) s = .next t ∧
       Ran s t c len (aluEffect w d ((a &&& b : Nat) : Int) false 0)) ∧
     (s.issued .or c o = some len → ∃ t, exec (.orR c o) s = .next t ∧
       Ran s t c len (aluEffect w d ((a ||| b : Nat) : Int) false 0)) ∧
     (s.issued .xor c o = some len → ∃ t, exec (.xorR c o) s = .next t ∧
       Ran s t c len (aluEffect w d ((a ^^^ b : Nat) : Int) false 0)) ∧
     (s.issued .not c o = some len → ∃ t, exec (.notR c o) s = .next t ∧
       Ran s t c len (aluEffect w d (-1 - (b : Int)) false 0)) ∧
     (s.issued .neg c o = some len → ∃ t, exec (.neg c o) s = .next t ∧
       Ran s t c len (aluEffect w d (0 - (b : Int)) (decide (b ≠ 0)) (0 - y))) ∧
     (s.issued .cmp c o = some len → ∃ t, exec (.cmp c o) s = .next t ∧
       Ran s t c len (aluEffect w none (a - b) (decide (a < b)) (x - y))) ∧
     (s.issued .tst c o = some len → ∃ t, exec (.tst c o) s = .next t ∧
       Ran s t c len (aluEffect w none ((a &&& b : Nat) : Int) false 0)) ∧
     (s.issued .mov c o = some len → ∃ t, exec (.mov c o) s = .next t ∧
       Ran s t c len { wr := wrOne (regNo o o.d) (W b) })) ∧
  (∀ (s : State) (c : Nat) (o : Operands) (len : Nat),
     let w := o.bits
     let a := s.dest c o o.d
     let b := o.imm.toNat % 2 ^ w
     let d := some (regNo o o.d)
     let x := signed w a
     let y := signed w b
     (s.issued .addi c o = some len → ∃ t, exec (.addi c o) s = .next t ∧
       Ran s t c len (aluEffect w d (a + b) (decide (2 ^ w ≤ a + b)) (x + y))) ∧
     (s.issued .subi c o = some len → ∃ t, exec (.subi c o) s = .next t ∧
       Ran s t c len (aluEffect w d (a - b) (decide (a < b)) (x - y))) ∧
     (s.issued .andi c o = some len → ∃ t, exec (.andi c o) s = .next t ∧
       Ran s t c len (aluEffect w d ((a &&& b : Nat) : Int) false 0)) ∧
     (s.issued .ori c o = some len → ∃ t, exec (.ori c o) s = .next t ∧
       Ran s t c len (aluEffect w d ((a ||| b : Nat) : Int) false 0)) ∧
     (s.issued .xori c o = some len → ∃ t, exec (.xori c o) s = .next t ∧
       Ran s t c len (aluEffect w d ((a ^^^ b : Nat) : Int) false 0)) ∧
     (s.issued .cmpi c o = some len → ∃ t, exec (.cmpi c o) s = .next t ∧
       Ran s t c len (aluEffect w none (a - b) (decide (a < b)) (x - y))) ∧
     (s.issued .movi c o = some len → ∃ t, exec (.movi c o) s = .next t ∧
       Ran s t c len { wr := wrOne (regNo o o.d) (W b) }))

/-- R128: shifts and rotates, bit by bit: bit j of the result, C as the last bit shifted out, V clear. That the
instruction is the latched one is a premise; how it came to be latched is the form of the model (log entry 4) and no
clause of this statement. -/
def Obligations.ShiftsAndRotatesMoveEveryBit : Prop :=
  ∀ (s : State) (c : Nat) (o : Operands) (len : Nat),
    let w := o.bits
    let a := s.dest c o o.d
    let runs := fun (i : Instr) (k : Nat) (bit : Nat → Bool) (out : Bool) =>
      ∃ t r, exec i s = .next t ∧ r < 2 ^ w ∧ (∀ j, j < w → r.testBit j = bit j) ∧
        Ran s t c len (aluEffect w (some (regNo o o.d)) (r : Nat) (decide (0 < k) && out) 0)
    let left := fun (k : Nat) (j : Nat) => decide (k ≤ j) && a.testBit (j - k)
    let right := fun (k : Nat) (j : Nat) => a.testBit (j + k)
    let signed := fun (k : Nat) (j : Nat) => a.testBit (min (j + k) (w - 1))
    let k := s.dest c o o.s % w
    let n := o.imm.toNat % 2 ^ w % w
    (s.issued .shl c o = some len → runs (.shl c o) k (left k) (a.testBit (w - k))) ∧
    (s.issued .shr c o = some len → runs (.shr c o) k (right k) (a.testBit (k - 1))) ∧
    (s.issued .sar c o = some len → runs (.sar c o) k (signed k) (a.testBit (k - 1))) ∧
    (s.issued .rol c o = some len →
      runs (.rol c o) k (fun j => a.testBit ((j + w - k) % w)) (a.testBit (w - k))) ∧
    (s.issued .ror c o = some len → runs (.ror c o) k (fun j => a.testBit ((j + k) % w)) (a.testBit (k - 1))) ∧
    (s.issued .shli c o = some len → runs (.shli c o) n (left n) (a.testBit (w - n))) ∧
    (s.issued .shri c o = some len → runs (.shri c o) n (right n) (a.testBit (n - 1))) ∧
    (s.issued .sari c o = some len → runs (.sari c o) n (signed n) (a.testBit (n - 1)))

/-- R129 and R112: MHI:MLO takes the product, two instructions late under exposed timing. That the instruction is the
latched one is a premise; how it came to be latched is the form of the model (log entry 4) and no clause of this
statement. -/
def Obligations.ProductsGoToMhiMlo : Prop :=
  ∀ (s : State) (c : Nat) (o : Operands) (len : Nat),
    let w := o.bits
    let a := s.dest c o o.d
    let b := s.opnd c o o.s
    let words := fun (p : Int) => (W (narrow 32 p), W (narrow 64 p / 2 ^ 32))
    let effect := fun (p : Word × Word) =>
      if s.exposed c then ({ delayed := [⟨.product, p.1, p.2, 2⟩] } : Effect) else { product := some p }
    (s.issued .mul c o = some len → ∃ t, exec (.mul c o) s = .next t ∧
      Ran s t c len (effect (words (a * b)))) ∧
    (s.issued .muls c o = some len → ∃ t, exec (.muls c o) s = .next t ∧
      Ran s t c len (effect (words (signed w a * signed w b))))

/-- R134: the bit instructions at the operation width. EXT and INS are issued only with pos + len within the width (R126).
R86, R133, R135: special registers, lanes of C registers and one byte step of a CRC of at most 32 bits. The model's
own choices in it: an instruction completes in a command of its own, once WHEEL_TURN has latched it (log entry 4). -/
def Obligations.BitSpecialLaneAndCrcInstructions : Prop :=
  (∀ (s : State) (c : Nat) (o : Operands) (len : Nat),
     let w := o.bits
     let b := s.opnd c o o.s
     let p := getF o.imm 4 0
     let n := getF o.imm 12 8 + 1
     let d := some (regNo o o.d)
     let ones := ((List.range w).filter fun j => b.testBit j).length
     let copies := fun (i : Instr) (bit : Nat → Bool) =>
       ∃ t r, exec i s = .next t ∧ r < 2 ^ w ∧ (∀ j, j < w → r.testBit j = bit j) ∧
         Ran s t c len { wr := wrOne (regNo o o.d) (W r) }
     (s.issued .par c o = some len → ∃ t, exec (.par c o) s = .next t ∧
       Ran s t c len (aluEffect w d ((ones % 2 : Nat) : Int) false 0)) ∧
     (s.issued .popc c o = some len → ∃ t, exec (.popc c o) s = .next t ∧
       Ran s t c len (aluEffect w d (ones : Int) false 0)) ∧
     (s.issued .brev c o = some len →
       copies (.brev c o) fun j => (s.dest c o o.s).testBit (w - 1 - j)) ∧
     (s.issued .bswap c o = some len →
       copies (.bswap c o) fun j => (s.dest c o o.s).testBit (w - 8 - j / 8 * 8 + j % 8)) ∧
     (s.issued .ext c o = some len → p + n ≤ w → ∃ t, exec (.ext c o) s = .next t ∧
       Ran s t c len (aluEffect w d ((b / 2 ^ p % 2 ^ n : Nat) : Int) false 0)) ∧
     (s.issued .ins c o = some len → p + n ≤ w →
       copies (.ins c o) fun j =>
         if p ≤ j ∧ j < p + n then (s.dest c o o.s).testBit (j - p) else (s.dest c o o.d).testBit j)) ∧
  (∀ (s : State) (c : Nat) (o : Operands) (len : Nat),
     let x := s.ctx c
     let d := regNo o o.d
     let v := s.greg c (regNo o o.s)
     let reads := fun (u : Word) => ∃ t, exec (.mfsp c o) s = .next t ∧ Ran s t c len { wr := wrOne d u }
     let sets := fun (f : Ctx → Ctx) => ∃ t, exec (.mtsp c o) s = .next t ∧ Ran s t c len { own := f }
     (s.issued .mfsp c o = some len →
       (o.s = 0 → reads (x.pc.setWidth 32)) ∧
       (o.s = 1 → reads (0#28 ++ BitVec.ofBool x.v ++ BitVec.ofBool x.n ++ BitVec.ofBool x.cf ++ BitVec.ofBool x.z)) ∧
       (o.s = 2 → reads x.mlo) ∧ (o.s = 3 → reads x.mhi) ∧ (o.s = 4 → reads x.polyLo) ∧
       (o.s = 5 → reads x.polyHi) ∧ (o.s = 6 → reads (x.crcCfg.setWidth 32))) ∧
     (s.issued .mtsp c o = some len →
       (o.d = 1 → ∃ t, exec (.mtsp c o) s = .next t ∧
         Ran s t c len { flags := some (v.getLsbD 0, v.getLsbD 1, v.getLsbD 2, v.getLsbD 3) }) ∧
       (o.d = 2 → ∃ t, exec (.mtsp c o) s = .next t ∧ Ran s t c len { product := some (v, x.mhi) }) ∧
       (o.d = 3 → ∃ t, exec (.mtsp c o) s = .next t ∧ Ran s t c len { product := some (x.mlo, v) }) ∧
       (o.d = 4 → sets fun y => { y with polyLo := v }) ∧ (o.d = 5 → sets fun y => { y with polyHi := v }) ∧
       (o.d = 6 → sets fun y => { y with crcCfg := v.setWidth 3 })) ∧
     (s.issued .mtc c o = some len → ∃ t b, exec (.mtc c o) s = .next t ∧
       (∀ j : Nat, j < 4 → lane b j = if o.cx then (if j = o.x.toNat then s.greg c o.s.toNat
         else lane (Tab.get 0 x.c o.d.toNat) j) else s.greg c (o.s.toNat + j)) ∧
       Ran s t c len { own := fun y => { y with c := Tab.set 0 y.c o.d.toNat b } }) ∧
     (s.issued .mfc c o = some len → o.d.toNat ≤ 12 ∨ o.cx = true →
       ∃ t, exec (.mfc c o) s = .next t ∧
         Ran s t c len { wr := fun r =>
           if o.cx then (if r = o.d.toNat then some (lane (Tab.get 0 x.c o.s.toNat) o.x.toNat) else none)
           else if o.d.toNat ≤ r ∧ r < o.d.toNat + 4 then some (lane (Tab.get 0 x.c o.s.toNat) (r - o.d.toNat))
           else none }) ∧
     (s.issued .crcb c o = some len → x.crcCfg.toNat % 4 ≠ 3 →
       let wc := 8 * 2 ^ (x.crcCfg.toNat % 4)
       let poly := x.polyLo.toNat % 2 ^ wc
       ∃ t r, exec (.crcb c o) s = .next t ∧ Ran s t c len { wr := wrOne d (W r) } ∧
         r = crcStep wc poly (decide (4 ≤ x.crcCfg.toNat)) ((s.greg c d).toNat % 2 ^ wc) (s.opnd c o o.s)))

/-- R124, R130, R131: NOP, the branches under every condition, and the jumps; no register and no flag changes. R115, R116:
CALL and CALLR push the link word and the registers of the mask, rising, below G14; RET reads them back. For frames in
local data memory; bit 14 of a mask never counts. The model's own choices in it: the latch of WHEEL_TURN (log entry 4)
and the stack check of CALL (log entry 40). -/
def Obligations.BranchesJumpsAndCalls : Prop :=
  (∀ (s : State) (c : Nat) (o : Operands) (len : Nat),
     let x := s.ctx c
     let target := o.imm.setWidth 16
     (s.issued .nop c o = some len → ∃ t, exec (.nop c o) s = .next t ∧ Ran s t c len {}) ∧
     (s.issued .jmp c o = some len → ∃ t, exec (.jmp c o) s = .next t ∧ Ran s t c len { pc := some target }) ∧
     (s.issued .jmpr c o = some len → ∃ t, exec (.jmpr c o) s = .next t ∧
       Ran s t c len { pc := some ((s.greg c (regNo o o.s)).setWidth 16) }) ∧
     (s.issued .bcc c o = some len →
       ∀ p ∈ [(0x0, x.z), (0x1, !x.z), (0x2, x.cf), (0x3, !x.cf), (0x4, x.n), (0x5, !x.n), (0x6, x.v), (0x7, !x.v),
           (0x8, !x.cf && !x.z), (0x9, x.cf || x.z), (0xA, x.n == x.v), (0xB, x.n != x.v), (0xC, !x.z && x.n == x.v),
           (0xD, x.z || x.n != x.v), (0xE, true)],
         o.s.toNat = p.1 → ∃ t, exec (.bcc c o) s = .next t ∧
           Ran s t c len { pc := if p.2 then some target else none })) ∧
  (∀ (s : State) (c : Nat) (o : Operands) (len : Nat),
     let sp := (s.greg c 14).toNat
     let base := engOf c * 0x8000
     let named := fun (m : Nat) => (List.range 16).filter fun k => k != 14 && m.testBit k
     let pushed := fun (i : Instr) (target : BitVec 16) (ret : Nat) =>
       let rs := named o.mask.toNat
       let lo := sp - 4 * (rs.length + 1)
       sp % 4 = 0 → sp ≤ 0x8000 → (s.ctx c).spLim.toNat + 4 * (rs.length + 1) ≤ sp →
       ∃ t m, exec i s = .next t ∧
         Ran s t c len { wr := wrOne 14 (W lo), pc := some target,
                         st := fun q => { q with mem := { q.mem with ldm := m } } } ∧
         m.rdN (base + lo) 4 = ret % 65536 * 65536 + o.mask.toNat % 2 ^ 14 + o.mask.toNat / 2 ^ 15 * 2 ^ 15 ∧
         (∀ i r, rs[i]? = some r → m.rdN (base + lo + 4 * (i + 1)) 4 = (s.greg c r).toNat) ∧
         ∀ b, b < base + lo ∨ base + sp ≤ b → m.rd b = s.mem.ldm.rd b
     (s.issued .call c o = some len → pushed (.call c o) (o.imm.setWidth 16) ((s.ctx c).pc.toNat + 5)) ∧
     (s.issued .callr c o = some len →
       pushed (.callr c o) ((s.greg c (regNo o o.s)).setWidth 16) ((s.ctx c).pc.toNat + 4 + o.sh.toNat)) ∧
     (s.issued .ret c o = some len →
       let link := s.mem.ldm.rdN (base + sp) 4
       let rs := named (link % 65536)
       sp % 4 = 0 → sp + 4 * (rs.length + 1) ≤ 0x8000 → s.hub.flips = [] →
       ∃ t, exec (.ret c o) s = .next t ∧ ∃ w : Nat → Option Word,
         Ran s t c len { wr := w, pc := some (BitVec.ofNat 16 (link / 65536)) } ∧
         w 14 = some (W (sp + 4 * (rs.length + 1))) ∧
         (∀ i r, rs[i]? = some r → w r = some (W (s.mem.ldm.rdN (base + sp + 4 * (i + 1)) 4))) ∧
         ∀ r, r ≠ 14 → r ∉ rs → w r = none))

/-- R146, R144, R115, R94, R533, R147: where an instruction traps instead of completing, and the handler it enters; the
access or call has no other effect. R533, R147: BRK under an open debug session halts its context and raises
EV_DBG_HALT; TRET in a handler clears NEST and continues at the resume address. The model's own choices in it: the
latch of WHEEL_TURN (log entry 4). -/
def Obligations.TrapsBreakpointsAndReturns : Prop :=
  (∀ (s : State) (c : Nat) (o : Operands) (len : Nat), TrapReady s c →
     let pc := (s.ctx c).pc
     let sp := (s.greg c 14).toNat
     let n := ((List.range 16).filter fun k => k != 14 && o.mask.toNat.testBit k).length
     let a := (s.ea c o).1
     (s.issued .brk c o = some len → s.flag Reg.DBG_SESSION 0 = false →
       ∃ t, exec (.brk c o) s = .next t ∧ Trapped s t c 5 (pc + BitVec.ofNat 16 len)) ∧
     (s.issued .tret c o = some len → ∃ t, exec (.tret c o) s = .next t ∧ Trapped s t c 1 pc) ∧
     (s.issued .ld c o = some len → a % o.size ≠ 0 → ∃ t, exec (.ld c o) s = .next t ∧ Trapped s t c 2 pc) ∧
     (s.issued .st c o = some len → a % o.size ≠ 0 → ∃ t, exec (.st c o) s = .next t ∧ Trapped s t c 2 pc) ∧
     (s.issued .call c o = some len → sp % 4 ≠ 0 → ∃ t, exec (.call c o) s = .next t ∧ Trapped s t c 2 pc) ∧
     (s.issued .callr c o = some len → sp % 4 ≠ 0 → ∃ t, exec (.callr c o) s = .next t ∧ Trapped s t c 2 pc) ∧
     (s.issued .ret c o = some len → sp % 4 ≠ 0 → ∃ t, exec (.ret c o) s = .next t ∧ Trapped s t c 2 pc) ∧
     (s.issued .call c o = some len → sp % 4 = 0 → sp < (s.ctx c).spLim.toNat + 4 * (n + 1) →
       ∃ t, exec (.call c o) s = .next t ∧ Trapped s t c 3 pc) ∧
     (s.issued .callr c o = some len → sp % 4 = 0 → sp < (s.ctx c).spLim.toNat + 4 * (n + 1) →
       ∃ t, exec (.callr c o) s = .next t ∧ Trapped s t c 3 pc)) ∧
  (∀ (s : State) (c : Nat) (o : Operands) (len : Nat),
     (s.issued .brk c o = some len → s.flag Reg.DBG_SESSION 0 = true →
       ∃ t, exec (.brk c o) s = .next t ∧
         Ran s t c len { own := fun x => { x with halted := true, atBrk := true }, st := fun q => q.raise Ev.DBG_HALT } ∧
         t.flag (Reg.EV_STATUS 0) 18 = true) ∧
     (s.issued .tret c o = some len → (s.ctx c).trapNest = true →
       ∃ t, exec (.tret c o) s = .next t ∧
         Ran s t c len { own := fun x => { x with trapNest := false }, pc := some (s.ctx c).resume }))

/-- R93, R108, R111, R132: a load that meets no bit error and no word lock, from any region of the data space but a
reserved one, and LDI; no byte of memory changes. The model's own choices in it: the latch of WHEEL_TURN (log entry
4). -/
def Obligations.LoadsReadTheDataSpace : Prop :=
  ∀ (s : State) (c : Nat) (o : Operands) (len : Nat), s.hub.flips = [] →
    let a := (s.ea c o).1
    let d := regNo o o.d
    let late := s.exposed c
    (s.issued .ld c o = some len → a % o.size = 0 → (o.m.toNat < 4 ∨ o.d ≠ o.s) → isMwLock o a = false →
      regionOf a ≠ .reserved →
      ∃ t, exec (.ld c o) s = .next t ∧
        Ran s t c len (loadEffect late d (W (s.dread c a o.size)) (baseAfter s c o))) ∧
    (s.issued .ld c o = some len → a % o.size = 0 → o.m.toNat < 4 → regionOf a = .reserved →
      s.flag (Reg.PACK_CFG (packOf c)) 8 = false →
      ∃ t, exec (.ld c o) s = .next t ∧
        Ran s t c len { loadEffect late d 0 none with own := fun x => { x with rsvHit := true } }) ∧
    (s.issued .ldi c o = some len → o.m.toNat ≤ 2 →
      ∃ t, exec (.ldi c o) s = .next t ∧
        Ran s t c len (loadEffect late d (W (leNat ((List.range o.size).map fun i =>
          s.mem.istore.rd (packOf c * 0x10000 + (a + i) % 0x10000)))) none))

/-- R93, R97, R108, R126, R132: what a store writes, byte by byte, in each region; the value is the register as it was
before the base changed. A pack shared or common SRAM word that contexts wait for is the subject of R212 and left out.
The model's own choices in it: the latch of WHEEL_TURN (log entry 4); a store is in memory at once (log entry 8). -/
def Obligations.StoresWriteTheirBytes : Prop :=
  ∀ (s : State) (c : Nat) (o : Operands) (len : Nat), s.issued .st c o = some len →
    let a := (s.ea c o).1
    let n := o.size
    let v := s.dest c o o.d
    let x := s.ctx c
    let base := fun r => (baseAfter s c o).bind fun b => if r = b.1 then some (W b.2) else none
    a % n = 0 →
    (regionOf a = .local_ → ∃ t m, exec (.st c o) s = .next t ∧
      Stored s.mem.ldm m (engOf c * 0x8000 + a) n v ∧
      Ran s t c len { wr := base, st := fun q => { q with mem := { q.mem with ldm := m } } }) ∧
    (regionOf a = .scratch → ∃ t m, exec (.st c o) s = .next t ∧
      Stored s.mem.scratch m (c * 256 + (a - 0xF000)) n v ∧
      Ran s t c len { wr := base, st := fun q => { q with mem := { q.mem with scratch := m } } }) ∧
    (regionOf a = .hdr → ∀ j, x.job = some j → ∃ t m, exec (.st c o) s = .next t ∧
      Stored (s.job j).hdr m (a - 0xE000) n v ∧
      Ran s t c len { wr := base, st := fun q => q.setJob j { q.job j with hdr := m } }) ∧
    (regionOf a = .psm → packOf c < 32 →
      (∀ p ∈ Tab.get [] s.leash.mwq (packOf c), p.1 ≠ (x.psmPage.toNat * 0x4000 + (a - 0x8000)) / 4 * 4) →
      ∃ t m, exec (.st c o) s = .next t ∧
        Stored s.mem.psm m (packOf c * 0x40000 + x.psmPage.toNat * 0x4000 + (a - 0x8000)) n v ∧
        Ran s t c len { wr := base, st := fun q => { q with mem := { q.mem with psm := m } } }) ∧
    (regionOf a = .csm →
      (∀ p ∈ Tab.get [] s.leash.mwq 32, p.1 ≠ (x.csmPage.toNat * 0x2000 + (a - 0xC000)) / 4 * 4) →
      ∃ t m, exec (.st c o) s = .next t ∧
        Stored s.mem.csm m (x.csmPage.toNat * 0x2000 + (a - 0xC000)) n v ∧
        Ran s t c len { wr := base, st := fun q => { q with mem := { q.mem with csm := m } } }) ∧
    ((regionOf a = .desc ∨ regionOf a = .reserved) → s.flag (Reg.PACK_CFG (packOf c)) 8 = false →
      ∃ t, exec (.st c o) s = .next t ∧
        Ran s t c len { wr := base, own := fun y => { y with rsvHit := true } })

/-- R100 to R102, R132, R137, R144, R162, R318, R409: IN and INR of every port that answers at once; a reserved port
answers 0 and sets RSV_HIT. R100, R102, R132, R137, R162, R318, R409, R523: OUT and OUTR of every port that only sets
a context register, and the event port; a read-only port changes nothing, a reserved one sets RSV_HIT. The model's own
choices in it: the latch of WHEEL_TURN (log entry 4). -/
def Obligations.PortReadsAndWrites : Prop :=
  (∀ (s : State) (c : Nat) (o : Operands) (len : Nat),
     let x := s.ctx c
     let answers := fun (i : Instr) (v : Word) => ∃ t, exec i s = .next t ∧
       Ran s t c len (loadEffect (s.exposed c) (regNo o o.d) (W (v.toNat % 2 ^ o.bits)) none)
     let reserved := fun (i : Instr) => ∃ t, exec i s = .next t ∧
       Ran s t c len { loadEffect (s.exposed c) (regNo o o.d) 0 none with own := fun y => { y with rsvHit := true } }
     (∀ p ∈ [(0x0000, W (0x1000 + c)), (0x0001, x.status), (0x0002, x.psmPage.setWidth 32),
         (0x0003, x.csmPage.setWidth 32), (0x0004, x.spLim.setWidth 32), (0x0005, s.forkInfo c), (0x0006, x.evFlags),
         (0x0007, x.trapInfo), (0x0100, x.arg0), (0x0101, x.arg1), (0x0110, 0), (0x0111, 0), (0x0112, 0), (0x0113, 0),
         (0x0114, 0), (0x01F0, x.hlpStatus), (0x0200, x.emitDst), (0x0201, x.emitHdr), (0x0202, x.emitTail),
         (0x0207, 0), (0x0210, 0), (0x0211, 0), (0x0212, 0), (0x0340, x.knResult), (0x0341, x.knLinkSel.setWidth 32),
         (0x0342, W (s.cellNext x.knLinkSel.toNat)), (0x2000, 0), (0x2081, (x.tbCap.fr >>> 32).setWidth 32),
         (0x2082, x.domSel.setWidth 32), (0x2083, W x.tbCap.time.ns), (0x2084, x.tbCap.time.secLo),
         (0x2085, x.tbCap.time.secHi)],
       (s.issued .inp c o = some len → o.imm.toNat % 65536 = p.1 → answers (.inp c o) p.2) ∧
       (s.issued .inr c o = some len → (s.greg c (regNo o o.s)).toNat % 65536 = p.1 → answers (.inr c o) p.2)) ∧
     (∀ p, 0x0300 ≤ p → p < 0x0340 →
       (s.issued .inp c o = some len → o.imm.toNat % 65536 = p → answers (.inp c o) 0) ∧
       (s.issued .inr c o = some len → (s.greg c (regNo o o.s)).toNat % 65536 = p → answers (.inr c o) 0)) ∧
     (∀ p, p < 65536 → ((0x0008 ≤ p ∧ p < 0x0100) ∨ (0x0213 ≤ p ∧ p < 0x0300) ∨ 0x3000 ≤ p) →
       s.flag (Reg.PACK_CFG (packOf c)) 8 = false →
       (s.issued .inp c o = some len → o.imm.toNat % 65536 = p → reserved (.inp c o)) ∧
       (s.issued .inr c o = some len → (s.greg c (regNo o o.s)).toNat % 65536 = p → reserved (.inr c o)))) ∧
  (∀ (s : State) (c : Nat) (o : Operands) (len : Nat),
     let v := W (s.opnd c o o.s)
     let sets := fun (port : Nat) (e : Effect) =>
       (s.issued .outp c o = some len → o.imm.toNat % 65536 = port →
         ∃ t, exec (.outp c o) s = .next t ∧ Ran s t c len e) ∧
       (s.issued .outr c o = some len → (s.greg c (regNo o o.d)).toNat % 65536 = port →
         ∃ t, exec (.outr c o) s = .next t ∧ Ran s t c len e)
     sets 0x0001 { own := fun x => { x with rsvHit := x.rsvHit && !v.getLsbD 3 } } ∧
     sets 0x0002 { own := fun x => { x with psmPage := v.setWidth 4 } } ∧
     sets 0x0003 { own := fun x => { x with csmPage := v.setWidth 9 } } ∧
     sets 0x0004 { own := fun x => { x with spLim := v.setWidth 16 } } ∧
     sets 0x0006 { own := fun x => { x with evFlags := x.evFlags &&& ~~~v } } ∧
     sets 0x0100 { own := fun x => { x with arg0 := v } } ∧
     sets 0x0101 { own := fun x => { x with arg1 := v } } ∧
     sets 0x0200 { own := fun x => { x with emitDst := v &&& 0x00F1F7FF } } ∧
     sets 0x0201 { own := fun x => { x with emitHdr := v &&& 0x1FFFF } } ∧
     sets 0x0202 { own := fun x => { x with emitTail := v &&& 0x3FFF } } ∧
     sets 0x0341 { own := fun x => { x with knLinkSel := v.setWidth 18 } } ∧
     sets 0x2082 { own := fun x => { x with domSel := v.setWidth 2 } } ∧
     (∀ port ∈ [0x0000, 0x0005, 0x0007, 0x01F0, 0x0340, 0x0342, 0x2080, 0x2081, 0x2083, 0x2084, 0x2085], sets port {}) ∧
     (∀ port, port < 65536 → ((0x0008 ≤ port ∧ port < 0x0100) ∨ (0x0213 ≤ port ∧ port < 0x0300) ∨ 0x3000 ≤ port) →
       s.flag (Reg.PACK_CFG (packOf c)) 8 = false → sets port { own := fun x => { x with rsvHit := true } }) ∧
     (OutOf s c o len 0x2000 → ∃ t, exec (.evRaise c o) s = .next t ∧
       Ran s t c len { st := fun q => q.raise (992 + v.toNat % 32) } ∧
       (t.reg (Reg.EV_STATUS 31)).getLsbD (v.toNat % 32) = true) ∧
     (InOf s c o len 0x2080 → ∃ t, exec (.tbrFrLoRead c o) s = .next t ∧
       Ran s t c len { loadEffect (s.exposed c) (regNo o o.d) (W (s.fr % 2 ^ 32 % 2 ^ o.bits)) none with
         own := fun x => { x with tbCap :=
           { fr := BitVec.ofNat 64 s.fr, time := s.domTime x.domSel.toNat } } }))

/-- R136, R148 to R153: FORK, JOIN, KILL, END, WAITH and WAITEV. FORK starts the context that R149 takes, with its
argument in G0, its stack in G14 and its scratch cleared. The model's own choices in it: the latch of WHEEL_TURN (log
entry 4); waits already satisfied end at once (log entry 40). -/
def Obligations.ContextInstructions : Prop :=
  ∀ (s : State) (c : Nat) (o : Operands) (len : Nat),
    let x := s.ctx c
    let d := regNo o o.d
    let v := s.greg c (regNo o o.s)
    let named := c / 8 * 8 + v.toNat % 8
    let child := (s.ctx named).live = true ∧ (s.ctx named).parent = some c
    let runs := fun (i : Instr) (e : Effect) => ∃ t, exec i s = .next t ∧ Ran s t c len e
    (s.issued .fork c o = some len → s.allocNum (engOf c) x.tclass = none →
      runs (.fork c o) { flags := some (x.z, true, x.n, x.v) }) ∧
    (s.issued .fork c o = some len → ∀ k, s.allocNum (engOf c) x.tclass = some k →
      let f := engOf c * 8 + k
      let st := s.reg (Reg.PACK_STACK (packOf f))
      let sp := W (getF st 15 0 + 2 ^ 32 - k * getF st 31 16)
      ∃ t, exec (.fork c o) s = .next t ∧
        (f ≠ c → (t.ctx f).live = true ∧ (t.ctx f).pc = o.imm.setWidth 16 ∧ (t.ctx f).parent = some c ∧
          (t.ctx f).job = x.job ∧ (t.ctx f).tclass = x.tclass ∧ (t.ctx f).forked = true ∧
          (t.ctx f).gen = (s.ctx f).gen + 1 ∧ (t.ctx f).epoch = x.epoch ∧
          (t.ctx f).spLim = BitVec.ofNat 16 (sp.toNat + 2 ^ 32 - getF st 31 16) ∧
          (∀ r < 16, t.greg f r = if r = 14 then sp else if r = 0 then v else 0) ∧
          t.greg c d = (if d < 16 then x.landed d (W k) else W k) ∧ (t.ctx c).cf = false ∧
          (t.ctx c).pc = x.pc + BitVec.ofNat 16 len) ∧
        (∀ b, t.mem.scratch.rd b = if f * 256 ≤ b ∧ b < f * 256 + 256 then 0 else s.mem.scratch.rd b) ∧
        { t with ctxs := s.ctxs, engs := s.engs, mem := { t.mem with scratch := s.mem.scratch } } = s) ∧
    (s.issued .join c o = some len → child → runs (.join c o) { own := fun y => { y with wait := .join (named % 8) } }) ∧
    (s.issued .join c o = some len → ¬ child → runs (.join c o) {}) ∧
    (s.issued .kill c o = some len → ¬ child → runs (.kill c o) {}) ∧
    (s.issued .kill c o = some len → child → named ≠ c → (s.ctx named).job = x.job →
      ∃ t, exec (.kill c o) s = .next t ∧ (t.ctx named).live = false ∧ (t.ctx named).gen = (s.ctx named).gen + 1 ∧
        (t.ctx c).evFlags.getLsbD (named % 8) = true ∧ (t.ctx c).pc = x.pc + BitVec.ofNat 16 len ∧
        t.herd = s.herd ∧ t.mem = s.mem) ∧
    (s.issued .endc c o = some len → (x.job = none ∨ ∃ k, k ≠ c ∧ (s.ctx k).live = true ∧ (s.ctx k).job = x.job) →
      ∃ t, exec (.endCtx c o) s = .next t ∧ (t.ctx c).live = false ∧ (t.ctx c).gen = x.gen + 1 ∧
        (t.eng (engOf c)).issue = none ∧ t.herd = s.herd ∧ t.mem = s.mem) ∧
    (s.issued .waith c o = some len →
      runs (.waith c o) (if x.hlpDone then {} else { own := fun y => { y with wait := .waith } })) ∧
    (s.issued .waitev c o = some len →
      runs (.waitev c o) (if v = 0 ∨ x.evFlags &&& v ≠ 0 then {} else { own := fun y => { y with wait := .waitev v } }))

/-- R138 to R143, R263, R264: commits, DROP, DELAY and RELEASE of a job that is not the head of its domain, while the head
runs and no output waits, so that the Herder has nothing to do. R143: a commit, DROP, DELAY or RELEASE of a job that
has retired is channel misuse and has no effect of its own. The model's own choices in it: the latch of WHEEL_TURN
(log entry 4). -/
def Obligations.JobChannelAndItsMisuse : Prop :=
  (∀ (s : State) (c : Nat) (o : Operands) (len j : Nat), (s.ctx c).job = some j → (s.ctx c).live = true →
     let x := s.ctx c
     let y := s.job j
     let v := W (s.opnd c o o.s)
     HerdIdle s y.od j → y.retired = false → y.passed = false → y.released = false → y.hole = false →
     (∀ p fab far, s.emitDest y x.emitDst = (if far then .hop p fab else .port p fab) →
       getF x.emitHdr 7 0 + getF x.emitHdr 16 8 ≤ 256 → y.commits < 16 → 0 < s.storeFree →
       0 < (s.buildOut c j p fab far).len → (s.buildOut c j p fab far).len ≤ 9596 →
       let built := fun (t : State) =>
         t.out s.herd.nextOut = { s.buildOut c j p fab far with place := .store, counted := true } ∧
         t.herd.nextOut = s.herd.nextOut + 1 ∧ t.job j = { y with commits := y.commits + 1, emitted := true } ∧
         t.storeFree = s.storeFree - 1 ∧ t.mem = s.mem
       (OutOf s c o len 0x207 → v.getLsbD 0 = false →
         ∃ t, exec (.emitGo c o) s = .next t ∧ built t ∧
           Ran s t c len { st := fun q => { t with ctxs := q.ctxs, engs := q.engs } }) ∧
       (s.running = true → x.wait = .store false →
         ∃ t, exec (.heldCommit c) s = .next t ∧ built t ∧ t.ctx c = { x with wait := .none })) ∧
     (OutOf s c o len 0x210 → (∀ p ∈ s.herd.outs, p.2.job ≠ some j) → y.emitted = false → y.freed = false →
       y.left = false → (∀ k ∈ s.jobCtxs j, ∀ last, (s.ctx k).wait ≠ .store last) →
       ∃ t, exec (.drop c o) s = .next t ∧ t.job j = { y with retired := true, freed := true, left := true } ∧
         (t.eng (engOf c)).drops = satInc 32 (s.eng (engOf c)).drops ∧
         (t.ctx c).pc = x.pc + BitVec.ofNat 16 len ∧ t.mem = s.mem) ∧
     (OutOf s c o len 0x211 → y.commits = 0 → s.jobCtxs j = [c] → 0 < getF v 23 0 → s.dlyUsed < 16384 →
       ∃ t, exec (.delay c o) s = .next t ∧ (t.ctx c).live = false ∧
         t.job j = { y with place := .delay y.shard, expiry := s.disp.tick + getF v 23 0, listed := true, hdr := [],
                            dtag := B8 (getF v 31 24), dcount := satInc 8 y.dcount, restart := true } ∧
         t.mem = s.mem) ∧
     (OutOf s c o len 0x212 →
       ∃ t, exec (.release c o) s = .next t ∧
         Ran s t c len { st := fun q => (q.setJob j { y with released := true }).bump Reg.HERD_RELEASES })) ∧
  (∀ (s : State) (c : Nat) (o : Operands) (len j : Nat), (s.ctx c).job = some j → (s.job j).retired = true →
     TrapReady s c →
     ∀ p ∈ [(0x207, Instr.emitGo c o), (0x210, .drop c o), (0x211, .delay c o), (0x212, .release c o)],
       OutOf s c o len p.1 → ∃ t, exec p.2 s = .next t ∧ Trapped s t c 6 ((s.ctx c).pc + BitVec.ofNat 16 len))

/-- R175 to R177, R180, R189, R192, R195: a commit write to a helper port. A command that passes the field check of R180
is outstanding with what it captured; it starts at once when a unit of its path is free and none waits, an update then
stands at the update unit, and it waits while no unit is free. One that fails the check, and an AES command on a part
without AES, is complete at once; while a command is outstanding a further one is an illegal instruction. R178, R184
to R186, R190, R192: HASH, CRC and AES commands that run at their unit end: their registers, then the status fields,
reach the issuing context if it still has the generation that issued them; of the other commands nothing changes but
that one may start. The model's own choices in it: the latch of WHEEL_TURN (log entry 4); a command that is malformed
never runs, and results land with HELPER_COMPLETE (log entry 9). -/
def Obligations.HelperCommandsRunAndLand : Prop :=
  (∀ (s : State) (c : Nat) (o : Operands) (len : Nat),
     let x := s.ctx c
     let v := W (s.opnd c o o.s)
     ∀ row ∈ [(Instr.hashH0 c o, HlpKind.hash, 0x110, 0), (.hashH1 c o, .hash, 0x110, 1), (.hashH0H1 c o, .hash, 0x110, 2),
         (.crcSteps c o, .crc, 0x111, 0), (.checksum c o, .crc, 0x111, 1), (.aesEnc c o, .aes, 0x112, 0),
         (.aesDec c o, .aes, 0x112, 1), (.gcmEnc c o, .aes, 0x112, 2), (.gcmDec c o, .aes, 0x112, 3),
         (.ghash c o, .aes, 0x112, 4), (.gcmTag c o, .aes, 0x112, 5), (.cmacUpd c o, .aes, 0x112, 6),
         (.cmacFin c o, .aes, 0x112, 7), (.lookupRead c o, .lookup, 0x113, 0), (.lookupLearn c o, .lookup, 0x113, 1),
         (.lookupInsert c o, .lookup, 0x113, 2), (.lookupDelete c o, .lookup, 0x113, 3), (.dmaGet c o, .dma, 0x114, 0),
         (.dmaPut c o, .dma, 0x114, 1)],
       let kind := row.2.1
       let op := row.2.2.2
       let inDram := (kind = .dma ∧ getF v 25 24 = 0) ∨ (kind = .lookup ∧ op = 0 ∧ s.tFar (getF v 29 24) = true)
       OutOf s c o len row.2.2.1 → v.toNat % 16 = op →
       (x.hlpBusy = false → (kind = .aes → s.chip.part ≠ .lrv2560) → s.hlpCheck c kind v = 0 →
         ∃ t k, exec row.1 s = .next t ∧
           Ran s t c len
             { own := fun y => { y with
                 hlpDone := false, hlpAbsent := false, hlpHit := false, hlpLearned := false, hlpEvict := false,
                 hlpErr := 0, hlpKind := BitVec.ofNat 3 kind.code, hlpBusy := true }
               st := fun q => { q with
                 help := t.help, regs := t.regs, hub := t.hub, pins := t.pins, dram := t.dram, look := t.look } } ∧
           (x.tclass = false → ¬ inDram →
             t.regs = s.regs ∧ t.hub = s.hub ∧ t.pins = s.pins ∧ t.dram = s.dram ∧ t.look = s.look) ∧
           t.help.next = s.help.next + 1 ∧ t.help.cmds.getLast? = some k ∧ k.id = s.help.next ∧ k.ctx = c ∧
           k.gen = x.gen ∧ k.kind = kind ∧ k.word = v ∧ k.arg0 = x.arg0 ∧ k.arg1 = x.arg1 ∧ k.creg = x.c ∧
           k.polyLo = x.polyLo ∧ k.polyHi = x.polyHi ∧ k.crcCfg = x.crcCfg ∧ k.tclass = x.tclass ∧ k.epoch = x.epoch ∧
           (s.unitFree (packOf c) k.group k = false → k.stage = .waiting ∧ t.help.updates = s.help.updates ∧
             ∀ y ∈ s.help.cmds, y ∈ t.help.cmds) ∧
           (s.unitFree (packOf c) k.group k = true → s.hlpNext (packOf c) k.group = none →
             k.stage = (if kind = .lookup ∧ op ≠ 0 then .update else .running) ∧
             (∀ y ∈ s.help.cmds, y.id < s.help.next → y ∈ t.help.cmds) ∧
             t.help.updates = if kind = .lookup ∧ op ≠ 0 then
               s.help.updates ++ [.helper k.id (s.reg (Reg.TBL_POLICY (getF v 29 24)))] else s.help.updates)) ∧
       (x.hlpBusy = false → kind = .aes → s.chip.part = .lrv2560 →
         ∃ t, exec row.1 s = .next t ∧
           Ran s t c len { own := fun y => { y with
             hlpDone := true, hlpAbsent := true, hlpHit := false, hlpLearned := false, hlpEvict := false, hlpErr := 0,
             hlpKind := BitVec.ofNat 3 kind.code, hlpBusy := false } }) ∧
       (∀ e, x.hlpBusy = false → (kind = .dma → getF v 25 24 ≠ 0) → (kind = .aes → s.chip.part ≠ .lrv2560) →
         s.hlpCheck c kind v = e → e ≠ 0 →
         ∃ t, exec row.1 s = .next t ∧
           Ran s t c len { own := fun y => { y with
             hlpDone := true, hlpAbsent := false, hlpHit := false, hlpLearned := false, hlpEvict := false,
             hlpErr := BitVec.ofNat 4 e, hlpKind := BitVec.ofNat 3 kind.code, hlpBusy := false } }) ∧
       (x.hlpBusy = true → TrapReady s c →
         ∃ t, exec row.1 s = .next t ∧ Trapped s t c 1 x.pc)) ∧
  (∀ (s : State) (k : HlpCmd) (ue : Option Nat), s.running = true → s.help.cmds.find? (fun y => y.id == k.id) = some k →
     s.hlpReady k = true → (k.kind = .hash ∨ k.kind = .crc ∨ k.kind = .aes) →
     let x := s.ctx k.ctx
     let dst := getF k.word 10 8
     ∃ t, exec (.helperComplete k.id ue) s = .next t ∧
       t.help.cmds.map (·.id) = (s.help.cmds.filter fun y => y.id != k.id).map (·.id) ∧
       (∀ y ∈ t.help.cmds, ∃ z ∈ s.help.cmds, y = { z with stage := y.stage }) ∧
       t.help.next = s.help.next ∧ t.help.updates = s.help.updates ∧
       { t with ctxs := s.ctxs, help := s.help } = s ∧ (∀ n, n ≠ k.ctx → t.ctx n = s.ctx n) ∧
       (x.live = true ∧ x.gen = k.gen →
         (t.ctx k.ctx).hlpDone = true ∧ (t.ctx k.ctx).hlpBusy = false ∧ (t.ctx k.ctx).hlpErr = 0 ∧
         (t.ctx k.ctx).hlpHit = false ∧ (x.wait = .waith → (t.ctx k.ctx).wait = .none) ∧
         (k.kind = .hash → Tab.get 0 (t.ctx k.ctx).c dst = k.hash) ∧
         (k.kind = .crc → getF k.word 22 16 ≠ 0 → lane (Tab.get 0 (t.ctx k.ctx).c dst) 0 = W (k.crc % 2 ^ 32) ∧
           lane (Tab.get 0 (t.ctx k.ctx).c dst) 2 = lane (Tab.get 0 x.c dst) 2) ∧
         (k.kind ≠ .aes → ∀ r, r ≠ dst → Tab.get 0 (t.ctx k.ctx).c r = Tab.get 0 x.c r)) ∧
       (¬ (x.live = true ∧ x.gen = k.gen) → t.ctx k.ctx = x))

/-- R314, R316, R318: the Kennel ports. One cell: the first free one from the cursor on is taken, its link is KN_NULL, and
the free count falls; a free of an allocated cell of the pool gives it back; other frees are ignored, counted and
logged. R312: a pool with no cell allocated takes a range that no other pool meets, and all its cells are then free;
any other write of a pool register is ignored. The model's own choices in it: the latch of WHEEL_TURN (log entry 4). -/
def Obligations.KennelPortsAndPools : Prop :=
  (∀ (s : State) (c : Nat) (o : Operands) (len p : Nat), p < 32 →
     let v := W (s.opnd c o o.s)
     let h := v.toNat % 2 ^ 18
     let base := s.poolBase p
     let size := s.poolSize p
     (OutOf s c o len (0x300 + p) → v.toNat % 64 = 0 →
       ∃ t, exec (.knAlloc c o) s = .next t ∧
         Ran s t c len { own := fun x => { x with knResult := 0x4003FFFF } }) ∧
     (OutOf s c o len (0x300 + p) → s.poolFree p < v.toNat % 64 →
       ∃ t, exec (.knAlloc c o) s = .next t ∧
         Ran s t c len { own := fun x => { x with knResult := 0x8003FFFF }
                         st := fun q => q.bump (Reg.KN_EMPTY_CNT p) }) ∧
     (OutOf s c o len (0x300 + p) → v.toNat % 64 = 1 → 1 ≤ s.poolFree p → base + size ≤ 196608 →
       ∀ k, base ≤ s.fld (Reg.KN_CURSOR p) 17 0 → s.fld (Reg.KN_CURSOR p) 17 0 ≤ k → k < base + size →
         s.cellUsed k = false → (∀ i, s.fld (Reg.KN_CURSOR p) 17 0 ≤ i → i < k → s.cellUsed i = true) →
         ∃ t, exec (.knAlloc c o) s = .next t ∧
           Ran s t c len { own := fun x => { x with knResult := W (k + 2 ^ 30) }
                           st := fun q => { q with kn := t.kn, regs := t.regs } } ∧
           t.cellUsed k = true ∧ t.cellNext k = 0x3FFFF ∧ t.poolFree p = s.poolFree p - 1 ∧
           ∀ i, i ≠ k → t.cellUsed i = s.cellUsed i ∧ t.cellNext i = s.cellNext i) ∧
     (OutOf s c o len (0x320 + p) → v.getLsbD 31 = false → base ≤ h → h < base + size → s.cellUsed h = true →
       s.poolFree p < 196608 →
       ∃ t, exec (.knFree c o) s = .next t ∧
         Ran s t c len { st := fun q => { q with kn := t.kn, regs := t.regs } } ∧
         t.cellUsed h = false ∧ t.poolFree p = s.poolFree p + 1 ∧
         ∀ i, i ≠ h → t.cellUsed i = s.cellUsed i ∧ t.cellNext i = s.cellNext i) ∧
     (OutOf s c o len (0x320 + p) → v.getLsbD 31 = false → base ≤ h → h < base + size → s.cellUsed h = false →
       ∃ t, exec (.knFree c o) s = .next t ∧ t.kn = s.kn ∧
         t.reg Reg.KN_ERR_CNT = W (satInc 32 (s.reg Reg.KN_ERR_CNT).toNat) ∧
         (t.reg (Reg.EV_STATUS 1)).getLsbD 4 = true)) ∧
  (∀ (s : State) (m : Master) (v : Word) (p : Nat), p < 32 →
     let n := v.toNat % 2 ^ 18
     let set := fun (i : Instr) (base size : Nat) =>
       (s.knPoolRefused p base size = (false, false) →
         ∃ t, exec i s = .next t ∧ t.poolBase p = base ∧ t.poolSize p = size ∧ t.poolFree p = size ∧
           t.fld (Reg.KN_CURSOR p) 17 0 = base % 2 ^ 18 ∧ (∀ h, base ≤ h → h < base + size → t.cellUsed h = false) ∧
           (∀ h, h < base ∨ base + size ≤ h → t.cellUsed h = s.cellUsed h) ∧ t.mem = s.mem) ∧
       ((s.knPoolRefused p base size).1 = true ∨ s.poolFree p ≠ s.poolSize p → exec i s = .next s)
     (CanWrite s m (Reg.KN_POOL_BASE p) → set (.knPoolWrite m (Reg.KN_POOL_BASE p) v) n (s.poolSize p)) ∧
     (CanWrite s m (Reg.KN_POOL_SIZE p) → set (.knPoolWrite m (Reg.KN_POOL_SIZE p) v) (s.poolBase p) n))

/-- R199, R202, R203, R205, R211, R212: a read of a Leash lock by an engine takes a free lock, answers 1 again to its
owner, stalls behind another owner while the group's timeout is not 0; a write by the owner of a lock without waiters
frees it. A W-width ACQ load of a free word takes it; of a taken word with room in the table it waits. R198 to R210:
locks as a bus master or a peer of the fabric reaches them, the timeout of a stalled reader, and the access bits of a
group. A fabric peer has its status in a frame (R457), another master in the replies. The model's own choices in it:
the order of the commands decides between two masters (log entry 46). -/
def Obligations.LocksOfEnginesAndBusMasters : Prop :=
  (∀ (s : State) (c : Nat) (o : Operands) (len i : Nat), i < 4096 → c < 4096 →
     let me : BitVec 16 := BitVec.ofNat 16 (0x1000 + c)
     let d := regNo o o.d
     let group := i / 64
     let tmo := s.fld (Reg.LEASH_GRP_TMO group) 19 0
     let a := (s.ea c o).1
     let m := (s.mwPlace c a).1
     let w := (s.mwPlace c a).2
     let q := Tab.get [] s.leash.mwq m
     (s.issued .inp c o = some len → o.imm.toNat % 65536 = 0x1000 + i → s.leashAcc group (0x1000 + c) = true →
       (s.lock i = {} → ∃ t, exec (.inp c o) s = .next t ∧ (t.lock i).owner = me ∧
         Ran s t c len { loadEffect (s.exposed c) d 1 none with st := fun r => r.setLock i { owner := me } }) ∧
       ((s.lock i).owner = me → ∃ t, exec (.inp c o) s = .next t ∧
         Ran s t c len (loadEffect (s.exposed c) d 1 none)) ∧
       ((s.lock i).owner ≠ 0 → (s.lock i).owner ≠ me → 0 < tmo → ∃ t, exec (.inp c o) s = .next t ∧
         Ran s t c len
           { own := fun x => { x with wait := .leash i d o.size }
             st := fun r => r.setLock i
               { s.lock i with queue := (s.lock i).queue ++ [⟨me, s.fr, s.fr + tmo * 128⟩] } })) ∧
     (s.issued .outp c o = some len → o.imm.toNat % 65536 = 0x1000 + i → (s.lock i).owner = me →
       (s.lock i).queue = [] → ∃ t, exec (.outp c o) s = .next t ∧
         Ran s t c len { st := fun r => r.setLock i { s.lock i with owner := 0 } }) ∧
     (s.issued .ld c o = some len → isMwLock o a = true → a % o.size = 0 → (o.m.toNat < 4 ∨ o.d ≠ o.s) →
       s.hub.flips = [] → m < 33 → ∀ row ∈ [Instr.ld c o, .memoryWordLockAcquire c o],
       (s.mwRead m w 4 = 0 → ∃ t, exec row s = .next t ∧
         Ran s t c len { loadEffect (s.exposed c) d 0 (baseAfter s c o) with
           st := fun r => r.mwPut m w 4 (0x1000 + c) } ∧
         t.mwRead m w 4 = 0x1000 + c) ∧
       (s.mwRead m w 4 ≠ 0 → q.length < 16 → ∃ t, exec row s = .next t ∧
         Ran s t c len
           { wr := fun r => (baseAfter s c o).bind fun b => if r = b.1 then some (W b.2) else none
             own := fun x => { x with wait := .memWord m w d }
             st := fun r => { r with leash := t.leash, regs := t.regs } } ∧
         Tab.get [] t.leash.mwq m = q ++ [(w, c)] ∧ t.leash.locks = s.leash.locks))) ∧
  (∀ (s : State) (m : Master) (i : Nat) (o : Operands), i < 4096 → s.onBus m = true →
     let me := BitVec.ofNat 16 (Master.owner m)
     (s.leashAcc (i / 64) (Master.owner m) = true → s.lock i = {} →
       exec (.leashAcquire m i o) s = .next { s.setLock i { owner := me } with rdata := 1 }) ∧
     (s.leashAcc (i / 64) (Master.owner m) = true → (s.lock i).owner = 0 → (s.lock i).broken = true →
       exec (.leashAcquire m i o) s = .next { s.setLock i { s.lock i with owner := me, broken := false, prior := 0 } with
         rdata := (s.lock i).prior ++ 3#16 }) ∧
     (s.leashAcc (i / 64) (Master.owner m) = false →
       ∃ t, exec (.leashAcquire m i o) s = .next t ∧ t.rdata = 4 ∧ t.leash = s.leash ∧
         t.reg Reg.LEASH_DENY_CNT = W (satInc 32 (s.reg Reg.LEASH_DENY_CNT).toNat)) ∧
     ((s.lock i).owner = me → (s.lock i).queue = [] →
       exec (.leashRelease m i o) s = .next (s.setLock i { s.lock i with owner := 0 })) ∧
     ((s.lock i).owner = me → ∀ w rest, (s.lock i).queue = w :: rest → w.id.toNat / 0x1000 ≠ 1 →
       let u := s.setLock i { s.lock i with owner := w.id, queue := rest }
       (w.id.toNat / 0x1000 ≠ 4 → exec (.leashRelease m i o) s =
         .next { u with leash := { u.leash with replies := s.leash.replies ++ [(w.id, 1)] } }) ∧
       (w.id.toNat / 0x1000 = 4 → exec (.leashRelease m i o) s = .next (u.fabStatus (w.id.toNat - 0x4000) 1))) ∧
     ((s.lock i).owner ≠ me →
       ∃ t, exec (.leashRelease m i o) s = .next t ∧ t.leash = s.leash ∧
         t.reg Reg.LEASH_DENY_CNT = W (satInc 32 (s.reg Reg.LEASH_DENY_CNT).toNat)) ∧
     (∀ id w, (s.lock i).queue.find? (fun x => x.id == id && decide (x.deadline ≤ s.fr)) = some w → id.toNat / 0x1000 ≠ 1 →
       let u := (s.setLock i { s.lock i with queue := (s.lock i).queue.erase w }).bump Reg.LEASH_TMO_CNT
       (id.toNat / 0x1000 ≠ 4 → exec (.leashStallTimeout i id) s =
         .next { u with leash := { u.leash with replies := s.leash.replies ++ [(id, 8)] } }) ∧
       (id.toNat / 0x1000 = 4 → exec (.leashStallTimeout i id) s = .next (u.fabStatus (id.toNat - 0x4000) 8))) ∧
     (∀ g v, g < 64 → (∀ n, n < 64 → (s.lock (g * 64 + n)).queue = []) →
       exec (.leashGrpAccWrite m (Reg.LEASH_GRP_ACC_LO g) v) s =
           .next (s.setReg (Reg.LEASH_GRP_ACC_LO g) (v &&& s.chip.packMask)) ∧
         exec (.leashGrpAccWrite m (Reg.LEASH_GRP_ACC_HI g) v) s = .next (s.setReg (Reg.LEASH_GRP_ACC_HI g) (v &&& 0x1D))))

/-- R44, R92, R98, R122, R123, R155 to R159, R244: one turn of the wheel. The slot advances; the chosen context's
instruction is decoded at its PC and latched, or, while a multi-turn instruction has turns left, those count down;
every context that only a hold kept from issuing spends one opportunity of it; the turn is counted by class; a turn
with nobody ready is a bubble. R165, R166: the watch of an engine whose every live context waits counted; with SQUASH
off the contexts are frozen, with it they end. The model's own choices in it: a turn latches the instruction and a
later command performs it (log entry 4); how long a hold lasts is a value of Config (log entry 11). -/
def Obligations.WheelTurnsAndDeadlock : Prop :=
  (∀ (s : State) (e : Nat), s.wheelRuns e = true → (s.eng e).issue = none → (s.eng e).due = [] → s.hub.flips = [] →
     (∀ c ∈ s.liveOf e, (s.ctx c).stepWait = false) →
     let g := s.eng e
     let slot := (g.slot + 1) % s.wheelLen (packOfEng e)
     let spent := fun (n : Nat) => if n ∈ s.heldBack e then { s.ctx n with hold := (s.ctx n).hold - 1 } else s.ctx n
     (∀ c rp op o len, s.choice e = some (c, rp) → engOf c = e →
       decodeBytes (s.codeAt (packOf c) (s.ctx c).pc.toNat) = some (op, o, len) →
       let x := s.ctx c
       let last := x.multi = 1 ∨ (x.multi = 0 ∧ s.turnsOf c op o ≤ 1)
       ∃ t, exec (.wheelTurn e) s = .next t ∧ { t with engs := s.engs, ctxs := s.ctxs, pace := s.pace } = s ∧
         { t.pace with samples := s.pace.samples } = s.pace ∧ (∀ n, n ≠ e → t.eng n = s.eng n) ∧
         t.eng e = { g with
           rp := rp, slot := slot, issue := if last then some ⟨c, op, o, len⟩ else none, watch := 0, bubbles := 0
           turnsT := if x.tclass then g.turnsT + 1 else g.turnsT
           turnsE := if x.tclass then g.turnsE else g.turnsE + 1 } ∧
         (∀ n, n ≠ c → t.ctx n = spent n) ∧
         t.ctx c = { x with
           multi := if last then 0 else if 1 < x.multi then x.multi - 1 else s.turnsOf c op o - 1 } ∧
         (∀ p, Tab.get 0 t.pace.samples p =
           if p = packOfEng e ∧ Tab.get 0 s.pace.sampler p = e % 16 then Tab.get 0 s.pace.samples p + 1
           else Tab.get 0 s.pace.samples p)) ∧
     (s.choice e = none → s.stuck e = false →
       ∃ t, exec (.wheelTurn e) s = .next t ∧ { t with engs := s.engs, ctxs := s.ctxs } = s ∧
         (∀ n, n ≠ e → t.eng n = s.eng n) ∧ (∀ n, t.ctx n = spent n) ∧
         t.eng e = { g with slot := slot, turnsB := g.turnsB + 1, watch := 0, bubbles := 0 })) ∧
  (∀ (s : State) (e : Nat), s.deadlockDue e = true → e < 512 →
     let cfg := Reg.ENG_DL_CFG (e / 16) (e % 16)
     (s.flag cfg 24 = false →
       ∃ t, exec (.deadlockDetect e) s = .next t ∧ (∀ c, (t.ctx c).frozen = ((s.ctx c).frozen || (s.liveOf e).contains c)) ∧
         (t.eng e).watch = 0 ∧ t.mem = s.mem ∧ t.herd = s.herd ∧
         (t.reg (Reg.EV_STATUS (2 + packOfEng e / 32))).getLsbD (packOfEng e % 32) = true) ∧
     (s.flag cfg 24 = true → (∀ c ∈ s.liveOf e, (s.ctx c).job = none) →
       ∃ t, exec (.deadlockDetect e) s = .next t ∧ (∀ c ∈ s.liveOf e, (t.ctx c).live = false) ∧ t.mem = s.mem))

/-- R89, R90, R117, R149, R151, R152: the job of a Fetch slot starts in the context that R149 takes. -/
def Obligations.JobStartSetsUpTheContext : Prop :=
  ∀ (s : State) (e i k : Nat) (f : FetchSlot), s.running = true → i < 2 → e < 512 → s.slot e i = some f →
    s.midTurn e = false → (s.eng e).due = [] → s.startable e i = true → s.startAfter e i = false → s.allocNum e (s.job f.job).tclass = some k →
    let x := s.job f.job
    let c := e * 8 + k
    let entry := s.reg (Reg.PACK_ENTRY (packOfEng e) (x.epoch * 8 + x.cls))
    let st := s.reg (Reg.PACK_STACK (packOf c))
    let sp := W (getF st 15 0 + 2 ^ 32 - k * getF st 31 16)
    x.epoch < 2 → x.cls < 8 → entry.getLsbD 31 = true →
      ∃ t, exec (.jobStart e i) s = .next t ∧ t.slot e i = none ∧
        t.reg (Reg.ENG_STARTS (e / 16) (e % 16)) = s.reg (Reg.ENG_STARTS (e / 16) (e % 16)) + 1 ∧
        t.job f.job = { x with place := .running, dpatch := [] } ∧
        t.ctx c = { Ctx.idle with
          live := true, gen := (s.ctx c).gen + 1, pc := entry.setWidth 16, tclass := x.tclass, epoch := x.epoch
          job := some f.job, g := (t.ctx c).g, spLim := (sp - W (getF st 31 16)).setWidth 16 } ∧
        (∀ r < 16, t.greg c r =
          if r = 14 then sp else if r = 0 ∧ x.restart then W x.dtag.toNat else 0) ∧
        (∀ n, n ≠ c → t.ctx n = s.ctx n) ∧
        ∀ b, t.mem.scratch.rd b = if c * 256 ≤ b ∧ b < c * 256 + 256 then 0 else s.mem.scratch.rd b

/-- R221, R226, R228, R229, R231, R244: the head job of a queue is placed in a Fetch slot of the engine the pass chooses,
keeps its queue entry until the slot's copy is complete, and the flow context remembers the engine; or it parks; an
idle shard steals. R221, R231, R233: the copy of a header into a Fetch slot completes and gives back the queue entry,
and a recall that is due puts the job back at the head of its queue, as soon as that has room. The model's own choices
in it: each event acts when its command comes and its condition holds (log entry 1). -/
def Obligations.PlacementFetchAndRecall : Prop :=
  (∀ (s : State) (q j : Nat), s.running = true → s.hub.flips = [] →
     let x := s.job j
     let placed := fun (t : State) (e sh : Nat) =>
       let i := if (s.eng e).fs0.isNone then 0 else 1
       t.slot e i = some { job := j, entered := false, start := 0, recalled := false } ∧
         (t.job j).place = .slot e i ∧ (t.job j).shard = sh ∧ j ∉ t.dq q ∧ (t.job j).entry = some q ∧
         t.mem.flow.rdN (x.od * 64) 2 = 0x8000 + e ∧ t.ctxs = s.ctxs
     let waits := ∀ k, (s.job k).place = .parked q → s.fr < (s.job k).parkUntil
     (∀ rest e reason, waits → q / 8 < s.chip.shards → s.parkedReady q = none → s.dq q = j :: rest → j ∉ rest →
       x.place = .queue q → e < 512 → s.placing j (q / 8) (s.lastEng x.od) = .on e reason →
       s.outranked (q / 8) (q % 8) e = false →
       ∃ t, exec (.placement q) s = .next t ∧ placed t e (q / 8)) ∧
     (∀ rest e, waits → q / 8 < s.chip.shards → s.parkedReady q = none → s.dq q = j :: rest →
       s.placing j (q / 8) (s.lastEng x.od) = .park e →
       ∃ t, exec (.placement q) s = .next t ∧ t.dq q = rest ∧
         t.job j = { x with
           place := .parked q, parkedOnce := true, parkEng := e, parkUntil := s.fr + s.fld Reg.DSP_AFF 11 0 } ∧
         t.ctxs = s.ctxs ∧ t.mem = s.mem ∧ t.regs = s.regs) ∧
     (x.place = .parked q → x.parkUntil ≤ s.fr →
       ∃ t, exec (.parkExpire j) s = .next t ∧ t.dq q = j :: s.dq q ∧ t.job j = { x with place := .queue q } ∧
         t.ctxs = s.ctxs ∧ t.mem = s.mem ∧ t.regs = s.regs) ∧
     (∀ sh e rest, s.flag Reg.DSP_AFF 16 = true → sh < s.chip.shards → s.shardIdle sh = true →
       s.stealable sh = [(j, q)] → s.dq q = j :: rest → j ∉ rest → x.place = .queue q → e < 512 →
       s.leastLoad sh x.tclass = some e →
       ∃ t, exec (.steal sh) s = .next t ∧ placed t e sh ∧
         t.reg Reg.DSP_STEALS = W (satInc 32 (s.reg Reg.DSP_STEALS).toNat))) ∧
  (∀ (s : State) (e i : Nat) (f : FetchSlot), s.running = true → i < 2 → s.slot e i = some f → s.hub.flips = [] →
     let x := s.job f.job
     let q := s.queueOf f.job
     let free := s.updJob f.job fun y => { y with entry := none }
     (f.entered = false →
       ∃ t, exec (.fetchSlotEnter e i false) s = .next t ∧
         t.slot e i = some { f with entered := true, start := s.fr } ∧ t.ctxs = s.ctxs ∧ t.mem = s.mem ∧
         (t.job f.job).entry = none ∧ (∀ r, (∀ n, r ≠ Reg.DSP_QSTAT n) → t.reg r = s.reg r) ∧
         ∀ b < 256, (t.job f.job).hdr.rd b = (s.frameBytes x.cell 0 (min x.len 256)).getD b 0) ∧
     (s.recallDue e f = true → free.qRoom q = true →
       ∃ t, exec (.recall e i) s = .next t ∧ t.slot e i = none ∧ t.dq q = f.job :: s.dq q ∧
         (t.job f.job).place = .queue q ∧ (t.job f.job).hdr = [] ∧ t.ctxs = s.ctxs ∧
         t.reg Reg.DSP_RECALLS = W (satInc 32 (s.reg Reg.DSP_RECALLS).toNat)) ∧
     (s.recallDue e f = true → free.qRoom q = false →
       ∃ t, exec (.recall e i) s = .next t ∧ t.slot e i = some { f with recalled := true } ∧ t.herd = s.herd ∧
         t.regs = s.regs ∧ t.disp = s.disp))

/-- R235, R236, R238: TICK advances at the period in force and takes the period now set; a due job enters its queue at the
tail. R265, R267, R271: the hole timer of a domain whose only job has no context left and no output: the job becomes a
hole, counted and raised, and the head passes it. The model's own choices in it: each event acts when its command
comes and its condition holds (log entry 1). -/
def Obligations.DelayListsAndHoleTimeouts : Prop :=
  (∀ (s : State), s.running = true →
     (s.disp.tickAt + s.disp.tickNs ≤ s.fr → exec .delayTick s = .next { s with disp := { s.disp with
       tick := s.disp.tick + 1, tickAt := s.disp.tickAt + s.disp.tickNs, tickNs := s.fld Reg.DSP_DTICK 19 0 } }) ∧
     (s.fr < s.disp.tickAt + s.disp.tickNs → exec .delayTick s = .next s) ∧
     (∀ sh j rest, Tab.get [] s.disp.delays sh = j :: rest → j ∉ rest → (s.job j).place = .delay sh →
       (s.job j).expiry ≤ s.disp.tick → s.qRoom (s.queueOf j) = true → s.recallWaits (s.queueOf j) = false →
       ∃ t, exec (.dueJobEnqueue sh) s = .next t ∧ Tab.get [] t.disp.delays sh = rest ∧
         t.dq (s.queueOf j) = s.dq (s.queueOf j) ++ [j] ∧ (t.job j).place = .queue (s.queueOf j) ∧
         (t.job j).listed = false ∧ (t.job j).enqAt = s.fr ∧ t.ctxs = s.ctxs ∧ t.mem = s.mem)) ∧
  (∀ (s : State) (d j : Nat), s.running = true → (s.od d).timing = some j → s.headJob d = some j →
     0 < (s.od d).limit → (s.od d).limit ≤ (s.od d).ran → (s.job j).retired = false → (s.job j).released = false →
     (s.job j).hole = false → s.jobCtxs j = [] → s.herd.outs = [] → (s.job j).od = d →
     (∀ p ∈ s.herd.jobs, p.2.od = d → p.1 = j) →
     ∃ t, exec (.holeTimeout d) s = .next t ∧ (t.od d).head = (s.od d).head + 1 ∧ (t.od d).timing = none ∧
       t.reg Reg.HERD_HOLES = W (satInc 32 (s.reg Reg.HERD_HOLES).toNat) ∧
       (t.reg (Reg.EV_STATUS 1)).getLsbD 3 = true ∧ t.ctxs = s.ctxs ∧ t.mem = s.mem)

/-- R254, R304, R341, R342, with no frame in transmission to a D2H ring: a ring that is enabled starts empty with its
size; a producer index beyond the ring stops it; Scent starts with an empty ring and a time marker. R245, R246: a time
marker of 64 bits joins the Scent buffer when bits [23:0] of the count have wrapped, and the oldest record goes to its
place in the ring in DRAM as a write of requester port 3, or is not sent where no DRAM is present. The model's own
choices in it: a producer index beyond the ring stops it whatever EN holds (log entry 41). -/
def Obligations.RingsAndScent : Prop :=
  (∀ (s : State) (m : Master) (v : Word) (q : Nat),
     let ring := fun (cfg pi ci hi lo top : Nat) (okEnable : Prop) =>
       ((s.eport 49).sending = none → CanWrite s m pi →
         (v - s.reg ci).toNat ≤ 2 ^ s.fld cfg hi 8 → exec (.ringPiWrite m pi v) s = .next (s.setReg pi v)) ∧
       ((s.eport 49).sending = none → CanWrite s m pi → 2 ^ s.fld cfg hi 8 < (v - s.reg ci).toNat →
         ∃ t, exec (.ringPiWrite m pi v) s = .next t ∧ t.flag cfg 0 = false ∧ t.flag cfg 16 = true ∧ t.reg pi = v ∧
           (∀ k, k ≠ cfg → k ≠ pi → t.reg k = s.reg k) ∧ { t with regs := s.regs } = s) ∧
       ((s.eport 49).sending = none → CanWrite s m cfg → s.flag cfg 0 = false → v.getLsbD 0 = true → lo ≤ getF v hi 8 → getF v hi 8 ≤ top →
         okEnable →
         ∃ t, exec (.ringEnable m cfg v) s = .next t ∧ t.flag cfg 0 = true ∧ t.flag cfg 16 = false ∧
           t.fld cfg hi 8 = getF v hi 8 ∧ t.reg pi = 0 ∧ t.reg ci = 0 ∧
           (∀ k, k ≠ cfg → k ≠ pi → k ≠ ci → t.reg k = s.reg k) ∧ { t with regs := s.regs } = s)
     (q < 4 → ring (Reg.TDMA_CFG q) (Reg.TDMA_PI q) (Reg.TDMA_CI q) 12 4 16 (v.getLsbD 1 = false ∧ s.trun q = none)) ∧
     (q < 16 → ring (Reg.HP_H2D_CFG q) (Reg.HP_H2D_PI q) (Reg.HP_H2D_CI q) 11 4 14 True) ∧
     (q < 16 → ring (Reg.HP_D2H_CFG q) (Reg.HP_D2H_PI q) (Reg.HP_D2H_CI q) 11 4 14 True) ∧
     (CanWrite s m Reg.DSP_SCENT_CTRL → s.chip.scent = true → s.flag Reg.DSP_SCENT_CTRL 0 = false → v.getLsbD 0 = true →
       10 ≤ getF v 12 8 → getF v 12 8 ≤ 26 → s.dramPresent s.scentBase (8 * 2 ^ getF v 12 8) = true → s.disp.scent = [] →
       ∃ t, exec (.scentEnable m v) s = .next t ∧ t.reg Reg.DSP_SCENT_CTRL = v &&& 0x1F03 ∧ t.reg Reg.DSP_SCENT_WR = 0 ∧
         t.reg Reg.DSP_SCENT_RD = 0 ∧ t.disp.scent.length = 1 ∧ t.mem = s.mem ∧ t.ctxs = s.ctxs ∧
         ∀ k, k ∉ [Reg.DSP_SCENT_CTRL, Reg.DSP_SCENT_WR, Reg.DSP_SCENT_RD] → t.reg k = s.reg k)) ∧
  (∀ (s : State), s.running = true → s.chip.part = .lrv5120 → s.flag Reg.DSP_SCENT_CTRL 0 = true →
     (s.fr % 2 ^ 24 = 0 → s.disp.scent.length < 256 →
       ∃ r : BitVec 64, exec .scentTimeMarker s = .next { s with disp := { s.disp with scent := s.disp.scent ++ [r] } } ∧
         r.extractLsb' 0 38 = BitVec.ofNat 38 (s.fr / 2 ^ 24) ∧ r.extractLsb' 38 4 = 15#4 ∧
         r.extractLsb' 42 22 = BitVec.ofNat 22 (s.fr / 4)) ∧
     (∀ r rest, s.disp.scent = r :: rest →
       let wr := (s.reg Reg.DSP_SCENT_WR).toNat
       let a := s.scentBase + 8 * (wr % s.scentSize)
       let (i, l) := s.dramPlace a
       let (ch, bank, row) := s.dramBank i l
       s.flag Reg.DSP_SCENT_CTRL 1 = true → s.scentBase % 8 = 0 → s.regOn i 3 = false →
       Tab.get [] s.dram.wait (i * 8 + 3) = [] →
       (s.dramPresent a 8 = false →
         ∃ t, exec .scentRecordWrite s = .next t ∧ t.disp.scent = rest ∧ t.reg Reg.DSP_SCENT_WR = W (wr + 1) ∧
           t.mem = s.mem ∧ t.dram.ch = s.dram.ch ∧ t.ctxs = s.ctxs) ∧
       (s.dramPresent a 8 = true →
         let w : DramReq :=
           { id := s.dram.next, port := 3, tclass := false, write := true, addr := a, phys := s.dramAt a, len := 8, row := row,
             bank := bank, passed := 0, issued := false, dest := .posted, data := leBytes 8 r.toNat }
         ∃ t, exec .scentRecordWrite s = .next t ∧ t.disp.scent = rest ∧ t.reg Reg.DSP_SCENT_WR = W (wr + 1) ∧
           (t.dch i ch).q = (s.dch i ch).q ++ [w] ∧ t.mem = s.mem ∧ t.ctxs = s.ctxs)))

/-- R15, R34: a write of a register with plain fields by a master that is not held back: the RW bits take the value
written, every other bit and every other part of the state stays. R32 to R34, R39: while FW_OWN is 1 a write of the
host to a block of the firmware has no effect but the log of the access and its event; SYS_OWN takes FW_OWN from a
Keeper pair or the debugger and never from the host. The model's own choices in it: the order of the checks on an
access (log entry 3). -/
def Obligations.RegisterWritesAndFwOwn : Prop :=
  (∀ (s : State) (m : Master) (v : Word),
     ∀ p ∈ [(Reg.HERD_TMO, 0x000FFFFF#32), (Reg.DSP_AFF, 0x00010FFF#32),
         (Reg.DSP_FS_TMO, 0x0000FFFF#32), (Reg.DSP_CLASS_MAP0, 0xFFFFFFFF#32), (Reg.HERD_OD_SEL, 0x0000FFFF#32),
         (Reg.SYS_GPIO_OUT, 0x0000FFFF#32), (Reg.SYS_GPIO_OE, 0x0000FFFF#32), (Reg.LEASH_GRP_TMO 63, 0x000FFFFF#32),
         (Reg.PACK_TRAP 0, 0x8000FFFF#32), (Reg.PACK_ENTRY 15 15, 0x8000FFFF#32)],
       CanWrite s m p.1 →
         exec (.registerWrite m p.1 v) s = .next (s.setReg p.1 ((s.reg p.1 &&& ~~~p.2) ||| (v &&& p.2)))) ∧
  (∀ (s : State) (v : Word),
     (∀ off ∈ [Reg.HERD_TMO, Reg.DSP_AFF, Reg.SYS_GPIO_OUT, Reg.PACK_TRAP 0, Reg.PACE_CTRL, Reg.TB_STAT],
       s.fwOwn = true → s.flag Reg.SYS_HOST_ACC 31 = false →
       ∃ t, exec (.registerWrite .host off v) s = .next t ∧
         (∀ k, k ≠ Reg.SYS_HOST_ACC → k ≠ Reg.EV_STATUS 0 → t.reg k = s.reg k) ∧
         (t.reg Reg.SYS_HOST_ACC).toNat % 2 ^ 30 = off + 2 * 2 ^ 26 + 2 ^ 29 ∧ t.flag Reg.SYS_HOST_ACC 31 = true ∧
         (t.reg (Reg.EV_STATUS 0)).getLsbD 0 = true ∧ t.mem = s.mem ∧ t.ctxs = s.ctxs) ∧
     (∀ k, k < 2 → Tab.get false s.ctl.keeperDown k = false →
       exec (.fwOwnWrite (.keeper k) v) s = .next (s.setReg Reg.SYS_OWN (v &&& 1))) ∧
     exec (.fwOwnWrite .debug v) s = .next (s.setReg Reg.SYS_OWN (v &&& 1)) ∧
     (∃ t, exec (.fwOwnWrite .host v) s = .next t ∧ t.fwOwn = s.fwOwn))

/-- R14, R39: an access that is not an aligned word reads 0, changes no register, and is logged for the host. R15, R35: a
read of a counter that clears returns it and leaves 0, but a read of the host under FW_OWN leaves it in a block of the
firmware. R18: a read of the low word of a pair returns it and latches the high word. The model's own choices in it:
the order of the checks on an access (log entry 3); rdata holds the answer (log entry 45). -/
def Obligations.ClearingLatchingAndMisalignedAccesses : Prop :=
  (∀ (s : State) (m : Master) (off size : Nat) (write : Bool), s.onBus m = true → off % 4 ≠ 0 ∨ size ≠ 4 →
     ∃ t, exec (.misalignedAccess m off size write) s = .next t ∧
       (write = false → t.rdata = 0) ∧ (write = true → t.rdata = s.rdata) ∧
       (m ≠ .host → { t with rdata := s.rdata } = s) ∧
       (∀ k, k ≠ Reg.SYS_HOST_ACC → k ≠ Reg.EV_STATUS 0 → t.reg k = s.reg k) ∧
       (m = .host → s.flag Reg.SYS_HOST_ACC 31 = false →
         (t.reg Reg.SYS_HOST_ACC).toNat % 2 ^ 30 = off % 2 ^ 26 + 2 ^ 26 + write.toNat * 2 ^ 29)) ∧
  (∀ (s : State) (m : Master), s.onBus m = true →
     ∀ off ∈ [Reg.HERD_HOLES, Reg.HERD_RELEASES, Reg.HERD_STORE_FULL, Reg.DSP_STEALS, Reg.DSP_RECALLS, Reg.KN_ERR_CNT,
         Reg.LEASH_BROKEN_CNT, Reg.LEASH_DENY_CNT, Reg.ERR_CE_CNT, Reg.ERR_UE_CNT],
       (¬ (m = .host ∧ s.fwOwn = true ∧ fwBlock off = true) →
         exec (.readClear m off) s = .next { s.setReg off 0 with rdata := s.reg off }) ∧
       (m = .host → s.fwOwn = true → fwBlock off = true →
         exec (.readClear m off) s = .next { s with rdata := s.reg off })) ∧
  (∀ (s : State) (m : Master), s.onBus m = true →
     (exec (.counterLoRead m Reg.TB_FR_LO) s = .next { s with
       rdata := W s.fr, hiLatch := Tab.set 0 s.hiLatch Reg.TB_FR_HI (W (s.fr / 2 ^ 32)) }) ∧
     ∀ p k, p < s.chip.packs → k < 16 →
       exec (.counterLoRead m (Reg.ENG_TURN_E_LO p k)) s = .next { s with
         rdata := W (s.eng (p * 16 + k)).turnsE.toNat
         hiLatch := Tab.set 0 s.hiLatch (Reg.ENG_TURN_E_HI p k) (W ((s.eng (p * 16 + k)).turnsE.toNat / 2 ^ 32)) })

/-- R39: a 1 written to VALID of a first-event log rearms it, and a 1 written to OVF clears it. R520 to R525: EV_STATUS
clears by 1, EV_ENABLE and EV_ROUTE store what present sources have, EV_SW_RAISE raises a software source. Only the
Event Hub and its registers change. The model's own choices in it: which sources a part has, and that an absent one
touches no vector (log entry 27). -/
def Obligations.FirstEventLogsAndEventRegisters : Prop :=
  (∀ (s : State) (m : Master) (v : Word),
     ∀ p ∈ [(Reg.SYS_HOST_ACC, 31, 30), (Reg.LEASH_DENY_LOG, 15, 14), (Reg.TBL_PAR_LOG, 31, 30), (Reg.KN_ERR_LOG, 31, 30)],
       CanWrite s m p.1 →
       ∃ t, exec (.logRearm m p.1 v) s = .next t ∧ (∀ k, k ≠ p.1 → t.reg k = s.reg k) ∧
         { t with regs := s.regs } = s ∧
         (v.getLsbD p.2.1 = true → v.getLsbD p.2.2 = true → t.reg p.1 = 0) ∧
         (v.getLsbD p.2.1 = true → v.getLsbD p.2.2 = false →
           t.reg p.1 = if (s.reg p.1).getLsbD p.2.2 then BitVec.twoPow 32 p.2.2 else 0) ∧
         (v.getLsbD p.2.1 = false → v.getLsbD p.2.2 = true → t.reg p.1 = s.reg p.1 &&& ~~~(BitVec.twoPow 32 p.2.2)) ∧
         (v.getLsbD p.2.1 = false → v.getLsbD p.2.2 = false → t.reg p.1 = s.reg p.1)) ∧
  (∀ (s : State) (m : Master) (v : Word), s.onBus m = true →
     let hubOnly := fun (t : State) (off : Nat) =>
       (∀ k, k ≠ off → t.reg k = s.reg k) ∧ { t with regs := s.regs, hub := s.hub, pins := s.pins } = s
     (∀ g, g < 32 → ∃ t, exec (.evStatusWrite m g v) s = .next t ∧ hubOnly t (Reg.EV_STATUS g) ∧
       t.reg (Reg.EV_STATUS g) = s.reg (Reg.EV_STATUS g) &&& ~~~v) ∧
     (∀ g, g < 32 → ∃ t, exec (.evEnableWrite m g v) s = .next t ∧ hubOnly t (Reg.EV_ENABLE g) ∧
       ∀ b < 32, (t.reg (Reg.EV_ENABLE g)).getLsbD b = (v.getLsbD b && evPresent s.chip (32 * g + b))) ∧
     (∀ src, src < 1024 → evPresent s.chip src = true → ∃ t, exec (.evRouteWrite m src v) s = .next t ∧
       hubOnly t (Reg.EV_ROUTE src) ∧ t.reg (Reg.EV_ROUTE src) = v &&& 0x73F) ∧
     (∀ src, src < 1024 → evPresent s.chip src = false → exec (.evRouteWrite m src v) s = .next s) ∧
     (∃ t, exec (.evSwRaise m v) s = .next t ∧ hubOnly t (Reg.EV_STATUS 31) ∧
       t.reg (Reg.EV_STATUS 31) = s.reg (Reg.EV_STATUS 31) ||| BitVec.twoPow 32 (v.toNat % 32)))

/-- R121, R173, R174: a pack or engine reset frees every context of its engines at the next turn boundary, which is at
once where no turn is in progress, and shows BUSY until it completes; ENG_WAKE sets EXT of a live context. -/
def Obligations.EngineAndPackResets : Prop :=
  ∀ (s : State) (m : Master) (v : Word) (p k : Nat), p < s.chip.packs → k < 16 →
    let e := p * 16 + k
    (CanWrite s m (Reg.PACK_RST p) → v.getLsbD 0 = true → s.flag (Reg.PACK_RST p) 1 = false →
      (∀ c, c / 128 = p → (s.ctx c).job = none) → (∀ n, n / 16 = p → (s.eng n).issue = none) → (∀ n, n / 16 = p → (s.eng n).fs0 = none ∧ (s.eng n).fs1 = none) →
      ∃ t, exec (.packRst m p v) s = .next t ∧ t.flag (Reg.PACK_RST p) 1 = true ∧
        (∀ c, c / 128 = p → (t.ctx c).live = false) ∧ t.mem = s.mem ∧ t.herd = s.herd) ∧
    ((∀ n, n / 16 = p → (s.eng n).due = []) →
      ∃ t, exec (.packRstComplete p) s = .next t ∧ t.flag (Reg.PACK_RST p) 1 = false ∧ { t with regs := s.regs } = s) ∧
    (CanWrite s m (Reg.ENG_RST p k) → v.getLsbD 0 = true → (s.eng e).rstBusy = false → (s.eng e).issue ≠ none →
      ∃ t, exec (.engRst m e v) s = .next t ∧ (∀ n, n ≠ e → t.eng n = s.eng n) ∧ { t with engs := s.engs } = s ∧
        t.eng e = { s.eng e with rstBusy := true, due := (s.eng e).due ++ [.reset] }) ∧
    ((s.eng e).issue = none → (s.eng e).due = [.reset] →
      (∀ c, c / 8 = e → (s.ctx c).job = none) → (s.eng e).fs0 = none → (s.eng e).fs1 = none →
      ∃ t, exec (.wheelTurn e) s = .next t ∧ (t.eng e).due = [] ∧ (t.eng e).slot = 0 ∧
        (∀ c, c / 8 = e → (t.ctx c).live = false) ∧ t.mem = s.mem ∧ t.herd = s.herd) ∧
    (CanWrite s m (Reg.ENG_RST p k) → v.getLsbD 0 = true → (s.eng e).rstBusy = false → (s.eng e).issue = none →
      (∀ c, c / 8 = e → (s.ctx c).job = none) → (s.eng e).fs0 = none → (s.eng e).fs1 = none →
      ∃ t, exec (.engRst m e v) s = .next t ∧ (t.eng e).rstBusy = true ∧ (t.eng e).issue = none ∧ (t.eng e).slot = 0 ∧
        (∀ c, c / 8 = e → (t.ctx c).live = false) ∧ t.mem = s.mem ∧ t.herd = s.herd) ∧
    ((s.eng e).due = [] → ∃ t, exec (.engRstComplete e) s = .next t ∧ t.eng e = { s.eng e with rstBusy := false } ∧
      (∀ n, n ≠ e → t.eng n = s.eng n) ∧ { t with engs := s.engs } = s) ∧
    (CanWrite s m (Reg.ENG_WAKE p k) → (s.ctx (e * 8 + v.toNat % 8)).live = true →
      ∃ t, exec (.engWake m e v) s = .next t ∧ (t.ctx (e * 8 + v.toNat % 8)).evFlags.getLsbD 16 = true ∧
        (t.eng e).watch = 0 ∧ (∀ c, c ≠ e * 8 + v.toNat % 8 → t.ctx c = s.ctx c) ∧
        { t with ctxs := s.ctxs, engs := s.engs } = s)

/-- R280, R282, R297: a definition of a table at rest is stored and takes READY and its bucket locks away; an accepted
INIT takes READY away and shows INIT_BUSY; EPV bits are set only on a READY table; the end of an INIT leaves every
slot of the table empty and READY set. The model's own choices in it: a write that sets EPV without READY is ignored
whole (log entry 29). -/
def Obligations.TableDefinitionInitAndEpv : Prop :=
  ∀ (s : State) (m : Master) (v : Word) (n : Nat), n < 64 →
    let ctrl := Reg.TBL_CTRL n
    let epv := s.fld ctrl 1 0
    let unlocked := s.look.locks.filter fun p => p.1 != n
    (∀ off ∈ [Reg.TBL_GEOM n, Reg.TBL_BASE_LO n, Reg.TBL_BASE_HI n, Reg.TBL_SEED_LO n, Reg.TBL_SEED_HI n],
      CanWrite s m off → ∀ r ix, findReg off = some (r, ix) →
      (epv = 0 → s.flag ctrl 4 = false →
        ∃ t, exec (.tblGeomWrite m off v) s = .next t ∧ t.reg off = r.next (s.reg off) v ∧ t.flag ctrl 3 = false ∧
          t.look.locks = unlocked ∧ t.mem = s.mem ∧ ∀ k, k ≠ off → k ≠ ctrl → t.reg k = s.reg k) ∧
      (epv ≠ 0 ∨ s.flag ctrl 4 = true → exec (.tblGeomWrite m off v) s = .next s)) ∧
    (CanWrite s m ctrl → v.getLsbD 2 = true → getF v 1 0 = 0 → s.tGeomOk n = true → s.tRegionOk n = true →
      ∃ t, exec (.tblInit m n v) s = .next t ∧ t.flag ctrl 3 = false ∧ t.flag ctrl 4 = true ∧
        t.fld ctrl 1 0 = 0 ∧ t.fld ctrl 31 16 = getF v 31 16 ∧ t.look.locks = unlocked ∧
        (∀ k, k ≠ ctrl → t.reg k = s.reg k) ∧ t.mem = s.mem) ∧
    (CanWrite s m ctrl → v.getLsbD 2 = false → s.flag ctrl 3 = true ∨ getF v 1 0 &&& (3 - epv) = 0 →
      ∃ t, exec (.tblEpvWrite m n v) s = .next t ∧ t.fld ctrl 1 0 = getF v 1 0 ∧ t.fld ctrl 31 16 = getF v 31 16 ∧
        t.flag ctrl 3 = s.flag ctrl 3 ∧ (∀ k, k ≠ ctrl → t.reg k = s.reg k) ∧ t.mem = s.mem) ∧
    (CanWrite s m ctrl → s.flag ctrl 3 = false → getF v 1 0 &&& (3 - epv) ≠ 0 →
      exec (.tblEpvWrite m n v) s = .next s) ∧
    (s.flag ctrl 4 = true → s.tFar n = false →
      ∃ t, exec (.tblInitDone n) s = .next t ∧ t.flag ctrl 4 = false ∧ t.flag ctrl 3 = true ∧
        t.fld (Reg.TBL_STAT n) 24 0 = 0 ∧ ∀ i < 2 ^ s.tSize n, t.mem.tblram.rd (s.tBase n + i * s.tSlot n) = 0)

/-- R283, R289, R294, R296, R297, R298: a visit of the aging scanner that is due moves on by one bucket and hands the work
to the update unit, which leaves a locked bucket alone and ages the valid slots of any other; a flush empties the
lookup cache and shows FLUSH until it is done. R180, R287, R289, R419: the update unit takes the oldest waiting
update, of a table in the table SRAM at once; a helper command's update is then done, with ERR 4 when its table is not
READY; uncorrectable data of a far table in the lookup cache ends it with ERR 3. The model's own choices in it: INIT
and flush end by commands of their own (log entry 42); how a reader of far tables fetches its lines (log entry 49). -/
def Obligations.TableAgingCacheAndUpdates : Prop :=
  (∀ (s : State) (m : Master) (v : Word) (n : Nat), n < 64 → s.running = true →
     let b := Tab.get 0 s.look.ageNext n
     (s.tReady n = true → s.ageDue n = true →
       ∃ t, exec (.agingVisit n) s = .next t ∧
         Tab.get 0 t.look.ageNext n = (if b + 1 < s.tBuckets n then b + 1 else 0) ∧
         t.help.updates = s.help.updates ++ [.aging n b (s.reg (Reg.TBL_POLICY n))] ∧
         { t with look := s.look, help := s.help } = s) ∧
     (s.ageDue n = false → exec (.agingVisit n) s = .next s) ∧
     (∀ d pol rest, s.help.updates = .aging n d pol :: rest → s.tReady n = true → s.tFar n = false → s.hub.flips = [] →
       ∃ t, exec (.updateUnitApply none) s = .next t ∧ t.help.updates = rest ∧ t.ctxs = s.ctxs ∧
         t.look.locks = s.look.locks ∧ (s.bLocked n d = true → t.mem = s.mem) ∧
         (s.bLocked n d = false → getF pol 23 16 = 0 → ∀ l k x, (s.bucket n d).1 = some l →
           l[k]? = some x → x.valid = true → x.good = true →
           t.mem.tblram.rd (s.tAddr n d k + 1) = B8 (min (x.age + 1) 255))) ∧
     (CanWrite s m Reg.TBL_CACHE_CTRL → v.getLsbD 0 = true →
       ∃ t, exec (.cacheFlush m v) s = .next t ∧ t.look.cache = [] ∧ t.flag Reg.TBL_CACHE_CTRL 0 = true ∧
         (∀ k, k ≠ Reg.TBL_CACHE_CTRL → t.reg k = s.reg k) ∧ t.mem = s.mem) ∧
     (∃ t, exec .cacheFlushDone s = .next t ∧ t.flag Reg.TBL_CACHE_CTRL 0 = false ∧ { t with regs := s.regs } = s)) ∧
  (∀ (s : State) (ue : Option Nat) (u : Update) (rest : List Update), s.running = true → s.help.updates = u :: rest →
     (∀ k pol, u = .op k pol → k < 4) → s.tFar (s.updTable u) = false ∨ ue ≠ none →
     ∃ t, exec (.updateUnitApply ue) s = .next t ∧ t.help.updates = rest ∧ t.ctxs = s.ctxs ∧
       ∀ id pol k, u = .helper id pol → s.help.cmds.find? (fun y => y.id == id) = some k →
         ∃ k' ∈ t.help.cmds, k'.id = id ∧ k'.stage = .done ∧
           (s.tFar (s.updTable u) = false → s.tReady (hSel k.word) = false → k'.err = 4 ∧ t.mem = s.mem) ∧
           (s.tFar (s.updTable u) = true → k'.err = 3 ∧ t.mem = s.mem))

/-- R289, R300 to R303: the ring whose turn it is serves its descriptor: a lock, an unlock and a READ of a table in the
table SRAM are over at once, an update once the update unit has applied it; STATUS and the returned fields are then
written back, CI advances and the turn passes. For rings in host memory. The model's own choices in it: host memory is
reached while bus mastering is on (log entry 12); one descriptor at a time (log entry 49). -/
def Obligations.TableDmaServesItsDescriptors : Prop :=
  ∀ (s : State) (r : Nat) (ue : Option Nat), s.running = true → r < 4 → s.ringDram r = false →
    let a := s.ringAt r
    let isOver := fun (t : State) (res : TRes) =>
      t.reg (Reg.TDMA_CI r) = s.reg (Reg.TDMA_CI r) + 1 ∧ t.look.ring = (r + 1) % 4 ∧ t.trun r = none ∧
        t.mem.host.rd (a + 3) = B8 res.status ∧ t.mem.host.bytes (a + 4) 4 = leBytes 4 res.bucket ∧
        t.mem.host.rd (a + 8) = B8 res.slot ∧ t.mem.host.rd (a + 9) = B8 res.age ∧ t.ctxs = s.ctxs
    (s.ringBusy = none → s.ringTurn r = true →
      let d := tdescOf (s.mem.host.bytes a 32)
      let n := s.bufKey d.table + s.tVlen d.table
      let x : TRun := ⟨false, .ready, d, Mem.put [] d.buf (s.mem.host.bytes d.buf n), false, false⟩
      (∀ p ∈ [(1, Instr.tdmaRead r none), (2, .tdmaInsert r none), (3, .tdmaDelete r none), (4, .writeSlot r ue),
          (5, .lockBucket r ue), (6, .unlockBucket r ue)], d.op = p.1 →
        (s.tReady d.table = false → ∃ t, exec p.2 s = .next t ∧ isOver t (d.ends 5) ∧ t.help = s.help) ∧
        (s.tReady d.table = true → p.1 = 4 → s.slotBad d = true → ∃ t, exec p.2 s = .next t ∧ isOver t (d.ends 5)) ∧
        (s.tReady d.table = true → p.1 = 2 ∨ p.1 = 3 ∨ (p.1 = 4 ∧ s.slotBad d = false) →
          ∃ t, exec p.2 s = .next t ∧ t.help.updates = s.help.updates ++ [.op r (s.reg (Reg.TBL_POLICY d.table))] ∧
            t.trun r = some { x with stage := .queued } ∧ t.mem = s.mem ∧ t.regs = s.regs ∧ t.ctxs = s.ctxs)) ∧
      (d.op = 0 ∨ 6 < d.op → ∃ t, exec (.tdmaRead r none) s = .next t ∧ isOver t (d.ends 5)) ∧
      (s.tReady d.table = true → d.bucket < s.tBuckets d.table →
        (d.op = 5 → s.bLocked d.table d.bucket = false → s.look.locks.length < 256 →
          ∃ t, exec (.lockBucket r ue) s = .next t ∧ isOver t (d.ends 1) ∧ t.look.locks = s.look.locks ++ [(d.table, d.bucket)]) ∧
        (d.op = 5 → s.bLocked d.table d.bucket = false → 256 ≤ s.look.locks.length →
          ∃ t, exec (.lockBucket r ue) s = .next t ∧ isOver t (d.ends 7) ∧ t.look.locks = s.look.locks) ∧
        (d.op = 6 → s.bLocked d.table d.bucket = true →
          ∃ t, exec (.unlockBucket r ue) s = .next t ∧ isOver t (d.ends 1) ∧
            t.look.locks = s.look.locks.erase (d.table, d.bucket)) ∧
        (d.op = 6 → s.bLocked d.table d.bucket = false →
          ∃ t, exec (.unlockBucket r ue) s = .next t ∧ isOver t (d.ends 2) ∧ t.look.locks = s.look.locks)) ∧
      (s.tReady d.table = true → d.op = 1 → s.tDirect d.table = false → s.tFar d.table = false →
        ∀ y, (s.lookup d.table (s.mem.host.bytes d.buf (s.tKlen d.table))).1 = .hit y →
          ∃ t, exec (.tdmaRead r none) s = .next t ∧ isOver t ⟨1, y.bucket, y.slot, y.age⟩)) ∧
    (∀ x pol rest, s.trun r = some x → x.stage = .queued → x.dram = false → s.help.updates = .op r pol :: rest →
      s.tFar x.desc.table = false →
      ∃ t, exec (.updateUnitApply none) s = .next t ∧ isOver t (s.tdmaUpdate x pol).1 ∧ t.help.updates = rest)

/-- R323, R325, R362, R366: a legal mode of a quad whose ports are disabled is stored, and one with an enabled port is
ignored; a meter that starts or changes its profile starts full; a port whose EN falls discards its queued outputs.
R344 to R346: GO starts a run and clears the results, or is ignored while one is in progress; the end of a run clears
BUSY and reports: END ends it well, a READ stores the PHY's answer, and one without an answer stores 0xFFFF and fails
the run. The model's own choices in it: the answers of a PHY are operands, and a missing one fails (log entry 31). -/
def Obligations.PortsMetersAndMdio : Prop :=
  (∀ (s : State) (m : Master) (v : Word),
     (∀ q, q < s.chip.quads → CanWrite s m (Reg.PORT_QUAD q) → s.minimal = false →
       let mode := v.toNat % 8
       let fec := v.toNat / 16 % 4
       fecOk mode fec = true → mode ≠ s.quadMode q ∨ fec ≠ s.fld (Reg.PORT_QUAD q) 5 4 →
       ((∀ n ∈ quadPorts q, s.flag (Reg.PORT_CFG n) 0 = false) → s.lflCount q mode ≤ s.chip.lflMax →
         s.budgetsOk q mode = true → s.quadMode q ≠ 7 → StoreEmpty s →
         exec (.portQuadWrite m q v) s = .next (s.setReg (Reg.PORT_QUAD q) (v &&& 0x37))) ∧
       ((∃ n ∈ quadPorts q, s.flag (Reg.PORT_CFG n) 0 = true) → exec (.portQuadWrite m q v) s = .next s)) ∧
     (∀ n, n < 65536 → CanWrite s m (Reg.MTR_CFG n) →
       let off := Reg.MTR_CFG n
       let p := v.toNat % 256
       let stored := s.setReg off ((s.reg off &&& ~~~0x1FF) ||| (v &&& 0x1FF))
       (v.getLsbD 8 = true → s.flag off 8 = false ∨ p ≠ s.fld off 7 0 →
         exec (.mtrCfgWrite m off v) s = .next (stored.setMeter n { s.meter n with
           tc := s.fld (Reg.MTR_CBS p) 23 0 * 256, tp := s.fld (Reg.MTR_PBS p) 23 0 * 256, last := s.fr })) ∧
       (v.getLsbD 8 = false ∨ (s.flag off 8 = true ∧ p = s.fld off 7 0) →
         exec (.mtrCfgWrite m off v) s = .next stored)) ∧
     (∀ n, n < 256 → s.portValid n = true → CanWrite s m (Reg.PORT_CFG n) → s.flag (Reg.PORT_CFG n) 0 = true →
       v.getLsbD 0 = false →
       ∃ t, exec (.portDisable m n v) s = .next t ∧ t.flag (Reg.PORT_CFG n) 0 = false ∧
         (n < 128 → t.mem = s.mem ∧ t.ctxs = s.ctxs ∧ t.tb = s.tb ∧
           ∀ x c, eqIndex n = some x → c < 8 → t.eq x c = []))) ∧
  (∀ (s : State) (m : Master) (v : Word) (i : Nat), i < 2 →
     let run := Reg.MDIO_RUN i
     (CanWrite s m run → v.getLsbD 16 = true → s.flag run 17 = false →
       ∃ t, exec (.mdioRun m i v) s = .next t ∧ t.flag run 17 = true ∧ t.fld run 8 0 = v.toNat % 512 ∧
         (∀ n, n < 32 → t.reg (Reg.MDIO_RES i n) = 0) ∧ Tab.get 0 t.ports.mdioFrom i = v.toNat % 512 ∧
         (∀ k, k ≠ run → (∀ n, n < 32 → k ≠ Reg.MDIO_RES i n) → t.reg k = s.reg k) ∧
         { t with regs := s.regs, ports := s.ports } = s) ∧
     (CanWrite s m run → v.getLsbD 16 = false ∨ s.flag run 17 = true →
       ∃ t, exec (.mdioRun m i v) s = .next t ∧ t.fld run 8 0 = v.toNat % 512 ∧ t.fld run 31 9 = s.fld run 31 9 ∧
         OnlyRegs s t [run]) ∧
     (∀ ans, s.flag run 17 = true →
       let k := Tab.get 0 s.ports.mdioFrom i
       let op := fun (n : Nat) => s.fld (Reg.MDIO_SCRIPT i (2 * n)) 3 0
       ∃ t, exec (.mdioRunDone i ans) s = .next t ∧ t.flag run 17 = false ∧
         (∀ k, k ≠ run → (∀ n, n < 32 → k ≠ Reg.MDIO_RES i n) → t.reg k = s.reg k) ∧
         { t with regs := s.regs, pins := s.pins } = s ∧
         (k < 512 → op k = 0 → t.flag run 18 = false ∧ t.fld run 29 24 = 0 ∧ t.pins = s.pins) ∧
         (k < 511 → op k = 2 → op (k + 1) = 0 → ∀ d rest, ans = some d :: rest →
           t.reg (Reg.MDIO_RES i 0) = d.setWidth 32 ∧ t.flag run 18 = false ∧ t.fld run 29 24 = 1) ∧
         (k < 512 → op k = 2 → ans.head? = none ∨ ans.head? = some none →
           t.reg (Reg.MDIO_RES i 0) = 0xFFFF ∧ t.flag run 18 = true ∧ t.fld run 29 24 = 1)))

/-- R398: loss of lock of the TBCLK PLL moves the Time base to the crystal; the lock alone does not move it back; a write
of SRC_RET does while the PLL has lock. R399, R401: GO with a value out of range sets ERR and moves nothing; another
GO is pending until the next cycle, and a write of a register of the move is ignored meanwhile. R408, R410 to R412:
SNAP and an edge of PPS_IN capture the free-running count and every domain time; a read of TXTS_HDR pops the oldest
transmit timestamp; the 1PPS output rises after a rollover and falls when its width is over. The model's own choices
in it: a GO applies at the next cycle of the clock (log entry 42). -/
def Obligations.TimeBaseClockDomainsAndCaptures : Prop :=
  (∀ (s : State) (m : Master) (v : Word),
     (∃ t, exec .tbclkLossOfLock s = .next t ∧ t.flag Reg.TB_STAT 1 = false ∧ t.flag Reg.TB_STAT 0 = true ∧
       (s.flag Reg.TB_STAT 0 = false → Raised t Ev.TB_CLK) ∧ RegsAndHub s t [Reg.TB_STAT, evReg Ev.TB_CLK]) ∧
     (∃ t, exec .tbclkLock s = .next t ∧ t.flag Reg.TB_STAT 1 = true ∧ t.flag Reg.TB_STAT 0 = s.flag Reg.TB_STAT 0 ∧
       OnlyRegs s t [Reg.TB_STAT]) ∧
     (CanWrite s m Reg.TB_STAT →
       (v.getLsbD 8 = true → s.flag Reg.TB_STAT 1 = true → s.flag Reg.TB_STAT 0 = true →
         ∃ t, exec (.srcRet m v) s = .next t ∧ t.flag Reg.TB_STAT 0 = false ∧ t.flag Reg.TB_STAT 1 = true ∧
           Raised t Ev.TB_CLK ∧ RegsAndHub s t [Reg.TB_STAT, evReg Ev.TB_CLK]) ∧
       (v.getLsbD 8 = false ∨ s.flag Reg.TB_STAT 1 = false ∨ s.flag Reg.TB_STAT 0 = false →
         exec (.srcRet m v) s = .next s))) ∧
  (∀ (s : State) (m : Master) (v : Word) (d : Nat), d < 4 →
     let ctrl := Reg.TB_ADJ_CTRL d
     let ns := s.reg (Reg.TB_ADJ_NS d)
     let sec := s.reg (Reg.TB_ADJ_SEC d)
     let inRange := fun (set : Bool) =>
       if set then ns.toNat ≤ 999999999 else -999999999 ≤ ns.toInt ∧ ns.toInt ≤ 999999999
     (∀ i ∈ [Instr.tbAdjStep m d v, .tbAdjSet m d v], CanWrite s m ctrl →
       (s.flag ctrl 17 = false → v.getLsbD 17 = true → inRange (v.getLsbD 16) →
         ∃ t, exec i s = .next t ∧ t.flag ctrl 17 = true ∧ t.flag ctrl 16 = v.getLsbD 16 ∧
           t.fld ctrl 15 0 = v.toNat % 65536 ∧ OnlyRegs s t [ctrl]) ∧
       (s.flag ctrl 17 = false → v.getLsbD 17 = true → ¬ inRange (v.getLsbD 16) →
         ∃ t, exec i s = .next t ∧ t.flag ctrl 17 = false ∧ t.flag ctrl 18 = true ∧ OnlyRegs s t [ctrl]) ∧
       (s.flag ctrl 17 = true → exec i s = .next s)) ∧
     (∀ off ∈ [Reg.TB_ADJ_SEC d, Reg.TB_ADJ_NS d], CanWrite s m off → s.flag ctrl 17 = true →
       exec (.registerWrite m off v) s = .next s) ∧
     (s.pending = [] → s.flag ctrl 17 = true → (∀ k, k < 4 → k ≠ d → s.flag (Reg.TB_ADJ_CTRL k) 17 = false) →
       let now := fun (k : Nat) => (s.domTime k).step (s.rate k)
       ∃ t, step s = .next t ∧ t.flag ctrl 17 = false ∧ Raised t Ev.TB_STEP ∧ t.mem = s.mem ∧ t.ctxs = s.ctxs ∧
         (∀ k, k < 4 → k ≠ d → t.domTime k = now k) ∧
         (s.flag ctrl 16 = false → ((t.domTime d).units : Int) =
           (((now d).units : Int) + (sec.toInt * 1000000000 + ns.toInt) * 2 ^ 40) % (2 ^ 88 * 1000000000)) ∧
         (s.flag ctrl 16 = true →
           t.domTime d = { sec := BitVec.ofNat 48 (s.fld ctrl 15 0 * 2 ^ 32 + sec.toNat), ns := ns.toNat, frac := 0 }))) ∧
  (∀ (s : State) (m : Master) (v : Word) (x : Nat),
     let shows := fun (t : State) (d ns lo hi : Nat) =>
       let y := s.domTime d
       t.reg ns = W y.ns ∧ t.reg lo = W y.sec.toNat ∧ t.reg hi = W (y.sec.toNat / 2 ^ 32 + y.frac.toNat / 2 ^ 32 * 2 ^ 24)
     (CanWrite s m Reg.TB_SNAP → v.getLsbD 0 = true →
       ∃ t, exec (.tbSnap m v) s = .next t ∧ t.reg Reg.TB_SNAP_FR_LO = W s.fr ∧
         t.reg Reg.TB_SNAP_FR_HI = W (s.fr / 2 ^ 32) ∧ { t with regs := s.regs } = s ∧
         ∀ d < 4, shows t d (Reg.TB_SNAP_NS d) (Reg.TB_SNAP_SEC_LO d) (Reg.TB_SNAP_SEC_HI d)) ∧
     (∃ t, exec .ppsInEdge s = .next t ∧ t.reg Reg.TB_PPS_FR_LO = W s.fr ∧ t.reg Reg.TB_PPS_FR_HI = W (s.fr / 2 ^ 32) ∧
       t.flag Reg.TB_PPS_CFG 30 = true ∧ (s.flag Reg.TB_PPS_CFG 30 = true → t.flag Reg.TB_PPS_CFG 31 = true) ∧
       Raised t Ev.TB_PPS ∧ { t with regs := s.regs, hub := s.hub, pins := s.pins } = s ∧
       ∀ d < 4, shows t d (Reg.TB_PPS_NS d) (Reg.TB_PPS_SEC_LO d) (Reg.TB_PPS_SEC_HI d)) ∧
     (x < 49 → s.portValid (eqPort x) = true → s.onBus m = true → s.readsClear m (Reg.TXTS_HDR x) = true →
       ((s.eport x).txts = [] → exec (.txtsHdrRead m x) s = .next { s with rdata := 0 }) ∧
       ∀ h y rest, (s.eport x).txts = (h, y) :: rest →
         ∃ t, exec (.txtsHdrRead m x) s = .next t ∧ t.rdata = W h ∧
           t.eport x = { s.eport x with txts := rest } ∧ (∀ k, k ≠ x → t.eport k = s.eport k) ∧
           t.reg (Reg.TXTS_NS x) = W y.ns ∧ t.reg (Reg.TXTS_SEC_LO x) = y.secLo ∧
           t.reg (Reg.TXTS_SEC_HI x) = y.secHi ∧ Tab.get 0 t.hiLatch (Reg.TXTS_SEC_HI x) = y.secHi ∧
           (∀ k, k ∉ [Reg.TXTS_NS x, Reg.TXTS_SEC_LO x, Reg.TXTS_SEC_HI x] → t.reg k = s.reg k) ∧
           { t with regs := s.regs, eports := s.eports, rdata := s.rdata, hiLatch := s.hiLatch } = s) ∧
     (s.tb.rolled = true → s.flag Reg.TB_PPS_CFG 0 = true → 0 < s.fld Reg.TB_PPS_CFG 27 8 →
       exec .ppsOut s = .next { s with pins := .pps true :: s.pins, tb := { s.tb with
         rolled := false, ppsHigh := true, ppsUntil := s.fr + s.fld Reg.TB_PPS_CFG 27 8 * 1000 } }) ∧
     (s.tb.ppsHigh = true → s.tb.ppsUntil ≤ s.fr →
       exec .ppsPulseEnd s = .next { s with pins := .pps false :: s.pins, tb := { s.tb with ppsHigh := false } }))

/-- R424, R432 to R434: TRAIN on a closed interface starts training and takes TRAINED away, and does nothing on an open
one; OPEN rises only on a trained interface; training ends with TRAINED when all four channels read the capacity that
CAP names, and with FAIL otherwise, every delay at its trained value. R423, R424, R433, R434: a refresh closes its
bank; write tracking, when its round has come to the channel, closes every bank, returns the predictors to 1 and
corrects the write delays; a read moves its read delay by one step; a delay that reaches its limit sets DRIFT; an idle
channel reads spare bytes as an elastic request. The model's own choices in it: what training finds and what a lane
senses are operands (log entries 43 and 49). -/
def Obligations.DramInterfacesRefreshAndTracking : Prop :=
  (∀ (s : State) (m : Master) (v : Word) (i : Nat), i < s.chip.ddrs →
     let r := Reg.DDR_CTRL i
     let only := fun (t : State) => (∀ k, k ≠ r → t.reg k = s.reg k) ∧ { t with regs := s.regs, dram := s.dram } = s ∧
       { t.dram with trackFrom := s.dram.trackFrom } = s.dram
     (CanWrite s m r → v.getLsbD 1 = true → v.toNat / 256 % 8 < 5 →
       (v.getLsbD 0 = false ∨ (s.flag r 0 = false ∧ s.flag r 2 = false) →
         ∃ t, exec (.train m i v) s = .next t ∧ t.flag r 1 = true ∧ t.flag r 2 = false ∧ t.flag r 0 = false ∧
           (s.flag r 0 = false → t.fld r 10 8 = v.toNat / 256 % 8 ∧ t.fld r 5 4 = v.toNat / 16 % 4) ∧ only t) ∧
       (v.getLsbD 0 = true → s.flag r 0 = true ∨ s.flag r 2 = true →
         ∃ t, exec (.train m i v) s = .next t ∧ t.flag r 1 = s.flag r 1 ∧ t.flag r 2 = s.flag r 2 ∧
           t.flag r 0 = true ∧ (s.flag r 0 = true → t.fld r 10 8 = s.fld r 10 8) ∧ only t)) ∧
     (CanWrite s m r → v.getLsbD 1 = false → v.toNat / 256 % 8 < 5 →
       ∃ t, exec (.ddrOpenWrite m i v) s = .next t ∧
         t.flag r 0 = (v.getLsbD 0 && (s.flag r 0 || s.flag r 2)) ∧ t.flag r 2 = s.flag r 2 ∧
         t.fld r 23 16 = v.toNat / 65536 % 256 ∧ (s.flag r 0 = true → t.fld r 10 8 = s.fld r 10 8) ∧ only t) ∧
     (∀ ok density, s.flag r 1 = true →
       let good := ok = true ∧ s.fld r 10 8 ≠ 0 ∧ density = List.replicate 4 (2 ^ s.fld r 10 8)
       (good → ∃ t, exec (.trainingDone i ok density) s = .next t ∧ t.flag r 1 = false ∧ t.flag r 2 = true ∧
         t.flag r 3 = false ∧ (∀ ch b, ch < 4 → (t.dch i ch).openRow = [] ∧ (t.dch i ch).predOf b = 1 ∧
           (t.dch i ch).readDelay = [] ∧ (t.dch i ch).writeDelay = [] ∧ (t.dch i ch).q = (s.dch i ch).q) ∧ (∀ k, k ≠ r → t.reg k = s.reg k) ∧ t.mem = s.mem) ∧
       (¬ good → ∃ t, exec (.trainingDone i ok density) s = .next t ∧ t.flag r 1 = false ∧ t.flag r 3 = true ∧
         t.flag r 2 = s.flag r 2 ∧ (∀ ch b, ch < 4 → (t.dch i ch).predOf b = 1 ∧ (t.dch i ch).q = (s.dch i ch).q) ∧
         (∀ k, k ≠ r → t.reg k = s.reg k) ∧ t.mem = s.mem))) ∧
  (∀ (s : State) (i ch : Nat),
     (∀ bank, ∃ t, exec (.refresh i ch bank) s = .next t ∧ (t.dch i ch).open_ bank = none ∧
       (∀ b, b ≠ bank → (t.dch i ch).open_ b = (s.dch i ch).open_ b) ∧ (t.dch i ch).q = (s.dch i ch).q ∧
       { t with dram := s.dram } = s) ∧
     (∀ d0 d1, s.trackDue i ch = true →
       let was := fun (l : Nat) => Tab.get 0 (s.dch i ch).writeDelay l
       let now := fun (l : Nat) => stepDelay (was l) (if l = 0 then d0 else d1)
       let limit := ∃ l < 2, now l ≠ was l ∧ (now l = 32 ∨ now l = -32)
       ∃ t, exec (.writeTracking i ch (d0, d1)) s = .next t ∧
         (∀ b, (t.dch i ch).open_ b = none ∧ (t.dch i ch).predOf b = 1) ∧ (t.dch i ch).q = (s.dch i ch).q ∧
         (∀ l < 2, Tab.get 0 (t.dch i ch).writeDelay l = now l) ∧ Tab.get 0 t.dram.trackCh i = (ch + 1) % 4 ∧
         (limit → t.flag (Reg.DDR_CTRL i) 24 = true ∧ Raised t Ev.DRAM_DRIFT) ∧ (¬ limit → t.regs = s.regs) ∧
         { t with regs := s.regs, dram := s.dram, hub := s.hub, pins := s.pins } = s) ∧
     (∀ d0 d1, s.trackDue i ch = false → exec (.writeTracking i ch (d0, d1)) s = .next s) ∧
     (∀ row, s.ddrInService i = true → (s.dch i ch).lastRead + 100000 ≤ s.fr → (s.dch i ch).q.all (·.write) = true →
       ∃ t q, exec (.idleTrackingRead i ch row) s = .next t ∧ (t.dch i ch).q = (s.dch i ch).q ++ [q] ∧ q.tclass = false ∧
         q.write = false ∧ q.dest = .idle ∧ q.phys % 2048 = 2016 ∧ { t with dram := s.dram } = s) ∧
     (∀ row, s.fr < (s.dch i ch).lastRead + 100000 → exec (.idleTrackingRead i ch row) s = .next s) ∧
     (∀ r sense, (s.dch i ch).q.find? (fun r => r.issued) = some r → r.dest = .idle → sense ≠ 0 →
       let was := Tab.get 0 (s.dch i ch).readDelay 0
       let now := stepDelay was (if 0 < sense then 1 else -1)
       ∃ t, exec (.dramReadComplete i ch ⟨[], sense, 0⟩) s = .next t ∧ t.mem = s.mem ∧ t.ctxs = s.ctxs ∧
         Tab.get 0 (t.dch i ch).readDelay 0 = (if Tab.get 0 (s.dch i ch).readMoved 0 ≤ s.fr then now else was) ∧
         (Tab.get 0 (s.dch i ch).readMoved 0 ≤ s.fr → now ≠ was → now = 32 ∨ now = -32 →
           t.flag (Reg.DDR_CTRL i) 24 = true ∧ Raised t Ev.DRAM_DRIFT)))

/-- R419, R422, R426, R428 to R430, R432: a regulated request waits while TOKENS is negative, else takes its bytes from
TOKENS and enters its channel queue, or is turned away where its interface is out of service; an issued write lands
but in an uncorrectable word that it writes in part, an issued read takes the data that stands there; a read that
returns leaves the queue and delivers; single-bit errors are corrected and counted; an uncorrectable word is logged
and fails the command. R431, R530: a read of a POP register returns VALID with the entries left, takes the oldest
entry and shows it; with an empty log it returns 0. The model's own choices in it: what the checker finds is an
operand (log entry 43); words counted and blocks logged (log entry 47); a waiting request that is refused (log entry
49). -/
def Obligations.DramRequestsAndErrorLogs : Prop :=
  (∀ (s : State) (i ch p : Nat),
     (∀ r rest, Tab.get [] s.dram.wait (i * 8 + p) = r :: rest →
       (s.regOn i p = true → s.tokens i p < 0 → exec (.regulatorEntry i p) s = .next s) ∧
       (s.regOn i p = false ∨ 0 ≤ s.tokens i p →
         (s.ddrInService i = true →
           let c := r.phys / 32768 % 4
           ∃ t, exec (.regulatorEntry i p) s = .next t ∧ Tab.get [] t.dram.wait (i * 8 + p) = rest ∧
             (t.dch i c).q = (s.dch i c).q ++ [r] ∧
             (s.regOn i p = true → Tab.get 0 t.dram.tokens (i * 8 + p) = s.tokens i p - (r.len * 1000 : Nat)) ∧
             (∀ k, k ≠ Reg.DDR_INORD_CNT i → t.reg k = s.reg k) ∧ { t with regs := s.regs, dram := s.dram } = s) ∧
         (s.ddrInService i = false →
           ∃ t, exec (.regulatorEntry i p) s = .next t ∧ Tab.get [] t.dram.wait (i * 8 + p) = rest ∧
             t.dram.ch = s.dram.ch ∧ t.mem = s.mem ∧ t.ctxs = s.ctxs))) ∧
     ((s.dch i ch).choose = none → ∀ found, exec (.dramRequestIssue i ⟨ch, found⟩) s = .next s) ∧
     (∀ r, (s.dch i ch).choose = some r →
       let n := r.data.length
       (r.write = true → (∀ w ∈ s.dram.poisoned ++ s.dram.single, cutsWord r.phys n w = false) →
         ∃ t, exec (.dramRequestIssue i ⟨ch, []⟩) s = .next t ∧ { t with dram := s.dram, mem := s.mem } = s ∧
           { t.mem with dram := s.mem.dram } = s.mem ∧ (∀ y ∈ (t.dch i ch).q, y.id ≠ r.id) ∧
           ∀ b, t.mem.dram.rd b =
             if r.phys ≤ b ∧ b < r.phys + n then r.data.getD (b - r.phys) 0 else s.mem.dram.rd b) ∧
       (r.write = true → ∀ w ∈ s.dram.poisoned, cutsWord r.phys n w = true → ∀ found,
         ∃ t, exec (.dramRequestIssue i ⟨ch, found⟩) s = .next t ∧ t.ctxs = s.ctxs ∧
           (∀ b, b / 8 = w → t.mem.dram.rd b = s.mem.dram.rd b) ∧
           (s.dram.log.length < 64 → t.dram.log.length = s.dram.log.length + 1) ∧
           ∀ id k, r.dest = .helper id → s.help.cmds.find? (fun y => y.id == id) = some k →
             ∃ k' ∈ t.help.cmds, k'.id = id ∧ k'.err = 3) ∧
       (r.write = false → ∀ found,
         ∃ t, exec (.dramRequestIssue i ⟨ch, found⟩) s = .next t ∧ { t with dram := s.dram } = s ∧
           ∃ y ∈ (t.dch i ch).q, y.id = r.id ∧ y.issued = true ∧ y.data = s.dramSeen r ∧
             ((∀ w ∈ s.dramWaiting, w.phys / 64 ≠ r.phys / 64) → y.data = s.mem.dram.bytes r.phys r.len))) ∧
     (∀ r id k, (s.dch i ch).q.find? (fun r => r.issued) = some r → r.dest = .helper id →
       s.help.cmds.find? (fun y => y.id == id) = some k →
       let left := fun (t : State) =>
         (t.dch i ch).q = (s.dch i ch).q.filter (fun y => y.id != r.id) ∧ t.mem = s.mem ∧ t.ctxs = s.ctxs
       (∀ found lane0 lane1, ∃ t, exec (.dramReadComplete i ch ⟨found, lane0, lane1⟩) s = .next t ∧ left t) ∧
       ((∀ w ∈ s.dram.poisoned ++ s.dram.single, w / 8 ≠ r.phys / 64) →
         (∃ t, exec (.dramReadComplete i ch ⟨[], 0, 0⟩) s = .next t ∧ left t ∧ t.regs = s.regs ∧
           ∃ k' ∈ t.help.cmds, k'.id = id ∧ k'.buf = k.buf.put r.addr r.data ∧ k'.err = k.err) ∧
         (∀ n, n < 8 → ∃ t, exec (.dramReadComplete i ch ⟨[(n, false)], 0, 0⟩) s = .next t ∧ left t ∧
           t.reg (Reg.DDR_CE_CNT i) = W (min (2 ^ 32 - 1) ((s.reg (Reg.DDR_CE_CNT i)).toNat + 1)) ∧
           ∃ k' ∈ t.help.cmds, k'.id = id ∧ k'.buf = k.buf.put r.addr r.data ∧ k'.err = k.err) ∧
         (∀ n, n < 8 → s.dramWaiting = [] → s.dram.log.length < 64 →
           ∃ t, exec (.dramReadComplete i ch ⟨[(n, true)], 0, 0⟩) s = .next t ∧ left t ∧
             t.dram.poisoned.contains (r.phys / 64 * 8 + n) = true ∧ t.dram.log.length = s.dram.log.length + 1 ∧
             ∃ k' ∈ t.help.cmds, k'.id = id ∧ k'.err = 3)))) ∧
  (∀ (s : State) (m : Master), s.onBus m = true →
     (s.readsClear m Reg.DDR_ERR_POP = true →
       (s.dram.log = [] → exec (.ddrErrPopRead m) s = .next { s with rdata := 0 }) ∧
       ∀ e rest, s.dram.log = e :: rest →
         ∃ t, exec (.ddrErrPopRead m) s = .next t ∧ t.rdata = W (rest.length + 2 ^ 31) ∧ t.dram.log = rest ∧
           t.reg Reg.DDR_ERR_ADDR = e.addr ∧ t.reg Reg.DDR_ERR_INFO = e.info ∧ t.reg Reg.DDR_ERR_TS = e.ts ∧
           (∀ k, k ∉ [Reg.DDR_ERR_ADDR, Reg.DDR_ERR_INFO, Reg.DDR_ERR_TS] → t.reg k = s.reg k) ∧
           { t with regs := s.regs, rdata := s.rdata, dram := s.dram } = s) ∧
     (s.readsClear m Reg.ERR_POP = true →
       (s.hub.errLog = [] → exec (.errPopRead m) s = .next { s with rdata := 0 }) ∧
       ∀ e rest, s.hub.errLog = e :: rest →
         ∃ t, exec (.errPopRead m) s = .next t ∧ t.rdata = W (rest.length + 2 ^ 31) ∧ t.hub.errLog = rest ∧
           t.reg Reg.ERR_ADDR = e.addr ∧ t.reg Reg.ERR_INFO = e.info ∧ t.reg Reg.ERR_TS = e.ts ∧
           (∀ k, k ∉ [Reg.ERR_ADDR, Reg.ERR_INFO, Reg.ERR_TS] → t.reg k = s.reg k) ∧
           { t with regs := s.regs, rdata := s.rdata, hub := s.hub } = s))

/-- R507 to R509, R513: DONE clears TRIES and makes MODE operational; FAIL stores its code in REASON and a self reset
follows 1 ms later, the first REASON of an attempt standing; KICK restarts the watchdog, whose expiry is REASON 4.
Minimal mode takes neither DONE nor FAIL. R501, R505 to R507, R510, R512: the start attempt: Minimal mode when TRIES
has reached its limit, REASON 8 and 3 for fuses and supplies, 0x0A with no copy in flash and 1 where none verifies,
the first copy that verifies is loaded with its SOURCE and SVN and the watchdog at 2 s, and the attempt ends, with the
Survey and the ports enabled, in operational mode. The steps at which the model's attempt waits are its own (NOTES,
R507). The model's own choices in it: DONE and FAIL do nothing in Minimal mode (log entry 17); where an attempt
pauses, its REASON and what firmware does in it (log entry 37). -/
def Obligations.BootControlAndStartAttempts : Prop :=
  (∀ (s : State) (m : Master) (v : Word),
     let soon := s.boot.resetAt.getD (s.fr + 1000000)
     let failed := fun (t : State) (r : Nat) =>
       t.fld Reg.SYS_BOOT_STATUS 7 0 = (if s.boot.failed then s.fld Reg.SYS_BOOT_STATUS 7 0 else r) ∧
         t.fld Reg.SYS_BOOT_STATUS 31 8 = s.fld Reg.SYS_BOOT_STATUS 31 8 ∧
         t.boot = { s.boot with resetAt := some soon, failed := true } ∧ (∀ k, k ≠ Reg.SYS_BOOT_STATUS → t.reg k = s.reg k) ∧
         { t with regs := s.regs, boot := s.boot } = s
     (CanWrite s m Reg.SYS_BOOT_CTRL → s.minimal = false →
       (v.getLsbD 0 = true → v.toNat / 256 % 256 = 0 →
         ∃ t, exec (.sysBootCtrlDone m v) s = .next t ∧ t.fld Reg.SYS_BOOT_TRIES 3 0 = 0 ∧ t.mode = 1 ∧
           t.fld Reg.SYS_BOOT_STATUS 7 0 = s.fld Reg.SYS_BOOT_STATUS 7 0 ∧
           OnlyRegs s t [Reg.SYS_BOOT_TRIES, Reg.SYS_BOOT_STATUS]) ∧
       (v.getLsbD 0 = false → v.toNat / 256 % 256 ≠ 0 →
         ∃ t, exec (.sysBootCtrlFail m v) s = .next t ∧ failed t (v.toNat / 256 % 256))) ∧
     (CanWrite s m Reg.SYS_BOOT_CTRL → s.minimal = true →
       exec (.sysBootCtrlDone m v) s = .next s ∧ exec (.sysBootCtrlFail m v) s = .next s) ∧
     (CanWrite s m Reg.SYS_WDOG → exec (.kick m v) s = .next { s.setReg Reg.SYS_WDOG (v &&& 0xFFFF) with
       boot := { s.boot with wdogAt := s.fr } }) ∧
     (0 < s.fld Reg.SYS_WDOG 15 0 → s.boot.wdogAt + s.fld Reg.SYS_WDOG 15 0 * 1000000 ≤ s.fr → s.minimal = false →
       s.boot.failed = false → ∃ t, exec .watchdogExpiry s = .next t ∧ failed t 4) ∧
     (s.fr < s.boot.wdogAt + s.fld Reg.SYS_WDOG 15 0 * 1000000 → exec .watchdogExpiry s = .next s)) ∧
  (∀ (s : State) (b : BootRun), s.mode = 0 → s.boot.resetAt = none → s.boot.romWait = false → s.boot.failed = false →
     let dram := ∃ i < s.chip.ddrs, 0 < b.ddrCap.getD i 0 ∧ b.ddrCap.getD i 0 < 8
     let railOut := ∃ n mv pm, SurveyRec.rail n (some mv) pm ∈ b.survey ∧ n < 8 ∧
       ¬ ((railRange s.vset n).1 ≤ mv ∧ mv ≤ (railRange s.vset n).2)
     let tries := s.fld Reg.SYS_BOOT_TRIES 3 0
     let limit := max 1 (s.fld Reg.SYS_BOOT_TRIES 11 8)
     let failed := fun (t : State) (r : Nat) => t.fld Reg.SYS_BOOT_STATUS 7 0 = r ∧ t.boot.resetAt = some (s.fr + 1000000) ∧
       t.mode = 0 ∧ t.mem = s.mem
     (s.boot.stage = 0 → limit ≤ tries →
       ∃ t, exec (.bootStart b) s = .next t ∧ t.mode = 2 ∧ Raised t Ev.BOOT_FALLBACK ∧ t.fld Reg.PACE_VDD 9 0 = 850 ∧
         Tab.get false t.ctl.keeperDown 1 = true ∧ t.fld Reg.SYS_BOOT_TRIES 3 0 = tries) ∧
     (s.boot.stage = 0 → tries < limit → s.chip.bootSel = 0 →
       (b.otpOk = false → ∃ t, exec (.bootStart b) s = .next t ∧ failed t 8 ∧ t.fld Reg.SYS_BOOT_TRIES 3 0 = tries + 1) ∧
       (b.otpOk = true → b.supplyOk = false →
         ∃ t, exec (.bootStart b) s = .next t ∧ failed t 3 ∧ t.fld Reg.SYS_BOOT_TRIES 3 0 = tries + 1) ∧
       (b.otpOk = true → b.supplyOk = true → (s.flashImage 0).ok = true → dram →
         ∃ t, exec (.bootStart b) s = .next t ∧ t.fld Reg.SYS_BOOT_STATUS 10 8 = 0 ∧
           t.fld Reg.SYS_BOOT_STATUS 31 16 = (s.flashImage 0).svn ∧ t.fld Reg.SYS_WDOG 15 0 = 2000 ∧
           t.boot.image = (s.flashImage 0).image ∧ t.boot.stage = 5) ∧
       (b.otpOk = true → b.supplyOk = true → (s.flashImage 0).ok = false → (s.flashImage 1).ok = true → dram →
         ∃ t, exec (.bootStart b) s = .next t ∧ t.fld Reg.SYS_BOOT_STATUS 10 8 = 1 ∧
           t.fld Reg.SYS_BOOT_STATUS 31 16 = (s.flashImage 1).svn ∧ t.fld Reg.SYS_WDOG 15 0 = 2000 ∧
           t.boot.image = (s.flashImage 1).image ∧ t.boot.stage = 5) ∧
       (b.otpOk = true → b.supplyOk = true → (s.flashImage 0).ok = false → (s.flashImage 1).ok = false →
         ∃ t, exec (.bootStart b) s = .next t ∧ t.fld Reg.SYS_BOOT_TRIES 3 0 = tries + 1 ∧
           t.fld Reg.SYS_BOOT_STATUS 10 8 = 1 ∧
           failed t (if (s.flashImage 0).there ∨ (s.flashImage 1).there then 1 else 0x0A))) ∧
     (s.boot.stage = 8 → s.fabConflict = false → s.fabDev.isSome = true →
       (¬ railOut → b.ports = [] →
         ∃ t, exec (.bootStart b) s = .next t ∧ t.mode = 1 ∧ t.fld Reg.SYS_BOOT_TRIES 3 0 = 0 ∧ t.boot.stage = 0 ∧
           t.boot.resetAt = none ∧ t.flag Reg.SYS_SURVEY 0 = true) ∧
       (¬ railOut → ∀ n, b.ports = [n] → n < 48 → s.portValid n = true → Tab.get false s.ctl.keeperDown 0 = false →
         ∃ t, exec (.bootStart b) s = .next t ∧ t.mode = 1 ∧ t.flag (Reg.PORT_CFG n) 0 = true) ∧
       (railOut → ∃ t, exec (.bootStart b) s = .next t ∧ failed t 3)) ∧
     (s.boot.stage = 8 → s.fabConflict = true → ∃ t, exec (.bootStart b) s = .next t ∧ failed t 7))

/-- R498 to R500: every reset clears the device but its DRAM, its flash and what lies outside it, samples the straps and
returns every register to its reset value; all but PORST_N keep TRIES, REASON, SOURCE and SVN. SYSRST_N during
start-up is REASON 9, unless the attempt had failed before. What DRAM and host memory hold through a reset is the
model's choice (log entry 24). R207, R463, R474, R525, R531: a lockstep mismatch stops its Keeper pair and breaks its
locks, and its restart is announced by pair 0; with the PCIe link the host pairs lose their blocks and replies and the
host its locks; the MSI-X conditions with the host's table decide which waiting messages go out; a FATAL error stops
the interior and cuts every frame short. The model's own choices in it: DRAM, flash, host memory, island and pins
survive a reset (log entry 24). -/
def Obligations.ResetsKeepersAndFatalErrors : Prop :=
  (∀ (s : State) (st : Straps),
     let cleared := fun (t : State) (kept : List Nat) =>
       t.ctxs = [] ∧ t.engs = [] ∧ t.herd = {} ∧ t.leash = {} ∧ t.hub = {} ∧ t.ctl.wh = [] ∧ t.disp = {} ∧ t.fr = 0 ∧
         t.mem.istore = [] ∧ t.mem.cells = [] ∧ t.mem.dram = s.mem.dram ∧ t.mem.flash = s.mem.flash ∧
         t.island = s.island ∧ t.pending = s.pending ∧ t.chip = { s.chip with bootSel := st.bootSel, fabId := st.fabId } ∧
         (∀ k, k ∉ Reg.FAB_STAT :: kept → t.reg k = resetAt t.chip k) ∧
         (t.fabDev = if t.chip.fabric = true ∧ st.fabId ≠ 15 then some st.fabId.toNat else none)
     let warm := fun (t : State) (reason : Nat) =>
       cleared t [Reg.SYS_BOOT_STATUS, Reg.SYS_BOOT_TRIES] ∧ t.reg Reg.SYS_BOOT_TRIES = s.reg Reg.SYS_BOOT_TRIES ∧
         t.mode = 0 ∧ t.fld Reg.SYS_BOOT_STATUS 7 0 = reason ∧
         t.fld Reg.SYS_BOOT_STATUS 10 8 = s.fld Reg.SYS_BOOT_STATUS 10 8 ∧
         t.fld Reg.SYS_BOOT_STATUS 31 16 = s.fld Reg.SYS_BOOT_STATUS 31 16
     (∃ t, exec (.porstN st) s = .next t ∧ cleared t []) ∧
     (∃ t, exec (.sysrstN st) s = .next t ∧ warm t (if s.mode = 0 ∧ s.boot.failed = false then 9 else s.fld Reg.SYS_BOOT_STATUS 7 0)) ∧
     (∀ n, s.boot.resetAt = some n → n ≤ s.fr →
       ∃ t, exec (.selfReset st) s = .next t ∧ warm t (s.fld Reg.SYS_BOOT_STATUS 7 0)) ∧
     (∀ n, s.boot.resetAt = some n → s.fr < n → exec (.selfReset st) s = .next s)) ∧
  (∀ (s : State),
     (∀ k, k < 2 → Tab.get false s.ctl.keeperDown k = false →
       ∃ t, exec (.keeperLockstepMismatch k) s = .next t ∧ Tab.get false t.ctl.keeperDown k = true ∧
         Raised t (Ev.KEEPER_LOCKSTEP k) ∧
         (∀ i, (s.lock i).owner = BitVec.ofNat 16 (0x2000 + k) → (s.lock i).queue = [] →
           t.lock i = { owner := 0, broken := true, prior := (s.lock i).owner, queue := [] }) ∧
         (∀ r, r ∉ [Reg.LEASH_BROKEN_CNT, evReg (Ev.KEEPER_LOCKSTEP k), evReg Ev.LEASH_BROKEN, Reg.SYS_EPOCH, Reg.SYS_SURVEY] →
           t.reg r = s.reg r) ∧ t.mem = s.mem ∧
         (k = 0 → t.ctl.accepted = [] ∧ ∀ h, Tab.get [] t.ctl.replyQ h = [])) ∧
     (∀ k, k < 2 → Tab.get false s.ctl.keeperDown k = true → s.minimal = false → s.hub.flips = [] →
       (∀ h < 4, (Tab.get [] s.ctl.replyQ h).length < 16) →
       ∃ t, exec (.keeperRestart k) s = .next t ∧ Tab.get false t.ctl.keeperDown k = false ∧
         { t with ctl := s.ctl } = s ∧
         ∀ h, Tab.get [] t.ctl.replyQ h = Tab.get [] s.ctl.replyQ h ++
           if k = 0 ∧ h < 4 then [[3, 1, 0, 0, 0, 0, 0, 0, 0, 0, 0, 0, 0, 0, 0, 0]] else []) ∧
     (∃ t, exec .pcieLinkDown s = .next t ∧ (∀ b < 8, t.whb b = {}) ∧ (∀ b, 8 ≤ b → t.whb b = s.whb b) ∧
       (∀ h, Tab.get [] t.ctl.replyQ h = []) ∧ t.mem = s.mem ∧
       (∀ i, (s.lock i).owner = 0x3000 → (s.lock i).queue = [] →
         t.lock i = { owner := 0, broken := true, prior := 0x3000, queue := [] }) ∧
       ((∀ i, (s.lock i).owner ≠ 0x3000 ∧ ∀ w ∈ (s.lock i).queue, w.id ≠ 0x3000) → { t with ctl := s.ctl } = s)) ∧
     (∀ en bm fm l tab, ∃ t, exec (.msixConditionsRestored en bm fm ⟨l, tab⟩) s = .next t ∧
       t.hub.msixEn = en ∧ t.hub.busMaster = bm ∧ t.hub.funcMask = fm ∧
       (∀ v < 64, v ∈ t.hub.vecMask ↔ v ∈ l) ∧
       (∀ v e, v < 64 → tab = [(v, e)] → Tab.get default t.hub.msixTab v = e) ∧ { t with hub := s.hub, pins := s.pins } = s ∧
       (∀ v, s.hub.msgWait = [v] → v < 64 →
         if en = true ∧ bm = true ∧ fm = false ∧ v ∉ l then
           t.hub.msgWait = [] ∧ t.pins = (if s.vecPending v then [PinEvent.msix v] else []) ++ s.pins
         else t.hub.msgWait = [v] ∧ t.pins = s.pins)) ∧
     (∀ mem inst addr, ∃ t, exec (.fatalError mem inst addr) s = .next t ∧ t.running = false ∧ Raised t Ev.FATAL ∧
       t.flag Reg.ERR_STAT 8 = true ∧ (∀ x, (t.eport x).sending = none) ∧
       t.reg Reg.ERR_UE_CNT = W (satInc 32 (s.reg Reg.ERR_UE_CNT).toNat) ∧
       (∀ k, k ∉ [Reg.ERR_UE_CNT, Reg.ERR_STAT, evReg Ev.FATAL] → t.reg k = s.reg k) ∧
       t.ctxs = s.ctxs ∧ t.mem = s.mem ∧ t.herd = s.herd ∧
       (s.hub.errLog.length < 16 → t.hub.errLog =
         s.hub.errLog ++ [⟨W addr, W (mem + 2 * 16 + inst * 256), W s.fr⟩])))

/-- R43 to R66, R81: at a window boundary, once, every present pack reports its canary and a new window opens; with the
governor on the count of windows rises, a manual voltage is taken within its limits, an automatic one stays within
them, a fault holds it, and HOLD stands only on a clean window of a calibrated governor without MANUAL. A sampled turn
over the ceiling counts in the window and ends HOLD at once. R50 to R53, R80: a Write Vout that is due goes out to the
selected rail with its commit; a Read Vout shows what it read; each at most once in a window; two failures in a row,
or a settled reading more than 15 mV off, declare a fault, and a near reading clears one. The model's own choices in
it: the order inside a window end (log entry 15), and the measurements as operands (log entry 48). -/
def Obligations.PaceWindowsAndAvsTransactions : Prop :=
  (∀ (s : State) (x : PaceMeas) (p ps : Nat),
     let cause := fun (t : State) => t.fld Reg.PACE_STATUS 15 12
     let opened := fun (t : State) =>
       t.pace.win = s.fr / 10000 ∧ t.pace.created = s.pace.made ∧ t.pace.made = 0 ∧ t.pace.liveMax = [] ∧
         t.pace.samples = [] ∧ ∀ q < s.chip.packs, canaryPs x q < 4096 → t.fld (Reg.PACE_PK_CANARY q) 11 0 = canaryPs x q
     (s.fr % 10000 ≠ 0 ∨ s.fr / 10000 ≤ s.pace.win → exec (.paceWindowEnd x) s = .next s) ∧
     (s.fr % 10000 = 0 → s.pace.win < s.fr / 10000 → s.paceRuns = false →
       ∃ t, exec (.paceWindowEnd x) s = .next t ∧ opened t ∧
         (∀ k, (∀ q < s.chip.packs, k ≠ Reg.PACE_PK_CANARY q ∧ k ≠ Reg.PACE_PK_LIVE q) → t.reg k = s.reg k) ∧
         { t with regs := s.regs, pace := s.pace, freeCtr := s.freeCtr } = s) ∧
     (s.fr % 10000 = 0 → s.pace.win < s.fr / 10000 → s.paceRuns = true →
       ∃ t, exec (.paceWindowEnd x) s = .next t ∧ opened t ∧ t.reg Reg.PACE_WIN_CNT = s.reg Reg.PACE_WIN_CNT + 1 ∧
         { t with regs := s.regs, pace := s.pace, hub := s.hub, pins := s.pins, freeCtr := s.freeCtr } = s ∧
         (s.avsFault = true → t.vset = s.vset) ∧
         (s.avsFault = false → s.pace.cleared = false →
           (s.paceManual = true → t.hold = false ∧ cause t = 7 ∧
             t.vset = min (max (s.fld Reg.PACE_CTRL 17 8) s.vmin) s.vmax / 5 * 5) ∧
           (s.paceManual = false → s.vmin ≤ s.vmax → s.vmin ≤ t.vset ∧ t.vset ≤ s.vmax)) ∧
         (t.hold = true → s.paceManual = false ∧ t.avsFault = false ∧ t.pace.predOver = false ∧ t.pace.turnOver = false ∧
           t.flag Reg.PACE_STATUS 1 = true)) ∧
     (p < s.chip.packs →
       (Tab.get 0 s.pace.rotAt p + 1000 ≤ s.fr →
         ∃ t, exec (.samplerRotate p) s = .next t ∧ Tab.get 0 t.pace.sampler p = (Tab.get 0 s.pace.sampler p + 1) % 16 ∧
           Tab.get 0 t.pace.rotAt p = s.fr ∧
           (∀ k, k ≠ p → Tab.get 0 t.pace.sampler k = Tab.get 0 s.pace.sampler k) ∧ { t with pace := s.pace } = s) ∧
       (s.fr < Tab.get 0 s.pace.rotAt p + 1000 → exec (.samplerRotate p) s = .next s)) ∧
     (p < s.chip.packs → s.turnCeil < ps →
       ∃ t, exec (.sampledTurnOverCeil p ps) s = .next t ∧
         Tab.get 0 t.pace.liveMax p = max (Tab.get 0 s.pace.liveMax p) ps ∧ t.vset = s.vset ∧
         (s.paceRuns = true → t.hold = false ∧ t.pace.turnOver = true) ∧ (s.paceRuns = false → { t with pace := s.pace } = s) ∧
         { t with regs := s.regs, pace := s.pace, hub := s.hub, pins := s.pins } = s) ∧
     (ps ≤ s.turnCeil → exec (.sampledTurnOverCeil p ps) s = .next s)) ∧
  (∀ (s : State) (mv : Nat),
     let now := s.fr / 10000 + 1
     let rail := s.fld Reg.PACE_AVS 3 0
     let faulted := fun (t : State) => t.avsFault = true ∧
       t.fld Reg.PACE_AVS 23 16 = satInc 8 (s.fld Reg.PACE_AVS 23 16) ∧
       { t with regs := s.regs, pace := s.pace, hub := s.hub, pins := s.pins } = s
     let near := mv ≤ s.vset + 15 ∧ s.vset ≤ mv + 15
     (s.pace.writeDue = true → s.paceEn = true → s.avsFault = false → s.pace.writeWin ≠ now →
       exec (.avsWriteVout true) s = .next { s with
         pins := .avsWrite rail s.vset :: s.pins
         pace := { s.pace with writeDue := false, writeWin := now, lastCommit := some s.fr, avsFails := 0 } } ∧
       (0 < s.pace.avsFails → ∃ t, exec (.avsWriteVout false) s = .next t ∧ faulted t ∧ t.pace.writeDue = false)) ∧
     (s.pace.writeDue = false ∨ s.pace.writeWin = now → ∀ ok, exec (.avsWriteVout ok) s = .next s) ∧
     (s.pace.readWin = now → ∀ ok, exec (.avsReadVout ok mv) s = .next s) ∧
     (s.paceEn = true → mv < 1024 → s.pace.readWin ≠ now →
       (s.avsFault = false → near →
         exec (.avsReadVout true mv) s = .next { s.setFld Reg.PACE_VDD 25 16 mv with
           pins := .avsRead rail :: s.pins, pace := { s.pace with readWin := now, avsFails := 0 } }) ∧
       (s.avsFault = false → ¬ near → (∀ n, s.pace.lastCommit = some n → n + 8000 < s.fr) →
         ∃ t, exec (.avsReadVout true mv) s = .next t ∧ faulted t ∧ t.fld Reg.PACE_VDD 25 16 = mv) ∧
       (s.avsFault = true → near →
         ∃ t, exec (.avsReadVout true mv) s = .next t ∧ t.avsFault = false ∧ t.pace.cleared = true ∧
           t.pace.avsFails = 0 ∧ t.fld Reg.PACE_VDD 25 16 = mv) ∧
       (s.avsFault = false → 0 < s.pace.avsFails → ∃ t, exec (.avsReadVout false mv) s = .next t ∧ faulted t)))

/-- R55, R59, R60, R63 to R65, R68, R70: EN starts at 850 mV within the limits with the fused ratios and no calibration;
clearing it holds the voltage and ends HOLD, as MANUAL does; a legal change of the turn ceiling ends HOLD, an illegal
value is ignored. The model's own choices in it: the cause of R56 with the write (log entry 15). -/
def Obligations.PaceControlWrites : Prop :=
  ∀ (s : State) (m : Master) (v : Word), s.minimal = false →
    let ctrl := Reg.PACE_CTRL
    let kept := fun (t : State) (l : List Nat) =>
      (∀ k, k ∉ l ++ [Reg.PACE_STATUS, Reg.PACE_HOLD_DROPS, Reg.PACE_LAST_DROP_LO, Reg.PACE_LAST_DROP_HI,
        evReg Ev.PACE_LIMIT] → t.reg k = s.reg k) ∧
      { t with regs := s.regs, pace := s.pace, hub := s.hub, pins := s.pins } = s
    (CanWrite s m ctrl →
      (s.paceEn = false → v.getLsbD 0 = true →
        ∃ t, exec (.paceEnable m v) s = .next t ∧ t.reg ctrl = v &&& 0x3FF07 ∧ t.hold = false ∧
          t.vset = min (max 850 s.vmin) s.vmax ∧ t.pace.writeDue = true ∧ t.pace.rearm = 0 ∧ t.reg Reg.PACE_WIN_CNT = 0 ∧
          (∀ p, p < s.chip.packs → t.reg (Reg.PACE_PK_RATIO p) = s.reg Reg.PACE_FUSE_RATIO ∧
            t.reg (Reg.PACE_PK_CAL p) = 0) ∧ t.flag Reg.PACE_STATUS 1 = false ∧
          { t with regs := s.regs, pace := s.pace, hub := s.hub, pins := s.pins } = s) ∧
      (s.paceEn = true → v.getLsbD 0 = false →
        ∃ t, exec (.paceDisable m v) s = .next t ∧ t.paceEn = false ∧ t.hold = false ∧ t.vset = s.vset ∧
          t.pace.rearm = 0 ∧ (∀ p, p < s.chip.packs → t.reg (Reg.PACE_PK_CAL p) = 0) ∧
          t.flag Reg.PACE_STATUS 1 = false ∧ t.fld Reg.PACE_STATUS 19 16 = 0 ∧
          { t with regs := s.regs, pace := s.pace, hub := s.hub, pins := s.pins } = s) ∧
      (s.paceEn = true → v.getLsbD 0 = true → v.getLsbD 2 = true →
        ∃ t, exec (.paceManualSet m v) s = .next t ∧ t.reg ctrl = v &&& 0x3FF07 ∧ t.hold = false ∧
          t.fld Reg.PACE_STATUS 15 12 = 7 ∧ kept t [ctrl]) ∧
      (s.paceEn = true → v.getLsbD 0 = true → v.getLsbD 2 = false →
        ∃ t, exec (.paceManualClear m v) s = .next t ∧ t.reg ctrl = v &&& 0x3FF07 ∧ (t.hold = true → s.hold = true) ∧
          kept t [ctrl])) ∧
    (CanWrite s m Reg.PACE_TURN_CEIL →
      let c := v.toNat % 4096
      (550 ≤ c → c ≤ 1200 → c ≠ s.turnCeil →
        ∃ t, exec (.turnCeilWrite m v) s = .next t ∧ t.reg Reg.PACE_TURN_CEIL = W c ∧ t.pace.ceilChanged = true ∧
          t.pace.rearm = 0 ∧ t.hold = false ∧ kept t [Reg.PACE_TURN_CEIL]) ∧
      (c < 550 ∨ 1200 < c ∨ c = s.turnCeil → exec (.turnCeilWrite m v) s = .next s))

/-- R532 to R534: a session is attached and detached, which breaks the debugger's locks; HALT halts every live context in
its scope and raises EV_DBG_HALT, RESUME lets the stopped ones go on, STEP lets the selected one run one instruction,
ABORT frees them; each acts on an engine at its next turn boundary, at once where no turn is in progress; a command
whose scope holds no live context reports ERR 1. R532, R535, R539, R560: the debugger reads and writes the registers
of a stopped context, of a running one it gets 0 and ERR 2; it reaches the register map past FW_OWN; SYS_GPIO_IN shows
the pins and the driven outputs. The model's own choices in it: the PC of a waiting context and the written bytes of a
job buffer (log entry 18). -/
def Obligations.DebuggerControlsAndReads : Prop :=
  (∀ (s : State) (m : Master) (v : Word), CanWrite s m Reg.DBG_CMD → CanWrite s m Reg.DBG_SESSION →
     let c := s.dbgCtx
     let x := s.ctx c
     let scope := v.toNat / 16 % 4
     let within := fun (k : Nat) => (scope = 0 ∧ k = c) ∨ (scope = 1 ∧ k / 8 = c / 8) ∨ (scope = 2 ∧ k / 128 = c / 128) ∨ scope = 3
     let here := scope = 3 ∨ s.dbgHere = true
     let some := ∃ k, within k ∧ (s.ctx k).live = true
     (v.getLsbD 0 = true → exec (.dbgSessionAttach m v) s = .next (s.setReg Reg.DBG_SESSION 1)) ∧
     (∀ trst, v.getLsbD 0 = false →
       ∃ t, exec (.dbgSessionDetach m v trst) s = .next t ∧ t.reg Reg.DBG_SESSION = 0 ∧ t.mem = s.mem ∧
         ∀ i, (s.lock i).owner = 0x5000 → (s.lock i).queue = [] →
           t.lock i = { owner := 0, broken := true, prior := 0x5000, queue := [] }) ∧
     let idle := ∀ k, within k → (s.eng (engOf k)).issue = none
     (v.toNat % 8 = 1 → here → some → idle →
       ∃ t, exec (.halt m v) s = .next t ∧ Raised t Ev.DBG_HALT ∧
         (∀ k, within k → (s.ctx k).live = true → t.ctx k = { s.ctx k with halted := true }) ∧
         (∀ k, ¬ within k → t.ctx k = s.ctx k) ∧ RegsAndHub { s with ctxs := t.ctxs } t [evReg Ev.DBG_HALT]) ∧
     (v.toNat % 8 = 2 → here → some → idle → (∀ k w d b, (s.ctx k).wait ≠ .landing w d b) →
       ∃ t, exec (.resume m v) s = .next t ∧
         (∀ k, within k → (s.ctx k).live = true → t.ctx k = if (s.ctx k).halted || (s.ctx k).frozen then
           { s.ctx k with halted := false, frozen := false, stepping := false, stepWait := false, atBrk := false }
           else s.ctx k) ∧
         (∀ k, ¬ within k → t.ctx k = s.ctx k) ∧ { t with ctxs := s.ctxs } = s) ∧
     (v.toNat % 8 = 3 → scope = 0 → s.dbgHere = true → x.live = true → idle →
       ((x.halted || x.frozen) = true → x.wait = .none →
         exec (.step m v) s = .next (s.setCtx c
           { x with halted := false, frozen := false, atBrk := false, stepping := true })) ∧
       ((x.halted || x.frozen) = false →
         exec (.step m v) s = .next { s with hub := { s.hub with dbgErr := 2 } })) ∧
     (v.toNat % 8 = 4 → here → some → idle →
       ∃ t, exec (.abortDbg m v) s = .next t ∧ (∀ k, within k → (s.ctx k).live = true → (t.ctx k).live = false) ∧
         t.tb = s.tb ∧ t.mem.dram = s.mem.dram) ∧
     (∀ op i, (op, i) ∈ [(1, Instr.halt m v), (2, .resume m v), (3, .step m v), (4, .abortDbg m v)] → v.toNat % 8 = op →
       scope = 0 → s.dbgHere = true → x.live = true → (s.eng (engOf c)).issue ≠ none →
       ∃ t, exec i s = .next t ∧
         t.eng (engOf c) = { s.eng (engOf c) with due := (s.eng (engOf c)).due ++ [.debug op [c]] } ∧
         (∀ e, e ≠ engOf c → t.eng e = s.eng e) ∧ { t with engs := s.engs } = s) ∧
     (1 ≤ v.toNat % 8 → v.toNat % 8 ≤ 4 → here → (∀ p ∈ s.ctxs, p.2.live = false) →
       ∀ i ∈ [Instr.halt m v, .resume m v, .step m v, .abortDbg m v],
         exec i s = .next { s with hub := { s.hub with dbgErr := 1 } })) ∧
  (∀ (s : State) (m : Master) (v : Word) (n : Nat),
     let c := s.dbgCtx
     let x := s.ctx c
     (CanWrite s m (Reg.DBG_REG n) → s.dbgHere = true →
       (n < 16 → (x.halted || x.frozen) = true →
         exec (.dbgRegAccess m n true v) s = .next (s.setCtx c { x with g := Tab.set 0 x.g n v }) ∧
         exec (.dbgRegAccess m n false v) s = .next { s with rdata := Tab.get 0 x.g n }) ∧
       (n < 24 → (x.halted || x.frozen) = false →
         exec (.dbgRegAccess m n true v) s = .next { s with hub := { s.hub with dbgErr := 2 } } ∧
         exec (.dbgRegAccess m n false v) s = .next { s with rdata := 0, hub := { s.hub with dbgErr := 2 } }) ∧
       (64 ≤ n → n < 72 →
         exec (.dbgRegAccess m n true v) s = .next (s.setEng (c / 8)
           { s.eng (c / 8) with s := Tab.set 0 (s.eng (c / 8)).s (n - 64) v }) ∧
         exec (.dbgRegAccess m n false v) s = .next { s with rdata := Tab.get 0 (s.eng (c / 8)).s (n - 64) })) ∧
     exec (.dbgacc Reg.HERD_TMO true v) s =
       .next (s.setReg Reg.HERD_TMO ((s.reg Reg.HERD_TMO &&& ~~~0xFFFFF) ||| (v &&& 0xFFFFF))) ∧
     exec (.dbgacc Reg.HERD_TMO false v) s = .next { s with rdata := s.reg Reg.HERD_TMO } ∧
     ∀ l : BitVec 16, ∃ t, exec (.gpioInputChange l) s = .next t ∧ OnlyRegs s t [Reg.SYS_GPIO_IN] ∧
       let oe := s.reg Reg.SYS_GPIO_OE
       exec (.dbgacc Reg.SYS_GPIO_IN false v) t =
         .next { t with rdata := (s.reg Reg.SYS_GPIO_OUT &&& oe) ||| (l.setWidth 32 &&& ~~~oe) })

/-- R24, R27, R28, R329 to R331, R336, R347: a good frame is classified by its port's profile and joins the FIFO of its
class, or is counted where it does not fit; a bad one is only counted, one at a disabled port has no effect, an
in-band command goes to the Keepers; in Strict mode a frame without a SecTAG or one that fails its check is dropped
and counted, and what a valid one carries joins; a CAN frame joins as its record, and an error on the bus counts. For
profiles without a key action, with no frame of the port waiting at step 2. The model's own choices in it: the SecTAG
and its checks as IEEE 802.1AE has them (log entry 22); drops that no register counts (log entry 13). -/
def Obligations.ReceivedFramesJoinTheirFifo : Prop :=
  ∀ (s : State),
    let joins := fun (t : State) (port : Nat) (b : List Byte) =>
      let e := s.ing
      let k := s.profile port
      let p := parseOf (s.portKind port = .can) b
      let h := flowHash (s.reg (Reg.CLS_PSEED e k)) (s.flowKey e k port p b)
      let c := s.srcClass e k p b
      (s.fifoFits port c b.length = true →
        ∃ f, t.fifo port c = s.fifo port c ++ [f] ∧ f.bytes = b ∧ f.port = port ∧ f.cls = c ∧ f.epoch = e ∧ f.hash = h ∧
          f.od = s.hashOd e k h ∧ f.color = 0 ∧ f.fab = false ∧ (∀ d, d ≠ c → d < 8 → t.fifo port d = s.fifo port d) ∧
          t.mem = s.mem ∧ t.herd = s.herd) ∧
      (s.fifoFits port c b.length = false →
        t.reg (Reg.PORT_IDROP port c) = W (satInc 32 (s.reg (Reg.PORT_IDROP port c)).toNat) ∧
          (∀ d, t.fifo port d = s.fifo port d) ∧ t.mem = s.mem ∧ t.herd = s.herd)
    (∀ r : RxFrame, s.running = true →
      let k := s.portKind r.port
      let good := r.fcsOk = true ∧ 60 ≤ r.bytes.length ∧ r.bytes.length ≤ 9596
      k = .eth ∨ k = .mgmt →
      (s.portOn r.port = false → exec (.frameReceive r) s = .next s) ∧
      (s.portOn r.port = true → ¬ good → exec (.frameReceive r) s = .next (s.dropped .badFrame r.port)) ∧
      (s.portOn r.port = true → good → s.inBandFrame r.port r.bytes = true →
        exec (.frameReceive r) s = .next { s with ctl := { s.ctl with inBand := s.ctl.inBand ++ [r.bytes] } }) ∧
      (s.portOn r.port = true → good → s.inBandFrame r.port r.bytes = false → be16 r.bytes 12 ≠ 0x8808 →
        s.flag (Reg.CLS_PCTL s.ing (s.profile r.port)) 26 = false →
        let y := s.secy r.port
        let secured := s.chip.crypto = true ∧ r.port < 48
        let fails := exec (.frameReceive r) s = .next (s.setSecy r.port { y with dropped := y.dropped + 1 })
        s.stepTwoQ r.port = [] →
        (¬ secured ∨ (y.strict = false ∧ s.rxScs r.port = []) →
          ∃ t, exec (.frameReceive r) s = .next t ∧ joins t r.port r.bytes) ∧
        (secured → y.strict = true →
          (be16 r.bytes 12 ≠ 0x88E5 → fails) ∧
          (be16 r.bytes 12 = 0x88E5 → secTag y.xpn r.bytes = none → fails) ∧
          (∀ tag, be16 r.bytes 12 = 0x88E5 → secTag y.xpn r.bytes = some tag →
            (s.rxScOf r.port tag r.bytes = none → fails) ∧
            (∀ i sc, s.rxScOf r.port tag r.bytes = some (i, sc) →
              let a := s.sa (saRx i tag.an)
              let pn := tag.fullPn y a
              let late := y.replay = true ∧ pn + y.window < a.pn
              (a.en = false ∨ late ∨ tag.unlock y a sc.sci.toNat pn r.bytes = none → fails) ∧
              (∀ u, a.en = true → ¬ late → tag.unlock y a sc.sci.toNat pn r.bytes = some u →
                ∃ t, exec (.frameReceive r) s = .next t ∧ joins t r.port (r.bytes.take 12 ++ u) ∧
                  t.sa (saRx i tag.an) = { a with pn := max a.pn (pn + 1) })))))) ∧
    (∀ (n : Nat) (r : CanRec), s.running = true → s.canActive n = true →
      (∃ t, exec (.canFrameReceive n r false) s = .next t ∧
        t.reg (Reg.CAN_RX_ERR n) = W (satInc 32 (s.reg (Reg.CAN_RX_ERR n)).toNat) ∧
        t.fld (Reg.CAN_STAT n) 15 9 = min (min (s.canRec n + 1) 128) 127 ∧
        (∀ k, k ∉ [Reg.CAN_RX_ERR n, Reg.CAN_STAT n] → t.reg k = s.reg k) ∧
        { t with regs := s.regs, ports := s.ports } = s) ∧
      (s.flag (Reg.PORT_CFG (64 + n)) 0 = true → canFlag r.flags 3 = false → canFlag r.flags 6 = false →
        s.stepTwoQ (64 + n) = [] → s.flag (Reg.CLS_PCTL s.ing (s.profile (64 + n))) 26 = false →
        ∃ t, exec (.canFrameReceive n r true) s = .next t ∧ joins t (64 + n) (canRecord r (s.domTime 0))))

/-- R66, R240, R256, R257, R270, R313: the frame at the head of a FIFO becomes a job with the next sequence number of its
domain, in cells of its pool, at the tail of its queue; a pool without cells drops it, back-pressure holds it, and a
full window holds it and is counted once. -/
def Obligations.AdmittedFramesBecomeJobs : Prop :=
  ∀ (s : State) (port c : Nat) (f : IFrame) (rest : List IFrame), s.running = true → port < 128 →
    s.fifo port c = f :: rest →
    let q := s.frameQueue f
    let n := unitsOf f.bytes.length
    let may := s.queueAdmits q = true ∧ ((s.classMap f.epoch f.cls).2 = true ∨ s.throttleRoom = true)
    (s.window f.od ≠ 8192 → may → ∀ h, (s.knAlloc f.pool n).1 = some h →
      ∃ t, exec (.frameAdmit port c) s = .next t ∧ t.fifo port c = rest ∧ t.herd.nextJob = s.herd.nextJob + 1 ∧
        t.dq q = s.dq q ++ [s.herd.nextJob] ∧ (t.od f.od).next = (s.od f.od).next + 1 ∧
        (∀ d, d ≠ f.od → t.od d = s.od d) ∧
        t.job s.herd.nextJob = { s.frameJob f h with
          place := .queue q, shard := q / 8, enqNs := s.fr % 2 ^ 32, enqAt := s.fr } ∧
        t.fld (epochCnt f.epoch) 17 0 = (s.fld (epochCnt f.epoch) 17 0 + 1) % 2 ^ 18 ∧
        t.ctxs = s.ctxs ∧ t.engs = s.engs ∧ { t.mem with cells := s.mem.cells } = s.mem) ∧
    (s.window f.od ≠ 8192 → may → (s.knAlloc f.pool n).1 = none →
      ∃ t, exec (.frameAdmit port c) s = .next t ∧ t.fifo port c = rest ∧ t.herd = s.herd ∧ t.disp = s.disp ∧
        t.reg (Reg.KN_EMPTY_CNT f.pool) = W (satInc 32 (s.reg (Reg.KN_EMPTY_CNT f.pool)).toNat) ∧ t.mem = s.mem) ∧
    (s.window f.od ≠ 8192 → ¬ may → exec (.frameAdmit port c) s = .next s) ∧
    (s.window f.od = 8192 →
      (f.stalled = true → exec (.frameAdmit port c) s = .next s) ∧
      (f.stalled = false → ∃ t, exec (.frameAdmit port c) s = .next t ∧
        t.fifo port c = { f with stalled := true } :: rest ∧
        t.reg Reg.HERD_WIN_STALL = W (satInc 32 (s.reg Reg.HERD_WIN_STALL).toNat) ∧
        { t with regs := s.regs, ports := s.ports } = s))

/-- R324, R328, R333, R353, R405, R406: a PFC or PAUSE frame stops the classes it names for its quanta, or is consumed
where the port does not take it; the pause ends when its time is over; PFC toward the partner is refreshed; a link
change shows in PORT_STAT, raises its event and ends the receive correction, which a marker takes up again. -/
def Obligations.PausesLinksAndMarkers : Prop :=
  ∀ (s : State) (port x : Nat), eqIndex port = some x →
    let paused := fun (t : State) (c : Nat) => Tab.get 0 (t.eport x).pauseUntil c
    let only := fun (t : State) => { t with eports := s.eports } = s ∧ ∀ k, k ≠ x → t.eport k = s.eport k
    let stop := fun (n : Nat) =>
      if n = 0 ∨ s.portRate port = 0 then 0 else s.fr + ceilDiv (n * 512000) (s.portRate port)
    (s.portOn port = true → s.hub.fatal = false →
      (∀ (en : Byte) (times : List Nat),
        (s.flag (Reg.PORT_CFG port) 2 = true →
          ∃ t, exec (.pfcFrameReceive port en times) s = .next t ∧ only t ∧
            ∀ c < 8, paused t c =
              if en.getLsbD (s.prioOf port c) then stop (times.getD (s.prioOf port c) 0) else paused s c) ∧
        (s.flag (Reg.PORT_CFG port) 2 = false →
          exec (.pfcFrameReceive port en times) s = .next (s.dropped .macControl port))) ∧
      (∀ n, (s.flag (Reg.PORT_CFG port) 1 = true →
          ∃ t, exec (.pauseFrameReceive port n) s = .next t ∧ only t ∧
            ∀ c < 8, paused t c = stop n) ∧
        (s.flag (Reg.PORT_CFG port) 1 = false →
          exec (.pauseFrameReceive port n) s = .next (s.dropped .macControl port)))) ∧
    (∀ c, ∃ t, exec (.pauseExpire port c) s = .next t ∧ paused t c = (if paused s c ≤ s.fr then 0 else paused s c) ∧ only t) ∧
    (∀ c p, s.pfcOn port c = some p → s.running = true → s.pfcSends port c = true →
      s.fld (Reg.PORT_IFIFO port c) 29 20 < s.fifoUsed port c →
      Tab.get 0 s.ports.pfcAt (port * 8 + c) + 0xFFFF * 256000 / s.portRate port ≤ s.fr →
      ∃ t, exec (.pfcRefresh port c) s = .next t ∧ t.pins = .pfc port p 0xFFFF :: s.pins ∧
        Tab.get 0 t.ports.pfcAt (port * 8 + c) = s.fr ∧ t.pfcOn port c = some p ∧
        { t with ports := s.ports, pins := s.pins } = s) ∧
    (∀ up rate, s.portKind port = .eth →
      ∃ t, exec (.linkChange port up rate) s = .next t ∧ t.flag (Reg.PORT_STAT port) 0 = up ∧
        Tab.get 0 t.ports.rate port = rate ∧ (s.flag (Reg.PORT_STAT port) 0 ≠ up → Raised t (Ev.PORT_LINK port)) ∧
        (up = false → t.flag (Reg.TS_GBX port) 16 = false) ∧
        (∀ k, k ∉ [Reg.PORT_STAT port, Reg.TS_GBX port, evReg (Ev.PORT_LINK port)] → t.reg k = s.reg k) ∧
        { t with regs := s.regs, ports := s.ports, eports := s.eports, hub := s.hub, pins := s.pins } = s) ∧
    (∀ v : BitVec 16, s.portKind port = .eth → s.flag (Reg.PORT_STAT port) 0 = true →
      let gbx := Reg.TS_GBX port
      let takes := fun (t : State) => t.fld gbx 15 0 = v.toNat ∧ t.flag gbx 16 = true ∧ (∀ k, k ≠ gbx → t.reg k = s.reg k)
      (s.rsFec port = false → s.flag gbx 16 = false →
        ∃ t, exec (.alignmentMarker port v) s = .next t ∧ takes t) ∧
      (s.rsFec port = false → s.flag gbx 16 = true → exec (.alignmentMarker port v) s = .next s) ∧
      (s.rsFec port = true → s.flag gbx 16 = true → within (s.fld gbx 15 0) v.toNat 1024 = true →
        ∃ t, exec (.alignmentMarker port v) s = .next t ∧ takes t) ∧
      (s.rsFec port = true → s.flag gbx 16 = true → within (s.fld gbx 15 0) v.toNat 1024 = false →
        Tab.get 0 s.ports.gbxRej port < 2 →
        ∃ t, exec (.alignmentMarker port v) s = .next t ∧ t.fld gbx 16 0 = s.fld gbx 16 0 ∧
          t.fld gbx 31 24 = satInc 8 (s.fld gbx 31 24) ∧ Tab.get 0 t.ports.gbxRej port = Tab.get 0 s.ports.gbxRej port + 1))

/-- R366, R370, R373, R453: an output on the path joins the queue of its port and class, is dropped and counted where a
lossy queue is full or the port is off, goes back to its place at the Herder where a lossless one is full, and is
dropped and counted where no route is left; the gate mask follows the operational list; a legal COMMIT stages the
admin list, an illegal one sets ERR, and the switch makes the staged list operational. R24, R329, R330, R367 to R369,
R407: an open port starts the output at the head of the one class that waits, without gate list, credit shaping or
pause, and nothing where none waits; a SecY that protects gives it the next packet number of its SA, or drops and
counts it where the SA has stopped; a transmission ends once its time has passed, with the frame at the pins,
protected where it was to be, and its output gone. For Ethernet ports. The model's own choices in it: the protected
frame as IEEE 802.1AE has it, 32 bytes longer on the wire (log entry 22); a transmission ends when its time is over
(log entry 41); drops that no register counts (log entry 13). -/
def Obligations.EgressQueuesGatesAndTransmissions : Prop :=
  (∀ (s : State) (x : Nat), s.running = true → x < 62 →
     let ctrl := Reg.EQ_GCL_CTRL x
     let p := s.eport x
     (∀ k, let o := s.out k
       let c := o.cls
       let full := s.fld (Reg.EQ_CLASS x c) 27 16 ≤ (s.eq x c).length ∨ s.egressFree = 0
       let lossless := s.portKind o.port = .host ∨ s.portKind o.port = .lfl
       let dropped := fun (t : State) => t.reg (Reg.EQ_DROP x c) = W (satInc 32 (s.reg (Reg.EQ_DROP x c)).toNat) ∧
         t.out k = {} ∧ t.eports = s.eports ∧ t.mem = s.mem ∧ t.ctxs = s.ctxs
       o.place = .path → s.pathFirst k o = true →
       (o.routed = true → s.nextHop (hdrDst o.fabHdr) (hdrOd o.fabHdr) = none →
         ∃ t, exec (.egressEnqueue k) s = .next t ∧ t.reg Reg.FAB_NOROUTE = W (satInc 32 (s.reg Reg.FAB_NOROUTE).toNat) ∧
           t.out k = {} ∧ t.eports = s.eports ∧ t.mem = s.mem ∧ t.ctxs = s.ctxs) ∧
       (o.routed = false → eqIndex o.port = some x →
       (s.portOn o.port = true → ¬ full → Tab.get none p.maxwin c = none →
         ∃ t, exec (.egressEnqueue k) s = .next t ∧ t.eq x c = s.eq x c ++ [k] ∧ t.out k = { o with place := .queued } ∧
           (∀ d, d ≠ c → t.eq x d = s.eq x d) ∧ { t with eports := s.eports, herd := s.herd } = s) ∧
       (s.portOn o.port = true → full → lossless →
         ∃ t, exec (.egressEnqueue k) s = .next t ∧ { t with herd := s.herd } = s ∧
           (o.job = none → ∀ j, t.out j = s.out j) ∧ (o.job ≠ none → t.out k = { o with place := .store })) ∧
       (s.portOn o.port = true → full → ¬ lossless → ∃ t, exec (.egressEnqueue k) s = .next t ∧ dropped t) ∧
       (s.portOn o.port = false → ∃ t, exec (.egressEnqueue k) s = .next t ∧ dropped t))) ∧
     (s.gclDue x = false → ∃ t, exec (.gateEntry x) s = .next t ∧ (t.eport x).gates = s.gatesNow x ∧
       (t.eport x).oper = p.oper ∧ (t.eport x).queues = p.queues ∧ (∀ k, k ≠ x → t.eport k = s.eport k) ∧
       { t with eports := s.eports } = s) ∧
     (s.gclDue x = true → ∃ t, exec (.gclSwitch x) s = .next t ∧ (t.eport x).oper = p.pendList ∧
       (t.eport x).operCycle = p.pendCycle ∧ (t.eport x).operBase = p.pendBase ∧ (t.eport x).operDom = p.pendDom ∧
       t.flag ctrl 17 = false ∧ t.flag ctrl 18 = !s.flag ctrl 18 ∧
       t.fld (Reg.EQ_GCL_OPER x) 10 0 = p.pendList.length % 2048 ∧ t.mem = s.mem ∧ t.ctxs = s.ctxs ∧ t.tb = s.tb) ∧
     (∀ (m : Master) (v : Word), CanWrite s m ctrl → s.portValid (eqPort x) = true → v.getLsbD 16 = true →
       s.flag ctrl 17 = false →
       let n := v.toNat % 2048
       let d := v.toNat / 4096 % 4
       let cycle := s.fld (Reg.EQ_GCL_CYCLE x) 29 0
       let base := ((s.reg (Reg.EQ_GCL_BASE_SEC_LO x)).toNat + s.fld (Reg.EQ_GCL_BASE_SEC_HI x) 15 0 * 2 ^ 32) * 1000000000
         + s.fld (Reg.EQ_GCL_BASE_NS x) 29 0
       (n ≤ 1024 → n = 0 ∨ (1 ≤ cycle ∧ cycle ≤ 1000000000) →
         ∃ t, exec (.gclCommit m x v) s = .next t ∧ t.flag ctrl 17 = true ∧ (t.eport x).oper = p.oper ∧
           (t.eport x).pendCycle = cycle ∧ (t.eport x).pendBase = base ∧ (t.eport x).pendDom = d ∧
           (t.eport x).pendList = (List.range n).map (fun i => (B8 (s.gclWord x (2 * i)).toNat, (s.gclWord x (2 * i + 1)).toNat)) ∧
           s.ptpNs d + 2000 ≤ (t.eport x).pendAt ∧ (n = 0 → (t.eport x).pendAt = s.ptpNs d + 2000) ∧
           (s.domTime d).units + 2000 * 2 ^ 40 ≤ (t.eport x).pendUnits ∧
           (0 < n → (t.eport x).pendAt % cycle = base % cycle) ∧
           (∀ k, k ≠ ctrl → t.reg k = s.reg k) ∧ { t with regs := s.regs, eports := s.eports } = s) ∧
       (1024 < n ∨ (0 < n ∧ (cycle = 0 ∨ 1000000000 < cycle)) →
         ∃ t, exec (.gclCommit m x v) s = .next t ∧ t.flag ctrl 17 = false ∧ t.flag ctrl 19 = true ∧ OnlyRegs s t [ctrl]))) ∧
  (∀ (s : State) (x : Nat), s.running = true → x < 48 → s.portOn x = true →
     let p := s.eport x
     (p.sending = none → p.oper = [] → p.maxwin = [] → s.flag (Reg.EQ_GCL_CTRL x) 17 = false → StoreEmpty s →
       ((∀ c < 8, s.eq x c = []) →
         ∃ t, exec (.egressSelect x) s = .next t ∧ (t.eport x).sending = none ∧ (t.eport x).queues = p.queues ∧
           { t with eports := s.eports } = s) ∧
       (∀ c k rest, c < 8 → s.eq x c = k :: rest → (∀ d < 8, d ≠ c → s.eq x d = []) →
         (∀ d < 8, d ≠ c → s.fld (Reg.EQ_CLASS x d) 2 0 ≠ s.fld (Reg.EQ_CLASS x c) 2 0) →
         s.cbsOn x c = false → s.pausedBy x c = false →
         s.outAcc x k ≤ s.fld (Reg.EQ_QUANTUM x c) 15 0 → 0 < s.fld (Reg.EQ_QUANTUM x c) 15 0 →
         let y := s.secy x
         let a := s.sa (saTx x y.txAn)
         let bits := if 2 ≤ y.suite then 64 else 32
         let guarded := s.chip.crypto = true ∧ y.protect = true
         let starts := fun (t : State) => (t.eport x).sending = some k ∧ t.eq x c = rest ∧
           t.out k = { s.out k with place := .sending, startFr := s.fr } ∧ (∀ j, j ≠ k → t.out j = s.out j) ∧ t.mem = s.mem
         (¬ guarded → ∃ t, exec (.egressSelect x) s = .next t ∧ starts t ∧ (t.eport x).sec = none ∧
           { t with eports := s.eports, herd := s.herd } = s) ∧
         (guarded → a.en = true → a.pn < 2 ^ bits → ∃ t, exec (.egressSelect x) s = .next t ∧ starts t ∧
           (t.eport x).sec = some (y, a) ∧
           t.sa (saTx x y.txAn) = { a with pn := a.pn + 1, en := decide (a.pn + 1 < 2 ^ bits) } ∧
           (a.pn + 1 = 3 * 2 ^ (bits - 2) → Raised t (Ev.MACSEC_PN x)) ∧
           (a.pn + 1 ≠ 3 * 2 ^ (bits - 2) → t.regs = s.regs)) ∧
         (guarded → a.en = false ∨ 2 ^ bits ≤ a.pn → ∃ t, exec (.egressSelect x) s = .next t ∧ (t.eport x).sending = none ∧
           t.eq x c = rest ∧ t.out k = {} ∧ t.secy x = { y with dropped := y.dropped + 1 }))) ∧
     (∀ k ue, p.sending = some k →
       let air := s.txTime x (s.outAcc x k + if p.sec.isSome then 32 else 0)
       let sent := match p.sec with
         | some (y, a) => macsecProtect y a (s.wireBytes k)
         | none => s.wireBytes k
       ((s.out k).startFr + air ≤ s.fr →
         ∃ t bad, exec (.transmitEnd x ue) s = .next t ∧ (t.eport x).sending = none ∧ t.out k = {} ∧
           PinEvent.frame x sent bad ∈ t.pins ∧ (ue = true → bad = true) ∧
           (ue = false → (s.out k).tailLen = 0 → bad = false) ∧ t.mem = s.mem ∧ t.ctxs = s.ctxs) ∧
       (s.fr < (s.out k).startFr + air → exec (.transmitEnd x ue) s = .next s)))

/-- R28, R29, R337 to R339, R353: a CAN attempt sends the record that wins arbitration, which then leaves its queue; a
lost one is tried again until RETRY is used up; an error adds 8 to TEC, which from 256 is bus-off; bus-off empties the
queue and shows in CAN_STAT; recovery returns the channel to active. A channel with nothing to send does nothing.
R342: the next descriptor of a host ring completes with its STATUS in place and CI advanced: an H2D descriptor with
STATUS 2 or 3 for a bad length, or its frame joins the FIFO of its class, or waits where it does not fit; a D2H
descriptor takes the frame in transmission into its buffer, or completes with 4 without a buffer and 3 where the frame
is too long; a frame whose ring has then no descriptor left waits at the head of its queue again. For a host port
without a key action. The model's own choices in it: the error counters of ISO 11898-1 (log entry 14); bus mastering
(log entry 12). -/
def Obligations.CanChannelsAndHostRings : Prop :=
  (∀ (s : State) (n : Nat), s.running = true → n < s.chip.cans → s.flag (Reg.CAN_MODE n) 0 = true →
     let l := (Tab.get CanCh.idle s.ports.can n).txq
     let q := fun (t : State) => (Tab.get CanCh.idle t.ports.can n).txq
     let state := fun (t : State) => t.fld (Reg.CAN_STAT n) 17 16
     (state s < 2 → s.flag (Reg.CAN_MODE n) 3 = false → s.portOn (64 + n) = true →
       (l = [] → ∀ r, exec (.canTransmit n r) s = .next s) ∧
       ∀ k tries, s.canOffer l = some (k, tries) →
         let tec := s.fld (Reg.CAN_STAT n) 8 0
         let off := fun (t : State) => q t = [] ∧ state t = 2 ∧ Raised t (Ev.CAN_BUSOFF n) ∧ ∀ p ∈ l, t.out p.1 = {}
         let again := s.fld (Reg.CAN_MODE n) 11 8 = 15 ∨ tries + 1 ≤ s.fld (Reg.CAN_MODE n) 11 8
         (∃ t, exec (.canTransmit n .sent) s = .next t ∧ PinEvent.frame (64 + n) (canSent (s.outBytes k)) false ∈ t.pins ∧
           q t = l.filter (fun p => p.1 != k) ∧ t.out k = {} ∧ t.mem = s.mem ∧ t.ctxs = s.ctxs) ∧
         (again → exec (.canTransmit n .lost) s =
           .next (s.setCan n (l.map fun p => if p.1 = k then (k, tries + 1) else p))) ∧
         (¬ again → ∃ t, exec (.canTransmit n .lost) s = .next t ∧ q t = l.filter (fun p => p.1 != k) ∧ t.out k = {} ∧
           t.reg (Reg.CAN_TX_DROP n) = W (satInc 32 (s.reg (Reg.CAN_TX_DROP n)).toNat)) ∧
         (tec + 8 < 256 → again → ∃ t, exec (.canTransmit n .error) s = .next t ∧ t.fld (Reg.CAN_STAT n) 8 0 = tec + 8 ∧
           q t = l.map (fun p => if p.1 = k then (k, tries + 1) else p)) ∧
         (256 ≤ tec + 8 → ∃ t, exec (.canTransmit n .error) s = .next t ∧ off t) ∧
         (∃ t, exec (.canTransmit n .busOff) s = .next t ∧ off t)) ∧
     (state s = 2 → s.flag (Reg.CAN_MODE n) 4 = true →
       ∃ t, exec (.canBusoffRecovery n) s = .next t ∧ state t = 0 ∧ t.fld (Reg.CAN_STAT n) 15 0 = 0 ∧ q t = q s ∧
         (∀ k, k ≠ Reg.CAN_STAT n → t.reg k = s.reg k) ∧ { t with regs := s.regs, ports := s.ports } = s) ∧
     (state s ≠ 2 → exec (.canBusoffRecovery n) s = .next s)) ∧
  (∀ (s : State) (q : Nat), s.running = true → q < 16 → s.hub.busMaster = true →
     let desc := fun (r : Nat) => s.mem.host.bytes (s.hpAt r) 16
     let num := fun (r i n : Nat) => leNat (((desc r).drop i).take n)
     let done := fun (t : State) (r st : Nat) => t.mem.host.rd (s.hpAt r + 11) = B8 st ∧ t.reg (r + 16) = s.reg (r + 16) + 1 ∧
       { t.mem with host := s.mem.host } = s.mem ∧ t.ctxs = s.ctxs
     let r := Reg.HP_H2D_BASE_LO q
     let u := Reg.HP_D2H_BASE_LO q
     (s.portOn 97 = true → s.hpRuns r = true →
       (num r 8 2 = 0 → ∃ t, exec (.h2dDescriptor q) s = .next t ∧ done t r 2 ∧ t.ports.ififo = s.ports.ififo) ∧
       (9596 < num r 8 2 → ∃ t, exec (.h2dDescriptor q) s = .next t ∧ done t r 3 ∧ t.ports.ififo = s.ports.ififo) ∧
       (60 ≤ num r 8 2 → num r 8 2 ≤ 9596 →
         let b := s.mem.host.bytes (num r 0 8) (num r 8 2)
         let c := if num r 10 1 / 8 % 2 = 1 then num r 10 1 % 8 else s.srcClass s.ing (s.profile 97) (parseOf false b) b
         be16 b 12 ≠ 0x8808 → s.flag (Reg.CLS_PCTL s.ing (s.profile 97)) 26 = false →
         (s.fifoFits 97 c b.length = true →
           ∃ t f, exec (.h2dDescriptor q) s = .next t ∧ done t r 1 ∧ t.fifo 97 c = s.fifo 97 c ++ [f] ∧ f.bytes = b ∧
             f.port = 97 ∧ f.cls = c) ∧
         (s.fifoFits 97 c b.length = false → exec (.h2dDescriptor q) s = .next s))) ∧
     (s.hpRuns u = true →
       (num u 8 2 = 0 → ∃ t, exec (.d2hDescriptor q) s = .next t ∧ done t u 4 ∧
         ((s.eport 49).sending = none → t.herd = s.herd) ∧
         ∀ k, (s.eport 49).sending = some k → (s.out k).hq = q → (s.out k).place = .sending →
           s.reg (u + 16) + 1 = s.reg (u + 12) → (t.out k).place = .queued ∧ (t.eport 49).sending = none ∧
             t.eq 49 (s.out k).cls = k :: s.eq 49 (s.out k).cls) ∧
       ∀ k, 0 < num u 8 2 → (s.eport 49).sending = some k → (s.out k).hq = q → (s.out k).place = .sending →
         let b := s.wireBytes k
         let size := num u 8 2
         let buf := num u 0 8
         (size < b.length → ∃ t, exec (.d2hDescriptor q) s = .next t ∧ done t u 3 ∧ (t.out k).place = .sent) ∧
         (b.length ≤ size → ∃ t, exec (.d2hDescriptor q) s = .next t ∧ done t u 1 ∧ (t.out k).place = .sent ∧
           ∀ i (h : i < b.length), buf + i < s.hpAt u + 8 ∨ s.hpAt u + 16 ≤ buf + i → t.mem.host.rd (buf + i) = b[i])))

/-- R442 to R444, R448, R450, R458: a hello tells the peer this device's UID, address and record, with its transmit count
and the counts of the hello it heard; a peer that echoes this device's UID brings the link up, and another UID on a
link in service, a dead interval without a hello, or loss of block lock take it down and raise its event; a hello with
this device's own UID is a conflict; a hello on a link in service measures its delay from the hello that the peer
received; a link that goes down is told to every neighbour; a credit update replaces the credit of every class and
lets control frames that wait go. A dead interval that has not passed does nothing. R448 to R451, R455: a record of
another device is held and goes on over every other link for up to 4 hops, this device's own is flooded on every link
in service; two devices that claim one strapped address, or a claim of a lower UID on an elected one, are judged, and
a record of this device's UID that it never sent is a conflict; an election 10 ms after the last change of the known
UIDs takes an address that no known device claims; routes follow the shortest paths, and a peer gained or lost raises
its event, with its locks released as broken when it is lost. The model's own choices in it: the first term of the
delay, the own route and the hop limit (log entry 16); a value that does not fit is free (log entry 5). -/
def Obligations.FabricLinksRecordsAndRoutes : Prop :=
  (∀ (s : State) (q : Nat), s.lflOn q = true →
     let cal := fun (off : Nat) => signed 24 (s.fld off 23 0)
     let down := fun (t : State) => t.linkUp q = false ∧ (s.linkUp q = true → s.chip.fabric = true →
       Raised t (Ev.FAB_LINK q) ∧ t.reg (Reg.FAB_LNK_DOWNS q) = W (satInc 32 (s.reg (Reg.FAB_LNK_DOWNS q)).toNat))
     (s.fabRuns = true →
       (∃ t h, exec (.helloSend q) s = .next t ∧ t.pins = .hello q h :: s.pins ∧ h.uid = s.chip.uid ∧ h.quad = q ∧
         h.echo = (s.fabLink q).heard ∧ h.t2 = (s.fabLink q).rxT2 ∧ h.record = s.ownRecord ∧
         h.t3 = ((s.fr * 256 : Nat) + cal (Reg.FAB_LNK_CAL_TX q)).toNat ∧ h.t1 = h.t3 ∧ h.named = (s.fabLink q).rxT1 ∧
         s.ownRecord ∈ t.fab.own ∧
         { t with fab := s.fab, pins := s.pins } = s) ∧
       ∀ h : Hello, ∃ t, exec (.helloReceive q h) s = .next t ∧ (t.fabLink q).heard = h.uid ∧
         (t.fabLink q).lastHello = s.fr ∧ (t.fabLink q).lock = true ∧ t.mem = s.mem ∧ t.ctxs = s.ctxs ∧
         t.fld (Reg.FAB_LNK_STAT q) 7 4 = h.dev % 16 ∧ t.fld (Reg.FAB_LNK_STAT q) 11 8 = h.quad % 16 ∧
         (h.uid = s.chip.uid → t.fabConflict = true) ∧
         (s.linkUp q = false → t.linkUp q = decide (h.echo = s.chip.uid)) ∧
         (s.linkUp q = false → h.echo = s.chip.uid → (t.fabLink q).peerUid = h.uid ∧
           .credit q ((List.range 8).map fun c => s.fifoSize (128 + q) c - s.fifoUsed (128 + q) c) ∈ t.pins) ∧
         (s.linkUp q = true → (s.fabLink q).peerUid = h.uid → t.linkUp q = true) ∧
         (s.linkUp q = true → (s.fabLink q).peerUid ≠ h.uid → down t) ∧
         (s.linkUp q = true → (s.fabLink q).peerUid = h.uid → h.echo = s.chip.uid →
           let t4 := ((s.fr * 256 : Nat) : Int) - cal (Reg.FAB_LNK_CAL_RX q) - s.fabCorr q
           let delay := (t4 - h.named - (h.t3 - h.t2)) / 2
           0 ≤ delay → delay < 2 ^ 32 →
             t.reg (Reg.FAB_LNK_DELAY q) = W delay.toNat ∧ t.flag (Reg.FAB_LNK_STAT q) 1 = true)) ∧
     ((s.fabLink q).lastHello + max 2 (s.fld Reg.FAB_CFG 11 8) * 1000000 ≤ s.fr → s.linkUp q = true →
       ∃ t, exec (.helloTimeout q) s = .next t ∧ down t ∧ (t.fabLink q).ctlq = [] ∧
         (∀ k ∈ t.upLinks, .record k t.ownRecord ∈ t.pins) ∧ t.mem = s.mem ∧ t.ctxs = s.ctxs) ∧
     (s.fr < (s.fabLink q).lastHello + max 2 (s.fld Reg.FAB_CFG 11 8) * 1000000 ∨ s.linkUp q = false →
       exec (.helloTimeout q) s = .next s) ∧
     (∃ t, exec (.lossOfBlockLock q) s = .next t ∧ down t ∧ (t.fabLink q).lock = false ∧ t.mem = s.mem ∧
       t.ctxs = s.ctxs) ∧
     (∀ l : List Nat, s.linkUp q = true →
       ∃ t, exec (.creditUpdate q l) s = .next t ∧
         (∀ c < 8, Tab.get 0 (t.eport (50 + q)).fabCredit c = l.getD c 0) ∧
         (∀ k, k ≠ 50 + q → t.eport k = s.eport k) ∧ { t with eports := s.eports, fab := s.fab, pins := s.pins } = s ∧
         ((s.fabLink q).ctlq = [] → t.pins = s.pins) ∧
         ∀ b rest, (s.fabLink q).ctlq = b :: rest → (s.eport (50 + q)).sending = none → .control q b ∈ t.pins)) ∧
  (∀ (s : State), s.fabRuns = true →
     (∀ (q : Nat) (r : LinkRecord), s.linkUp q = true →
       ∃ t, exec (.linkStateRecord q r) s = .next t ∧ t.mem = s.mem ∧ t.ctxs = s.ctxs ∧
         (r.uid = s.chip.uid → t.fab.records = s.fab.records ∧ ({ r with hops := 0 } ∉ s.fab.own → t.fabConflict = true)) ∧
         (r.uid ≠ s.chip.uid → (r.uid.toNat, r) ∈ t.fab.records ∧
           (∀ k, .record k { r with hops := r.hops + 1 } ∉ s.pins →
             (.record k { r with hops := r.hops + 1 } ∈ t.pins ↔ r.hops < 3 ∧ k ∈ s.upLinks ∧ k ≠ q)) ∧
           (r.addrV = true → s.fabDev = some r.dev →
             (s.strapped = true → r.strapped = true → t.fabConflict = true) ∧
             (s.strapped = false → r.strapped = true ∨ r.uid.toNat < s.chip.uid.toNat →
               t.fabDev = none ∨ t.fabConflict = true)))) ∧
     (∃ t, exec .recordFlood s = .next t ∧ t.pins.length = s.pins.length + s.upLinks.length ∧
       (∀ q ∈ s.upLinks, .record q s.ownRecord ∈ t.pins) ∧ s.ownRecord ∈ t.fab.own ∧
       { t with pins := s.pins, fab := s.fab } = s) ∧
     (s.strapped = false → s.fabDev = none → s.fab.changed + 10000000 ≤ s.fr → ∀ d, s.electAddr = some d →
       ∃ t, exec .election s = .next t ∧ t.fabDev = some d ∧ t.flag Reg.FAB_STAT 5 = true ∧
         (∀ r ∈ s.knownRecords, r.addrV = true → r.dev ≠ d) ∧ (∀ q ∈ s.upLinks, .record q t.ownRecord ∈ t.pins) ∧
         (∀ k, k ≠ Reg.FAB_STAT → t.reg k = s.reg k) ∧ { t with regs := s.regs, pins := s.pins, fab := s.fab } = s) ∧
     (s.strapped = true ∨ s.fabDev ≠ none ∨ s.fr < s.fab.changed + 10000000 → exec .election s = .next s) ∧
     (∃ t, exec .routeRecompute s = .next t ∧
       t.fld Reg.FAB_STAT 20 16 = ((s.fabNodes 4).length + 1) % 32 ∧ t.mem = s.mem ∧ t.fab.records = s.fab.records ∧
       ∀ d < 16, t.reg (Reg.FAB_ROUTE d) = s.routeWord (s.fabNodes 4) d ∧
         (s.fabDev ≠ some d → s.flag (Reg.FAB_ROUTE d) 3 ≠ t.flag (Reg.FAB_ROUTE d) 3 → Raised t Ev.FAB_PEER) ∧
         (s.fabDev ≠ some d → s.flag (Reg.FAB_ROUTE d) 3 = true → t.flag (Reg.FAB_ROUTE d) 3 = false →
           ∀ i, (t.lock i).owner ≠ BitVec.ofNat 16 (0x4000 + d))))

/-- R443, R445, R446, R453: a frame that fails its FCS or whose header is malformed is counted and its credit goes back;
one for this device joins the FIFO of its header's class with the header's order domain, and the sender hears of the
units that are left in each class; one in transit leaves toward its next hop with one more device crossed in its
header, in cells of its pool, or is counted where no hop is left or no route leads on. For profiles without a key
action. The model's own choices in it: when credit goes back (log entry 16). -/
def Obligations.FabricFramesArriveOrPassOn : Prop :=
  ∀ (s : State) (q age : Nat) (b : List Byte), s.running = true → s.lflOn q = true → s.linkUp q = true →
    let good := hdrF b 0 3 0 = 1 ∧ 16 ≤ b.length
    let c := hdrF b 2 2 0
    let port := 128 + q
    let counted := fun (t : State) (k : Nat) =>
      t.reg k = W (satInc 32 (s.reg k).toNat) ∧ (∀ j, j ≠ k → t.reg j = s.reg j) ∧
        t.pins = .credit q ((List.range 8).map fun c => s.fifoSize port c - s.fifoUsed port c) :: s.pins ∧
        { t with regs := s.regs, pins := s.pins } = s
    (∀ ok : Bool, ok = false ∨ ¬ good ∨ 3 < hdrType b →
      ∃ t, exec (.fabricFrameReceive q b ⟨ok, age⟩) s = .next t ∧ counted t (Reg.FAB_LNK_ERR q)) ∧
    (good → hdrType b = 0 → s.fabDev = some (hdrDst b) → 76 ≤ b.length → b.length ≤ 9612 →
      s.flag (Reg.CLS_PCTL s.ing (s.profile port)) 26 = false → s.stepTwoQ port = [] →
      s.fifoFits port c (b.length - 16) = true ∨ 0 < s.fifoSize port c →
      ∃ t f, exec (.fabricFrameReceive q b ⟨true, age⟩) s = .next t ∧ t.fifo port c = s.fifo port c ++ [f] ∧
        f.bytes = b.drop 16 ∧ f.port = port ∧ f.cls = c ∧ f.od = leNat ((b.drop 4).take 2) ∧ f.fab = true ∧
        f.mdata = b.take 16 ∧ t.mem = s.mem ∧ t.herd = s.herd) ∧
    (good → hdrType b = 0 → s.fabDev ≠ some (hdrDst b) →
      (3 ≤ hdrF b 2 5 3 → ∃ t, exec (.fabricFrameReceive q b ⟨true, age⟩) s = .next t ∧ counted t Reg.FAB_TTL_DROP) ∧
      (hdrF b 2 5 3 < 3 → s.nextHop (hdrDst b) (hdrOd b) = none →
        ∃ t, exec (.fabricFrameReceive q b ⟨true, age⟩) s = .next t ∧ counted t Reg.FAB_NOROUTE) ∧
      ∀ n, s.nextHop (hdrDst b) (hdrOd b) = some n → hdrF b 2 5 3 < 3 → s.linkUp n = true → s.fabConflict = false →
        let pool := s.fld (if c < 4 then Reg.PORT_POOL_LO port else Reg.PORT_POOL_HI port) (8 * (c % 4) + 4) (8 * (c % 4))
        ∀ h, (s.knAlloc pool (unitsOf (b.length - 16))).1 = some h →
          ∃ t, exec (.fabricFrameReceive q b ⟨true, age⟩) s = .next t ∧ t.herd.nextOut = s.herd.nextOut + 1 ∧
            t.out s.herd.nextOut = {
              port := 128 + n, cls := c, tailLen := b.length - 16, cell := h, pool := pool, place := .path,
              order := s.herd.nextOut, fabHdr := (b.set 2 (byteAt b 2 + 8)).take 16, routed := true } ∧
            (∀ k, k ≠ s.herd.nextOut → t.out k = s.out k) ∧ t.herd.jobs = s.herd.jobs ∧
            { t.mem with cells := s.mem.cells } = s.mem ∧ t.ctxs = s.ctxs)

/-- R444 to R446, R456, R457, R471, R478, R482: a malformed control frame is counted; one for another device goes on
toward it in the control channel of its link, at a frame boundary and within the channel's credit; a block for this
device is posted in the fabric pair of its sender. A Leash access of a peer is one of owner 0x4000 + d, and its status
goes back in a type 3 frame; a type 2 frame carries such an access (its payload's layout is the model's: log entry
16). A forwarded command goes to its peer in a control frame and waits; without a reply in time it ends with
ST_TIMEOUT. The model's own choices in it: how a type 1 block is told from a packet, and the payload of a type 2 frame
(log entry 16); a peer counts as a host pair with AUTH_IDX 0 (log entry 34). -/
def Obligations.FabricControlReachesTheKeepers : Prop :=
  ∀ (s : State),
    let free := fun (n : Nat) => (s.fabLink n).ctlq = [] ∧ (s.fabLink n).ctlOut < 8 ∧ (s.eport (50 + n)).sending = none
    let left := fun (t : State) (n : Nat) (f : List Byte) =>
      t.pins = .control n f :: s.pins ∧ t.fabLink n = { s.fabLink n with ctlOut := (s.fabLink n).ctlOut + 1 }
    (∀ (q : Nat) (b : List Byte), s.fabRuns = true → q < s.chip.quads → s.lflOn q = true → s.linkUp q = true →
      let good := hdrF b 0 3 0 = 1 ∧ hdrType b ≤ 3 ∧ 16 ≤ b.length
      (∀ ok : Bool, ok = false ∨ ¬ good → ∃ t, exec (.controlFrameReceive q b ok) s = .next t ∧
        t.reg (Reg.FAB_LNK_ERR q) = W (satInc 32 (s.reg (Reg.FAB_LNK_ERR q)).toNat) ∧
        OnlyRegs s t [Reg.FAB_LNK_ERR q]) ∧
      (good → hdrType b ≠ 0 → ¬ (hdrType b = 1 ∧ b.length = 16) → s.fabDev ≠ some (hdrDst b) →
        (s.nextHop (hdrDst b) (hdrOd b) = none →
          exec (.controlFrameReceive q b true) s = .next (s.bump Reg.FAB_NOROUTE)) ∧
        ∀ n, s.nextHop (hdrDst b) (hdrOd b) = some n →
          (3 ≤ hdrF b 2 5 3 → exec (.controlFrameReceive q b true) s = .next (s.bump Reg.FAB_TTL_DROP)) ∧
          (hdrF b 2 5 3 < 3 → s.linkUp n = false →
            exec (.controlFrameReceive q b true) s = .next (s.bump Reg.FAB_NOROUTE)) ∧
          (hdrF b 2 5 3 < 3 → s.linkUp n = true →
            (free n → ∃ t, exec (.controlFrameReceive q b true) s = .next t ∧ left t n (b.set 2 (byteAt b 2 + 8)) ∧
              { t with pins := s.pins, fab := s.fab } = s) ∧
            ((s.eport (50 + n)).sending ≠ none → exec (.controlFrameReceive q b true) s =
              .next (s.setFabLink n { s.fabLink n with
                ctlq := (s.fabLink n).ctlq ++ [b.set 2 (byteAt b 2 + 8)] })))) ∧
      (good → hdrType b = 2 → s.fabDev = some (hdrDst b) →
        exec (.controlFrameReceive q b true) s =
          exec (.fabricLeashAccess (hdrSrc b) (leNat ((b.drop 16).take 4)) (bitOf (wordAt (b.drop 20) 0) 0)) s) ∧
      (good → hdrType b = 1 → 16 < b.length → s.fabDev = some (hdrDst b) → s.pair0Up = true →
        leNat ((b.drop 16).take 4) < 16 →
        ∀ f < 2, Tab.get 0 s.ctl.fabDst f = hdrSrc b → (f = 1 → Tab.get 0 s.ctl.fabDst 0 ≠ hdrSrc b) →
          (s.whb (9 + 2 * f)).full = false → (s.whb (9 + 2 * f)).timeout = false →
          exec (.controlFrameReceive q b true) s = .next (s.setWhb (9 + 2 * f) { s.whb (9 + 2 * f) with
            posted := wordsOf 16 (b.drop 16), full := true, start := s.fr }))) ∧
    (∀ (d off : Nat), s.chip.fabric = true → d < 16 → s.running = true →
      let me : BitVec 16 := BitVec.ofNat 16 (0x4000 + d)
      let i := (off - 0x400000) / 4
      (∀ k (v : Word), s.nextHop d 0 = some k → s.linkUp k = true → free k →
        ∃ h, left (s.fabStatus d v) k (h ++ leBytes 4 v.toNat) ∧ h.length = 16 ∧ hdrType h = 3 ∧ hdrDst h = d) ∧
      (off < 0x400000 ∨ 0x404000 ≤ off ∨ off % 4 ≠ 0 → ∀ w,
        exec (.fabricLeashAccess d off w) s = .next (s.fabStatus d 4)) ∧
      (0x400000 ≤ off → off < 0x404000 → off % 4 = 0 →
        (s.leashAcc (i / 64) (0x4000 + d) = false →
          exec (.fabricLeashAccess d off false) s = .next ((s.leashDeny i (0x4000 + d) false).fabStatus d 4)) ∧
        (s.leashAcc (i / 64) (0x4000 + d) = true → (s.lock i).owner = 0 →
          exec (.fabricLeashAccess d off false) s = .next
            (if (s.lock i).broken = true then
              (s.setLock i { s.lock i with owner := me, broken := false, prior := 0 }).fabStatus d
                (W ((s.lock i).prior.toNat * 0x10000 + 3))
            else (s.setLock i { s.lock i with owner := me }).fabStatus d 1)) ∧
        (s.leashAcc (i / 64) (0x4000 + d) = true → (s.lock i).owner ≠ 0 → (s.lock i).owner ≠ me →
          0 < s.fld (Reg.LEASH_GRP_TMO (i / 64)) 19 0 →
          ∃ t, exec (.fabricLeashAccess d off false) s = .next t ∧ t.pins = s.pins ∧ t.fab = s.fab ∧
            (t.lock i).queue = (s.lock i).queue ++
              [⟨me, s.fr, s.fr + s.fld (Reg.LEASH_GRP_TMO (i / 64)) 19 0 * 128⟩]) ∧
        ((s.lock i).owner = me → (s.lock i).queue = [] →
          exec (.fabricLeashAccess d off true) s = .next (s.setLock i { s.lock i with owner := 0 })))) ∧
    (∀ q : CmdReq, TakesNow s q →
      let d := (byteAt q.args 0).toNat
      let n := leNat ((q.args.drop 8).take 2)
      let form := 20 + n ≤ q.len ∧ q.len ≤ 23 + n ∧ n ≤ 9580 ∧ leNat ((q.args.drop 1).take 3) = 0
      let there := d < 16 ∧ s.fabDev ≠ some d ∧ s.flag (Reg.FAB_ROUTE d) 3 = true
      (s.chip.fabric = false → Replies (exec (.cmdFabForward q) s) 0x0601 q 2 [] (· = s)) ∧
      (s.chip.fabric = true → ¬ (form ∧ there) → Replies (exec (.cmdFabForward q) s) 0x0601 q 3 [] (· = s)) ∧
      (s.chip.fabric = true → form → there → ∀ k, s.nextHop d 0 = some k → s.linkUp k = true → free k →
        ∃ t b, exec (.cmdFabForward q) s = .next t ∧ left t k b ∧ hdrType b = 1 ∧ hdrDst b = d ∧
          (b.drop 16).take (16 + n) = (q.args.drop 4).take (16 + n) ∧
          t.ctl.fwdWait = some (q, s.fr + 100000000) ∧
          { t with pins := s.pins, ctl := s.ctl, fab := s.fab } = s)) ∧
    (∀ q limit, s.ctl.fwdWait = some (q, limit) → s.ctl.accepted = [] →
      (limit ≤ s.fr → Replies (exec .fabForwardTimeout s) 0x0601 q 7 []
        (· = { s with ctl := { s.ctl with fwdWait := none } })) ∧
      (s.fr < limit → exec .fabForwardTimeout s = .next s))

/-- R470 to R473: GO of the sender posts the staged words and fills the block, and is ignored while FULL or TIMEOUT is 1
or from the receiver; TAKE of the receiver empties it, and the reply that a K2H block held leaves its queue; a block
full for TMO_US, or whose receiver does not serve it, is withdrawn with its event. The export block of pair 0 is taken
in the same way; with a fabric block it takes the packet inside and serves it, and a KIND it does not know is
answered. An outgoing fabric block goes to the peer that pair 0 has named with the words it has staged. R475 to R477:
pair 0 takes a posted H2K block while the reply queue has room, and none when it is full. A DIRECT block is a command
packet of its pair, an INDIRECT one names the packet in host memory, any other KIND is answered with an ST_BAD_PARAM
header. The reply at the head of the queue is posted once the K2H block is free and not timed out. The model's own
choices in it: several bits in one write, and what pair 0 writes with a GO (log entry 19); the queue counts replies
owed (log entry 33). -/
def Obligations.WhistleBlocksAndHostPairs : Prop :=
  (∀ (s : State) (b : Nat),
     let x := s.whb b
     let fills := { x with posted := x.stage, full := true, lost := false, start := s.fr }
     (∀ (m : Master) (dst : Nat) (w : List Word), m = .host ∨ m = .keeper 0 → b < 8 → s.onBus m = true →
       (Master.hostSide m = decide (b % 2 = 0) →
         (x.full = false → x.timeout = false → exec (.whistleGo m ⟨b, dst, w⟩) s = .next (s.setWhb b fills)) ∧
         (x.full = true ∨ x.timeout = true → exec (.whistleGo m ⟨b, dst, w⟩) s = .next s) ∧
         exec (.whistleTake m b) s = .next s) ∧
       (Master.hostSide m ≠ decide (b % 2 = 0) →
         exec (.whistleGo m ⟨b, dst, w⟩) s = .next s ∧ (x.full = false → exec (.whistleTake m b) s = .next s) ∧
         (x.full = true → ∃ t, exec (.whistleTake m b) s = .next t ∧ t.whb b = { x with full := false } ∧
           (∀ k, k ≠ b → t.whb k = s.whb k) ∧
           (∀ r l, b % 2 = 1 → Tab.get [] s.ctl.replyQ (b / 2) = r :: l →
             Tab.get [] t.ctl.replyQ (b / 2) = if r = x.posted then l ++ (Tab.get [] s.ctl.lateQ (b / 2)).take 1 else r :: l) ∧
           { t with ctl := s.ctl } = s))) ∧
     (s.pair0Up = true → x.full = true →
       let u := s.setWhb b { x with full := false }
       let d := Tab.get 0 s.ctl.fabDst (b / 2 - 4)
       (b = 12 → exec (.whistleTake (.keeper 0) b) s = .next u) ∧
       (b = 9 ∨ b = 11 →
         ((x.posted.getD 0 0).toNat ≠ 1 → exec (.whistleTake (.keeper 0) b) s = .next (u.fabControl 1 d bareHead)) ∧
         ∀ q, (x.posted.getD 0 0).toNat = 1 → packetOf (.fabric d) (bytesOf (x.posted.drop 1)) = some (0x0101, q) →
           q.reply = false → s.cmdBusy = false → s.ctl.accepted = [] → s.serves (.fabric d) = true →
           exec (.whistleTake (.keeper 0) b) s = exec (.cmdGetFeatures { q with authIdx := 0 }) u)) ∧
     (s.pair0Up = true → s.chip.fabric = true → b = 8 ∨ b = 10 → ∀ (dst : Nat) (w : List Word), dst < 16 →
       w.length ≤ 16 →
       let stage := w ++ x.stage.drop w.length
       (x.full = false → x.timeout = false → ∃ t, exec (.whistleGo (.keeper 0) ⟨b, dst, w⟩) s = .next t ∧
         t.whb b = { x with stage := stage, posted := stage, full := true, lost := false, start := s.fr } ∧
         Tab.get 0 t.ctl.fabDst (b / 2 - 4) = dst ∧ t.mem = s.mem ∧
         ∀ n, s.nextHop dst 0 = some n → s.linkUp n = true → (s.fabLink n).ctlq = [] → (s.fabLink n).ctlOut < 8 →
           (s.eport (50 + n)).sending = none →
           ∃ f, t.pins = .control n f :: s.pins ∧ hdrType f = 1 ∧ hdrDst f = dst ∧ f.drop 16 = bytesOf stage) ∧
       (x.full = true ∨ x.timeout = true →
         exec (.whistleGo (.keeper 0) ⟨b, dst, w⟩) s = .next (s.setWhb b { x with stage := stage }))) ∧
     (b ≤ 12 →
       let tmo := s.fld Reg.WH_CFG 19 0
       let expires := ∃ t, exec (.whistleTimeout b) s = .next t ∧ t.whb b = { x with full := false, timeout := true } ∧
         (b < 8 → Raised t (Ev.WH_TIMEOUT (b / 2))) ∧ (∀ k, k ≠ b → t.whb k = s.whb k) ∧ t.mem = s.mem ∧ t.ctxs = s.ctxs
       (x.full = true → 0 < tmo → x.start + tmo * 1000 ≤ s.fr → expires) ∧
       (x.full = true → b < 8 → b % 2 = 0 → s.pair0Up = false ∨ (2 ≤ b ∧ s.minimal = true) → expires) ∧
       (x.full = false → exec (.whistleTimeout b) s = .next s) ∧
       (x.full = true → s.pair0Up = true → s.minimal = false → s.boot.romWait = false → b < 8 →
         tmo = 0 ∨ s.fr < x.start + tmo * 1000 → exec (.whistleTimeout b) s = .next s))) ∧
  (∀ (s : State) (h : Nat), s.pair0Up = true → s.servesPair h = true →
     let x := s.whb (2 * h)
     let y := s.whb (2 * h + 1)
     let u := s.setWhb (2 * h) { x with full := false }
     let kind := (x.posted.getD 0 0).toNat
     let num := fun (i : Nat) => (x.posted.getD i 0).toNat
     let posts := fun (r : Reply) => { u with ctl := { u.ctl with
       replyQ := Tab.set [] u.ctl.replyQ h (Tab.get [] u.ctl.replyQ h ++ [r]) } }
     (x.full = true → (Tab.get [] s.ctl.replyQ h).length < 16 → Tab.get [] s.ctl.lateQ h = [] → s.ctl.accepted = [] →
       s.cmdBusy = false →
       (kind ≠ 1 → kind ≠ 2 → exec (.h2kBlockTake h) s = .next (posts (W 1 :: wordsOf 15 bareHead))) ∧
       (∀ op q, kind = 1 → packetOf (.host h) (bytesOf (x.posted.drop 1)) = some (op, q) →
         (op = 0x0101 → exec (.h2kBlockTake h) s = exec (.cmdGetFeatures q) u) ∧
         (op = 0x0102 → exec (.h2kBlockTake h) s = exec (.cmdRegRead q) u) ∧
         (op = 0x0103 → exec (.h2kBlockTake h) s = exec (.cmdRegWrite q) u) ∧
         (op = 0x0A02 → exec (.h2kBlockTake h) s = exec (.cmdCfgCommit q) u)) ∧
       (kind = 2 → s.hub.busMaster = false → ∃ l, l.length = 16 ∧ exec (.h2kBlockTake h) s = .next (posts l) ∧
         l.getD 0 0 = 4 ∧ l.getD 2 0 = 0x00030000 ∧ l.getD 5 0 = x.posted.getD 7 0 ∧ l.getD 6 0 = 0) ∧
       (∀ op q, kind = 2 → s.hub.busMaster = true →
         let req := num 1 + num 2 * 2 ^ 32
         let r := Route.indirect h (num 4 + num 5 * 2 ^ 32) (num 6) (x.posted.getD 7 0)
         packetOf r (s.mem.host.bytes req 16) = some (op, q) → num 3 = 16 + q.len → op = 0x0101 →
         exec (.h2kBlockTake h) s =
           exec (.cmdGetFeatures { q with params := s.mem.host.bytes (req + 16) q.len }) u)) ∧
     (x.full = false ∨ 16 ≤ (Tab.get [] s.ctl.replyQ h).length → exec (.h2kBlockTake h) s = .next s) ∧
     (∀ r l, Tab.get [] s.ctl.replyQ h = r :: l →
       (y.full = false → y.timeout = false → ∃ t, exec (.k2hPost h) s = .next t ∧
         t.whb (2 * h + 1) = { stage := r, posted := r, full := true, timeout := false, start := s.fr } ∧
         (∀ k, k ≠ 2 * h + 1 → t.whb k = s.whb k) ∧ { t with ctl := { t.ctl with wh := s.ctl.wh } } = s) ∧
       (y.full = true ∨ y.timeout = true → exec (.k2hPost h) s = .next s)) ∧
     (Tab.get [] s.ctl.replyQ h = [] → exec (.k2hPost h) s = .next s))

/-- R467, R479, R480: the oldest in-band frame. A request without a key slot that holds a key, or whose tag fails, is
dropped and counted in WH_IB_BAD; one whose SEQ is not above the last of its slot in WH_IB_REPLAY; either raises
EV_CMD_AUTH. Any other sets the last SEQ and executes. A packet that fails check 1 under a held key is answered with
ST_BAD_PARAM. The model's own choices in it: a malformed request that no key can answer is dropped as one without a
key (log entry 26). -/
def Obligations.InBandRequestsAreAuthenticated : Prop :=
  ∀ (s : State) (b : List Byte) (rest : List (List Byte)) (op : Nat) (q : CmdReq), s.pair0Up = true →
    s.boot.romWait = false → s.ctl.inBand = b :: rest →
    packetOf (.inBand ((b.drop 6).take 6)) (b.drop 14) = some (op, q) →
    let key := s.keyOf q.authIdx
    let n := (16 + q.len + 3) / 4 * 4
    let packet := (b.drop 14).take n
    let tag := cmac key ([0x88, 0xB5] ++ packet)
    let form := q.formOk = true ∧ b.length = max 60 (30 + n)
    let good := q.authIdx ≠ 0 ∧ key ≠ [] ∧ (b.drop (14 + n)).take 16 = tag
    let u := { s with ctl := { s.ctl with inBand := rest } }
    let drop := fun (k : Nat) => ∃ t, exec (.inBandCommand b) s = .next t ∧
      t.reg k = W (satInc 32 (s.reg k).toNat) ∧ Raised t Ev.CMD_AUTH ∧ RegsAndHub u t [k, evReg Ev.CMD_AUTH]
    (form → ¬ good → drop Reg.WH_IB_BAD) ∧
    (form → good → q.seq.toNat ≤ Tab.get 0 s.ctl.authSeq q.authIdx → drop Reg.WH_IB_REPLAY) ∧
    (form → good → Tab.get 0 s.ctl.authSeq q.authIdx < q.seq.toNat →
      let w := { u with ctl := { u.ctl with authSeq := Tab.set 0 s.ctl.authSeq q.authIdx q.seq.toNat } }
      (op = 0x0101 → exec (.inBandCommand b) s = exec (.cmdGetFeatures q) w) ∧
      (op = 0x0105 → exec (.inBandCommand b) s = exec (.cmdSysReset q) w)) ∧
    (¬ form → q.authIdx ≠ 0 → key ≠ [] → exec (.inBandCommand b) s = .next (u.sendReply op q 3 [])) ∧
    (¬ form → q.authIdx = 0 ∨ key = [] → drop Reg.WH_IB_BAD)

/-- R462, R467 to R469, R473, R503, R511, R512: for every command packet. A route that pair 0 does not serve gets no
answer; a command that comes while another is under way waits behind those accepted before it, but a second
CMD_SURVEY_RUN is answered ST_BUSY at once; the first check that fails decides the reply, and the command then has no
effect: the form of the packet, Minimal mode, a download that the ROM waits for. The model's own choices in it: the
commands before DONE (log entry 28); a command waits behind those under way (log entry 35). -/
def Obligations.CommandsAreCheckedInOrder : Prop :=
  ∀ (s : State) (q : CmdReq) (l : List SurveyRec) (inTime : Bool),
    ∀ p ∈ [(0x0101, Instr.cmdGetFeatures q), (0x0102, .cmdRegRead q), (0x0103, .cmdRegWrite q), (0x0104, .cmdAuthKeySet q),
        (0x0105, .cmdSysReset q), (0x0210, .cmdMacsecSecy q), (0x0211, .cmdMacsecRxsc q), (0x0212, .cmdMacsecSa q),
        (0x0301, .cmdTblOps q), (0x0501, .cmdProgLoad q), (0x0502, .cmdPackDrain q), (0x0503, .cmdPackResume q),
        (0x0504, .cmdProgDrop q), (0x0601, .cmdFabForward q), (0x0A01, .cmdCfgStage q), (0x0A02, .cmdCfgCommit q),
        (0x0A03, .cmdCfgAbort q), (0x0A04, .cmdCfgStatus q), (0x0801, .cmdSurveyRun q l), (0x0802, .cmdSurveyGet q),
        (0x0810, .cmdFlashRead q), (0x0811, .cmdFlashErase q), (0x0812, .cmdFlashWrite q inTime),
        (0x0813, .cmdImgVerify q), (0x0814, .cmdImgDownload q), (0x0901, .cmdMetInfo q), (0x0902, .cmdMetRead q),
        (0x0903, .cmdMetOffer q)],
      let served := s.pair0Up = true ∧ s.serves q.route = true
      let free := s.cmdBusy = false ∧ s.ctl.accepted = []
      (¬ served → exec p.2 s = .next s) ∧
      (served → s.cmdBusy = true → p.1 = 0x0801 → s.surveying = true → q.formOk = true → q.len = 0 →
        Replies (exec p.2 s) p.1 q 1 [] (· = s)) ∧
      (served → s.cmdBusy = true → p.1 ≠ 0x0801 ∨ s.surveying = false →
        exec p.2 s = .next (s.setAccepted (s.ctl.accepted ++ [(p.1, q)]))) ∧
      (served → free → q.formOk = false → Replies (exec p.2 s) p.1 q 3 [] (· = s)) ∧
      (served → free → q.formOk = true → s.minimal = true → p.1 / 256 ≠ 1 → p.1 / 256 ≠ 8 →
        Replies (exec p.2 s) p.1 q 4 [] (· = s)) ∧
      (served → free → q.formOk = true → s.minimal = false → s.boot.romWait = true → p.1 ≠ 0x0101 → p.1 ≠ 0x0814 →
        (p.1 = 0x0801 → s.surveying = false) →
        Replies (exec p.2 s) p.1 q 4 [] (· = s))

/-- R464 to R466, R475, R476, R480, R482: a reply repeats OPCODE, TAG, SEQ and AUTH_IDX with REPLY set. A host pair's
enters its queue as a DIRECT block, with ST_NO_SPACE for what exceeds 60 bytes; an INDIRECT request's goes to RSP
before its COMPLETION, its header alone where RSP is too short; an in-band one leaves port 96 under the key's tag, or
is counted where the port is down; a peer's leaves in a control frame. The model's own choices in it: the length of a
reply counts its padding, and a short RSP takes the header (log entry 32). -/
def Obligations.RepliesGoBackOnTheirRoute : Prop :=
  ∀ (s : State) (op : Nat) (q : CmdReq) (st : Nat) (b : List Byte), op < 2 ^ 16 → st < 256 → b.length < 2 ^ 16 →
    (∀ h, q.route = .host h →
      ∃ r, s.sendReply op q st b = s.queueReply h r ∧ r.length = 16 ∧ r.getD 0 0 = 1 ∧
        r.getD 1 0 = W (op + 0x110000 + q.tag.toNat * 2 ^ 24) ∧ r.getD 3 0 = q.seq ∧ r.getD 4 0 = W q.authIdx ∧
        (b.length ≤ 44 → r.getD 2 0 = W (b.length + st * 2 ^ 16) ∧ (bytesOf (r.drop 5)).take b.length = b) ∧
        (44 < b.length → r.getD 2 0 = 0x00080000 ∧ ∀ w ∈ r.drop 5, w = 0)) ∧
    (∀ h rsp n cookie, q.route = .indirect h rsp n cookie → s.hub.busMaster = true →
      (Tab.get [] s.ctl.replyQ h).length < 16 →
      ∃ r, r.getD 0 0 = 4 ∧ r.getD 5 0 = cookie ∧
        Tab.get [] (s.sendReply op q st b).ctl.replyQ h = Tab.get [] s.ctl.replyQ h ++ [r] ∧
        (16 + (b.length + 3) / 4 * 4 ≤ n → r.getD 6 0 = W (16 + (b.length + 3) / 4 * 4) ∧
          ∀ i (k : i < b.length), (s.sendReply op q st b).mem.host.rd (rsp + 16 + i) = b[i]) ∧
        (n < 16 + (b.length + 3) / 4 * 4 → r.getD 6 0 = 16 ∧
          (s.sendReply op q st b).mem.host.rd (rsp + 6) = 8 ∧
          ∀ a, a < rsp ∨ rsp + 16 ≤ a → (s.sendReply op q st b).mem.host.rd a = s.mem.host.rd a)) ∧
    (∀ src, q.route = .inBand src → b.length ≤ 9550 →
      (s.mgmtUp = true → ∃ f, (s.sendReply op q st b).pins = .frame 96 f false :: s.pins ∧
        f.take 14 = (src ++ s.ibMac ++ [0x88, 0xB5]).take 14 ∧
        { s.sendReply op q st b with pins := s.pins, ctl := s.ctl } = s) ∧
      (s.mgmtUp = false → s.sendReply op q st b = s.bump (Reg.PORT_IDROP 96 7))) ∧
    (∀ d k, q.route = .fabric d → s.nextHop d 0 = some k → s.linkUp k = true → b.length ≤ 9580 →
      (s.fabLink k).ctlq = [] → (s.fabLink k).ctlOut < 8 → (s.eport (50 + k)).sending = none →
      ∃ f, (s.sendReply op q st b).pins = .control k f :: s.pins ∧ hdrType f = 1 ∧ hdrDst f = d % 16 ∧
        (f.drop 32).take b.length = b)

/-- R8, R35, R469, R481, R492, R513, R581: the features; reads in order with nothing cleared, all refused at the first
offset that is no register word of BAR0 or is a lock; writes in order up to the first refusal; a key for slots 2 to 15
from a host pair alone, with its last SEQ at 0; the reply of a reset, then a self reset in 1 ms. The model's own
choices in it: the first refused offset gives the status (log entry 30); what a write is refused for (log entry 29). -/
def Obligations.DeviceCommands : Prop :=
  ∀ (s : State) (q : CmdReq), TakesNow s q →
    (q.len = 0 → ∃ c0 c1, Replies (exec (.cmdGetFeatures q) s) 0x0101 q 0
      (bytesOf [s.chip.census0, s.chip.census1, s.chip.fwVersion, c0, c1, 0]) (· = s) ∧
      (s.flag (Reg.DDR_CTRL 0) 2 = false → c0 = 0) ∧
      (s.flag (Reg.DDR_CTRL 0) 2 = true → s.fld (Reg.DDR_CTRL 0) 10 8 ≠ 0 → 0 < s.chip.ddrs →
        c0 = W (capGib (s.fld (Reg.DDR_CTRL 0) 10 8) * 896))) ∧
    (q.len ≠ 0 → Replies (exec (.cmdGetFeatures q) s) 0x0101 q 3 [] (· = s)) ∧
    (∀ offs : List Nat, q.args = bytesOf (offs.map W) → (∀ o ∈ offs, o < 2 ^ 32) →
      ((∀ o ∈ offs, o ∈ [Reg.HERD_TMO, Reg.DSP_AFF, Reg.HERD_HOLES, Reg.KN_ERR_CNT, Reg.LEASH_DENY_CNT, Reg.SYS_GPIO_OUT]) →
        Replies (exec (.cmdRegRead q) s) 0x0102 q 0 (bytesOf (offs.map s.reg)) (· = s)) ∧
      ∀ (a b : List Nat) (o : Nat), offs = a ++ o :: b →
        (∀ x ∈ a, x % 4 = 0 ∧ x < 0x4000000 ∧ (x < 0x400000 ∨ 0x404000 ≤ x)) →
        (o % 4 ≠ 0 ∨ 0x4000000 ≤ o → Replies (exec (.cmdRegRead q) s) 0x0102 q 3 [] (· = s)) ∧
        (o % 4 = 0 → 0x400000 ≤ o → o < 0x404000 → Replies (exec (.cmdRegRead q) s) 0x0102 q 4 [] (· = s))) ∧
    (∀ (l : List (Nat × Word)) (v w : Word),
      let regs := [(Reg.HERD_TMO, 0x000FFFFF#32), (Reg.DSP_AFF, 0x00010FFF#32), (Reg.SYS_GPIO_OUT, 0x0000FFFF#32),
        (Reg.LEASH_GRP_TMO 63, 0x000FFFFF#32)]
      let put := fun (t : State) (p : (Nat × Word) × Word) =>
        t.setReg p.1.1 ((t.reg p.1.1 &&& ~~~p.1.2) ||| (p.2 &&& p.1.2))
      (∀ m : List ((Nat × Word) × Word), (∀ p ∈ m, p.1 ∈ regs) →
        (q.args = bytesOf (m.flatMap fun p => [W p.1.1, p.2]) →
          Replies (exec (.cmdRegWrite q) s) 0x0103 q 0 (leBytes 4 m.length) (· = m.foldl put s)) ∧
        (q.args = bytesOf ((m.flatMap fun p => [W p.1.1, p.2]) ++ [W 0x400000, v] ++ l.flatMap fun p => [W p.1, p.2]) →
          Replies (exec (.cmdRegWrite q) s) 0x0103 q 4 (leBytes 4 m.length) (· = m.foldl put s)) ∧
        (q.args = bytesOf ((m.flatMap fun p => [W p.1.1, p.2]) ++ [W 0x400001, w]) →
          Replies (exec (.cmdRegWrite q) s) 0x0103 q 3 (leBytes 4 m.length) (· = m.foldl put s)))) ∧
    (q.len = 20 → leNat ((q.args.drop 1).take 3) = 0 →
      let i := (byteAt q.args 0).toNat
      (∀ h, q.route = .host h → 2 ≤ i → i ≤ 15 → Replies (exec (.cmdAuthKeySet q) s) 0x0104 q 0 [] fun u =>
        Tab.get [] u.ctl.authKey i = (q.args.drop 4).take 16 ∧ Tab.get 0 u.ctl.authSeq i = 0 ∧
        (∀ k, k ≠ i → Tab.get [] u.ctl.authKey k = Tab.get [] s.ctl.authKey k) ∧ { u with ctl := s.ctl } = s) ∧
      (∀ h, q.route = .host h → i < 2 ∨ 15 < i → Replies (exec (.cmdAuthKeySet q) s) 0x0104 q 3 [] (· = s)) ∧
      (∀ src, q.route = .inBand src → Replies (exec (.cmdAuthKeySet q) s) 0x0104 q 4 [] (· = s))) ∧
    (q.len = 1 → s.boot.resetAt = none → Replies (exec (.cmdSysReset q) s) 0x0105 q 0 [] fun u =>
      u.boot.resetAt = some (s.fr + 1000000) ∧
      u.fld Reg.SYS_BOOT_TRIES 3 0 = (if (byteAt q.args 0).toNat % 2 = 1 then 0 else s.fld Reg.SYS_BOOT_TRIES 3 0) ∧
      (∀ k, k ≠ Reg.SYS_BOOT_TRIES → u.reg k = s.reg k) ∧ { u with regs := s.regs, boot := s.boot } = s)

/-- R9, R11, R301, R303, R329, R330, R469, R531: the SecY, receive SC and SA commands set what they name and nothing else,
with an SA's key and packet number and the transmit SA in use, the threshold event, ST_ABSENT without the crypto unit
or the quad before any other refusal, ST_BAD_PARAM for a layout or a value out of range; CMD_TBL_OPS completes its
descriptors in order. R289, R300, R469, R531: a CMD_TBL_OPS whose operation the update unit has queued waits, and goes
on when that update has been applied: the last descriptor's end is its reply. After a FATAL error the Lookup Engine
does not answer, and the waiting command ends with ST_TIMEOUT. The model's own choices in it: the SA enabled last is
the one in use (log entry 22); the source of IRQ is free (log entry 23); ST_TIMEOUT after FATAL (log entry 36). -/
def Obligations.MacsecAndTableCommands : Prop :=
  (∀ (s : State) (q : CmdReq), TakesNow s q →
     let a := q.args
     let at8 := fun (i : Nat) => (byteAt a i).toNat
     let num := fun (i n : Nat) => leNat ((a.drop i).take n)
     let all := [(0x0210, Instr.cmdMacsecSecy q), (0x0211, .cmdMacsecRxsc q), (0x0212, .cmdMacsecSa q)]
     (s.chip.crypto = false → ∀ p ∈ all, Replies (exec p.2 s) p.1 q 2 [] (· = s)) ∧
     (s.chip.crypto = true → s.chip.quads ≤ 12 → ∀ p ∈ all.zip [(0, [16]), (2, [12]), (0, [48, 64])],
       let i := p.2.1
       let absent := i < q.len ∧ 4 * s.chip.quads ≤ at8 i ∧ at8 i < 48
       (absent → Replies (exec p.1.2 s) p.1.1 q 2 [] (· = s)) ∧
       (¬ absent → q.len ∉ p.2.2 → Replies (exec p.1.2 s) p.1.1 q 3 [] (· = s))) ∧
     (s.chip.crypto = true → q.len = 16 → s.chip.quads ≤ 12 →
       (at8 0 < 4 * s.chip.quads → at8 1 ≤ 3 → at8 2 ∈ [0, 30, 50] → at8 3 < 16 →
         Replies (exec (.cmdMacsecSecy q) s) 0x0210 q 0 [] fun u =>
           u.secy (at8 0) = { s.secy (at8 0) with
             suite := at8 1, offset := at8 2, strict := decide (at8 3 % 2 = 1), replay := decide (at8 3 / 2 % 2 = 1),
             sc := decide (at8 3 / 4 % 2 = 1), protect := decide (at8 3 / 8 % 2 = 1), window := num 4 4,
             sci := BitVec.ofNat 64 (num 8 8) } ∧
           (∀ k, k ≠ at8 0 → u.secy k = s.secy k) ∧ { u with ports := { u.ports with secys := s.ports.secys } } = s) ∧
       (4 * s.chip.quads ≤ at8 0 → at8 0 < 48 → Replies (exec (.cmdMacsecSecy q) s) 0x0210 q 2 [] (· = s)) ∧
       (at8 0 < 4 * s.chip.quads → 3 < at8 1 ∨ at8 2 ∉ [0, 30, 50] ∨ 16 ≤ at8 3 →
         Replies (exec (.cmdMacsecSecy q) s) 0x0210 q 3 [] (· = s))) ∧
     (s.chip.crypto = true → q.len = 12 → s.chip.quads ≤ 12 → at8 2 < 4 * s.chip.quads →
       (num 0 2 ≤ 255 → at8 3 < 2 → Replies (exec (.cmdMacsecRxsc q) s) 0x0211 q 0 [] fun u =>
         Tab.get {} u.ports.rxscs (num 0 2) = ⟨at8 2, decide (at8 3 = 1), BitVec.ofNat 64 (num 4 8)⟩ ∧
         (∀ k, k ≠ num 0 2 → Tab.get {} u.ports.rxscs k = Tab.get {} s.ports.rxscs k) ∧
         { u with ports := { u.ports with rxscs := s.ports.rxscs } } = s) ∧
       (255 < num 0 2 ∨ 2 ≤ at8 3 → Replies (exec (.cmdMacsecRxsc q) s) 0x0211 q 3 [] (· = s))) ∧
     (s.chip.crypto = true → s.chip.quads ≤ 12 → at8 0 < 4 * s.chip.quads → at8 1 ≤ 1 → at8 4 ≤ 3 → at8 5 ≤ 1 →
       num 6 2 = 0 → (at8 1 = 1 → num 2 2 ≤ 255) →
       let suite := (s.secy (at8 0)).suite
       let x : SecA := { en := decide (at8 5 = 1), pn := num 8 8, ssci := wordAt a 4, salt := (a.drop 20).take 12, key := a.drop 32 }
       let limit := 3 * 2 ^ ((if 2 ≤ suite then 64 else 32) - 2)
       q.len = 32 + (if suite % 2 = 0 then 16 else 32) →
       (at8 1 = 1 → Replies (exec (.cmdMacsecSa q) s) 0x0212 q 0 [] fun u =>
         u.sa (saRx (num 2 2) (at8 4)) = x ∧ { u with ports := { u.ports with sas := s.ports.sas } } = s) ∧
       (at8 1 = 0 → Replies (exec (.cmdMacsecSa q) s) 0x0212 q 0 [] fun u =>
         u.sa (saTx (at8 0) (at8 4)) = x ∧ (at8 5 = 1 → (u.secy (at8 0)).txAn = at8 4) ∧
         (at8 5 = 1 → limit ≤ num 8 8 → Raised u (Ev.MACSEC_PN (at8 0))) ∧
         (at8 5 = 0 ∨ num 8 8 < limit → { u with ports := s.ports } = s))) ∧
     (q.len % 32 ≠ 0 → Replies (exec (.cmdTblOps q) s) 0x0301 q 3 [] (· = s)) ∧
     (q.len % 32 = 0 → s.hub.fatal = true → Replies (exec (.cmdTblOps q) s) 0x0301 q 7 [] (· = s)) ∧
     (q.len = 0 → s.hub.fatal = false → Replies (exec (.cmdTblOps q) s) 0x0301 q 0 [] (· = s)) ∧
     (q.len = 32 → s.hub.fatal = false → (tdescOf a).irq = false →
       let u := s.tblTake a
       (∀ r, u.tblOver = some r → ∃ b, Replies (exec (.cmdTblOps q) s) 0x0301 q 0 b (· = u.setTrun 4 none) ∧
         b.length = 32 ∧ byteAt b 3 = B8 r.status ∧ leNat ((b.drop 4).take 4) = r.bucket % 2 ^ 32 ∧
         b.take 3 = a.take 3 ∧ b.drop 10 = a.drop 10) ∧
       (u.tblOver = none → exec (.cmdTblOps q) s = .next { u with ctl := { u.ctl with tblWait := some (q, a, []) } }))) ∧
  (∀ (s : State) (q : CmdReq) (left out : List Byte) (ue : Option Nat), left.length = 32 →
     (∀ o rest, s.running = true → s.help.updates = .op 4 o :: rest → (tdescOf left).irq = false →
       let w := s.updateApply ue
       let u := ({ w with ctl := { w.ctl with tblWait := none } }).tdmaGo 4 0
       w.ctl.tblWait = some (q, left, out) →
       (∀ r, u.tblOver = some r → u.ctl.accepted = [] →
         Replies (exec (.updateUnitApply ue) s) 0x0301 q 0 (out ++ tdescDone left r) (· = u.setTrun 4 none)) ∧
       (u.tblOver = none → exec (.updateUnitApply ue) s =
         .next { u with ctl := { u.ctl with tblWait := some (q, left, out) } })) ∧
     (s.hub.fatal = true → s.ctl.tblWait = some (q, left, out) → s.ctl.accepted = [] →
       Replies (exec (.updateUnitApply ue) s) 0x0301 q 7 []
         (· = ({ s with ctl := { s.ctl with tblWait := none } }).setTrun 4 none)))

/-- R490, R491, R494: a load writes the instruction store of the present packs of its mask and adds its blocks to the
staged epoch's region, and is denied without a stage or on a block of the ingress epoch; a drop removes blocks; a
drain closes the packs to jobs and ends when they are empty or its limit has passed; a resume opens them. The model's
own choices in it: what the code regions hold after a start (log entry 38). -/
def Obligations.ProgramsAndPacks : Prop :=
  ∀ (s : State) (q : CmdReq),
    let a := q.args
    let num := fun (i n : Nat) => leNat ((a.drop i).take n)
    let mask := wordAt a 0
    let img := a.drop 8
    let n := img.length
    let addr := num 4 2
    let ps := s.packsIn mask
    let hits := fun (x k b : Nat) => decide (x / 256 ≤ b ∧ b * 256 < x + k)
    let opened := s.flag Reg.SYS_EPOCH 1
    let drained := fun (u : State) => (∀ p < 32, p ∈ u.disp.drained ↔ p ∈ s.disp.drained ∨ p ∈ ps) ∧
      { u with disp := { u.disp with drained := s.disp.drained }, ctl := s.ctl } = s
    (TakesNow s q →
      (8 < q.len → num 6 2 = 0 → addr % 4 = 0 → n % 4 = 0 → addr + n ≤ 0x10000 →
        (opened = true → (∀ b ∈ s.code s.ing, hits addr n b = false) →
          Replies (exec (.cmdProgLoad q) s) 0x0501 q 0 [] fun u =>
            (∀ p < s.chip.packs, ∀ i < 0x10000, u.mem.istore.rd (p * 0x10000 + i) =
              if bitOf mask p = true ∧ addr ≤ i ∧ i < addr + n then byteAt img (i - addr)
              else s.mem.istore.rd (p * 0x10000 + i)) ∧
            (∀ b < 256, b ∈ u.code s.spare ↔ b ∈ s.code s.spare ∨ hits addr n b = true) ∧
            u.code s.ing = s.code s.ing ∧ u.regs = s.regs ∧ { u.mem with istore := s.mem.istore } = s.mem) ∧
        (opened = false ∨ (∃ b ∈ s.code s.ing, hits addr n b = true) →
          Replies (exec (.cmdProgLoad q) s) 0x0501 q 4 [] (· = s))) ∧
      (q.len ≤ 8 ∨ num 6 2 ≠ 0 ∨ addr % 4 ≠ 0 ∨ n % 4 ≠ 0 ∨ 0x10000 < addr + n →
        Replies (exec (.cmdProgLoad q) s) 0x0501 q 3 [] (· = s)) ∧
      (q.len = 8 → num 2 2 = 0 → num 0 2 % 256 = 0 → num 4 4 % 256 = 0 → num 4 4 ≠ 0 → num 0 2 + num 4 4 ≤ 0x10000 →
        (opened = true → Replies (exec (.cmdProgDrop q) s) 0x0504 q 0 [] fun u =>
          (∀ b, b ∈ u.code s.spare ↔ b ∈ s.code s.spare ∧ hits (num 0 2) (num 4 4) b = false) ∧
            u.code s.ing = s.code s.ing ∧ { u with ctl := s.ctl } = s) ∧
        (opened = false → Replies (exec (.cmdProgDrop q) s) 0x0504 q 4 [] (· = s))) ∧
      (q.len = 8 → s.packsEmpty ps = true → Replies (exec (.cmdPackDrain q) s) 0x0502 q 0 [] drained) ∧
      (q.len = 8 → s.packsEmpty ps = false → num 4 4 = 0 → Replies (exec (.cmdPackDrain q) s) 0x0502 q 7 [] drained) ∧
      (q.len = 8 → s.packsEmpty ps = false → num 4 4 ≠ 0 → ∃ t, exec (.cmdPackDrain q) s = .next t ∧ drained t ∧
        t.ctl.drainWait = some (q, ps, s.fr + num 4 4 * 1000000)) ∧
      (q.len = 4 → Replies (exec (.cmdPackResume q) s) 0x0503 q 0 [] fun u =>
        (∀ p, p ∈ u.disp.drained ↔ p ∈ s.disp.drained ∧ p ∉ ps) ∧
          { u with disp := { u.disp with drained := s.disp.drained } } = s)) ∧
    (∀ packs limit, s.ctl.drainWait = some (q, packs, limit) → s.ctl.accepted = [] → s.ctl.fwdWait = none →
      let u := { s with ctl := { s.ctl with drainWait := none } }
      (s.packsEmpty packs = true → Replies (exec .packDrainComplete s) 0x0502 q 0 [] (· = u)) ∧
      (s.packsEmpty packs = false → limit ≤ s.fr → Replies (exec .packDrainComplete s) 0x0502 q 7 [] (· = u)) ∧
      (s.packsEmpty packs = false → s.fr < limit → exec .packDrainComplete s = .next s))

/-- R483 to R489, R497: a stage opens for the spare epoch once its count is 0 and starts as a copy of the ingress epoch; a
commit switches ingress, closes the stage and reports the old epoch if it has drained already; an abort closes it; the
status is a copy of SYS_EPOCH. The model's own choices in it: none but the order of commands (log entry 1). -/
def Obligations.EpochsStageCommitAndAbort : Prop :=
  ∀ (s : State) (q : CmdReq), TakesNow s q →
    let e := s.spare
    let i := s.ing
    let opened := s.flag Reg.SYS_EPOCH 1
    let all := [(0x0A01, Instr.cmdCfgStage q), (0x0A02, .cmdCfgCommit q), (0x0A03, .cmdCfgAbort q), (0x0A04, .cmdCfgStatus q)]
    (q.len ≠ 0 → ∀ p ∈ all, Replies (exec p.2 s) p.1 q 3 [] (· = s)) ∧
    (q.len = 0 →
      (s.fld (Reg.HERD_EPOCH_CNT e) 17 0 ≠ 0 → Replies (exec (.cmdCfgStage q) s) 0x0A01 q 6 [] (· = s)) ∧
      (s.fld (Reg.HERD_EPOCH_CNT e) 17 0 = 0 → opened = true →
        Replies (exec (.cmdCfgStage q) s) 0x0A01 q 3 [] (· = s)) ∧
      (s.fld (Reg.HERD_EPOCH_CNT e) 17 0 = 0 → opened = false → s.chip.packs ≤ 32 →
        Replies (exec (.cmdCfgStage q) s) 0x0A01 q 0 [] fun u =>
          u.flag Reg.SYS_EPOCH 1 = true ∧ u.ing = i ∧ u.code e = s.code i ∧ u.mem = s.mem ∧ u.ctxs = s.ctxs ∧
          u.reg (classMapOff e) = s.reg (classMapOff i) ∧
          (∀ p < s.chip.packs, ∀ c < 8, u.reg (Reg.PACK_ENTRY p (8 * e + c)) = s.reg (Reg.PACK_ENTRY p (8 * i + c))) ∧
          (∀ k < 16, u.reg (Reg.CLS_PCTL e k) = s.reg (Reg.CLS_PCTL i k) ∧
            u.reg (Reg.CLS_PSEED e k) = s.reg (Reg.CLS_PSEED i k) ∧
            ∀ f < 8, u.reg (Reg.CLS_PFLD e k f) = s.reg (Reg.CLS_PFLD i k f)) ∧
          (∀ k < 64, u.flag (Reg.TBL_CTRL k) e = s.flag (Reg.TBL_CTRL k) i)) ∧
      (opened = false → Replies (exec (.cmdCfgCommit q) s) 0x0A02 q 3 [] (· = s) ∧
        Replies (exec (.cmdCfgAbort q) s) 0x0A03 q 3 [] (· = s)) ∧
      (opened = true →
        (Replies (exec (.cmdCfgCommit q) s) 0x0A02 q 0 [] fun u =>
          u.ing = e ∧ u.flag Reg.SYS_EPOCH 1 = false ∧ u.mem = s.mem ∧ u.ctxs = s.ctxs ∧ u.herd = s.herd ∧
          u.flag Reg.SYS_EPOCH 2 = decide (s.fld (Reg.HERD_EPOCH_CNT i) 17 0 = 0) ∧
          (s.fld (Reg.HERD_EPOCH_CNT i) 17 0 = 0 → Raised u Ev.EPOCH_DRAINED ∧
            ∀ h < 4, (Tab.get [] s.ctl.replyQ h).length < 16 → ∃ l, Tab.get [] u.ctl.replyQ h = Tab.get [] s.ctl.replyQ h ++ [W 3 :: W 2 :: l])) ∧
        Replies (exec (.cmdCfgAbort q) s) 0x0A03 q 0 [] fun u =>
          u.ing = i ∧ u.flag Reg.SYS_EPOCH 1 = false ∧ OnlyRegs s u [Reg.SYS_EPOCH]) ∧
      Replies (exec (.cmdCfgStatus q) s) 0x0A04 q 0 (leBytes 4 (s.reg Reg.SYS_EPOCH).toNat) (· = s))

/-- R501, R503, R505 to R507, R510, R511, R514, R519: a download that verifies is loaded, one that does not leaves the ROM
waiting, and outside a wait none is taken; a Survey replaces the report, with its records for the rails, PHYs and LFL
neighbours, and raises its event for a supply out of range, and a second one is answered ST_BUSY; the report, the
flash and an image check read out; an erase sets a range to ones and a write clears bits, but not in the copy that the
device runs from. The model's own choices in it: flash bits only clear, and erased bytes are 0xFF (log entry 7); the
SVN field and the limits of a Keeper section (log entry 37); bus mastering (log entry 12). -/
def Obligations.ImagesSurveyAndFlash : Prop :=
  ∀ (s : State) (q : CmdReq), s.pair0Up = true → s.serves q.route = true → s.cmdBusy = false → s.ctl.accepted = [] →
    q.formOk = true →
    let num := fun (i n : Nat) => leNat ((q.args.drop i).take n)
    let good := fun (read : Nat → Nat → List Byte) (limit : Nat) =>
      let h := read 0 256
      let at_ := fun (i n : Nat) => leNat ((h.drop i).take n)
      let key := (h.drop 0x30).take 96
      let fits := fun (off len : Nat) => off + len ≤ at_ 12 4 ∧ len ≤ 0x180000
      256 ≤ limit ∧ at_ 0 4 = 0x4956524C ∧ 256 + at_ 12 4 ≤ limit ∧
        (sha384 key = s.chip.keyHash ∨ ∀ x ∈ s.chip.keyHash, x = 0) ∧
        ecdsaP384 key ((h.drop 0x90).take 96) (h.take 0x90 ++ read 256 (at_ 12 4)) = true ∧
        s.chip.minSvn.toNat ≤ at_ 8 4 ∧ at_ 8 4 ≤ 65535 ∧ fits (at_ 0x10 4) (at_ 0x14 4) ∧ fits (at_ 0x18 4) (at_ 0x1C 4)
    let noted := fun (u : State) (svn : Nat) => u.fld Reg.SYS_BOOT_STATUS 10 8 = 2 ∧
      u.fld Reg.SYS_BOOT_STATUS 31 16 = svn ∧ (∀ k, k ≠ Reg.SYS_BOOT_STATUS → u.reg k = s.reg k)
    let a := num 0 4
    let size := s.chip.flashSize
    let copy := s.fld Reg.SYS_BOOT_STATUS 10 8
    let closed := fun (n : Nat) => s.minimal = false ∧ copy < 2 ∧ a < (copy + 1) * 0x1000000 ∧ copy * 0x1000000 < a + n
    let byte := fun (t : State) (i : Nat) => ~~~(t.mem.flash.rd i)
    let only := fun (u : State) => { u with mem := { u.mem with flash := s.mem.flash } } = s
    (s.boot.romWait = false → Replies (exec (.cmdImgDownload q) s) 0x0814 q 4 [] (· = s)) ∧
    (s.boot.romWait = true → q.len = 12 →
      let read := fun (i n : Nat) => s.mem.host.bytes (num 0 8 + i) n
      let limit := if s.hub.busMaster then num 8 4 else 0
      let svn := leNat (((read 0 256).drop 8).take 2)
      (good read limit → Replies (exec (.cmdImgDownload q) s) 0x0814 q 0 [] fun u => noted u svn ∧ u.boot.romWait = false ∧
        { u with regs := s.regs, boot := s.boot } = s) ∧
      (¬ good read limit → Replies (exec (.cmdImgDownload q) s) 0x0814 q 3 [] fun u => noted u svn ∧ u.boot = s.boot ∧
        { u with regs := s.regs } = s)) ∧
    (s.boot.romWait = false →
      (∀ l : List SurveyRec, s.minimal = true → s.surveying = false → q.len = 0 → Replies (exec (.cmdSurveyRun q l) s) 0x0801 q 4 [] (· = s)) ∧
      (∀ l : List SurveyRec, s.minimal = false → q.len = 0 → s.surveying = false →
        let recs := s.surveyRecs l
        let has := fun (ty n : Nat) (p : List Byte → Prop) => ∃ r ∈ recs, r.length = 16 ∧ byteAt r 0 = B8 ty ∧
          byteAt r 1 = B8 n ∧ byteAt r 3 = 0 ∧ p r
        let lo := fun (n : Nat) => (railRange s.vset n).1
        let hi := fun (n : Nat) => (railRange s.vset n).2
        (Replies (exec (.cmdSurveyRun q l) s) 0x0801 q 0 [] fun u =>
          u.boot = { s.boot with survey := recs.flatten } ∧ u.fld Reg.SYS_SURVEY 1 0 = 1 ∧
          u.fld Reg.SYS_SURVEY 15 8 = recs.length % 256 ∧
          u.fld Reg.SYS_SURVEY 23 16 = (recs.filter fun r => byteAt r 2 == 1 || byteAt r 2 == 2).length % 256 ∧
          ((∃ n v pm, .rail n (some v) pm ∈ l ∧ n < 8 ∧ (v < lo n ∨ hi n < v)) → Raised u Ev.SURVEY_FAULT) ∧
          (∀ k, k ∉ [Reg.SYS_SURVEY, evReg Ev.SURVEY_FAULT] → u.reg k = s.reg k)) ∧
        (∀ n v pm, .rail n (some v) pm ∈ l → n < 8 → has 1 n fun r => leNat ((r.drop 4).take 2) = v % 65536 ∧
          leNat ((r.drop 6).take 2) = lo n % 65536 ∧ leNat ((r.drop 8).take 2) = hi n % 65536 ∧
          byteAt r 2 = if lo n ≤ v ∧ v ≤ hi n then 0 else 1) ∧
        (∀ n pm, .rail n none pm ∈ l → n < 8 → has 1 n fun r => byteAt r 2 = 2) ∧
        (∀ n cable m x, .phy n cable m x ∈ l → n < 256 → s.portOn n = true →
          has 3 n fun r => byteAt r 2 = 3 ∧ leNat ((r.drop 4).take 2) = 0xFFFF) ∧
        (∀ n < s.chip.quads, s.portKind (128 + n) = .lfl → has 4 n fun r =>
          byteAt r 2 = (if s.linkUp n then 0 else 2) ∧
          (s.linkUp n = true → leNat ((r.drop 4).take 8) = (s.fabLink n).peerUid.toNat))) ∧
      (∀ l : List SurveyRec, s.surveying = true → q.len = 0 → Replies (exec (.cmdSurveyRun q l) s) 0x0801 q 1 [] (· = s)) ∧
      (q.len = 6 →
        (num 4 2 = 0 → Replies (exec (.cmdSurveyGet q) s) 0x0802 q 0 [] (· = s)) ∧
        (0 < num 4 2 → a + num 4 2 ≤ s.boot.survey.length →
          Replies (exec (.cmdSurveyGet q) s) 0x0802 q 0 ((s.boot.survey.drop a).take (num 4 2)) (· = s)) ∧
        (0 < num 4 2 → s.boot.survey.length < a + num 4 2 → Replies (exec (.cmdSurveyGet q) s) 0x0802 q 3 [] (· = s)) ∧
        (a + num 4 2 ≤ size → Replies (exec (.cmdFlashRead q) s) 0x0810 q 0
          ((List.range (num 4 2)).map fun i => byte s (a + i)) (· = s)) ∧
        (size < a + num 4 2 → Replies (exec (.cmdFlashRead q) s) 0x0810 q 3 [] (· = s))) ∧
      (q.len = 8 → a % 65536 = 0 → num 4 4 % 65536 = 0 → 0 < num 4 4 → a + num 4 4 ≤ size →
        (¬ closed (num 4 4) → Replies (exec (.cmdFlashErase q) s) 0x0811 q 0 [] fun u => only u ∧
          ∀ i, byte u i = if a ≤ i ∧ i < a + num 4 4 then 0xFF else byte s i) ∧
        (closed (num 4 4) → Replies (exec (.cmdFlashErase q) s) 0x0811 q 4 [] (· = s))) ∧
      (q.len = 8 → a % 65536 ≠ 0 ∨ num 4 4 % 65536 ≠ 0 ∨ num 4 4 = 0 ∨ size < a + num 4 4 →
        Replies (exec (.cmdFlashErase q) s) 0x0811 q 3 [] (· = s)) ∧
      (4 ≤ q.len → a + (q.len - 4) ≤ size →
        (¬ closed (q.len - 4) → Replies (exec (.cmdFlashWrite q true) s) 0x0812 q 0 [] fun u => only u ∧
          ∀ i, byte u i = if a ≤ i ∧ i < a + (q.len - 4) then byte s i &&& byteAt q.args (4 + (i - a)) else byte s i) ∧
        (¬ closed (q.len - 4) → ∃ n ≤ q.len - 4, Replies (exec (.cmdFlashWrite q false) s) 0x0812 q 7 [] fun u =>
          { u with mem := { u.mem with flash := s.mem.flash }, freeCtr := s.freeCtr } = s ∧
          ∀ i, byte u i = if a ≤ i ∧ i < a + n then byte s i &&& byteAt q.args (4 + (i - a)) else byte s i) ∧
        (closed (q.len - 4) → ∀ ok, Replies (exec (.cmdFlashWrite q ok) s) 0x0812 q 4 [] (· = s))) ∧
      (q.len = 1 → (byteAt q.args 0).toNat ≤ 1 →
        let base := (byteAt q.args 0).toNat * 0x1000000
        let read := fun (i n : Nat) => (List.range n).map fun k => byte s (base + i + k)
        let magic := leNat (read 0 4) = 0x4956524C
        ∃ r, Replies (exec (.cmdImgVerify q) s) 0x0813 q 0 (leBytes 4 (r + leNat (read 8 2) * 2 ^ 16)) (· = s) ∧
          (r = 0 ↔ good read (min 0x1000000 (size - base))) ∧ (¬ magic → r = 0x0A)))

/-- R545 to R551: the island enters a signed record when a period ends, the ADC stops, it starts or an offer is accepted,
each with the next sequence number, and posts an export block; a judged offer is accepted only with the seal open at
both ends, the fuse whole, room in the audit count and a good image or parameter, and counts once; power loss empties
the log. The model's own choices in it: signatures and images of the island are opaque or operands (log entry 6);
PERIOD_S is parameter 3 (log entry 25). -/
def Obligations.IslandKeepsItsLog : Prop :=
  ∀ (s : State), s.chip.metro = true →
    let x := s.island
    let ty := fun (t : State) (n : Nat) => byteAt (Tab.get [] t.island.log (n % 1024)) 4
    let entered := fun (t : State) (k : Nat) => t.island.entries = x.entries + 1 ∧ ty t x.entries = B8 k ∧
      (t.whb 12).full = true ∧ (t.whb 12).posted.getD 0 0 = 5 ∧ (t.whb 12).posted.getD 1 0 = W x.entries ∧
      t.mem = s.mem ∧ t.ctxs = s.ctxs
    (x.powered = true →
      (∀ i e : BitVec 64,
        let p := (Tab.get 0 x.params 3).toNat * 1000000000
        (0 < p → x.rtcNs % p = 0 → x.recAt < x.rtcNs → ∃ t, exec (.metRecordPeriod i e) s = .next t ∧ entered t 1 ∧
          t.island.rtcNs = x.rtcNs ∧ t.island.recAt = x.rtcNs) ∧
        (x.rtcNs % p ≠ 0 ∨ x.rtcNs ≤ x.recAt → exec (.metRecordPeriod i e) s = .next s)) ∧
      (x.adcOk = true → ∃ t, exec .adcFault s = .next t ∧ entered t 6 ∧ t.island.adcOk = false) ∧
      exec .adcAnswering s = .next { s with island := { x with adcOk := true } } ∧
      (∀ low, x.sealLow ≠ low → ∃ t, exec (.sealNEdge low) s = .next t ∧ t.island = { x with sealLow := low } ∧
        Raised t Ev.METRO_SEAL ∧ RegsAndHub { s with island := t.island } t [evReg Ev.METRO_SEAL]) ∧
      (x.newSlot = false → ∀ ok, exec (.metRstN ok) s = .next { s with island := { x with posts := 0, offer := none } }) ∧
      (x.newSlot = true → (∃ t, exec (.metRstN true) s = .next t ∧ t.island.slot = 1 - x.slot ∧
          t.island.newSlot = false ∧ t.island.entries = x.entries) ∧
        ∃ t, exec (.metRstN false) s = .next t ∧ t.island.slot = x.slot ∧ t.island.newSlot = false ∧ entered t 3) ∧
      (∃ t, exec .vddMetLoss s = .next t ∧ t.island.powered = false ∧ t.island.log = [] ∧ t.island.entries = 0 ∧
        t.flag Reg.MET_STAT 0 = false ∧ t.island.audit = x.audit ∧ t.island.fuseBlown = x.fuseBlown ∧
        t.island.params = x.params) ∧
      (∃ t, exec .mirrorRefill s = .next t ∧ t.flag Reg.MET_STAT 0 = true ∧ OnlyRegs s t [Reg.MET_STAT]) ∧
      (∀ (kind : Nat) (b : List Byte) (sealEnd imageOk paramOk : Bool), x.offer = some (kind, b) → kind ∈ [1, 2, 3] →
        s.ctl.offerWait = none →
        let accepts := x.offerLow = true ∧ sealEnd = true ∧ x.fuseBlown = false ∧ (kind = 2 → imageOk = true) ∧
          x.audit < 4095 ∧ (kind = 1 → paramOk = true)
        let i := Instr.metOfferJudge sealEnd imageOk paramOk
        (accepts → ∃ t, exec i s = .next t ∧ t.island.audit = x.audit + 1 ∧ t.island.entries = x.entries + 1 ∧
          t.island.offer = none ∧ ty t x.entries = (if kind = 1 then 2 else if kind = 2 then 3 else 5) ∧
          Raised t Ev.METRO_SEAL ∧ (t.whb 12).posted.getD 0 0 = 6 ∧ (t.whb 12).posted.getD 1 0 = 0 ∧
          (kind = 1 → Tab.get 0 t.island.params (leNat (b.take 4)) = BitVec.ofNat 64 (leNat ((b.drop 4).take 8))) ∧
          (kind = 2 → Tab.get [] t.island.fw (1 - x.slot) = b ∧ t.island.newSlot = true) ∧
          (kind = 3 → t.island.fuseBlown = true)) ∧
        (¬ accepts → ∃ t, exec i s = .next t ∧ t.island.audit = x.audit ∧ t.island.log = x.log ∧
          t.island.params = x.params ∧ t.island.fuseBlown = x.fuseBlown ∧ t.island.offer = none ∧
          (t.whb 12).posted.getD 0 0 = 6 ∧ (t.whb 12).posted.getD 1 0 ≠ 0))) ∧
    (x.powered = false → ∀ low, x.sealLow ≠ low → exec (.sealNEdge low) s = .next { s with island := { x with sealLow := low } }) ∧
    (x.powered = false → x.newSlot = false → ∀ ok, ∃ t, exec (.vddMetPowerUp ok) s = .next t ∧
      t.island.powered = true ∧ t.island.entries = 1 ∧ ty t 0 = 4 ∧ t.island.rtcNs = 0 ∧ t.island.audit = x.audit ∧
      (x.pubKey ≠ [] → t.island.pubKey = x.pubKey) ∧ (x.pubKey = [] → t.island.pubKey.length = 64))

/-- R36, R548, R551, R553, R554: on a part without an island its commands return ST_ABSENT; CMD_MET_READ returns entries
that the mirror holds; an offer is taken when none is at hand, answers ST_BUSY while one is, and is answered with the
island's reason, or ST_TIMEOUT when it never judges. The model's own choices in it: what is answered while an offer is
judged (log entry 35). -/
def Obligations.IslandCommands : Prop :=
  ∀ (s : State) (q : CmdReq),
    let num := fun (i n : Nat) => leNat ((q.args.drop i).take n)
    let kind := (byteAt q.args 0).toNat
    let first := num 0 4
    let n := num 4 2
    (TakesNow s q →
      (s.chip.metro = false → ∀ p ∈ [(0x0901, Instr.cmdMetInfo q), (0x0902, .cmdMetRead q), (0x0903, .cmdMetOffer q)],
        Replies (exec p.2 s) p.1 q 2 [] (· = s)) ∧
      (s.chip.metro = true →
        (q.len = 0 → ∃ b, Replies (exec (.cmdMetInfo q) s) 0x0901 q 0 b (fun u => { u with hiLatch := s.hiLatch } = s) ∧ b.length = 192) ∧
        (q.len ≠ 0 → Replies (exec (.cmdMetInfo q) s) 0x0901 q 3 [] (· = s)) ∧
        (q.len = 6 → 0 < n → n ≤ 64 → s.island.entries < 2 ^ 31 →
          let held := s.metAlive = true ∧ s.island.entries - min 1024 s.island.entries ≤ first ∧ first + n ≤ s.island.entries
          (held → Replies (exec (.cmdMetRead q) s) 0x0902 q 0
            ((List.range n).flatMap fun i => fit 128 (Tab.get [] s.island.log ((first + i) % 1024))) (· = s)) ∧
          (¬ held → Replies (exec (.cmdMetRead q) s) 0x0902 q 3 [] (· = s))) ∧
        (q.len = 6 → 64 < n → Replies (exec (.cmdMetRead q) s) 0x0902 q 3 [] (· = s)) ∧
        (num 1 3 = 0 → (kind = 1 ∧ q.len = 16) ∨ (kind = 2 ∧ 4 < q.len) ∨ (kind = 3 ∧ q.len = 4) →
          (s.island.offer ≠ none ∨ s.ctl.offerWait ≠ none → Replies (exec (.cmdMetOffer q) s) 0x0903 q 1 [] (· = s)) ∧
          (s.island.offer = none → s.ctl.offerWait = none → s.island.powered = true →
            exec (.cmdMetOffer q) s = .next { s with
              island := { s.island with offer := some (kind, q.args.drop 4), offerLow := s.island.sealLow }
              ctl := { s.ctl with offerWait := some (q, s.fr + 10000000000) } })) ∧
        (num 1 3 ≠ 0 ∨ q.len < 4 ∨ kind ∉ [1, 2, 3] → Replies (exec (.cmdMetOffer q) s) 0x0903 q 3 [] (· = s)))) ∧
    (∀ limit, s.ctl.offerWait = some (q, limit) → s.ctl.accepted = [] →
      (limit ≤ s.fr → Replies (exec .metOfferTimeout s) 0x0903 q 7 []
        (· = { s with ctl := { s.ctl with offerWait := none } })) ∧
      (s.fr < limit → exec .metOfferTimeout s = .next s) ∧
      ∀ b, s.chip.metro = true → s.island.powered = true → s.island.offer = some (3, b) → s.island.fuseBlown = false →
        s.island.audit < 4095 →
        (s.island.offerLow = false → ∀ e i p, Replies (exec (.metOfferJudge e i p) s) 0x0903 q 4 [1] fun u =>
          u.island = { s.island with offer := none, posts := s.island.posts + 1 } ∧ u.ctl.offerWait = none) ∧
        (s.island.offerLow = true → ∀ i p, Replies (exec (.metOfferJudge true i p) s) 0x0903 q 0 [] fun u =>
          u.island.fuseBlown = true ∧ u.ctl.offerWait = none))

/-- DESIGN CHOICE of the model (log entry 1): with nothing pending a step is one cycle of the Time base clock. R397, R399
to R401, R443: the free-running count gains 1 ns, and a domain whose rate is 0 gains 1 ns with its seconds carrying;
only the times and the running hole timers change, and once a microsecond every LFL link that is up carries a credit
update. A step or set that was accepted applies at this boundary: GO falls, EV_TB_STEP is raised, and a set gives the
domain its time. -/
def Obligations.EmptyQueueIsOneNanosecond : Prop :=
  ∀ s : State, s.pending = [] → ∃ t, step s = .next t ∧ t.fr = (s.fr + 1) % 2 ^ 64 ∧
    t.island.rtcNs = s.island.rtcNs + s.island.powered.toNat ∧
    (t.fr % 1000 = 0 → ∀ q < 12, s.linkUp q = true → .credit q ((List.range 8).map fun c =>
      s.fifoSize (128 + q) c - s.fifoUsed (128 + q) c) ∈ t.pins) ∧
    ((∀ d < 4, s.adjPending d = false) →
      (∀ d < 4, s.reg (Reg.TB_ADJ_FREQ d) = 0 → (s.domTime d).ns < 1000000000 →
        t.domTime d = if (s.domTime d).ns = 999999999 then { s.domTime d with sec := (s.domTime d).sec + 1, ns := 0 }
          else { s.domTime d with ns := (s.domTime d).ns + 1 }) ∧
      { t with fr := s.fr, tb := s.tb, herd := s.herd, island := s.island, pins := s.pins } = s ∧
      { t.herd with doms := s.herd.doms } = s.herd ∧ (t.fr % 1000 ≠ 0 → t.pins = s.pins)) ∧
    ∀ d < 4, s.adjPending d = true → t.adjPending d = false ∧ Raised t Ev.TB_STEP ∧
      (s.flag (Reg.TB_ADJ_CTRL d) 16 = true → t.domTime d = {
        sec := BitVec.ofNat 48 (s.fld (Reg.TB_ADJ_CTRL d) 15 0 * 2 ^ 32 + (s.reg (Reg.TB_ADJ_SEC d)).toNat)
        ns := (s.reg (Reg.TB_ADJ_NS d)).toNat
        frac := 0 })

/-- What reset leaves, for values the spec gives: registers at their reset values, counts and times at 0, every queue,
FIFO, mailbox and lock empty, no context live, MODE 0, nothing pending. The reset state has its registers and memories
in canonical form. The model's own choices in it: which part the state stands for (log entry 2) and the fields that
are the model's (log entry 45). -/
def Obligations.ResetLeavesACanonicalEmptyBlock : Prop :=
  ((∀ p ∈ [(Reg.WH_CFG, 0x3E8#32), (Reg.SYS_EPOCH, 4#32), (Reg.FAB_CFG, 0x200#32), (Reg.FAB_ROUTE 3, 0#32),
       (Reg.SYS_BOOT_STATUS, 0x700#32), (Reg.HERD_TMO, 1000#32), (Reg.EV_STATUS 0, 0#32), (Reg.KN_ERR_CNT, 0#32), (Reg.TB_ADJ_FREQ 0, 0#32),
       (Reg.HERD_HOLES, 0#32), (Reg.SYS_GPIO_OE, 0#32), (Reg.PACK_TRAP 0, 0#32), (Reg.PACE_CTRL, 0x35200#32)],
     State.reset.reg p.1 = p.2) ∧
   State.reset.fr = 0 ∧ State.reset.mode = 0 ∧ State.reset.ing = 0 ∧ State.reset.pending = [] ∧
   State.reset.pins = [] ∧ State.reset.hub.fatal = false ∧ State.reset.hub.errLog = [] ∧
   ∀ n : Nat, (State.reset.ctx n).live = false ∧ State.reset.dq n = [] ∧ (State.reset.lock n).owner = 0 ∧
     (State.reset.lock n).queue = [] ∧ (State.reset.whb n).full = false ∧ (State.reset.whb n).timeout = false ∧
     State.reset.domTime n = ⟨0, 0, 0⟩ ∧ (State.reset.od n).next = 0 ∧ (State.reset.od n).head = 0 ∧
     ∀ c, State.reset.fifo n c = [] ∧ State.reset.eq n c = []) ∧
  (Canon State.reset)

/-- Every step keeps the registers and the memories in canonical form, so that equal contents are equal data. The model's
own choices in it: the form of registers and memories (log entry 7). -/
def Obligations.EveryStepKeepsTheCanonicalForm : Prop :=
  ∀ s t : State, Canon s → step s = .next t → Canon t

/-- No command stops the block: in every state every command has its effect, or, where its condition does not hold, none,
and the rest of the queue waits on. The model's own choices in it: events without their condition change nothing (log
entry 1). -/
def Obligations.EveryStepAnswersANextState : Prop :=
  ∀ s : State, ∃ t, step s = .next t ∧ t.pending = s.pending.tail

/-- R423, R432 to R434, R441 to R458, R463, R469 to R482, R498 to R514, R531 to R535, R545 to R554: where the conditions
of a command of these blocks hold, it completes with its own effect, of which each clause gives the mark. The model's
own choices in it: each event acts when its command comes and its condition holds (log entry 1), and what the
statements on these commands name. -/
def Obligations.BlockCommandsComplete : Prop :=
  ∀ s : State,
    let does := fun (i : Instr) (p : State → Prop) => ∃ t, exec i s = .next t ∧ p t
    let island := s.chip.metro = true ∧ s.island.powered = true
    (∀ (m : Master) (v : Word) (i : Nat), i < s.chip.ddrs → CanWrite s m (Reg.DDR_CTRL i) → v.toNat / 256 % 8 < 5 →
      (v.getLsbD 0 = false → v.getLsbD 1 = true → does (.train m i v) fun t =>
        t.flag (Reg.DDR_CTRL i) 1 = true ∧ t.flag (Reg.DDR_CTRL i) 2 = false) ∧
      (v.getLsbD 1 = false → does (.ddrOpenWrite m i v) fun t => t.flag (Reg.DDR_CTRL i) 0 =
        (v.getLsbD 0 && (s.flag (Reg.DDR_CTRL i) 0 || s.flag (Reg.DDR_CTRL i) 2)))) ∧
    (∀ i ch : Nat,
      (∀ ok l, i < s.chip.ddrs → s.flag (Reg.DDR_CTRL i) 1 = true →
        does (.trainingDone i ok l) fun t => t.flag (Reg.DDR_CTRL i) 1 = false) ∧
      (∀ bank, does (.refresh i ch bank) fun t => (t.dch i ch).open_ bank = none) ∧
      (∀ d0 d1, s.trackDue i ch = true → does (.writeTracking i ch (d0, d1)) fun t =>
        (∀ b, (t.dch i ch).open_ b = none) ∧ Tab.get 0 t.dram.trackCh i = (ch + 1) % 4) ∧
      (∀ row, s.ddrInService i = true → (s.dch i ch).lastRead + 100000 ≤ s.fr → (s.dch i ch).q = [] →
        does (.idleTrackingRead i ch row) fun t => ∃ r, (t.dch i ch).q = [r] ∧ r.write = false ∧ r.dest = .idle)) ∧
    (∀ q : Nat, s.lflOn q = true → s.fabRuns = true →
      does (.helloSend q) (fun t => ∃ h, t.pins = .hello q h :: s.pins) ∧
      (∀ h, does (.helloReceive q h) fun t => (t.fabLink q).lastHello = s.fr ∧ (t.fabLink q).heard = h.uid) ∧
      does (.lossOfBlockLock q) (fun t => (t.fabLink q).lock = false ∧ t.linkUp q = false) ∧
      (s.linkUp q = true → (s.fabLink q).lastHello + s.deadNs ≤ s.fr →
        does (.helloTimeout q) fun t => t.linkUp q = false) ∧
      (∀ l, s.linkUp q = true → does (.creditUpdate q l) fun t =>
        ∀ c < 8, Tab.get 0 (t.eport (50 + q)).fabCredit c = l.getD c 0) ∧
      (∀ r, s.linkUp q = true → r.uid ≠ s.chip.uid → does (.linkStateRecord q r) fun t =>
        (r.uid.toNat, r) ∈ t.fab.records) ∧
      (∀ b, s.linkUp q = true → hdrF b 0 3 0 = 1 → hdrType b = 0 → s.fabDev = some (hdrDst b) → 76 ≤ b.length →
        b.length ≤ 9612 → s.flag (Reg.CLS_PCTL s.ing (s.profile (128 + q))) 26 = false → s.stepTwoQ (128 + q) = [] →
        0 < s.fifoSize (128 + q) (hdrF b 2 2 0) → ∀ age, does (.fabricFrameReceive q b ⟨true, age⟩) fun t => ∃ f,
          t.fifo (128 + q) (hdrF b 2 2 0) = s.fifo (128 + q) (hdrF b 2 2 0) ++ [f] ∧ f.bytes = b.drop 16) ∧
      (∀ b, q < s.chip.quads → s.linkUp q = true → hdrF b 0 3 0 = 1 → hdrType b = 1 → 16 < b.length →
        s.fabDev = some (hdrDst b) → s.pair0Up = true → leNat ((b.drop 16).take 4) < 16 →
        Tab.get 0 s.ctl.fabDst 0 = hdrSrc b → (s.whb 9).full = false → (s.whb 9).timeout = false →
        does (.controlFrameReceive q b true) fun t => (t.whb 9).full = true ∧ (t.whb 9).posted = wordsOf 16 (b.drop 16))) ∧
    (s.fabRuns = true →
      does .recordFlood (fun t => ∀ q ∈ s.upLinks, .record q s.ownRecord ∈ t.pins) ∧
      does .routeRecompute (fun t => t.fld Reg.FAB_STAT 20 16 = ((s.fabNodes 4).length + 1) % 32) ∧
      ∀ d, s.strapped = false → s.fabDev = none → s.fab.changed + 10000000 ≤ s.fr → s.electAddr = some d →
        does .election fun t => t.fabDev = some d) ∧
    (∀ d off, s.chip.fabric = true → d < 16 → s.running = true → 0x400000 ≤ off → off < 0x404000 → off % 4 = 0 →
      let i := (off - 0x400000) / 4
      s.leashAcc (i / 64) (0x4000 + d) = true → (s.lock i).owner = 0 →
        does (.fabricLeashAccess d off false) fun t => (t.lock i).owner = BitVec.ofNat 16 (0x4000 + d)) ∧
    (∀ q limit, s.ctl.fwdWait = some (q, limit) → s.ctl.accepted = [] → limit ≤ s.fr →
      does .fabForwardTimeout fun t => t.ctl.fwdWait = none) ∧
    (∀ q limit, s.ctl.offerWait = some (q, limit) → s.ctl.accepted = [] → limit ≤ s.fr →
      does .metOfferTimeout fun t => t.ctl.offerWait = none) ∧
    (∀ h < 4, s.onBus .host = true → s.pair0Up = true → s.servesPair h = true →
      (∀ dst w, (s.whb (2 * h)).full = false → (s.whb (2 * h)).timeout = false →
        does (.whistleGo .host ⟨2 * h, dst, w⟩) fun t => (t.whb (2 * h)).full = true ∧ (t.whb (2 * h)).posted = (s.whb (2 * h)).stage) ∧
      ((s.whb (2 * h + 1)).full = true → does (.whistleTake .host (2 * h + 1)) fun t => (t.whb (2 * h + 1)).full = false) ∧
      (∀ r l, Tab.get [] s.ctl.replyQ h = r :: l → (s.whb (2 * h + 1)).full = false → (s.whb (2 * h + 1)).timeout = false →
        does (.k2hPost h) fun t => (t.whb (2 * h + 1)).full = true ∧ (t.whb (2 * h + 1)).posted = r) ∧
      (∀ q, (s.whb (2 * h)).full = true → s.replyRoom h = true → s.ctl.accepted = [] → s.cmdBusy = false →
        (s.whb (2 * h)).posted.getD 0 0 = 1 → packetOf (.host h) (bytesOf ((s.whb (2 * h)).posted.drop 1)) = some (0x0A04, q) →
        q.formOk = true → q.len = 0 → s.minimal = false → s.boot.romWait = false →
        Replies (exec (.h2kBlockTake h) s) 0x0A04 q 0 (leBytes 4 (s.reg Reg.SYS_EPOCH).toNat)
          (· = s.setWhb (2 * h) { s.whb (2 * h) with full := false }))) ∧
    (∀ b ≤ 12, (s.whb b).full = true → 0 < s.fld Reg.WH_CFG 19 0 → (s.whb b).start + s.fld Reg.WH_CFG 19 0 * 1000 ≤ s.fr →
      does (.whistleTimeout b) fun t => (t.whb b).full = false ∧ (t.whb b).timeout = true) ∧
    (∀ b rest q, s.pair0Up = true → s.boot.romWait = false → s.minimal = false → s.ctl.inBand = b :: rest →
      packetOf (.inBand ((b.drop 6).take 6)) (b.drop 14) = some (0x0A04, q) → q.formOk = true → q.len = 0 →
      b.length = 60 → q.authIdx ≠ 0 → s.keyOf q.authIdx ≠ [] →
      (b.drop 30).take 16 = cmac (s.keyOf q.authIdx) ([0x88, 0xB5] ++ (b.drop 14).take 16) →
      Tab.get 0 s.ctl.authSeq q.authIdx < q.seq.toNat → s.ctl.accepted = [] → s.cmdBusy = false →
      Replies (exec (.inBandCommand b) s) 0x0A04 q 0 (leBytes 4 (s.reg Reg.SYS_EPOCH).toNat)
        (· = { s with ctl := { s.ctl with
          inBand := rest, authSeq := Tab.set 0 s.ctl.authSeq q.authIdx q.seq.toNat } })) ∧
    (∀ st : Straps,
      does (.porstN st) (fun t => t.fr = 0 ∧ t.ctxs = [] ∧ t.ctl.wh = [] ∧ t.chip.fabId = st.fabId) ∧
      does (.sysrstN st) (fun t => t.fr = 0 ∧ t.ctxs = [] ∧ t.ctl.wh = [] ∧ t.chip.fabId = st.fabId) ∧
      (∀ n, s.boot.resetAt = some n → n ≤ s.fr →
        does (.selfReset st) fun t => t.fr = 0 ∧ t.ctxs = [] ∧ t.ctl.wh = [] ∧ t.chip.fabId = st.fabId)) ∧
    does .pcieLinkDown (fun t => (∀ b < 8, t.whb b = {}) ∧ ∀ h, Tab.get [] t.ctl.replyQ h = []) ∧
    (∀ k < 2, Tab.get false s.ctl.keeperDown k = false →
      does (.keeperLockstepMismatch k) fun t => Tab.get false t.ctl.keeperDown k = true) ∧
    (∀ k < 2, Tab.get false s.ctl.keeperDown k = true → s.minimal = false → s.hub.flips = [] →
      does (.keeperRestart k) fun t => Tab.get false t.ctl.keeperDown k = false) ∧
    (∀ en bm fm l tab, does (.msixConditionsRestored en bm fm ⟨l, tab⟩) fun t => t.hub.msixEn = en ∧ t.hub.busMaster = bm) ∧
    (∀ mem inst addr, does (.fatalError mem inst addr) fun t => t.running = false) ∧
    (∀ b, s.mode = 0 → s.boot.resetAt = none → s.boot.romWait = false → s.boot.stage = 0 →
      max 1 (s.fld Reg.SYS_BOOT_TRIES 11 8) ≤ s.fld Reg.SYS_BOOT_TRIES 3 0 →
      does (.bootStart b) fun t => t.mode = 2 ∧ Tab.get false t.ctl.keeperDown 1 = true) ∧
    (s.minimal = false → s.boot.failed = false → 0 < s.fld Reg.SYS_WDOG 15 0 →
      s.boot.wdogAt + s.fld Reg.SYS_WDOG 15 0 * 1000000 ≤ s.fr →
      does .watchdogExpiry fun t => t.boot.failed = true ∧ t.fld Reg.SYS_BOOT_STATUS 7 0 = 4) ∧
    (∀ (m : Master) (v : Word),
      (CanWrite s m Reg.SYS_BOOT_CTRL → s.minimal = false →
        (v.getLsbD 0 = true → v.toNat / 256 % 256 = 0 → does (.sysBootCtrlDone m v) fun t => t.mode = 1) ∧
        (v.getLsbD 0 = false → v.toNat / 256 % 256 ≠ 0 → s.boot.failed = false → does (.sysBootCtrlFail m v) fun t =>
          t.fld Reg.SYS_BOOT_STATUS 7 0 = v.toNat / 256 % 256)) ∧
      (CanWrite s m Reg.SYS_WDOG → does (.kick m v) fun t => t.boot.wdogAt = s.fr) ∧
      (CanWrite s m Reg.DBG_SESSION →
        (v.getLsbD 0 = true → does (.dbgSessionAttach m v) fun t => t.reg Reg.DBG_SESSION = 1) ∧
        (∀ trst, v.getLsbD 0 = false → does (.dbgSessionDetach m v trst) fun t => t.reg Reg.DBG_SESSION = 0)) ∧
      (CanWrite s m Reg.DBG_CMD → s.dbgHere = true → (s.ctx s.dbgCtx).live = true → v.toNat / 16 % 4 = 0 →
        (s.eng (engOf s.dbgCtx)).issue = none →
        (v.toNat % 8 = 1 → does (.halt m v) fun t => (t.ctx s.dbgCtx).halted = true) ∧
        (v.toNat % 8 = 2 → (s.ctx s.dbgCtx).halted = true → (s.ctx s.dbgCtx).wait = .none →
          does (.resume m v) fun t => (t.ctx s.dbgCtx).halted = false) ∧
        (v.toNat % 8 = 3 → (s.ctx s.dbgCtx).halted = true → (s.ctx s.dbgCtx).wait = .none →
          does (.step m v) fun t => (t.ctx s.dbgCtx).stepping = true) ∧
        (v.toNat % 8 = 4 → does (.abortDbg m v) fun t => (t.ctx s.dbgCtx).live = false)) ∧
      (∀ n < 16, CanWrite s m (Reg.DBG_REG n) → s.dbgHere = true → (s.ctx s.dbgCtx).halted = true →
        does (.dbgRegAccess m n true v) fun t => Tab.get 0 (t.ctx s.dbgCtx).g n = v) ∧
      does (.dbgacc Reg.DBG_SEL true v) (fun t => t.fld Reg.DBG_SEL 4 0 = v.toNat % 32)) ∧
    (island →
      (∀ i e : BitVec 64, s.island.periodEnds = true →
        does (.metRecordPeriod i e) fun t => t.island.entries = s.island.entries + 1) ∧
      (s.island.adcOk = true → does .adcFault fun t => t.island.entries = s.island.entries + 1 ∧ t.island.adcOk = false) ∧
      does .adcAnswering (fun t => t.island.adcOk = true) ∧
      (∀ low, s.island.sealLow ≠ low → does (.sealNEdge low) fun t => t.island.sealLow = low ∧ Raised t Ev.METRO_SEAL) ∧
      (∀ ok, does (.metRstN ok) fun t => t.island.offer = none ∧ t.island.newSlot = false) ∧
      does .vddMetLoss (fun t => t.island.powered = false ∧ t.island.entries = 0) ∧
      does .mirrorRefill (fun t => t.flag Reg.MET_STAT 0 = true) ∧
      (∀ b i p, s.island.offer = some (3, b) → s.island.offerLow = true → s.island.fuseBlown = false →
        s.island.audit < 4095 → s.ctl.offerWait = none → does (.metOfferJudge true i p) fun t =>
          t.island.fuseBlown = true ∧ t.island.audit = s.island.audit + 1)) ∧
    (∀ ok, s.chip.metro = true → s.island.powered = false →
      does (.vddMetPowerUp ok) fun t => t.island.powered = true ∧ t.island.audit = s.island.audit)
end

