-- ==== Sys2Proof/Laws/Tab.lean ====
section
/-! SUPPORT. The laws of sparse tables and memories: what a read after a write gives, and that every write keeps the
canonical form. -/

namespace Sys2Proof

theorem Tab.get_erase {α : Type} (d : α) (t : Tab α) (k j : Nat) :
    Tab.get d (Tab.erase t k) j = if j = k then d else Tab.get d t j := by
  induction t with
  | nil => simp [Tab.erase, Tab.get]
  | cons p t ih =>
    obtain ⟨i, v⟩ := p
    by_cases h : i = k
    · subst h
      by_cases hj : j = i
      · subst hj; simp [Tab.erase, ih]
      · simp [Tab.erase, Tab.get, hj, ih, Ne.symm hj]
    · by_cases hj : i = j
      · subst hj; simp [Tab.erase, Tab.get, h]
      · simp [Tab.erase, Tab.get, h, hj, ih]

theorem Tab.get_insert {α : Type} (d : α) (t : Tab α) (k j : Nat) (v : α) :
    Tab.get d (Tab.insert t k v) j = if j = k then v else Tab.get d t j := by
  induction t with
  | nil => by_cases h : k = j <;> simp [Tab.insert, Tab.get, h, eq_comm]
  | cons p t ih =>
    obtain ⟨i, u⟩ := p
    by_cases h1 : k < i
    · by_cases h : k = j
      · subst h; simp [Tab.insert, Tab.get, h1]
      · simp [Tab.insert, Tab.get, h1, h, Ne.symm h]
    · by_cases h2 : i = k
      · subst h2
        by_cases h : i = j
        · subst h; simp [Tab.insert, Tab.get]
        · simp [Tab.insert, Tab.get, h, Ne.symm h]
      · by_cases h : i = j
        · subst h; simp [Tab.insert, Tab.get, h1, h2]
        · simp [Tab.insert, Tab.get, h1, h2, h, ih]

/-- A read of a table after a write. -/
@[simp] theorem Tab.get_set {α : Type} [DecidableEq α] (d : α) (t : Tab α) (k j : Nat) (v : α) :
    Tab.get d (Tab.set d t k v) j = if j = k then v else Tab.get d t j := by
  unfold Tab.set
  split
  · subst_vars; exact Tab.get_erase _ t k j
  · exact Tab.get_insert d t k j v

@[simp] theorem Tab.get_nil {α : Type} (d : α) (j : Nat) : Tab.get d [] j = d := rfl

/-! ### The canonical form -/

section Canon
variable {α : Type} [DecidableEq α] {d : α}

theorem Tab.wfFrom_mono {t : Tab α} {a b : Nat} (h : b ≤ a) (w : Tab.wfFrom d a t = true) : Tab.wfFrom d b t = true := by
  cases t with
  | nil => rfl
  | cons p t =>
    obtain ⟨i, v⟩ := p
    simp [Tab.wfFrom] at w ⊢
    exact ⟨⟨by omega, w.1.2⟩, w.2⟩

theorem Tab.wfFrom_erase {t : Tab α} {a : Nat} (k : Nat) (w : Tab.wfFrom d a t = true) :
    Tab.wfFrom d a (Tab.erase t k) = true := by
  induction t generalizing a with
  | nil => rfl
  | cons p t ih =>
    obtain ⟨i, v⟩ := p
    simp [Tab.wfFrom] at w
    unfold Tab.erase
    split
    · exact Tab.wfFrom_mono (by omega) (ih w.2)
    · simp [Tab.wfFrom]; exact ⟨w.1, ih w.2⟩

theorem Tab.wfFrom_insert {t : Tab α} {a : Nat} (k : Nat) (v : α) (hv : v ≠ d) (hk : a ≤ k)
    (w : Tab.wfFrom d a t = true) : Tab.wfFrom d a (Tab.insert t k v) = true := by
  induction t generalizing a with
  | nil => simp [Tab.insert, Tab.wfFrom, hv, hk]
  | cons p t ih =>
    obtain ⟨i, u⟩ := p
    simp [Tab.wfFrom] at w
    unfold Tab.insert
    split
    · simp [Tab.wfFrom, hk, hv, w.1.2, w.2]; omega
    · split
      · subst_vars; simp [Tab.wfFrom, hk, hv, w.2]
      · simp [Tab.wfFrom]; exact ⟨w.1, ih (by omega) w.2⟩

/-- A write keeps the canonical form. -/
theorem Tab.wf_set {t : Tab α} (k : Nat) (v : α) (w : Tab.wf d t = true) : Tab.wf d (Tab.set d t k v) = true := by
  unfold Tab.set Tab.wf at *
  split
  · exact Tab.wfFrom_erase k w
  · exact Tab.wfFrom_insert k v (by assumption) (Nat.zero_le k) w

theorem Tab.wfFrom_filter {t : Tab α} {a : Nat} (f : Nat × α → Bool) (w : Tab.wfFrom d a t = true) :
    Tab.wfFrom d a (t.filter f) = true := by
  induction t generalizing a with
  | nil => rfl
  | cons p t ih =>
    obtain ⟨i, v⟩ := p
    simp [Tab.wfFrom] at w
    by_cases h : f (i, v) = true
    · simp [List.filter, h, Tab.wfFrom]; exact ⟨w.1, ih w.2⟩
    · simp [List.filter, h]; exact Tab.wfFrom_mono (by omega) (ih w.2)

/-- Removing entries keeps the canonical form. -/
theorem Tab.wf_filter {t : Tab α} (f : Nat × α → Bool) (w : Tab.wf d t = true) : Tab.wf d (t.filter f) = true :=
  Tab.wfFrom_filter f w

theorem Tab.wf_nil : Tab.wf d ([] : Tab α) = true := rfl

end Canon

/-! ### Memories -/

/-- A byte read after a byte write. -/
@[simp] theorem Mem.rd_wr (m : Mem) (a b : Nat) (v : Byte) : (m.wr a v).rd b = if b = a then v else m.rd b := by
  simp [Mem.rd, Mem.wr]

/-- A wide write leaves every byte outside it alone. -/
theorem Mem.rd_wrN_of_out (m : Mem) (a n v b : Nat) (h : b < a ∨ a + n ≤ b) : (m.wrN a n v).rd b = m.rd b := by
  induction n generalizing m a v with
  | zero => rfl
  | succ n ih =>
    rw [Mem.wrN, ih _ _ _ (by omega), Mem.rd_wr, if_neg (by omega)]

/-- The bytes of a wide write, least significant first. -/
theorem Mem.rd_wrN_of_in (m : Mem) (a n v k : Nat) (h : k < n) :
    (m.wrN a n v).rd (a + k) = B8 (v / 256 ^ k) := by
  induction n generalizing m a v k with
  | zero => omega
  | succ n ih =>
    cases k with
    | zero => rw [Mem.wrN, Mem.rd_wrN_of_out _ _ _ _ _ (by omega)]; simp
    | succ k =>
      rw [Mem.wrN, show a + (k + 1) = a + 1 + k by omega, ih _ _ _ _ (by omega), Nat.div_div_eq_div_mul,
        show 256 * 256 ^ k = 256 ^ (k + 1) by rw [Nat.pow_succ, Nat.mul_comm]]

/-- A byte write keeps the canonical form of a memory. -/
theorem Mem.wf_wr {m : Mem} (a : Nat) (v : Byte) (w : Mem.wf m = true) : Mem.wf (m.wr a v) = true :=
  Tab.wf_set a v w

/-- A wide write keeps it. -/
theorem Mem.wf_wrN {m : Mem} (a n v : Nat) (w : Mem.wf m = true) : Mem.wf (m.wrN a n v) = true := by
  induction n generalizing m a v with
  | zero => exact w
  | succ n ih => exact ih _ _ (Mem.wf_wr _ _ w)

/-- A write of a list of bytes keeps it. -/
theorem Mem.wf_put {m : Mem} (a : Nat) (l : List Byte) (w : Mem.wf m = true) : Mem.wf (m.put a l) = true := by
  induction l generalizing m a with
  | nil => exact w
  | cons b t ih => exact ih _ (Mem.wf_wr _ _ w)

/-- Clearing bytes keeps it. -/
theorem Mem.wf_filter {m : Mem} (f : Nat × Byte → Bool) (w : Mem.wf m = true) : Mem.wf (m.filter f) = true :=
  Tab.wf_filter f w

end Sys2Proof
end

