-- ==== Sys2Proof/Laws/State.lean ====
section
/-! SUPPORT. The small laws of State: which field each basic update leaves alone, and what it writes. -/

namespace Sys2Proof.Machine

open Sys2Proof

section
variable (s : State) (off : Nat) (v : Word)
@[simp] theorem State.setReg_chip : (s.setReg off v).chip = s.chip := rfl
@[simp] theorem State.setReg_fr : (s.setReg off v).fr = s.fr := rfl
@[simp] theorem State.setReg_hiLatch : (s.setReg off v).hiLatch = s.hiLatch := rfl
@[simp] theorem State.setReg_rdata : (s.setReg off v).rdata = s.rdata := rfl
@[simp] theorem State.setReg_tb : (s.setReg off v).tb = s.tb := rfl
@[simp] theorem State.setReg_mem : (s.setReg off v).mem = s.mem := rfl
@[simp] theorem State.setReg_ctxs : (s.setReg off v).ctxs = s.ctxs := rfl
@[simp] theorem State.setReg_engs : (s.setReg off v).engs = s.engs := rfl
@[simp] theorem State.setReg_disp : (s.setReg off v).disp = s.disp := rfl
@[simp] theorem State.setReg_herd : (s.setReg off v).herd = s.herd := rfl
@[simp] theorem State.setReg_leash : (s.setReg off v).leash = s.leash := rfl
@[simp] theorem State.setReg_help : (s.setReg off v).help = s.help := rfl
@[simp] theorem State.setReg_look : (s.setReg off v).look = s.look := rfl
@[simp] theorem State.setReg_kn : (s.setReg off v).kn = s.kn := rfl
@[simp] theorem State.setReg_ports : (s.setReg off v).ports = s.ports := rfl
@[simp] theorem State.setReg_meters : (s.setReg off v).meters = s.meters := rfl
@[simp] theorem State.setReg_eports : (s.setReg off v).eports = s.eports := rfl
@[simp] theorem State.setReg_pace : (s.setReg off v).pace = s.pace := rfl
@[simp] theorem State.setReg_dram : (s.setReg off v).dram = s.dram := rfl
@[simp] theorem State.setReg_fab : (s.setReg off v).fab = s.fab := rfl
@[simp] theorem State.setReg_ctl : (s.setReg off v).ctl = s.ctl := rfl
@[simp] theorem State.setReg_boot : (s.setReg off v).boot = s.boot := rfl
@[simp] theorem State.setReg_hub : (s.setReg off v).hub = s.hub := rfl
@[simp] theorem State.setReg_island : (s.setReg off v).island = s.island := rfl
@[simp] theorem State.setReg_pins : (s.setReg off v).pins = s.pins := rfl
@[simp] theorem State.setReg_freeCtr : (s.setReg off v).freeCtr = s.freeCtr := rfl
@[simp] theorem State.setReg_pending : (s.setReg off v).pending = s.pending := rfl
end

section
variable (s : State) (c : Nat) (x : Ctx)
@[simp] theorem State.setCtx_chip : (s.setCtx c x).chip = s.chip := rfl
@[simp] theorem State.setCtx_fr : (s.setCtx c x).fr = s.fr := rfl
@[simp] theorem State.setCtx_regs : (s.setCtx c x).regs = s.regs := rfl
@[simp] theorem State.setCtx_hiLatch : (s.setCtx c x).hiLatch = s.hiLatch := rfl
@[simp] theorem State.setCtx_rdata : (s.setCtx c x).rdata = s.rdata := rfl
@[simp] theorem State.setCtx_tb : (s.setCtx c x).tb = s.tb := rfl
@[simp] theorem State.setCtx_mem : (s.setCtx c x).mem = s.mem := rfl
@[simp] theorem State.setCtx_engs : (s.setCtx c x).engs = s.engs := rfl
@[simp] theorem State.setCtx_disp : (s.setCtx c x).disp = s.disp := rfl
@[simp] theorem State.setCtx_herd : (s.setCtx c x).herd = s.herd := rfl
@[simp] theorem State.setCtx_leash : (s.setCtx c x).leash = s.leash := rfl
@[simp] theorem State.setCtx_help : (s.setCtx c x).help = s.help := rfl
@[simp] theorem State.setCtx_look : (s.setCtx c x).look = s.look := rfl
@[simp] theorem State.setCtx_kn : (s.setCtx c x).kn = s.kn := rfl
@[simp] theorem State.setCtx_ports : (s.setCtx c x).ports = s.ports := rfl
@[simp] theorem State.setCtx_meters : (s.setCtx c x).meters = s.meters := rfl
@[simp] theorem State.setCtx_eports : (s.setCtx c x).eports = s.eports := rfl
@[simp] theorem State.setCtx_pace : (s.setCtx c x).pace = s.pace := rfl
@[simp] theorem State.setCtx_dram : (s.setCtx c x).dram = s.dram := rfl
@[simp] theorem State.setCtx_fab : (s.setCtx c x).fab = s.fab := rfl
@[simp] theorem State.setCtx_ctl : (s.setCtx c x).ctl = s.ctl := rfl
@[simp] theorem State.setCtx_boot : (s.setCtx c x).boot = s.boot := rfl
@[simp] theorem State.setCtx_hub : (s.setCtx c x).hub = s.hub := rfl
@[simp] theorem State.setCtx_island : (s.setCtx c x).island = s.island := rfl
@[simp] theorem State.setCtx_pins : (s.setCtx c x).pins = s.pins := rfl
@[simp] theorem State.setCtx_freeCtr : (s.setCtx c x).freeCtr = s.freeCtr := rfl
@[simp] theorem State.setCtx_pending : (s.setCtx c x).pending = s.pending := rfl
end

section
variable (s : State) (e : Nat) (x : Eng)
@[simp] theorem State.setEng_chip : (s.setEng e x).chip = s.chip := rfl
@[simp] theorem State.setEng_fr : (s.setEng e x).fr = s.fr := rfl
@[simp] theorem State.setEng_regs : (s.setEng e x).regs = s.regs := rfl
@[simp] theorem State.setEng_hiLatch : (s.setEng e x).hiLatch = s.hiLatch := rfl
@[simp] theorem State.setEng_rdata : (s.setEng e x).rdata = s.rdata := rfl
@[simp] theorem State.setEng_tb : (s.setEng e x).tb = s.tb := rfl
@[simp] theorem State.setEng_mem : (s.setEng e x).mem = s.mem := rfl
@[simp] theorem State.setEng_ctxs : (s.setEng e x).ctxs = s.ctxs := rfl
@[simp] theorem State.setEng_disp : (s.setEng e x).disp = s.disp := rfl
@[simp] theorem State.setEng_herd : (s.setEng e x).herd = s.herd := rfl
@[simp] theorem State.setEng_leash : (s.setEng e x).leash = s.leash := rfl
@[simp] theorem State.setEng_help : (s.setEng e x).help = s.help := rfl
@[simp] theorem State.setEng_look : (s.setEng e x).look = s.look := rfl
@[simp] theorem State.setEng_kn : (s.setEng e x).kn = s.kn := rfl
@[simp] theorem State.setEng_ports : (s.setEng e x).ports = s.ports := rfl
@[simp] theorem State.setEng_meters : (s.setEng e x).meters = s.meters := rfl
@[simp] theorem State.setEng_eports : (s.setEng e x).eports = s.eports := rfl
@[simp] theorem State.setEng_pace : (s.setEng e x).pace = s.pace := rfl
@[simp] theorem State.setEng_dram : (s.setEng e x).dram = s.dram := rfl
@[simp] theorem State.setEng_fab : (s.setEng e x).fab = s.fab := rfl
@[simp] theorem State.setEng_ctl : (s.setEng e x).ctl = s.ctl := rfl
@[simp] theorem State.setEng_boot : (s.setEng e x).boot = s.boot := rfl
@[simp] theorem State.setEng_hub : (s.setEng e x).hub = s.hub := rfl
@[simp] theorem State.setEng_island : (s.setEng e x).island = s.island := rfl
@[simp] theorem State.setEng_pins : (s.setEng e x).pins = s.pins := rfl
@[simp] theorem State.setEng_freeCtr : (s.setEng e x).freeCtr = s.freeCtr := rfl
@[simp] theorem State.setEng_pending : (s.setEng e x).pending = s.pending := rfl
end

section
variable (s : State) (j : Nat) (x : Job)
@[simp] theorem State.setJob_chip : (s.setJob j x).chip = s.chip := rfl
@[simp] theorem State.setJob_fr : (s.setJob j x).fr = s.fr := rfl
@[simp] theorem State.setJob_regs : (s.setJob j x).regs = s.regs := rfl
@[simp] theorem State.setJob_hiLatch : (s.setJob j x).hiLatch = s.hiLatch := rfl
@[simp] theorem State.setJob_rdata : (s.setJob j x).rdata = s.rdata := rfl
@[simp] theorem State.setJob_tb : (s.setJob j x).tb = s.tb := rfl
@[simp] theorem State.setJob_mem : (s.setJob j x).mem = s.mem := rfl
@[simp] theorem State.setJob_ctxs : (s.setJob j x).ctxs = s.ctxs := rfl
@[simp] theorem State.setJob_engs : (s.setJob j x).engs = s.engs := rfl
@[simp] theorem State.setJob_disp : (s.setJob j x).disp = s.disp := rfl
@[simp] theorem State.setJob_leash : (s.setJob j x).leash = s.leash := rfl
@[simp] theorem State.setJob_help : (s.setJob j x).help = s.help := rfl
@[simp] theorem State.setJob_look : (s.setJob j x).look = s.look := rfl
@[simp] theorem State.setJob_kn : (s.setJob j x).kn = s.kn := rfl
@[simp] theorem State.setJob_ports : (s.setJob j x).ports = s.ports := rfl
@[simp] theorem State.setJob_meters : (s.setJob j x).meters = s.meters := rfl
@[simp] theorem State.setJob_eports : (s.setJob j x).eports = s.eports := rfl
@[simp] theorem State.setJob_pace : (s.setJob j x).pace = s.pace := rfl
@[simp] theorem State.setJob_dram : (s.setJob j x).dram = s.dram := rfl
@[simp] theorem State.setJob_fab : (s.setJob j x).fab = s.fab := rfl
@[simp] theorem State.setJob_ctl : (s.setJob j x).ctl = s.ctl := rfl
@[simp] theorem State.setJob_boot : (s.setJob j x).boot = s.boot := rfl
@[simp] theorem State.setJob_hub : (s.setJob j x).hub = s.hub := rfl
@[simp] theorem State.setJob_island : (s.setJob j x).island = s.island := rfl
@[simp] theorem State.setJob_pins : (s.setJob j x).pins = s.pins := rfl
@[simp] theorem State.setJob_freeCtr : (s.setJob j x).freeCtr = s.freeCtr := rfl
@[simp] theorem State.setJob_pending : (s.setJob j x).pending = s.pending := rfl
end

section
variable (s : State) (k : Nat) (x : Output)
@[simp] theorem State.setOut_chip : (s.setOut k x).chip = s.chip := rfl
@[simp] theorem State.setOut_fr : (s.setOut k x).fr = s.fr := rfl
@[simp] theorem State.setOut_regs : (s.setOut k x).regs = s.regs := rfl
@[simp] theorem State.setOut_hiLatch : (s.setOut k x).hiLatch = s.hiLatch := rfl
@[simp] theorem State.setOut_rdata : (s.setOut k x).rdata = s.rdata := rfl
@[simp] theorem State.setOut_tb : (s.setOut k x).tb = s.tb := rfl
@[simp] theorem State.setOut_mem : (s.setOut k x).mem = s.mem := rfl
@[simp] theorem State.setOut_ctxs : (s.setOut k x).ctxs = s.ctxs := rfl
@[simp] theorem State.setOut_engs : (s.setOut k x).engs = s.engs := rfl
@[simp] theorem State.setOut_disp : (s.setOut k x).disp = s.disp := rfl
@[simp] theorem State.setOut_leash : (s.setOut k x).leash = s.leash := rfl
@[simp] theorem State.setOut_help : (s.setOut k x).help = s.help := rfl
@[simp] theorem State.setOut_look : (s.setOut k x).look = s.look := rfl
@[simp] theorem State.setOut_kn : (s.setOut k x).kn = s.kn := rfl
@[simp] theorem State.setOut_ports : (s.setOut k x).ports = s.ports := rfl
@[simp] theorem State.setOut_meters : (s.setOut k x).meters = s.meters := rfl
@[simp] theorem State.setOut_eports : (s.setOut k x).eports = s.eports := rfl
@[simp] theorem State.setOut_pace : (s.setOut k x).pace = s.pace := rfl
@[simp] theorem State.setOut_dram : (s.setOut k x).dram = s.dram := rfl
@[simp] theorem State.setOut_fab : (s.setOut k x).fab = s.fab := rfl
@[simp] theorem State.setOut_ctl : (s.setOut k x).ctl = s.ctl := rfl
@[simp] theorem State.setOut_boot : (s.setOut k x).boot = s.boot := rfl
@[simp] theorem State.setOut_hub : (s.setOut k x).hub = s.hub := rfl
@[simp] theorem State.setOut_island : (s.setOut k x).island = s.island := rfl
@[simp] theorem State.setOut_pins : (s.setOut k x).pins = s.pins := rfl
@[simp] theorem State.setOut_freeCtr : (s.setOut k x).freeCtr = s.freeCtr := rfl
@[simp] theorem State.setOut_pending : (s.setOut k x).pending = s.pending := rfl
end

section
variable (s : State) (d : Nat) (x : Domain)
@[simp] theorem State.setOd_chip : (s.setOd d x).chip = s.chip := rfl
@[simp] theorem State.setOd_fr : (s.setOd d x).fr = s.fr := rfl
@[simp] theorem State.setOd_regs : (s.setOd d x).regs = s.regs := rfl
@[simp] theorem State.setOd_hiLatch : (s.setOd d x).hiLatch = s.hiLatch := rfl
@[simp] theorem State.setOd_rdata : (s.setOd d x).rdata = s.rdata := rfl
@[simp] theorem State.setOd_tb : (s.setOd d x).tb = s.tb := rfl
@[simp] theorem State.setOd_mem : (s.setOd d x).mem = s.mem := rfl
@[simp] theorem State.setOd_ctxs : (s.setOd d x).ctxs = s.ctxs := rfl
@[simp] theorem State.setOd_engs : (s.setOd d x).engs = s.engs := rfl
@[simp] theorem State.setOd_disp : (s.setOd d x).disp = s.disp := rfl
@[simp] theorem State.setOd_leash : (s.setOd d x).leash = s.leash := rfl
@[simp] theorem State.setOd_help : (s.setOd d x).help = s.help := rfl
@[simp] theorem State.setOd_look : (s.setOd d x).look = s.look := rfl
@[simp] theorem State.setOd_kn : (s.setOd d x).kn = s.kn := rfl
@[simp] theorem State.setOd_ports : (s.setOd d x).ports = s.ports := rfl
@[simp] theorem State.setOd_meters : (s.setOd d x).meters = s.meters := rfl
@[simp] theorem State.setOd_eports : (s.setOd d x).eports = s.eports := rfl
@[simp] theorem State.setOd_pace : (s.setOd d x).pace = s.pace := rfl
@[simp] theorem State.setOd_dram : (s.setOd d x).dram = s.dram := rfl
@[simp] theorem State.setOd_fab : (s.setOd d x).fab = s.fab := rfl
@[simp] theorem State.setOd_ctl : (s.setOd d x).ctl = s.ctl := rfl
@[simp] theorem State.setOd_boot : (s.setOd d x).boot = s.boot := rfl
@[simp] theorem State.setOd_hub : (s.setOd d x).hub = s.hub := rfl
@[simp] theorem State.setOd_island : (s.setOd d x).island = s.island := rfl
@[simp] theorem State.setOd_pins : (s.setOd d x).pins = s.pins := rfl
@[simp] theorem State.setOd_freeCtr : (s.setOd d x).freeCtr = s.freeCtr := rfl
@[simp] theorem State.setOd_pending : (s.setOd d x).pending = s.pending := rfl
end

section
variable (s : State) (k : Nat) (x : EPort)
@[simp] theorem State.setEport_chip : (s.setEport k x).chip = s.chip := rfl
@[simp] theorem State.setEport_fr : (s.setEport k x).fr = s.fr := rfl
@[simp] theorem State.setEport_regs : (s.setEport k x).regs = s.regs := rfl
@[simp] theorem State.setEport_hiLatch : (s.setEport k x).hiLatch = s.hiLatch := rfl
@[simp] theorem State.setEport_rdata : (s.setEport k x).rdata = s.rdata := rfl
@[simp] theorem State.setEport_tb : (s.setEport k x).tb = s.tb := rfl
@[simp] theorem State.setEport_mem : (s.setEport k x).mem = s.mem := rfl
@[simp] theorem State.setEport_ctxs : (s.setEport k x).ctxs = s.ctxs := rfl
@[simp] theorem State.setEport_engs : (s.setEport k x).engs = s.engs := rfl
@[simp] theorem State.setEport_disp : (s.setEport k x).disp = s.disp := rfl
@[simp] theorem State.setEport_herd : (s.setEport k x).herd = s.herd := rfl
@[simp] theorem State.setEport_leash : (s.setEport k x).leash = s.leash := rfl
@[simp] theorem State.setEport_help : (s.setEport k x).help = s.help := rfl
@[simp] theorem State.setEport_look : (s.setEport k x).look = s.look := rfl
@[simp] theorem State.setEport_kn : (s.setEport k x).kn = s.kn := rfl
@[simp] theorem State.setEport_ports : (s.setEport k x).ports = s.ports := rfl
@[simp] theorem State.setEport_meters : (s.setEport k x).meters = s.meters := rfl
@[simp] theorem State.setEport_pace : (s.setEport k x).pace = s.pace := rfl
@[simp] theorem State.setEport_dram : (s.setEport k x).dram = s.dram := rfl
@[simp] theorem State.setEport_fab : (s.setEport k x).fab = s.fab := rfl
@[simp] theorem State.setEport_ctl : (s.setEport k x).ctl = s.ctl := rfl
@[simp] theorem State.setEport_boot : (s.setEport k x).boot = s.boot := rfl
@[simp] theorem State.setEport_hub : (s.setEport k x).hub = s.hub := rfl
@[simp] theorem State.setEport_island : (s.setEport k x).island = s.island := rfl
@[simp] theorem State.setEport_pins : (s.setEport k x).pins = s.pins := rfl
@[simp] theorem State.setEport_freeCtr : (s.setEport k x).freeCtr = s.freeCtr := rfl
@[simp] theorem State.setEport_pending : (s.setEport k x).pending = s.pending := rfl
end

section
variable (s : State) (k : Nat) (x : Lock)
@[simp] theorem State.setLock_chip : (s.setLock k x).chip = s.chip := rfl
@[simp] theorem State.setLock_fr : (s.setLock k x).fr = s.fr := rfl
@[simp] theorem State.setLock_regs : (s.setLock k x).regs = s.regs := rfl
@[simp] theorem State.setLock_hiLatch : (s.setLock k x).hiLatch = s.hiLatch := rfl
@[simp] theorem State.setLock_rdata : (s.setLock k x).rdata = s.rdata := rfl
@[simp] theorem State.setLock_tb : (s.setLock k x).tb = s.tb := rfl
@[simp] theorem State.setLock_mem : (s.setLock k x).mem = s.mem := rfl
@[simp] theorem State.setLock_ctxs : (s.setLock k x).ctxs = s.ctxs := rfl
@[simp] theorem State.setLock_engs : (s.setLock k x).engs = s.engs := rfl
@[simp] theorem State.setLock_disp : (s.setLock k x).disp = s.disp := rfl
@[simp] theorem State.setLock_herd : (s.setLock k x).herd = s.herd := rfl
@[simp] theorem State.setLock_help : (s.setLock k x).help = s.help := rfl
@[simp] theorem State.setLock_look : (s.setLock k x).look = s.look := rfl
@[simp] theorem State.setLock_kn : (s.setLock k x).kn = s.kn := rfl
@[simp] theorem State.setLock_ports : (s.setLock k x).ports = s.ports := rfl
@[simp] theorem State.setLock_meters : (s.setLock k x).meters = s.meters := rfl
@[simp] theorem State.setLock_eports : (s.setLock k x).eports = s.eports := rfl
@[simp] theorem State.setLock_pace : (s.setLock k x).pace = s.pace := rfl
@[simp] theorem State.setLock_dram : (s.setLock k x).dram = s.dram := rfl
@[simp] theorem State.setLock_fab : (s.setLock k x).fab = s.fab := rfl
@[simp] theorem State.setLock_ctl : (s.setLock k x).ctl = s.ctl := rfl
@[simp] theorem State.setLock_boot : (s.setLock k x).boot = s.boot := rfl
@[simp] theorem State.setLock_hub : (s.setLock k x).hub = s.hub := rfl
@[simp] theorem State.setLock_island : (s.setLock k x).island = s.island := rfl
@[simp] theorem State.setLock_pins : (s.setLock k x).pins = s.pins := rfl
@[simp] theorem State.setLock_freeCtr : (s.setLock k x).freeCtr = s.freeCtr := rfl
@[simp] theorem State.setLock_pending : (s.setLock k x).pending = s.pending := rfl
end

section
variable (s : State) (b : Nat) (x : WhBlock)
@[simp] theorem State.setWhb_chip : (s.setWhb b x).chip = s.chip := rfl
@[simp] theorem State.setWhb_fr : (s.setWhb b x).fr = s.fr := rfl
@[simp] theorem State.setWhb_regs : (s.setWhb b x).regs = s.regs := rfl
@[simp] theorem State.setWhb_hiLatch : (s.setWhb b x).hiLatch = s.hiLatch := rfl
@[simp] theorem State.setWhb_rdata : (s.setWhb b x).rdata = s.rdata := rfl
@[simp] theorem State.setWhb_tb : (s.setWhb b x).tb = s.tb := rfl
@[simp] theorem State.setWhb_mem : (s.setWhb b x).mem = s.mem := rfl
@[simp] theorem State.setWhb_ctxs : (s.setWhb b x).ctxs = s.ctxs := rfl
@[simp] theorem State.setWhb_engs : (s.setWhb b x).engs = s.engs := rfl
@[simp] theorem State.setWhb_disp : (s.setWhb b x).disp = s.disp := rfl
@[simp] theorem State.setWhb_herd : (s.setWhb b x).herd = s.herd := rfl
@[simp] theorem State.setWhb_leash : (s.setWhb b x).leash = s.leash := rfl
@[simp] theorem State.setWhb_help : (s.setWhb b x).help = s.help := rfl
@[simp] theorem State.setWhb_look : (s.setWhb b x).look = s.look := rfl
@[simp] theorem State.setWhb_kn : (s.setWhb b x).kn = s.kn := rfl
@[simp] theorem State.setWhb_ports : (s.setWhb b x).ports = s.ports := rfl
@[simp] theorem State.setWhb_meters : (s.setWhb b x).meters = s.meters := rfl
@[simp] theorem State.setWhb_eports : (s.setWhb b x).eports = s.eports := rfl
@[simp] theorem State.setWhb_pace : (s.setWhb b x).pace = s.pace := rfl
@[simp] theorem State.setWhb_dram : (s.setWhb b x).dram = s.dram := rfl
@[simp] theorem State.setWhb_fab : (s.setWhb b x).fab = s.fab := rfl
@[simp] theorem State.setWhb_boot : (s.setWhb b x).boot = s.boot := rfl
@[simp] theorem State.setWhb_hub : (s.setWhb b x).hub = s.hub := rfl
@[simp] theorem State.setWhb_island : (s.setWhb b x).island = s.island := rfl
@[simp] theorem State.setWhb_pins : (s.setWhb b x).pins = s.pins := rfl
@[simp] theorem State.setWhb_freeCtr : (s.setWhb b x).freeCtr = s.freeCtr := rfl
@[simp] theorem State.setWhb_pending : (s.setWhb b x).pending = s.pending := rfl
end

section
variable (s : State) (p : PinEvent)
@[simp] theorem State.pin_chip : (s.pin p).chip = s.chip := rfl
@[simp] theorem State.pin_fr : (s.pin p).fr = s.fr := rfl
@[simp] theorem State.pin_regs : (s.pin p).regs = s.regs := rfl
@[simp] theorem State.pin_hiLatch : (s.pin p).hiLatch = s.hiLatch := rfl
@[simp] theorem State.pin_rdata : (s.pin p).rdata = s.rdata := rfl
@[simp] theorem State.pin_tb : (s.pin p).tb = s.tb := rfl
@[simp] theorem State.pin_mem : (s.pin p).mem = s.mem := rfl
@[simp] theorem State.pin_ctxs : (s.pin p).ctxs = s.ctxs := rfl
@[simp] theorem State.pin_engs : (s.pin p).engs = s.engs := rfl
@[simp] theorem State.pin_disp : (s.pin p).disp = s.disp := rfl
@[simp] theorem State.pin_herd : (s.pin p).herd = s.herd := rfl
@[simp] theorem State.pin_leash : (s.pin p).leash = s.leash := rfl
@[simp] theorem State.pin_help : (s.pin p).help = s.help := rfl
@[simp] theorem State.pin_look : (s.pin p).look = s.look := rfl
@[simp] theorem State.pin_kn : (s.pin p).kn = s.kn := rfl
@[simp] theorem State.pin_ports : (s.pin p).ports = s.ports := rfl
@[simp] theorem State.pin_meters : (s.pin p).meters = s.meters := rfl
@[simp] theorem State.pin_eports : (s.pin p).eports = s.eports := rfl
@[simp] theorem State.pin_pace : (s.pin p).pace = s.pace := rfl
@[simp] theorem State.pin_dram : (s.pin p).dram = s.dram := rfl
@[simp] theorem State.pin_fab : (s.pin p).fab = s.fab := rfl
@[simp] theorem State.pin_ctl : (s.pin p).ctl = s.ctl := rfl
@[simp] theorem State.pin_boot : (s.pin p).boot = s.boot := rfl
@[simp] theorem State.pin_hub : (s.pin p).hub = s.hub := rfl
@[simp] theorem State.pin_island : (s.pin p).island = s.island := rfl
@[simp] theorem State.pin_freeCtr : (s.pin p).freeCtr = s.freeCtr := rfl
@[simp] theorem State.pin_pending : (s.pin p).pending = s.pending := rfl
end

/-- A register after a write of a register. -/
@[simp] theorem State.reg_setReg (s : State) (a b : Nat) (v : Word) :
    (s.setReg a v).reg b = if b = a then v else s.reg b := by
  unfold State.reg
  simp only [State.setReg, Tab.get_set]
  by_cases h : b = a <;> simp [h]

@[simp] theorem State.ctx_setCtx (s : State) (a b : Nat) (x : Ctx) :
    (s.setCtx a x).ctx b = if b = a then x else s.ctx b := by
  simp [State.ctx, State.setCtx]

@[simp] theorem State.eng_setEng (s : State) (a b : Nat) (x : Eng) :
    (s.setEng a x).eng b = if b = a then x else s.eng b := by
  simp [State.eng, State.setEng]

@[simp] theorem State.job_setJob (s : State) (a b : Nat) (x : Job) :
    (s.setJob a x).job b = if b = a then x else s.job b := by
  simp [State.job, State.setJob]

@[simp] theorem State.out_setOut (s : State) (a b : Nat) (x : Output) :
    (s.setOut a x).out b = if b = a then x else s.out b := by
  simp [State.out, State.setOut]

@[simp] theorem State.od_setOd (s : State) (a b : Nat) (x : Domain) :
    (s.setOd a x).od b = if b = a then x else s.od b := by
  simp [State.od, State.setOd]

@[simp] theorem State.eport_setEport (s : State) (a b : Nat) (x : EPort) :
    (s.setEport a x).eport b = if b = a then x else s.eport b := by
  simp [State.eport, State.setEport]

@[simp] theorem State.lock_setLock (s : State) (a b : Nat) (x : Lock) :
    (s.setLock a x).lock b = if b = a then x else s.lock b := by
  simp [State.lock, State.setLock]

@[simp] theorem State.whb_setWhb (s : State) (a b : Nat) (x : WhBlock) :
    (s.setWhb a x).whb b = if b = a then x else s.whb b := by
  simp [State.whb, State.setWhb]

@[simp] theorem State.ctx_setReg (s : State) (off : Nat) (v : Word) (n : Nat) : (s.setReg off v).ctx n = s.ctx n := rfl
@[simp] theorem State.eng_setReg (s : State) (off : Nat) (v : Word) (n : Nat) : (s.setReg off v).eng n = s.eng n := rfl
@[simp] theorem State.job_setReg (s : State) (off : Nat) (v : Word) (n : Nat) : (s.setReg off v).job n = s.job n := rfl
@[simp] theorem State.out_setReg (s : State) (off : Nat) (v : Word) (n : Nat) : (s.setReg off v).out n = s.out n := rfl
@[simp] theorem State.od_setReg (s : State) (off : Nat) (v : Word) (n : Nat) : (s.setReg off v).od n = s.od n := rfl
@[simp] theorem State.eport_setReg (s : State) (off : Nat) (v : Word) (n : Nat) : (s.setReg off v).eport n = s.eport n := rfl
@[simp] theorem State.lock_setReg (s : State) (off : Nat) (v : Word) (n : Nat) : (s.setReg off v).lock n = s.lock n := rfl
@[simp] theorem State.whb_setReg (s : State) (off : Nat) (v : Word) (n : Nat) : (s.setReg off v).whb n = s.whb n := rfl
@[simp] theorem State.eng_setCtx (s : State) (c : Nat) (x : Ctx) (n : Nat) : (s.setCtx c x).eng n = s.eng n := rfl
@[simp] theorem State.job_setCtx (s : State) (c : Nat) (x : Ctx) (n : Nat) : (s.setCtx c x).job n = s.job n := rfl
@[simp] theorem State.out_setCtx (s : State) (c : Nat) (x : Ctx) (n : Nat) : (s.setCtx c x).out n = s.out n := rfl
@[simp] theorem State.od_setCtx (s : State) (c : Nat) (x : Ctx) (n : Nat) : (s.setCtx c x).od n = s.od n := rfl
@[simp] theorem State.eport_setCtx (s : State) (c : Nat) (x : Ctx) (n : Nat) : (s.setCtx c x).eport n = s.eport n := rfl
@[simp] theorem State.lock_setCtx (s : State) (c : Nat) (x : Ctx) (n : Nat) : (s.setCtx c x).lock n = s.lock n := rfl
@[simp] theorem State.whb_setCtx (s : State) (c : Nat) (x : Ctx) (n : Nat) : (s.setCtx c x).whb n = s.whb n := rfl
@[simp] theorem State.reg_setCtx (s : State) (c : Nat) (x : Ctx) (n : Nat) : (s.setCtx c x).reg n = s.reg n := rfl
@[simp] theorem State.ctx_setEng (s : State) (e : Nat) (x : Eng) (n : Nat) : (s.setEng e x).ctx n = s.ctx n := rfl
@[simp] theorem State.job_setEng (s : State) (e : Nat) (x : Eng) (n : Nat) : (s.setEng e x).job n = s.job n := rfl
@[simp] theorem State.out_setEng (s : State) (e : Nat) (x : Eng) (n : Nat) : (s.setEng e x).out n = s.out n := rfl
@[simp] theorem State.od_setEng (s : State) (e : Nat) (x : Eng) (n : Nat) : (s.setEng e x).od n = s.od n := rfl
@[simp] theorem State.eport_setEng (s : State) (e : Nat) (x : Eng) (n : Nat) : (s.setEng e x).eport n = s.eport n := rfl
@[simp] theorem State.lock_setEng (s : State) (e : Nat) (x : Eng) (n : Nat) : (s.setEng e x).lock n = s.lock n := rfl
@[simp] theorem State.whb_setEng (s : State) (e : Nat) (x : Eng) (n : Nat) : (s.setEng e x).whb n = s.whb n := rfl
@[simp] theorem State.reg_setEng (s : State) (e : Nat) (x : Eng) (n : Nat) : (s.setEng e x).reg n = s.reg n := rfl
@[simp] theorem State.ctx_setJob (s : State) (j : Nat) (x : Job) (n : Nat) : (s.setJob j x).ctx n = s.ctx n := rfl
@[simp] theorem State.eng_setJob (s : State) (j : Nat) (x : Job) (n : Nat) : (s.setJob j x).eng n = s.eng n := rfl
@[simp] theorem State.out_setJob (s : State) (j : Nat) (x : Job) (n : Nat) : (s.setJob j x).out n = s.out n := rfl
@[simp] theorem State.od_setJob (s : State) (j : Nat) (x : Job) (n : Nat) : (s.setJob j x).od n = s.od n := rfl
@[simp] theorem State.eport_setJob (s : State) (j : Nat) (x : Job) (n : Nat) : (s.setJob j x).eport n = s.eport n := rfl
@[simp] theorem State.lock_setJob (s : State) (j : Nat) (x : Job) (n : Nat) : (s.setJob j x).lock n = s.lock n := rfl
@[simp] theorem State.whb_setJob (s : State) (j : Nat) (x : Job) (n : Nat) : (s.setJob j x).whb n = s.whb n := rfl
@[simp] theorem State.reg_setJob (s : State) (j : Nat) (x : Job) (n : Nat) : (s.setJob j x).reg n = s.reg n := rfl
@[simp] theorem State.ctx_setOut (s : State) (k : Nat) (x : Output) (n : Nat) : (s.setOut k x).ctx n = s.ctx n := rfl
@[simp] theorem State.eng_setOut (s : State) (k : Nat) (x : Output) (n : Nat) : (s.setOut k x).eng n = s.eng n := rfl
@[simp] theorem State.job_setOut (s : State) (k : Nat) (x : Output) (n : Nat) : (s.setOut k x).job n = s.job n := rfl
@[simp] theorem State.od_setOut (s : State) (k : Nat) (x : Output) (n : Nat) : (s.setOut k x).od n = s.od n := rfl
@[simp] theorem State.eport_setOut (s : State) (k : Nat) (x : Output) (n : Nat) : (s.setOut k x).eport n = s.eport n := rfl
@[simp] theorem State.lock_setOut (s : State) (k : Nat) (x : Output) (n : Nat) : (s.setOut k x).lock n = s.lock n := rfl
@[simp] theorem State.whb_setOut (s : State) (k : Nat) (x : Output) (n : Nat) : (s.setOut k x).whb n = s.whb n := rfl
@[simp] theorem State.reg_setOut (s : State) (k : Nat) (x : Output) (n : Nat) : (s.setOut k x).reg n = s.reg n := rfl
@[simp] theorem State.ctx_setOd (s : State) (d : Nat) (x : Domain) (n : Nat) : (s.setOd d x).ctx n = s.ctx n := rfl
@[simp] theorem State.eng_setOd (s : State) (d : Nat) (x : Domain) (n : Nat) : (s.setOd d x).eng n = s.eng n := rfl
@[simp] theorem State.job_setOd (s : State) (d : Nat) (x : Domain) (n : Nat) : (s.setOd d x).job n = s.job n := rfl
@[simp] theorem State.out_setOd (s : State) (d : Nat) (x : Domain) (n : Nat) : (s.setOd d x).out n = s.out n := rfl
@[simp] theorem State.eport_setOd (s : State) (d : Nat) (x : Domain) (n : Nat) : (s.setOd d x).eport n = s.eport n := rfl
@[simp] theorem State.lock_setOd (s : State) (d : Nat) (x : Domain) (n : Nat) : (s.setOd d x).lock n = s.lock n := rfl
@[simp] theorem State.whb_setOd (s : State) (d : Nat) (x : Domain) (n : Nat) : (s.setOd d x).whb n = s.whb n := rfl
@[simp] theorem State.reg_setOd (s : State) (d : Nat) (x : Domain) (n : Nat) : (s.setOd d x).reg n = s.reg n := rfl
@[simp] theorem State.ctx_setEport (s : State) (k : Nat) (x : EPort) (n : Nat) : (s.setEport k x).ctx n = s.ctx n := rfl
@[simp] theorem State.eng_setEport (s : State) (k : Nat) (x : EPort) (n : Nat) : (s.setEport k x).eng n = s.eng n := rfl
@[simp] theorem State.job_setEport (s : State) (k : Nat) (x : EPort) (n : Nat) : (s.setEport k x).job n = s.job n := rfl
@[simp] theorem State.out_setEport (s : State) (k : Nat) (x : EPort) (n : Nat) : (s.setEport k x).out n = s.out n := rfl
@[simp] theorem State.od_setEport (s : State) (k : Nat) (x : EPort) (n : Nat) : (s.setEport k x).od n = s.od n := rfl
@[simp] theorem State.lock_setEport (s : State) (k : Nat) (x : EPort) (n : Nat) : (s.setEport k x).lock n = s.lock n := rfl
@[simp] theorem State.whb_setEport (s : State) (k : Nat) (x : EPort) (n : Nat) : (s.setEport k x).whb n = s.whb n := rfl
@[simp] theorem State.reg_setEport (s : State) (k : Nat) (x : EPort) (n : Nat) : (s.setEport k x).reg n = s.reg n := rfl
@[simp] theorem State.ctx_setLock (s : State) (k : Nat) (x : Lock) (n : Nat) : (s.setLock k x).ctx n = s.ctx n := rfl
@[simp] theorem State.eng_setLock (s : State) (k : Nat) (x : Lock) (n : Nat) : (s.setLock k x).eng n = s.eng n := rfl
@[simp] theorem State.job_setLock (s : State) (k : Nat) (x : Lock) (n : Nat) : (s.setLock k x).job n = s.job n := rfl
@[simp] theorem State.out_setLock (s : State) (k : Nat) (x : Lock) (n : Nat) : (s.setLock k x).out n = s.out n := rfl
@[simp] theorem State.od_setLock (s : State) (k : Nat) (x : Lock) (n : Nat) : (s.setLock k x).od n = s.od n := rfl
@[simp] theorem State.eport_setLock (s : State) (k : Nat) (x : Lock) (n : Nat) : (s.setLock k x).eport n = s.eport n := rfl
@[simp] theorem State.whb_setLock (s : State) (k : Nat) (x : Lock) (n : Nat) : (s.setLock k x).whb n = s.whb n := rfl
@[simp] theorem State.reg_setLock (s : State) (k : Nat) (x : Lock) (n : Nat) : (s.setLock k x).reg n = s.reg n := rfl
@[simp] theorem State.ctx_setWhb (s : State) (b : Nat) (x : WhBlock) (n : Nat) : (s.setWhb b x).ctx n = s.ctx n := rfl
@[simp] theorem State.eng_setWhb (s : State) (b : Nat) (x : WhBlock) (n : Nat) : (s.setWhb b x).eng n = s.eng n := rfl
@[simp] theorem State.job_setWhb (s : State) (b : Nat) (x : WhBlock) (n : Nat) : (s.setWhb b x).job n = s.job n := rfl
@[simp] theorem State.out_setWhb (s : State) (b : Nat) (x : WhBlock) (n : Nat) : (s.setWhb b x).out n = s.out n := rfl
@[simp] theorem State.od_setWhb (s : State) (b : Nat) (x : WhBlock) (n : Nat) : (s.setWhb b x).od n = s.od n := rfl
@[simp] theorem State.eport_setWhb (s : State) (b : Nat) (x : WhBlock) (n : Nat) : (s.setWhb b x).eport n = s.eport n := rfl
@[simp] theorem State.lock_setWhb (s : State) (b : Nat) (x : WhBlock) (n : Nat) : (s.setWhb b x).lock n = s.lock n := rfl
@[simp] theorem State.reg_setWhb (s : State) (b : Nat) (x : WhBlock) (n : Nat) : (s.setWhb b x).reg n = s.reg n := rfl
@[simp] theorem State.ctx_pin (s : State) (p : PinEvent) (n : Nat) : (s.pin p).ctx n = s.ctx n := rfl
@[simp] theorem State.eng_pin (s : State) (p : PinEvent) (n : Nat) : (s.pin p).eng n = s.eng n := rfl
@[simp] theorem State.job_pin (s : State) (p : PinEvent) (n : Nat) : (s.pin p).job n = s.job n := rfl
@[simp] theorem State.out_pin (s : State) (p : PinEvent) (n : Nat) : (s.pin p).out n = s.out n := rfl
@[simp] theorem State.od_pin (s : State) (p : PinEvent) (n : Nat) : (s.pin p).od n = s.od n := rfl
@[simp] theorem State.eport_pin (s : State) (p : PinEvent) (n : Nat) : (s.pin p).eport n = s.eport n := rfl
@[simp] theorem State.lock_pin (s : State) (p : PinEvent) (n : Nat) : (s.pin p).lock n = s.lock n := rfl
@[simp] theorem State.whb_pin (s : State) (p : PinEvent) (n : Nat) : (s.pin p).whb n = s.whb n := rfl
@[simp] theorem State.reg_pin (s : State) (p : PinEvent) (n : Nat) : (s.pin p).reg n = s.reg n := rfl

end Sys2Proof.Machine
end

