-- ==== Sys2Proof/Laws/Canon.lean ====
section
/-! SUPPORT. Every operation keeps the canonical form of the registers and the memories: one lemma per shared operation,
named after it, `_canon`. -/

namespace Sys2Proof.Machine

set_option Elab.async false

open Sys2Proof

/-- The canonical form, of the registers and the memories alone. -/
def CanonRM (r : Tab (Option Word)) (m : Mems) : Prop :=
  Tab.wf none r = true ∧ ∀ x ∈ [m.istore, m.psm, m.csm, m.ldm, m.scratch, m.cells, m.flow, m.tblram, m.dram, m.host, m.flash],
    Mem.wf x = true

theorem canon_iff (s : State) : Canon s ↔ CanonRM s.regs s.mem := Iff.rfl

theorem canon_mk {a b c d e f g h i j k l m n o p q r t u v w x y z a1 b1 c1} :
    Canon (State.mk a b c d e f g h i j k l m n o p q r t u v w x y z a1 b1 c1) ↔ CanonRM c g := Iff.rfl

theorem Canon.rm {s : State} (h : Canon s) : CanonRM s.regs s.mem := h

theorem Canon.setReg {s : State} (h : Canon s) (off : Nat) (v : Word) : Canon (s.setReg off v) :=
  ⟨Tab.wf_set off (some v) h.1, h.2⟩

/-- One memory changes to another canonical one. -/
theorem CanonRM.mem {r : Tab (Option Word)} {m m' : Mems} (h : CanonRM r m)
    (hm : ∀ x ∈ [m'.istore, m'.psm, m'.csm, m'.ldm, m'.scratch, m'.cells, m'.flow, m'.tblram, m'.dram, m'.host, m'.flash],
      x ∈ [m.istore, m.psm, m.csm, m.ldm, m.scratch, m.cells, m.flow, m.tblram, m.dram, m.host, m.flash] ∨ Mem.wf x = true) :
    CanonRM r m' :=
  ⟨h.1, fun x hx => (hm x hx).elim (h.2 x) id⟩

section Mems
variable {s : State} {m : Mem}
theorem Canon.istore (h : Canon s) : Mem.wf s.mem.istore = true := h.2 _ (by simp)
theorem Canon.psm (h : Canon s) : Mem.wf s.mem.psm = true := h.2 _ (by simp)
theorem Canon.csm (h : Canon s) : Mem.wf s.mem.csm = true := h.2 _ (by simp)
theorem Canon.ldm (h : Canon s) : Mem.wf s.mem.ldm = true := h.2 _ (by simp)
theorem Canon.scratch (h : Canon s) : Mem.wf s.mem.scratch = true := h.2 _ (by simp)
theorem Canon.cells (h : Canon s) : Mem.wf s.mem.cells = true := h.2 _ (by simp)
theorem Canon.flow (h : Canon s) : Mem.wf s.mem.flow = true := h.2 _ (by simp)
theorem Canon.tblram (h : Canon s) : Mem.wf s.mem.tblram = true := h.2 _ (by simp)
theorem Canon.dramMem (h : Canon s) : Mem.wf s.mem.dram = true := h.2 _ (by simp)
theorem Canon.host (h : Canon s) : Mem.wf s.mem.host = true := h.2 _ (by simp)
theorem Canon.flash (h : Canon s) : Mem.wf s.mem.flash = true := h.2 _ (by simp)
theorem CanonRM.with_istore (h : CanonRM s.regs s.mem) (w : Mem.wf m = true) :
    CanonRM s.regs { s.mem with istore := m } := by
  refine h.mem ?_; simp +contextual [w]
theorem CanonRM.with_psm (h : CanonRM s.regs s.mem) (w : Mem.wf m = true) : CanonRM s.regs { s.mem with psm := m } := by
  refine h.mem ?_; simp +contextual [w]
theorem CanonRM.with_csm (h : CanonRM s.regs s.mem) (w : Mem.wf m = true) : CanonRM s.regs { s.mem with csm := m } := by
  refine h.mem ?_; simp +contextual [w]
theorem CanonRM.with_ldm (h : CanonRM s.regs s.mem) (w : Mem.wf m = true) : CanonRM s.regs { s.mem with ldm := m } := by
  refine h.mem ?_; simp +contextual [w]
theorem CanonRM.with_scratch (h : CanonRM s.regs s.mem) (w : Mem.wf m = true) :
    CanonRM s.regs { s.mem with scratch := m } := by
  refine h.mem ?_; simp +contextual [w]
theorem CanonRM.with_cells (h : CanonRM s.regs s.mem) (w : Mem.wf m = true) : CanonRM s.regs { s.mem with cells := m } := by
  refine h.mem ?_; simp +contextual [w]
theorem CanonRM.with_flow (h : CanonRM s.regs s.mem) (w : Mem.wf m = true) : CanonRM s.regs { s.mem with flow := m } := by
  refine h.mem ?_; simp +contextual [w]
theorem CanonRM.with_tblram (h : CanonRM s.regs s.mem) (w : Mem.wf m = true) :
    CanonRM s.regs { s.mem with tblram := m } := by
  refine h.mem ?_; simp +contextual [w]
theorem CanonRM.with_dram (h : CanonRM s.regs s.mem) (w : Mem.wf m = true) : CanonRM s.regs { s.mem with dram := m } := by
  refine h.mem ?_; simp +contextual [w]
theorem CanonRM.with_host (h : CanonRM s.regs s.mem) (w : Mem.wf m = true) : CanonRM s.regs { s.mem with host := m } := by
  refine h.mem ?_; simp +contextual [w]
theorem CanonRM.with_flash (h : CanonRM s.regs s.mem) (w : Mem.wf m = true) : CanonRM s.regs { s.mem with flash := m } := by
  refine h.mem ?_; simp +contextual [w]
end Mems

/-- What a fold of canonical steps keeps. -/
theorem Canon.foldl {α : Type} {f : State → α → State} {l : List α} {s : State} (hf : ∀ t a, Canon t → Canon (f t a))
    (h : Canon s) : Canon (l.foldl f s) := by
  induction l generalizing s with
  | nil => exact h
  | cons a l ih => exact ih (hf _ _ h)

/-- What a fold over memories keeps. -/
theorem Mem.wf_foldl {α : Type} {f : Mem → α → Mem} {l : List α} {m : Mem}
    (hf : ∀ t a, Mem.wf t = true → Mem.wf (f t a) = true)
    (h : Mem.wf m = true) : Mem.wf (l.foldl f m) = true := by
  induction l generalizing m with
  | nil => exact h
  | cons a l ih => exact ih (hf _ _ h)

/-- Every next state an outcome answers is in the canonical form. -/
def CanonO (o : Out) : Prop := ∀ t, o = .next t → Canon t

theorem canonO_next {t : State} (h : Canon t) : CanonO (.next t) := fun _ e => Host.Outcome.next.inj e ▸ h

theorem canonO_fault {f : Fault} : CanonO (.fault f) := fun _ e => by cases e

theorem canonO_refused {r : Refusal} : CanonO (.refused r) := fun _ e => by cases e

theorem Canon.of_snd {α : Type} {x : α × State} {a : α} {t : State} (e : x = (a, t)) (h : Canon x.2) :
    Canon t := by subst e; exact h

theorem Canon.of_fst {α : Type} {x : State × α} {a : α} {t : State} (e : x = (t, a)) (h : Canon x.1) :
    Canon t := by subst e; exact h

theorem Canon.of_trd {α β : Type} {x : α × β × State} {a : α} {b : β} {t : State} (e : x = (a, b, t)) (h : Canon x.2.2) :
    Canon t := by subst e; exact h

theorem Canon.of_eff {x : Eff} {a : State} {n : Next} {b : Bool} (e : x = ⟨a, n, b⟩) (h : Canon x.st) :
    Canon a := by subst e; exact h

theorem State.bump_canon {s : State} {off : Nat} (h_s : Canon s) : Canon (State.bump s off) := by
  unfold State.bump
  repeat' first | with_reducible assumption | with_reducible apply Canon.setReg

theorem State.setFld_canon {s : State} {off hi lo x : Nat} (h_s : Canon s) : Canon (State.setFld s off hi lo x) := by
  unfold State.setFld
  repeat' first | with_reducible assumption | with_reducible apply Canon.setReg

theorem State.countEntry_canon {s : State} {t : Nat} {was now : Bool} (h_s : Canon s) :
    Canon (State.countEntry s t was now) := by
  unfold State.countEntry
  repeat' first | with_reducible assumption | with_reducible apply State.setFld_canon | split

theorem State.linesSee_canon {s : State} {a : Nat} {b : List Byte} (h_s : Canon s) : Canon (State.linesSee s a b) := by
  unfold State.linesSee
  repeat' first
    | with_reducible assumption
    | split
    | with_reducible refine Canon.of_snd (by assumption) ?_
    | with_reducible refine Canon.foldl (fun _ _ _ => ?_) ?_
    | (simp only [canon_mk]; with_reducible refine Canon.rm ?_)

theorem State.dramUnserved_canon {s : State} {a : Nat} (h_s : Canon s) : Canon (State.dramUnserved s a) := by
  unfold State.dramUnserved
  repeat' first | with_reducible assumption | with_reducible apply State.bump_canon

theorem State.updHlp_canon {s : State} {id : Nat} {f : HlpCmd → HlpCmd} (h_s : Canon s) : Canon (State.updHlp s id f) := by
  unfold State.updHlp
  repeat' first | with_reducible assumption | split | (simp only [canon_mk]; with_reducible refine Canon.rm ?_)

theorem State.fetchEnd_canon {s : State} {n : Nat} {own : FarFor} {got : Option Fetched} (h_s : Canon s) :
    Canon (State.fetchEnd s n own got) := by
  unfold State.fetchEnd
  repeat' first | with_reducible assumption | split | (simp only [canon_mk]; with_reducible refine Canon.rm ?_)

theorem State.updRun_canon {s : State} {k : Nat} {f : TRun → TRun} (h_s : Canon s) : Canon (State.updRun s k f) := by
  unfold State.updRun
  repeat' first | with_reducible assumption | (simp only [canon_mk]; with_reducible refine Canon.rm ?_)

theorem State.dramRefuse_canon {s : State} {r : DramReq} (h_s : Canon s) : Canon (State.dramRefuse s r) := by
  unfold State.dramRefuse
  repeat' first
    | with_reducible assumption
    | with_reducible apply State.dramUnserved_canon
    | with_reducible apply State.updHlp_canon
    | with_reducible apply State.fetchEnd_canon
    | with_reducible apply State.updRun_canon
    | split

theorem State.setDch_canon {s : State} {i ch : Nat} {x : DramCh} (h_s : Canon s) : Canon (State.setDch s i ch x) := by
  unfold State.setDch
  repeat' first | with_reducible assumption | (simp only [canon_mk]; with_reducible refine Canon.rm ?_)

theorem State.dramEnter_canon {s : State} {i ch : Nat} {r : DramReq} (h_s : Canon s) : Canon (State.dramEnter s i ch r) := by
  unfold State.dramEnter
  repeat' first
    | with_reducible assumption
    | with_reducible apply State.bump_canon
    | with_reducible apply State.setDch_canon
    | split
    | with_reducible refine Canon.of_snd (by assumption) ?_
    | dsimp only

theorem State.dramSend_canon {s : State} {port : Nat} {tclass write : Bool} {a n : Nat} {dest : DramTo} {b : List Byte}
    (h_s : Canon s) :
    Canon (State.dramSend s port tclass write a n dest b) := by
  unfold State.dramSend
  repeat' first
    | with_reducible assumption
    | with_reducible apply State.dramRefuse_canon
    | with_reducible apply State.dramEnter_canon
    | split
    | with_reducible refine Canon.of_snd (by assumption) ?_
    | (simp only [canon_mk]; with_reducible refine Canon.rm ?_)
    | dsimp only

theorem State.dramWrite_canon {s : State} {port : Nat} {tclass : Bool} {a : Nat} {b : List Byte} {dest : DramTo}
    (h_s : Canon s) :
    Canon (State.dramWrite s port tclass a b dest) := by
  unfold State.dramWrite
  repeat' first
    | with_reducible assumption
    | with_reducible apply State.dramSend_canon
    | with_reducible refine Canon.foldl (fun _ _ _ => ?_) ?_

theorem State.eccWrite_canon {s : State} {mem x0 addr n : Nat} (h_s : Canon s) : Canon (State.eccWrite s mem x0 addr n) := by
  unfold State.eccWrite
  repeat' first | with_reducible assumption | (simp only [canon_mk]; with_reducible refine Canon.rm ?_)

theorem State.tWrite_canon {s : State} {t a : Nat} {b : List Byte} (h : Canon s) : Canon (s.tWrite t a b) := by
  simp only [State.tWrite]
  split
  · exact State.linesSee_canon (State.dramWrite_canon h)
  · exact State.eccWrite_canon (s := { s with mem := { s.mem with tblram := s.mem.tblram.put a b } })
      (h.rm.with_tblram (Mem.wf_put _ _ h.tblram))

theorem State.putSlot_canon {s : State} {t b k : Nat} {valid : Bool} {age : Nat} {key value : List Byte} (h_s : Canon s) :
    Canon (State.putSlot s t b k valid age key value) := by
  unfold State.putSlot
  repeat' first | with_reducible assumption | with_reducible apply State.tWrite_canon

theorem State.setEng_canon {s : State} {e : Nat} {x : Eng} (h_s : Canon s) : Canon (State.setEng s e x) := by
  unfold State.setEng
  repeat' first | with_reducible assumption | (simp only [canon_mk]; with_reducible refine Canon.rm ?_)

theorem State.updEng_canon {s : State} {e : Nat} {f : Eng → Eng} (h_s : Canon s) : Canon (State.updEng s e f) := by
  unfold State.updEng
  repeat' first | with_reducible assumption | with_reducible apply State.setEng_canon

theorem State.defer_canon {s : State} {e : Nat} {b : Boundary} (h_s : Canon s) : Canon (State.defer s e b) := by
  unfold State.defer
  repeat' first | with_reducible assumption | with_reducible apply State.updEng_canon

theorem State.notePast_canon {s : State} {d : Nat} (h_s : Canon s) : Canon (State.notePast s d) := by
  unfold State.notePast
  repeat' first | with_reducible assumption | split | (simp only [canon_mk]; with_reducible refine Canon.rm ?_)

theorem State.clearIssue_canon {s : State} {e : Nat} (h_s : Canon s) : Canon (State.clearIssue s e) := by
  unfold State.clearIssue
  repeat' first | with_reducible assumption | with_reducible apply State.updEng_canon

theorem State.setCtx_canon {s : State} {c : Nat} {x : Ctx} (h_s : Canon s) : Canon (State.setCtx s c x) := by
  unfold State.setCtx
  repeat' first | with_reducible assumption | (simp only [canon_mk]; with_reducible refine Canon.rm ?_)

theorem State.setHold_canon {s : State} {c : Nat} {op : EOp} {o : Operands} {cost : Nat} (h_s : Canon s) :
    Canon (State.setHold s c op o cost) := by
  unfold State.setHold
  repeat' first | with_reducible assumption | with_reducible apply State.setCtx_canon | split | dsimp only

theorem State.stepEnd_canon {s : State} {c : Nat} (h_s : Canon s) : Canon (State.stepEnd s c) := by
  unfold State.stepEnd
  repeat' first | with_reducible assumption | with_reducible apply State.setCtx_canon | split | dsimp only

theorem State.updCtx_canon {s : State} {c : Nat} {f : Ctx → Ctx} (h_s : Canon s) : Canon (State.updCtx s c f) := by
  unfold State.updCtx
  repeat' first | with_reducible assumption | with_reducible apply State.setCtx_canon

theorem State.pin_canon {s : State} {p : PinEvent} (h_s : Canon s) : Canon (State.pin s p) := by
  unfold State.pin
  repeat' first | with_reducible assumption | (simp only [canon_mk]; with_reducible refine Canon.rm ?_)

theorem State.dueMsg_canon {s : State} {v : Nat} (h_s : Canon s) : Canon (State.dueMsg s v) := by
  unfold State.dueMsg
  repeat' first
    | with_reducible assumption
    | with_reducible apply State.pin_canon
    | split
    | (simp only [canon_mk]; with_reducible refine Canon.rm ?_)

theorem State.raise_canon {s : State} {src : Nat} (h_s : Canon s) : Canon (State.raise s src) := by
  unfold State.raise
  repeat' first
    | with_reducible assumption
    | with_reducible apply State.setFld_canon
    | with_reducible apply State.dueMsg_canon
    | split
    | dsimp only

theorem State.setLock_canon {s : State} {i : Nat} {l : Lock} (h_s : Canon s) : Canon (State.setLock s i l) := by
  unfold State.setLock
  repeat' first | with_reducible assumption | (simp only [canon_mk]; with_reducible refine Canon.rm ?_)

theorem State.leashLeave_canon {s : State} {id : Nat} (h_s : Canon s) : Canon (State.leashLeave s id) := by
  unfold State.leashLeave
  repeat' first
    | with_reducible assumption
    | with_reducible apply State.setLock_canon
    | split
    | with_reducible refine Canon.foldl (fun _ _ _ => ?_) ?_

theorem State.setG_canon {s : State} {c r : Nat} {v : Word} (h_s : Canon s) : Canon (State.setG s c r v) := by
  unfold State.setG
  repeat' first | with_reducible assumption | with_reducible apply State.updCtx_canon

theorem State.setS_canon {s : State} {c j : Nat} {v : Word} (h_s : Canon s) : Canon (State.setS s c j v) := by
  unfold State.setS
  repeat' first
    | with_reducible assumption
    | with_reducible apply State.updEng_canon
    | with_reducible apply State.updCtx_canon
    | split
    | with_reducible refine Canon.foldl (fun _ _ _ => ?_) ?_

theorem State.setR_canon {s : State} {c r : Nat} {v : Word} (h_s : Canon s) : Canon (State.setR s c r v) := by
  unfold State.setR
  repeat' first
    | with_reducible assumption
    | with_reducible apply State.setG_canon
    | with_reducible apply State.setS_canon
    | split

theorem State.land_canon {s : State} {c r : Nat} {v : Word} (h_s : Canon s) : Canon (State.land s c r v) := by
  unfold State.land
  repeat' first
    | with_reducible assumption
    | with_reducible apply State.updCtx_canon
    | with_reducible apply State.setR_canon
    | split

theorem State.deliver_canon {s : State} {c dst bytes : Nat} {v : Word} (h_s : Canon s) :
    Canon (State.deliver s c dst bytes v) := by
  unfold State.deliver
  repeat' first
    | with_reducible assumption
    | with_reducible apply State.updCtx_canon
    | with_reducible apply State.land_canon
    | split

theorem State.setFabLink_canon {s : State} {q : Nat} {l : FabLink} (h_s : Canon s) : Canon (State.setFabLink s q l) := by
  unfold State.setFabLink
  repeat' first | with_reducible assumption | (simp only [canon_mk]; with_reducible refine Canon.rm ?_)

theorem State.ctlPump_canon {s : State} {q : Nat} (h_s : Canon s) : Canon (State.ctlPump s q) := by
  unfold State.ctlPump
  repeat' first
    | with_reducible assumption
    | with_reducible apply State.setFabLink_canon
    | with_reducible apply State.pin_canon
    | split
    | with_reducible refine Canon.foldl (fun _ _ _ => ?_) ?_

theorem State.ctlSend_canon {s : State} {q : Nat} {b : List Byte} (h_s : Canon s) : Canon (State.ctlSend s q b) := by
  unfold State.ctlSend
  repeat' first
    | with_reducible assumption
    | with_reducible apply State.ctlPump_canon
    | with_reducible apply State.setFabLink_canon

theorem State.fabControl_canon {s : State} {ty d : Nat} {b : List Byte} (h_s : Canon s) :
    Canon (State.fabControl s ty d b) := by
  unfold State.fabControl
  repeat' first | with_reducible assumption | with_reducible apply State.ctlSend_canon | split

theorem State.fabStatus_canon {s : State} {d : Nat} {v : Word} (h_s : Canon s) : Canon (State.fabStatus s d v) := by
  unfold State.fabStatus
  repeat' first | with_reducible assumption | with_reducible apply State.fabControl_canon

theorem State.leashReply_canon {s : State} {id : Nat} {v : Word} (h_s : Canon s) : Canon (State.leashReply s id v) := by
  unfold State.leashReply
  repeat' first
    | with_reducible assumption
    | with_reducible apply State.deliver_canon
    | with_reducible apply State.fabStatus_canon
    | split
    | with_reducible refine Canon.of_snd (by assumption) ?_
    | (simp only [canon_mk]; with_reducible refine Canon.rm ?_)

theorem State.leashPass_canon {s : State} {i : Nat} {status : Word} (h_s : Canon s) :
    Canon (State.leashPass s i status) := by
  unfold State.leashPass
  repeat' first
    | with_reducible assumption
    | with_reducible apply State.setLock_canon
    | with_reducible apply State.leashReply_canon
    | split
    | with_reducible refine Canon.of_snd (by assumption) ?_
    | dsimp only

theorem State.leashBreakOne_canon {s : State} {i : Nat} (h_s : Canon s) : Canon (State.leashBreakOne s i) := by
  unfold State.leashBreakOne
  repeat' first
    | with_reducible assumption
    | with_reducible apply State.raise_canon
    | with_reducible apply State.bump_canon
    | with_reducible apply State.setLock_canon
    | with_reducible apply State.leashPass_canon
    | split
    | with_reducible refine Canon.of_snd (by assumption) ?_
    | dsimp only

theorem State.leashBreak_canon {s : State} {id : Nat} (h_s : Canon s) : Canon (State.leashBreak s id) := by
  unfold State.leashBreak
  repeat' first
    | with_reducible assumption
    | with_reducible apply State.leashLeave_canon
    | with_reducible apply State.leashBreakOne_canon
    | split
    | with_reducible refine Canon.foldl (fun _ _ _ => ?_) ?_

theorem State.mwLeave_canon {s : State} {c : Nat} (h_s : Canon s) : Canon (State.mwLeave s c) := by
  unfold State.mwLeave
  repeat' first
    | with_reducible assumption
    | with_reducible refine Canon.foldl (fun _ _ _ => ?_) ?_
    | (simp only [canon_mk]; with_reducible refine Canon.rm ?_)

theorem State.orphan_canon {s : State} {c : Nat} (h_s : Canon s) : Canon (State.orphan s c) := by
  unfold State.orphan
  repeat' first
    | with_reducible assumption
    | with_reducible apply State.updCtx_canon
    | split
    | with_reducible refine Canon.foldl (fun _ _ _ => ?_) ?_

theorem State.tellParent_canon {s : State} {parent : Option Nat} {k : Nat} (h_s : Canon s) :
    Canon (State.tellParent s parent k) := by
  unfold State.tellParent
  repeat' first | with_reducible assumption | with_reducible apply State.updCtx_canon | split

theorem State.setJob_canon {s : State} {j : Nat} {x : Job} (h_s : Canon s) : Canon (State.setJob s j x) := by
  unfold State.setJob
  repeat' first | with_reducible assumption | (simp only [canon_mk]; with_reducible refine Canon.rm ?_)

theorem State.updJob_canon {s : State} {j : Nat} {f : Job → Job} (h_s : Canon s) : Canon (State.updJob s j f) := by
  unfold State.updJob
  repeat' first | with_reducible assumption | with_reducible apply State.setJob_canon

theorem State.reap_canon {s : State} {j : Nat} (h_s : Canon s) : Canon (State.reap s j) := by
  unfold State.reap
  repeat' first | with_reducible assumption | with_reducible apply State.setJob_canon | split | dsimp only

theorem State.queueReply_canon {s : State} {h : Nat} {r : Reply} (h_s : Canon s) : Canon (State.queueReply s h r) := by
  unfold State.queueReply
  repeat' first | with_reducible assumption | split | (simp only [canon_mk]; with_reducible refine Canon.rm ?_)

theorem State.notifyAll_canon {s : State} {reason : Nat} (h_s : Canon s) : Canon (State.notifyAll s reason) := by
  unfold State.notifyAll
  repeat' first
    | with_reducible assumption
    | with_reducible apply State.queueReply_canon
    | with_reducible refine Canon.foldl (fun _ _ _ => ?_) ?_

theorem State.epochReport_canon {s : State} {e : Nat} (h_s : Canon s) : Canon (State.epochReport s e) := by
  unfold State.epochReport
  repeat' first
    | with_reducible assumption
    | with_reducible apply State.notifyAll_canon
    | with_reducible apply State.raise_canon
    | with_reducible apply State.setFld_canon
    | split

theorem State.leaveEpoch_canon {s : State} {j : Nat} (h_s : Canon s) : Canon (State.leaveEpoch s j) := by
  unfold State.leaveEpoch
  repeat' first
    | with_reducible assumption
    | with_reducible apply State.epochReport_canon
    | with_reducible apply State.updJob_canon
    | with_reducible apply State.setFld_canon
    | split
    | dsimp only

theorem State.logFirst_canon {s : State} {off validBit ovfBit : Nat} {v : Word} (h_s : Canon s) :
    Canon (State.logFirst s off validBit ovfBit v) := by
  unfold State.logFirst
  repeat' first
    | with_reducible assumption
    | with_reducible apply State.setFld_canon
    | with_reducible apply Canon.setReg
    | split

theorem State.knBad_canon {s : State} {h p cause : Nat} {dev : Bool} (h_s : Canon s) :
    Canon (State.knBad s h p cause dev) := by
  unfold State.knBad
  repeat' first
    | with_reducible assumption
    | with_reducible apply State.raise_canon
    | with_reducible apply State.bump_canon
    | with_reducible apply State.logFirst_canon

theorem State.setCell_canon {s : State} {h : Nat} {used : Bool} {next : Nat} (h_s : Canon s) :
    Canon (State.setCell s h used next) := by
  unfold State.setCell
  repeat' first | with_reducible assumption | (simp only [canon_mk]; with_reducible refine Canon.rm ?_)

theorem State.knFreeOne_canon {s : State} {h p : Nat} {dev : Bool} (h_s : Canon s) :
    Canon (State.knFreeOne s h p dev).2 := by
  unfold State.knFreeOne
  repeat' first
    | with_reducible assumption
    | with_reducible apply State.knBad_canon
    | with_reducible apply State.setFld_canon
    | with_reducible apply State.setCell_canon
    | split

theorem State.knFreeChain_canon {s : State} {p n h : Nat} {dev : Bool} (hs : Canon s) : Canon (s.knFreeChain p dev n h) := by
  induction n generalizing s h with
  | zero => exact hs
  | succ n ih =>
    have h1 := State.knFreeOne_canon (h := h) (p := p) (dev := dev) hs
    simp only [State.knFreeChain]
    split
    · exact ih h1
    · exact h1

theorem State.knFree_canon {s : State} {h p : Nat} {chain dev : Bool} (h_s : Canon s) :
    Canon (State.knFree s h p chain dev) := by
  unfold State.knFree
  repeat' first
    | with_reducible assumption
    | with_reducible apply State.knFreeChain_canon
    | with_reducible apply State.knFreeOne_canon
    | split

theorem State.freeCells_canon {s : State} {j : Nat} (h_s : Canon s) : Canon (State.freeCells s j) := by
  unfold State.freeCells
  repeat' first
    | with_reducible assumption
    | with_reducible apply State.updJob_canon
    | with_reducible apply State.knFree_canon
    | split
    | dsimp only

theorem State.settle_canon {s : State} {j : Nat} (h_s : Canon s) : Canon (State.settle s j) := by
  unfold State.settle
  repeat' first
    | with_reducible assumption
    | with_reducible apply State.reap_canon
    | with_reducible apply State.leaveEpoch_canon
    | with_reducible apply State.freeCells_canon

theorem State.outRelease_canon {s : State} {k : Nat} (h_s : Canon s) : Canon (State.outRelease s k) := by
  unfold State.outRelease
  repeat' first
    | with_reducible assumption
    | with_reducible apply State.setFld_canon
    | split
    | (simp only [canon_mk]; with_reducible refine Canon.rm ?_)

theorem State.setOd_canon {s : State} {d : Nat} {x : Domain} (h_s : Canon s) : Canon (State.setOd s d x) := by
  unfold State.setOd
  repeat' first | with_reducible assumption | (simp only [canon_mk]; with_reducible refine Canon.rm ?_)

theorem State.startTimer_canon {s : State} {d : Nat} (h_s : Canon s) : Canon (State.startTimer s d) := by
  unfold State.startTimer
  repeat' first | with_reducible assumption | with_reducible apply State.setOd_canon | split | dsimp only

theorem State.pass_canon {s : State} {j : Nat} (h_s : Canon s) : Canon (State.pass s j) := by
  unfold State.pass
  repeat' first
    | with_reducible assumption
    | with_reducible apply State.settle_canon
    | with_reducible apply State.startTimer_canon
    | with_reducible apply State.setOd_canon
    | with_reducible apply State.updJob_canon

theorem State.peakF_canon {s : State} {off hi lo x : Nat} (h_s : Canon s) : Canon (State.peakF s off hi lo x) := by
  unfold State.peakF
  repeat' first | with_reducible assumption | with_reducible apply State.setFld_canon | split

theorem State.qRefresh_canon {s : State} {q : Nat} (h_s : Canon s) : Canon (State.qRefresh s q) := by
  unfold State.qRefresh
  repeat' first
    | with_reducible assumption
    | with_reducible apply State.peakF_canon
    | split
    | (simp only [canon_mk]; with_reducible refine Canon.rm ?_)

theorem State.freeEntry_canon {s : State} {j : Nat} (h_s : Canon s) : Canon (State.freeEntry s j) := by
  unfold State.freeEntry
  repeat' first
    | with_reducible assumption
    | with_reducible apply State.qRefresh_canon
    | with_reducible apply State.updJob_canon
    | split

theorem State.dispRemove_canon {s : State} {j : Nat} (h_s : Canon s) : Canon (State.dispRemove s j) := by
  unfold State.dispRemove
  repeat' first
    | with_reducible assumption
    | with_reducible apply State.qRefresh_canon
    | with_reducible apply State.updJob_canon
    | with_reducible apply State.freeEntry_canon
    | with_reducible apply State.updEng_canon
    | split
    | with_reducible refine Canon.of_snd (by assumption) ?_
    | (simp only [canon_mk]; with_reducible refine Canon.rm ?_)

theorem State.holeMark_canon {s : State} {j cause : Nat} (h_s : Canon s) : Canon (State.holeMark s j cause) := by
  unfold State.holeMark
  repeat' first
    | with_reducible assumption
    | with_reducible apply State.dispRemove_canon
    | with_reducible apply State.logFirst_canon
    | with_reducible apply State.updJob_canon
    | with_reducible apply State.raise_canon
    | with_reducible apply State.bump_canon
    | with_reducible apply Canon.setReg
    | split

theorem State.herdMove_canon {s : State} {d : Nat} (h : Canon s) : ∀ t, s.herdMove d = some t → Canon t := by
  intro t ht
  unfold State.herdMove at ht
  split at ht
  · obtain rfl := Option.some.inj ht
    split
    · exact State.settle_canon (State.outRelease_canon h)
    · exact State.outRelease_canon h
  · split at ht
    · exact nomatch ht
    · dsimp only at ht
      split at ht
      · obtain rfl := Option.some.inj ht
        exact State.pass_canon (State.holeMark_canon h)
      · split at ht
        · obtain rfl := Option.some.inj ht
          exact State.pass_canon h
        · exact nomatch ht

theorem State.herdLoop_canon {d n : Nat} {s : State} (hs : Canon s) : Canon (State.herdLoop d n s) := by
  induction n generalizing s with
  | zero => exact hs
  | succ n ih =>
    simp only [State.herdLoop]
    split
    · exact hs
    · exact ih (State.herdMove_canon hs _ (by assumption))

theorem State.herdRun_canon {s : State} {d : Nat} (h_s : Canon s) : Canon (State.herdRun s d) := by
  unfold State.herdRun
  repeat' first | with_reducible assumption | with_reducible apply State.herdLoop_canon

theorem State.retireCore_canon {s : State} {j e : Nat} (h_s : Canon s) : Canon (State.retireCore s j e) := by
  unfold State.retireCore
  repeat' first
    | with_reducible assumption
    | with_reducible apply State.updJob_canon
    | with_reducible apply State.updEng_canon
    | with_reducible apply State.herdRun_canon
    | with_reducible apply State.settle_canon
    | split
    | dsimp only

theorem State.jobReleased_canon {s : State} {j e : Nat} {k : EndKind} (h_s : Canon s) :
    Canon (State.jobReleased s j e k) := by
  unfold State.jobReleased
  repeat' first
    | with_reducible assumption
    | with_reducible apply State.updJob_canon
    | with_reducible apply State.settle_canon
    | with_reducible apply State.retireCore_canon
    | with_reducible apply State.holeMark_canon
    | with_reducible apply State.herdRun_canon
    | split
    | with_reducible refine Canon.of_snd (by assumption) ?_
    | dsimp only

theorem State.freeCtx_canon {s : State} {c : Nat} {k : EndKind} (h_s : Canon s) : Canon (State.freeCtx s c k) := by
  unfold State.freeCtx
  repeat' first
    | with_reducible assumption
    | with_reducible apply State.leashBreak_canon
    | with_reducible apply State.mwLeave_canon
    | with_reducible apply State.orphan_canon
    | with_reducible apply State.setCtx_canon
    | with_reducible apply State.tellParent_canon
    | with_reducible apply State.updEng_canon
    | with_reducible apply State.jobReleased_canon
    | split
    | with_reducible refine Canon.of_snd (by assumption) ?_
    | dsimp only

theorem State.trap_canon {s : State} {c cause : Nat} {resume : BitVec 16} (h_s : Canon s) :
    Canon (State.trap s c cause resume) := by
  unfold State.trap
  repeat' first
    | with_reducible assumption
    | with_reducible apply State.setCtx_canon
    | with_reducible apply State.raise_canon
    | with_reducible apply State.freeCtx_canon
    | split
    | dsimp only

theorem State.trapHere_canon {s : State} {c cause len : Nat} (h_s : Canon s) : Canon (State.trapHere s c cause len) := by
  unfold State.trapHere
  repeat' first | with_reducible assumption | with_reducible apply State.trap_canon

theorem Eff.finish_canon {r : Eff} {c len old : Nat} (h_r : Canon r.st) : Canon (Eff.finish r c len old) := by
  unfold Eff.finish
  repeat' first
    | with_reducible assumption
    | with_reducible apply State.updCtx_canon
    | with_reducible apply State.trap_canon
    | with_reducible apply State.trapHere_canon
    | split
    | with_reducible refine Canon.of_snd (by assumption) ?_
    | dsimp only

theorem State.runIssue_canon {s : State} {op : EOp} {c : Nat} {o : Operands} {body : Nat → Operands → State → Eff} (h_s : Canon s)
    (h_body : ∀ a0 a1 a2, Canon a2 → Canon (body a0 a1 a2).st) :
    CanonO (State.runIssue s op c o body) := by
  unfold State.runIssue
  repeat' first
    | with_reducible assumption
    | with_reducible apply h_body
    | with_reducible apply State.clearIssue_canon
    | with_reducible apply State.setHold_canon
    | with_reducible apply State.stepEnd_canon
    | with_reducible apply Eff.finish_canon
    | split
    | with_reducible refine Canon.of_snd (by assumption) ?_
    | with_reducible refine canonO_next ?_

theorem Eff.ok_canon {s : State} (h_s : Canon s) : Canon (Eff.ok s).st := by
  unfold Eff.ok
  repeat' first | with_reducible assumption

theorem State.setFlags_canon {s : State} {c : Nat} {a : Alu} (h_s : Canon s) : Canon (State.setFlags s c a) := by
  unfold State.setFlags
  repeat' first | with_reducible assumption | with_reducible apply State.updCtx_canon

theorem aluRegs_canon {f : Nat → Nat → Nat → Nat → Alu} {wr : Bool} {c : Nat} {o : Operands} {s : State} (h_s : Canon s) :
    Canon (aluRegs f wr c o s).st := by
  unfold aluRegs
  repeat' first
    | with_reducible assumption
    | with_reducible apply Eff.ok_canon
    | with_reducible apply State.setFlags_canon
    | with_reducible apply State.setR_canon
    | split

theorem State.creditOut_canon {s : State} {q : Nat} (h_s : Canon s) : Canon (State.creditOut s q) := by
  unfold State.creditOut
  repeat' first | with_reducible assumption | with_reducible apply State.pin_canon | split

theorem State.setOut_canon {s : State} {k : Nat} {x : Output} (h_s : Canon s) : Canon (State.setOut s k x) := by
  unfold State.setOut
  repeat' first | with_reducible assumption | (simp only [canon_mk]; with_reducible refine Canon.rm ?_)

theorem State.setEport_canon {s : State} {x : Nat} {p : EPort} (h_s : Canon s) : Canon (State.setEport s x p) := by
  unfold State.setEport
  repeat' first | with_reducible assumption | (simp only [canon_mk]; with_reducible refine Canon.rm ?_)

theorem State.creditSync_canon {s : State} {x : Nat} (h_s : Canon s) : Canon (State.creditSync s x) := by
  unfold State.creditSync
  repeat' first | with_reducible assumption | with_reducible apply State.setEport_canon

theorem State.d2hBack_canon {s : State} (h_s : Canon s) : Canon (State.d2hBack s) := by
  unfold State.d2hBack
  repeat' first
    | with_reducible assumption
    | with_reducible apply State.setOut_canon
    | with_reducible apply State.creditSync_canon
    | with_reducible apply State.setEport_canon
    | split
    | with_reducible refine Canon.of_snd (by assumption) ?_
    | dsimp only

theorem State.bumpF_canon {s : State} {off hi lo : Nat} (h_s : Canon s) : Canon (State.bumpF s off hi lo) := by
  unfold State.bumpF
  repeat' first | with_reducible assumption | with_reducible apply State.setFld_canon

theorem State.leashDeny_canon {s : State} {i id : Nat} {write : Bool} (h_s : Canon s) :
    Canon (State.leashDeny s i id write) := by
  unfold State.leashDeny
  repeat' first
    | with_reducible assumption
    | with_reducible apply State.raise_canon
    | with_reducible apply State.bump_canon
    | with_reducible apply State.logFirst_canon

theorem State.leashWrite_canon {s : State} {i id : Nat} (h_s : Canon s) : Canon (State.leashWrite s i id) := by
  unfold State.leashWrite
  repeat' first
    | with_reducible assumption
    | with_reducible apply State.leashPass_canon
    | with_reducible apply State.leashDeny_canon
    | split

theorem State.knTake_canon {s : State} {p n first prev : Nat} (hs : Canon s) : Canon (s.knTake p n first prev).2 := by
  induction n generalizing s first prev with
  | zero => exact hs
  | succ n ih =>
    simp only [State.knTake]
    split
    · exact hs
    · refine ih (State.setFld_canon ?_)
      split
      · exact State.setCell_canon hs
      · exact State.setCell_canon (State.setCell_canon hs)

theorem State.knAlloc_canon {s : State} {p n : Nat} (h_s : Canon s) : Canon (State.knAlloc s p n).2 := by
  unfold State.knAlloc
  repeat' first
    | with_reducible assumption
    | with_reducible apply State.bump_canon
    | with_reducible apply State.knTake_canon
    | with_reducible apply State.setFld_canon
    | split

theorem State.knAllocPort_canon {s : State} {c p : Nat} {v : Word} (h_s : Canon s) : Canon (State.knAllocPort s c p v) := by
  unfold State.knAllocPort
  repeat' first
    | with_reducible assumption
    | with_reducible apply State.knAlloc_canon
    | with_reducible apply State.updCtx_canon

theorem State.knFreePort_canon {s : State} {p : Nat} {v : Word} (h_s : Canon s) : Canon (State.knFreePort s p v) := by
  unfold State.knFreePort
  repeat' first | with_reducible assumption | with_reducible apply State.knFree_canon

theorem State.arrive_canon {s : State} {u : Update} (h_s : Canon s) : Canon (State.arrive s u) := by
  unfold State.arrive
  repeat' first | with_reducible assumption | (simp only [canon_mk]; with_reducible refine Canon.rm ?_)

theorem State.farEnd_canon {s : State} {own : FarFor} (h_s : Canon s) : Canon (State.farEnd s own) := by
  unfold State.farEnd
  repeat' first | with_reducible assumption | (simp only [canon_mk]; with_reducible refine Canon.rm ?_)

theorem State.dramFetch_canon {s : State} {port : Nat} {tclass : Bool} {a n : Nat} {dest : DramTo} (h_s : Canon s) :
    Canon (State.dramFetch s port tclass a n dest) := by
  unfold State.dramFetch
  repeat' first
    | with_reducible assumption
    | with_reducible apply State.dramSend_canon
    | with_reducible refine Canon.foldl (fun _ _ _ => ?_) ?_

theorem State.farAsk_canon {s : State} {own : FarFor} {tclass : Bool} {ls : List Nat} (h_s : Canon s) :
    Canon (State.farAsk s own tclass ls) := by
  unfold State.farAsk
  repeat' first
    | with_reducible assumption
    | with_reducible apply State.dramFetch_canon
    | with_reducible refine Canon.foldl (fun _ _ _ => ?_) ?_
    | (simp only [canon_mk]; with_reducible refine Canon.rm ?_)

theorem State.farRun_canon {α : Type} {s : State} {own : FarFor} {tclass : Bool} {f : State → α × State} (h_s : Canon s)
    (h_f : ∀ a0, Canon a0 → Canon (f a0).2) :
    Canon (State.farRun s own tclass f).2 := by
  unfold State.farRun
  repeat' first
    | with_reducible assumption
    | with_reducible apply h_f
    | with_reducible apply State.dramUnserved_canon
    | with_reducible apply State.farEnd_canon
    | with_reducible apply State.farAsk_canon
    | split
    | with_reducible refine Canon.of_snd (by assumption) ?_
    | (simp only [canon_mk]; with_reducible refine Canon.rm ?_)

theorem State.farLacks_canon {s : State} {ls : List Nat} (h_s : Canon s) : Canon (State.farLacks s ls) := by
  unfold State.farLacks
  repeat' first
    | with_reducible assumption
    | split
    | with_reducible refine Canon.of_snd (by assumption) ?_
    | (simp only [canon_mk]; with_reducible refine Canon.rm ?_)

theorem State.cacheUse_canon {s : State} {line : Nat} {b : List Byte} (h_s : Canon s) : Canon (State.cacheUse s line b) := by
  unfold State.cacheUse
  repeat' first
    | with_reducible assumption
    | split
    | with_reducible refine Canon.of_snd (by assumption) ?_
    | (simp only [canon_mk]; with_reducible refine Canon.rm ?_)

theorem State.lines_canon {s : State} {ls : List Nat} (h_s : Canon s) : Canon (State.lines s ls).2 := by
  unfold State.lines
  repeat' first
    | with_reducible assumption
    | with_reducible apply State.farLacks_canon
    | with_reducible apply State.bump_canon
    | with_reducible apply State.cacheUse_canon
    | split
    | with_reducible refine Canon.of_snd (by assumption) ?_
    | with_reducible refine Canon.foldl (fun _ _ _ => ?_) ?_
    | dsimp only

theorem State.errLog_canon {s : State} {mem cls x0 addr : Nat} (h_s : Canon s) : Canon (State.errLog s mem cls x0 addr) := by
  unfold State.errLog
  repeat' first
    | with_reducible assumption
    | with_reducible apply State.bumpF_canon
    | split
    | (simp only [canon_mk]; with_reducible refine Canon.rm ?_)

theorem State.ueError_canon {s : State} {mem x0 addr : Nat} (h_s : Canon s) : Canon (State.ueError s mem x0 addr) := by
  unfold State.ueError
  repeat' first
    | with_reducible assumption
    | with_reducible apply State.raise_canon
    | with_reducible apply State.errLog_canon
    | with_reducible apply State.bump_canon

theorem State.ceError_canon {s : State} (h_s : Canon s) : Canon (State.ceError s) := by
  unfold State.ceError
  repeat' first
    | with_reducible assumption
    | with_reducible apply State.raise_canon
    | with_reducible apply State.bump_canon

theorem State.eccRead_canon {s : State} {mem x0 addr n : Nat} (h_s : Canon s) : Canon (State.eccRead s mem x0 addr n).2 := by
  unfold State.eccRead
  repeat' first
    | with_reducible assumption
    | with_reducible apply State.ueError_canon
    | with_reducible apply State.ceError_canon
    | with_reducible refine Canon.foldl (fun _ _ _ => ?_) ?_
    | split
    | with_reducible refine Canon.of_snd (by assumption) ?_
    | (simp only [canon_mk]; with_reducible refine Canon.rm ?_)
    | dsimp only

theorem State.tRead_canon {s : State} {t a n : Nat} (h_s : Canon s) : Canon (State.tRead s t a n).2 := by
  unfold State.tRead
  repeat' first
    | with_reducible assumption
    | with_reducible apply State.lines_canon
    | with_reducible apply State.eccRead_canon
    | split
    | with_reducible refine Canon.of_snd (by assumption) ?_

theorem State.slotAt_canon {s : State} {t i : Nat} (h_s : Canon s) : Canon (State.slotAt s t i).2 := by
  unfold State.slotAt
  repeat' first
    | with_reducible assumption
    | with_reducible apply State.tRead_canon
    | split
    | with_reducible refine Canon.of_snd (by assumption) ?_
    | dsimp only

theorem State.parityError_canon {s : State} {t b k : Nat} (h_s : Canon s) : Canon (State.parityError s t b k) := by
  unfold State.parityError
  repeat' first
    | with_reducible assumption
    | with_reducible apply State.raise_canon
    | with_reducible apply State.bump_canon
    | with_reducible apply State.logFirst_canon

theorem State.detect_canon {s : State} {t : Nat} {l : List Slot} (h_s : Canon s) : Canon (State.detect s t l) := by
  unfold State.detect
  repeat' first
    | with_reducible assumption
    | with_reducible apply State.parityError_canon
    | with_reducible refine Canon.foldl (fun _ _ _ => ?_) ?_

theorem State.findIndex_canon {s : State} {t i : Nat} (h_s : Canon s) : Canon (State.findIndex s t i).2 := by
  unfold State.findIndex
  repeat' first
    | with_reducible assumption
    | with_reducible apply State.slotAt_canon
    | with_reducible apply State.detect_canon
    | split
    | with_reducible refine Canon.of_snd (by assumption) ?_

theorem State.bucket_canon {s : State} {t b : Nat} (h_s : Canon s) : Canon (State.bucket s t b).2 := by
  unfold State.bucket
  repeat' first
    | with_reducible assumption
    | with_reducible apply State.tRead_canon
    | split
    | with_reducible refine Canon.of_snd (by assumption) ?_
    | dsimp only

theorem State.findKey_canon {s : State} {t : Nat} {key : List Byte} (h_s : Canon s) : Canon (State.findKey s t key).2 := by
  unfold State.findKey
  repeat' first
    | with_reducible assumption
    | with_reducible apply State.bucket_canon
    | with_reducible apply State.detect_canon
    | split
    | with_reducible refine Canon.of_snd (by assumption) ?_

theorem State.lookup_canon {s : State} {t : Nat} {key : List Byte} (h_s : Canon s) : Canon (State.lookup s t key).2 := by
  unfold State.lookup
  repeat' first
    | with_reducible assumption
    | with_reducible apply State.findIndex_canon
    | with_reducible apply State.findKey_canon
    | split

theorem State.hlpLookup_canon {k : HlpCmd} {s : State} (h_s : Canon s) : Canon (State.hlpLookup k s).2 := by
  unfold State.hlpLookup
  repeat' first
    | with_reducible assumption
    | with_reducible apply State.lookup_canon
    | split
    | with_reducible refine Canon.of_snd (by assumption) ?_
    | dsimp only

theorem State.hlpBegin_canon {s : State} {k : HlpCmd} (h_s : Canon s) : Canon (State.hlpBegin s k) := by
  unfold State.hlpBegin
  repeat' first
    | with_reducible assumption
    | with_reducible apply State.updHlp_canon
    | with_reducible apply State.arrive_canon
    | with_reducible apply State.farRun_canon
    | with_reducible apply State.hlpLookup_canon
    | with_reducible apply State.dramFetch_canon
    | with_reducible apply State.dramWrite_canon
    | split
    | with_reducible refine Canon.of_snd (by assumption) ?_
    | dsimp only

theorem State.hlpStarts_canon {p g n : Nat} {s : State} (hs : Canon s) : Canon (State.hlpStarts p g n s) := by
  induction n generalizing s with
  | zero => exact hs
  | succ n ih =>
    simp only [State.hlpStarts]
    repeat' split
    · exact ih (State.hlpBegin_canon hs)
    · exact hs
    · exact hs

theorem State.hlpKick_canon {s : State} {k : HlpCmd} (h_s : Canon s) : Canon (State.hlpKick s k) := by
  unfold State.hlpKick
  repeat' first | with_reducible assumption | with_reducible apply State.hlpStarts_canon

theorem State.tLoadMark_canon {s : State} {p g : Nat} (h_s : Canon s) : Canon (State.tLoadMark s p g) := by
  unfold State.tLoadMark
  repeat' first
    | with_reducible assumption
    | with_reducible apply State.peakF_canon
    | with_reducible apply State.raise_canon
    | split
    | dsimp only

theorem State.hlpCommit_canon {s : State} {c : Nat} {kind : HlpKind} {w : Word} (h_s : Canon s) :
    Canon (State.hlpCommit s c kind w) := by
  unfold State.hlpCommit
  repeat' first
    | with_reducible assumption
    | with_reducible apply State.setCtx_canon
    | with_reducible apply State.dramUnserved_canon
    | with_reducible apply State.hlpKick_canon
    | with_reducible apply State.tLoadMark_canon
    | split
    | (simp only [canon_mk]; with_reducible refine Canon.rm ?_)
    | dsimp only

theorem State.hlpPort_canon {s : State} {c : Nat} {kind : HlpKind} {v : Word} (h_s : Canon s) :
    Canon (State.hlpPort s c kind v).st := by
  unfold State.hlpPort
  repeat' first
    | with_reducible assumption
    | with_reducible apply Eff.ok_canon
    | with_reducible apply State.hlpCommit_canon
    | split

theorem State.commit_canon {s : State} {c j : Nat} (h_s : Canon s) : Canon (State.commit s c j) := by
  unfold State.commit
  repeat' first
    | with_reducible assumption
    | with_reducible apply State.updJob_canon
    | with_reducible apply State.updEng_canon
    | with_reducible apply State.setOut_canon
    | with_reducible apply State.peakF_canon
    | with_reducible apply State.setFld_canon
    | with_reducible apply State.herdRun_canon
    | with_reducible apply State.bump_canon
    | split
    | with_reducible refine Canon.of_snd (by assumption) ?_
    | (simp only [canon_mk]; with_reducible refine Canon.rm ?_)
    | dsimp only

theorem State.retire_canon {s : State} {j e : Nat} (h_s : Canon s) : Canon (State.retire s j e) := by
  unfold State.retire
  repeat' first
    | with_reducible assumption
    | with_reducible apply State.retireCore_canon
    | with_reducible apply State.trap_canon
    | with_reducible apply State.updCtx_canon
    | split
    | with_reducible refine Canon.of_snd (by assumption) ?_
    | with_reducible refine Canon.foldl (fun _ _ _ => ?_) ?_

theorem State.commitLast_canon {s : State} {c j : Nat} {last : Bool} (h_s : Canon s) :
    Canon (State.commitLast s c j last) := by
  unfold State.commitLast
  repeat' first
    | with_reducible assumption
    | with_reducible apply State.commit_canon
    | with_reducible apply State.retire_canon
    | split

theorem State.emitGo_canon {s : State} {c : Nat} {v : Word} (h_s : Canon s) : Canon (State.emitGo s c v).st := by
  unfold State.emitGo
  repeat' first
    | with_reducible assumption
    | with_reducible apply Eff.ok_canon
    | with_reducible apply State.bump_canon
    | with_reducible apply State.updCtx_canon
    | with_reducible apply State.commitLast_canon
    | split
    | with_reducible refine Canon.of_snd (by assumption) ?_
    | dsimp only

theorem State.drop_canon {s : State} {c : Nat} (h_s : Canon s) : Canon (State.drop s c).st := by
  unfold State.drop
  repeat' first
    | with_reducible assumption
    | with_reducible apply Eff.ok_canon
    | with_reducible apply State.retire_canon
    | split

theorem State.enqueue_canon {s : State} {j q : Nat} {atHead : Bool} (h_s : Canon s) :
    Canon (State.enqueue s j q atHead) := by
  unfold State.enqueue
  repeat' first
    | with_reducible assumption
    | with_reducible apply State.qRefresh_canon
    | with_reducible apply State.updJob_canon
    | split
    | (simp only [canon_mk]; with_reducible refine Canon.rm ?_)

theorem State.delayInsert_canon {s : State} {j sh expiry : Nat} {listed : Bool} (h_s : Canon s) :
    Canon (State.delayInsert s j sh expiry listed) := by
  unfold State.delayInsert
  repeat' first
    | with_reducible assumption
    | with_reducible apply State.updJob_canon
    | (simp only [canon_mk]; with_reducible refine Canon.rm ?_)

theorem State.delay_canon {s : State} {c : Nat} {v : Word} (h_s : Canon s) : Canon (State.delay s c v).st := by
  unfold State.delay
  repeat' first
    | with_reducible assumption
    | with_reducible apply State.raise_canon
    | with_reducible apply State.bump_canon
    | with_reducible apply State.freeCtx_canon
    | with_reducible apply State.updJob_canon
    | with_reducible apply State.enqueue_canon
    | with_reducible apply State.delayInsert_canon
    | split
    | with_reducible refine Canon.of_snd (by assumption) ?_
    | dsimp only

theorem State.release_canon {s : State} {c : Nat} (h_s : Canon s) : Canon (State.release s c).st := by
  unfold State.release
  repeat' first
    | with_reducible assumption
    | with_reducible apply Eff.ok_canon
    | with_reducible apply State.herdRun_canon
    | with_reducible apply State.bump_canon
    | with_reducible apply State.updJob_canon
    | split
    | with_reducible refine Canon.of_snd (by assumption) ?_
    | dsimp only

theorem State.ioWrite_canon {s : State} {c port : Nat} {v : Word} (h_s : Canon s) : Canon (State.ioWrite s c port v).st := by
  unfold State.ioWrite
  repeat' first
    | with_reducible assumption
    | with_reducible apply Eff.ok_canon
    | with_reducible apply State.leashWrite_canon
    | with_reducible apply State.knAllocPort_canon
    | with_reducible apply State.knFreePort_canon
    | with_reducible apply State.updCtx_canon
    | with_reducible apply State.hlpPort_canon
    | with_reducible apply State.emitGo_canon
    | with_reducible apply State.drop_canon
    | with_reducible apply State.delay_canon
    | with_reducible apply State.release_canon
    | with_reducible apply State.raise_canon
    | split

theorem State.selfResetSoon_canon {s : State} (h_s : Canon s) : Canon (State.selfResetSoon s) := by
  unfold State.selfResetSoon
  repeat' first | with_reducible assumption | (simp only [canon_mk]; with_reducible refine Canon.rm ?_)

theorem State.noteReason_canon {s : State} {r : Nat} (h_s : Canon s) : Canon (State.noteReason s r) := by
  unfold State.noteReason
  repeat' first
    | with_reducible assumption
    | with_reducible apply State.setFld_canon
    | split
    | (simp only [canon_mk]; with_reducible refine Canon.rm ?_)

theorem State.bootFail_canon {s : State} {r : Nat} (h_s : Canon s) : Canon (State.bootFail s r) := by
  unfold State.bootFail
  repeat' first
    | with_reducible assumption
    | with_reducible apply State.selfResetSoon_canon
    | with_reducible apply State.noteReason_canon

theorem State.holdFall_canon {s : State} {cause : Nat} (h_s : Canon s) : Canon (State.holdFall s cause) := by
  unfold State.holdFall
  repeat' first
    | with_reducible assumption
    | with_reducible apply State.setFld_canon
    | with_reducible apply State.bump_canon
    | with_reducible apply State.raise_canon
    | with_reducible apply Canon.setReg
    | (simp only [canon_mk]; with_reducible refine Canon.rm ?_)

theorem State.paceJudge_canon {s : State} (h_s : Canon s) : Canon (State.paceJudge s) := by
  unfold State.paceJudge
  repeat' first
    | with_reducible assumption
    | with_reducible apply State.holdFall_canon
    | with_reducible apply State.setFld_canon
    | split

theorem State.noteCopy_canon {s : State} {src : Nat} {x : ImageCheck} (h_s : Canon s) : Canon (State.noteCopy s src x) := by
  unfold State.noteCopy
  repeat' first | with_reducible assumption | with_reducible apply State.setFld_canon

theorem State.wdogWrite_canon {s : State} {v : Word} (h_s : Canon s) : Canon (State.wdogWrite s v) := by
  unfold State.wdogWrite
  repeat' first
    | with_reducible assumption
    | with_reducible apply Canon.setReg
    | (simp only [canon_mk]; with_reducible refine Canon.rm ?_)

theorem State.trainStart_canon {s : State} {i : Nat} (h_s : Canon s) : Canon (State.trainStart s i) := by
  unfold State.trainStart
  repeat' first | with_reducible assumption | with_reducible apply State.setFld_canon

theorem State.putProg_canon {s : State} {ps : List Nat} {addr : Nat} {img : List Byte} (h : Canon s) :
    Canon (s.putProg ps addr img) :=
  Canon.foldl (fun _ _ ht => ht.rm.with_istore (Mem.wf_put _ _ ht.istore)) h

theorem State.setCode_canon {s : State} {e : Nat} {l : List Nat} (h_s : Canon s) : Canon (State.setCode s e l) := by
  unfold State.setCode
  repeat' first | with_reducible assumption | split | (simp only [canon_mk]; with_reducible refine Canon.rm ?_)

theorem State.hostAccess_canon {s : State} {off cause : Nat} {write : Bool} (h_s : Canon s) :
    Canon (State.hostAccess s off cause write) := by
  unfold State.hostAccess
  repeat' first
    | with_reducible assumption
    | with_reducible apply State.raise_canon
    | with_reducible apply State.logFirst_canon

theorem State.logHost_canon {s : State} {m : Master} {off cause : Nat} {write : Bool} (h_s : Canon s) :
    Canon (State.logHost s m off cause write) := by
  unfold State.logHost
  repeat' first | with_reducible assumption | with_reducible apply State.hostAccess_canon | split

theorem State.answer_canon {s : State} {v : Word} (h_s : Canon s) : Canon (State.answer s v) := by
  unfold State.answer
  repeat' first | with_reducible assumption | (simp only [canon_mk]; with_reducible refine Canon.rm ?_)

theorem State.misaligned_canon {s : State} {m : Master} {off : Nat} {write : Bool} (h_s : Canon s) :
    Canon (State.misaligned s m off write) := by
  unfold State.misaligned
  repeat' first
    | with_reducible assumption
    | with_reducible apply State.logHost_canon
    | with_reducible apply State.answer_canon
    | split

theorem State.setWhb_canon {s : State} {b : Nat} {x : WhBlock} (h_s : Canon s) : Canon (State.setWhb s b x) := by
  unfold State.setWhb
  repeat' first | with_reducible assumption | (simp only [canon_mk]; with_reducible refine Canon.rm ?_)

theorem State.whGo_canon {s : State} {b : Nat} (h_s : Canon s) : Canon (State.whGo s b) := by
  unfold State.whGo
  repeat' first | with_reducible assumption | with_reducible apply State.setWhb_canon | split | dsimp only

theorem State.replyTaken_canon {s : State} {h : Nat} {blk : List Word} (h_s : Canon s) :
    Canon (State.replyTaken s h blk) := by
  unfold State.replyTaken
  repeat' first
    | with_reducible assumption
    | split
    | with_reducible refine Canon.of_snd (by assumption) ?_
    | (simp only [canon_mk]; with_reducible refine Canon.rm ?_)

theorem State.whTake_canon {s : State} {b : Nat} (h_s : Canon s) : Canon (State.whTake s b) := by
  unfold State.whTake
  repeat' first
    | with_reducible assumption
    | with_reducible apply State.setWhb_canon
    | with_reducible apply State.replyTaken_canon
    | split
    | dsimp only

theorem State.bootDone_canon {s : State} (h_s : Canon s) : Canon (State.bootDone s) := by
  unfold State.bootDone
  repeat' first | with_reducible assumption | with_reducible apply State.setFld_canon

theorem State.touchVecs_canon {s : State} {vs : List Nat} (h_s : Canon s) : Canon (State.touchVecs s vs) := by
  unfold State.touchVecs
  repeat' first
    | with_reducible assumption
    | with_reducible apply State.dueMsg_canon
    | split
    | with_reducible refine Canon.foldl (fun _ _ _ => ?_) ?_

theorem State.paceStart_canon {s : State} (h_s : Canon s) : Canon (State.paceStart s) := by
  unfold State.paceStart
  repeat' first
    | with_reducible assumption
    | with_reducible apply State.setFld_canon
    | with_reducible apply State.paceJudge_canon
    | with_reducible apply Canon.setReg
    | with_reducible refine Canon.foldl (fun _ _ _ => ?_) ?_
    | (simp only [canon_mk]; with_reducible refine Canon.rm ?_)

theorem State.paceStop_canon {s : State} (h_s : Canon s) : Canon (State.paceStop s) := by
  unfold State.paceStop
  repeat' first
    | with_reducible assumption
    | with_reducible apply State.paceJudge_canon
    | with_reducible apply State.setFld_canon
    | with_reducible apply Canon.setReg
    | with_reducible refine Canon.foldl (fun _ _ _ => ?_) ?_
    | (simp only [canon_mk]; with_reducible refine Canon.rm ?_)

theorem State.wrPaceCtrl_canon {s : State} {v : Word} (h_s : Canon s) : Canon (State.wrPaceCtrl s v) := by
  unfold State.wrPaceCtrl
  repeat' first
    | with_reducible assumption
    | with_reducible apply State.paceStart_canon
    | with_reducible apply State.paceStop_canon
    | with_reducible apply State.paceJudge_canon
    | with_reducible apply Canon.setReg
    | split
    | dsimp only

theorem State.ignored_canon {s : State} {q : WrSt} (h_s : Canon s) : Canon (State.ignored s q).2 := by
  unfold State.ignored
  repeat' first | with_reducible assumption

theorem State.store_canon {s : State} {r : RegDesc} {off : Nat} {v : Word} (h_s : Canon s) :
    Canon (State.store s r off v) := by
  unfold State.store
  repeat' first | with_reducible assumption | with_reducible apply Canon.setReg

theorem State.refreshPrio_canon {s : State} {p : Nat} (h_s : Canon s) : Canon (State.refreshPrio s p) := by
  unfold State.refreshPrio
  repeat' first
    | with_reducible assumption
    | with_reducible apply State.qRefresh_canon
    | with_reducible refine Canon.foldl (fun _ _ _ => ?_) ?_

theorem State.scentLose_canon {s : State} (h_s : Canon s) : Canon (State.scentLose s) := by
  unfold State.scentLose
  repeat' first
    | with_reducible assumption
    | with_reducible apply State.bump_canon
    | with_reducible apply State.raise_canon
    | split
    | (simp only [canon_mk]; with_reducible refine Canon.rm ?_)
    | dsimp only

theorem State.scentPut_canon {s : State} {r : Nat} (h_s : Canon s) : Canon (State.scentPut s r) := by
  unfold State.scentPut
  repeat' first
    | with_reducible assumption
    | with_reducible apply State.scentLose_canon
    | split
    | (simp only [canon_mk]; with_reducible refine Canon.rm ?_)

theorem State.scentMarker_canon {s : State} (h_s : Canon s) : Canon (State.scentMarker s) := by
  unfold State.scentMarker
  repeat' first | with_reducible assumption | with_reducible apply State.scentPut_canon | split

theorem judge_canon {c : Bool} {q : WrSt} {w : Wr} (h_w : Canon w.2) : Canon (judge c q w).2 := by
  unfold judge
  repeat' first | with_reducible assumption | split

theorem State.dropLocks_canon {s : State} {t : Nat} (h_s : Canon s) : Canon (State.dropLocks s t) := by
  unfold State.dropLocks
  repeat' first | with_reducible assumption | (simp only [canon_mk]; with_reducible refine Canon.rm ?_)

theorem State.ageStart_canon {s : State} {t : Nat} (h_s : Canon s) : Canon (State.ageStart s t) := by
  unfold State.ageStart
  repeat' first | with_reducible assumption | (simp only [canon_mk]; with_reducible refine Canon.rm ?_)

theorem State.wrRingCfg_canon {s : State} {k : RingRegs} {loc : Bool} {there : State → Bool} {v : Word} (h_s : Canon s) :
    Canon (State.wrRingCfg s k loc there v).2 := by
  unfold State.wrRingCfg
  repeat' first
    | with_reducible assumption
    | with_reducible apply h_there
    | with_reducible apply State.setFld_canon
    | with_reducible apply judge_canon
    | with_reducible apply Canon.setReg
    | split

theorem State.flood_canon {s : State} {r : LinkRecord} {but : Option Nat} (h_s : Canon s) : Canon (State.flood s r but) := by
  unfold State.flood
  repeat' first
    | with_reducible assumption
    | with_reducible apply State.pin_canon
    | split
    | with_reducible refine Canon.foldl (fun _ _ _ => ?_) ?_

theorem State.floodOwn_canon {s : State} (h_s : Canon s) : Canon (State.floodOwn s) := by
  unfold State.floodOwn
  repeat' first
    | with_reducible assumption
    | with_reducible apply State.flood_canon
    | split
    | (simp only [canon_mk]; with_reducible refine Canon.rm ?_)

theorem State.noteUids_canon {s : State} {was : List (BitVec 64)} (h_s : Canon s) : Canon (State.noteUids s was) := by
  unfold State.noteUids
  repeat' first
    | with_reducible assumption
    | split
    | (simp only [canon_mk]; with_reducible refine Canon.rm ?_)
    | dsimp only

theorem State.linkDown_canon {s : State} {q : Nat} (h_s : Canon s) : Canon (State.linkDown s q) := by
  unfold State.linkDown
  repeat' first
    | with_reducible assumption
    | with_reducible apply State.bump_canon
    | with_reducible apply State.setFld_canon
    | with_reducible apply State.setFabLink_canon
    | with_reducible apply State.raise_canon
    | with_reducible apply State.floodOwn_canon
    | with_reducible apply State.noteUids_canon
    | split

theorem State.herdKick_canon {s : State} (h_s : Canon s) : Canon (State.herdKick s) := by
  unfold State.herdKick
  repeat' first
    | with_reducible assumption
    | with_reducible apply State.herdRun_canon
    | split
    | with_reducible refine Canon.foldl (fun _ _ _ => ?_) ?_

theorem State.outEnd_canon {s : State} {k : Nat} (h_s : Canon s) : Canon (State.outEnd s k) := by
  unfold State.outEnd
  repeat' first
    | with_reducible assumption
    | with_reducible apply State.settle_canon
    | with_reducible apply State.knFree_canon
    | split
    | with_reducible refine Canon.of_snd (by assumption) ?_
    | (simp only [canon_mk]; with_reducible refine Canon.rm ?_)
    | dsimp only

theorem State.eqPop_canon {s : State} {x c : Nat} (h_s : Canon s) : Canon (State.eqPop s x c) := by
  unfold State.eqPop
  repeat' first | with_reducible assumption | with_reducible apply State.setEport_canon | split | dsimp only

theorem State.setPfc_canon {s : State} {port c : Nat} {p : Option Nat} (h_s : Canon s) :
    Canon (State.setPfc s port c p) := by
  unfold State.setPfc
  repeat' first | with_reducible assumption | (simp only [canon_mk]; with_reducible refine Canon.rm ?_)

theorem State.pfcTest_canon {s : State} {port c : Nat} (h_s : Canon s) : Canon (State.pfcTest s port c) := by
  unfold State.pfcTest
  repeat' first
    | with_reducible assumption
    | with_reducible apply State.setPfc_canon
    | with_reducible apply State.pin_canon
    | split
    | with_reducible refine Canon.of_snd (by assumption) ?_
    | dsimp only

theorem State.canCounts_canon {s : State} {n tec cnt : Nat} (h_s : Canon s) : Canon (State.canCounts s n tec cnt) := by
  unfold State.canCounts
  repeat' first
    | with_reducible assumption
    | with_reducible apply Canon.setReg
    | split
    | (simp only [canon_mk]; with_reducible refine Canon.rm ?_)

theorem State.setMeter_canon {s : State} {m : Nat} {x : Meter} (h_s : Canon s) : Canon (State.setMeter s m x) := by
  unfold State.setMeter
  repeat' first | with_reducible assumption | (simp only [canon_mk]; with_reducible refine Canon.rm ?_)

theorem State.setCredit_canon {s : State} {x c : Nat} {v : ℤ} (h_s : Canon s) : Canon (State.setCredit s x c v) := by
  unfold State.setCredit
  repeat' first | with_reducible assumption | with_reducible apply State.setEport_canon

theorem State.capture_canon {s : State} {ns lo hi : Nat → Nat} (h_s : Canon s) : Canon (State.capture s ns lo hi) := by
  unfold State.capture
  repeat' first
    | with_reducible assumption
    | with_reducible apply Canon.setReg
    | with_reducible refine Canon.foldl (fun _ _ _ => ?_) ?_

theorem State.ppsLow_canon {s : State} (h_s : Canon s) : Canon (State.ppsLow s) := by
  unfold State.ppsLow
  repeat' first
    | with_reducible assumption
    | with_reducible apply State.pin_canon
    | split
    | (simp only [canon_mk]; with_reducible refine Canon.rm ?_)

theorem State.setTokens_canon {s : State} {i p : Nat} {v : ℤ} (h_s : Canon s) : Canon (State.setTokens s i p v) := by
  unfold State.setTokens
  repeat' first | with_reducible assumption | (simp only [canon_mk]; with_reducible refine Canon.rm ?_)

theorem State.leaveQueues_canon {s : State} {cs : List Nat} (h_s : Canon s) : Canon (State.leaveQueues s cs) := by
  unfold State.leaveQueues
  repeat' first
    | with_reducible assumption
    | with_reducible apply State.leashLeave_canon
    | with_reducible apply State.mwLeave_canon
    | with_reducible refine Canon.foldl (fun _ _ _ => ?_) ?_

theorem State.scentRecord_canon {s : State} {j e reason : Nat} (h_s : Canon s) : Canon (State.scentRecord s j e reason) := by
  unfold State.scentRecord
  repeat' first | with_reducible assumption | with_reducible apply State.scentPut_canon | split

theorem State.setSlot_canon {s : State} {e i : Nat} {f : Option FetchSlot} (h_s : Canon s) :
    Canon (State.setSlot s e i f) := by
  unfold State.setSlot
  repeat' first | with_reducible assumption | with_reducible apply State.updEng_canon

theorem State.recallSlot_canon {s : State} {e i : Nat} (h_s : Canon s) : Canon (State.recallSlot s e i) := by
  unfold State.recallSlot
  repeat' first
    | with_reducible assumption
    | with_reducible apply State.updJob_canon
    | with_reducible apply State.scentRecord_canon
    | with_reducible apply State.bump_canon
    | with_reducible apply State.enqueue_canon
    | with_reducible apply State.freeEntry_canon
    | with_reducible apply State.setSlot_canon
    | split
    | with_reducible refine Canon.of_snd (by assumption) ?_
    | dsimp only

theorem State.engReset_canon {s : State} {es : List Nat} (h_s : Canon s) : Canon (State.engReset s es) := by
  unfold State.engReset
  repeat' first
    | with_reducible assumption
    | with_reducible apply State.freeCtx_canon
    | with_reducible apply State.leaveQueues_canon
    | with_reducible apply State.recallSlot_canon
    | with_reducible apply State.updEng_canon
    | with_reducible refine Canon.foldl (fun _ _ _ => ?_) ?_

theorem State.rstGo_canon {s : State} {es : List Nat} (h_s : Canon s) : Canon (State.rstGo s es) := by
  unfold State.rstGo
  repeat' first
    | with_reducible assumption
    | with_reducible apply State.defer_canon
    | with_reducible apply State.engReset_canon
    | with_reducible refine Canon.foldl (fun _ _ _ => ?_) ?_

theorem State.mwPut_canon {s : State} {m a n v : Nat} (h : Canon s) : Canon (s.mwPut m a n v) := by
  simp only [State.mwPut]
  split
  · exact h.rm.with_psm (Mem.wf_wrN _ _ _ h.psm)
  · exact h.rm.with_csm (Mem.wf_wrN _ _ _ h.csm)

theorem State.mwGrant_canon {s : State} {m w : Nat} (h_s : Canon s) : Canon (State.mwGrant s m w) := by
  unfold State.mwGrant
  repeat' first
    | with_reducible assumption
    | with_reducible apply State.mwPut_canon
    | with_reducible apply State.deliver_canon
    | split
    | with_reducible refine Canon.of_snd (by assumption) ?_
    | (simp only [canon_mk]; with_reducible refine Canon.rm ?_)
    | dsimp only

theorem State.mwWrite_canon {s : State} {m a n v : Nat} (h_s : Canon s) : Canon (State.mwWrite s m a n v) := by
  unfold State.mwWrite
  repeat' first
    | with_reducible assumption
    | with_reducible apply State.mwPut_canon
    | with_reducible apply State.mwGrant_canon
    | with_reducible refine Canon.foldl (fun _ _ _ => ?_) ?_

theorem State.dbgAttach_canon {s : State} {v : Word} (h_s : Canon s) : Canon (State.dbgAttach s v) := by
  unfold State.dbgAttach
  repeat' first
    | with_reducible assumption
    | with_reducible apply State.leashBreak_canon
    | with_reducible apply Canon.setReg
    | split

theorem State.dbgErr_canon {s : State} {e : Nat} (h_s : Canon s) : Canon (State.dbgErr s e) := by
  unfold State.dbgErr
  repeat' first | with_reducible assumption | (simp only [canon_mk]; with_reducible refine Canon.rm ?_)

theorem State.dbgLand_canon {s : State} {c : Nat} (h_s : Canon s) : Canon (State.dbgLand s c) := by
  unfold State.dbgLand
  repeat' first | with_reducible assumption | with_reducible apply State.deliver_canon | split

theorem State.abortAll_canon {s : State} {cs : List Nat} (h_s : Canon s) : Canon (State.abortAll s cs) := by
  unfold State.abortAll
  repeat' first
    | with_reducible assumption
    | with_reducible apply State.freeCtx_canon
    | with_reducible apply State.leaveQueues_canon
    | with_reducible refine Canon.foldl (fun _ _ _ => ?_) ?_

theorem State.surveyDone_canon {s : State} {l : List SurveyRec} (h_s : Canon s) : Canon (State.surveyDone s l) := by
  unfold State.surveyDone
  repeat' first
    | with_reducible assumption
    | with_reducible apply Canon.setReg
    | (simp only [canon_mk]; with_reducible refine Canon.rm ?_)

theorem State.atStage_canon {s : State} {n : Nat} (h_s : Canon s) : Canon (State.atStage s n) := by
  unfold State.atStage
  repeat' first | with_reducible assumption | (simp only [canon_mk]; with_reducible refine Canon.rm ?_)

theorem State.keepImage_canon {s : State} {x : ImageCheck} (h_s : Canon s) : Canon (State.keepImage s x) := by
  unfold State.keepImage
  repeat' first | with_reducible assumption | (simp only [canon_mk]; with_reducible refine Canon.rm ?_)

theorem State.parkEnd_canon {s : State} {j : Nat} (h_s : Canon s) : Canon (State.parkEnd s j) := by
  unfold State.parkEnd
  repeat' first
    | with_reducible assumption
    | with_reducible apply State.updJob_canon
    | split
    | with_reducible refine Canon.of_snd (by assumption) ?_
    | (simp only [canon_mk]; with_reducible refine Canon.rm ?_)

theorem State.setLastEng_canon {s : State} {od e : Nat} (h : Canon s) : Canon (s.setLastEng od e) :=
  h.rm.with_flow (Mem.wf_wrN _ _ _ h.flow)

theorem State.placeOn_canon {s : State} {j q e sh reason : Nat} (h_s : Canon s) :
    Canon (State.placeOn s j q e sh reason) := by
  unfold State.placeOn
  repeat' first
    | with_reducible assumption
    | with_reducible apply State.dispRemove_canon
    | with_reducible apply State.updJob_canon
    | with_reducible apply State.setLastEng_canon
    | with_reducible apply State.bump_canon
    | with_reducible apply State.updEng_canon
    | with_reducible apply State.scentRecord_canon

theorem State.setFifo_canon {s : State} {port c : Nat} {l : List IFrame} (h_s : Canon s) :
    Canon (State.setFifo s port c l) := by
  unfold State.setFifo
  repeat' first | with_reducible assumption | (simp only [canon_mk]; with_reducible refine Canon.rm ?_)

theorem State.countDrop_canon {s : State} {reason port : Nat} (h_s : Canon s) : Canon (State.countDrop s reason port) := by
  unfold State.countDrop
  repeat' first | with_reducible assumption | (simp only [canon_mk]; with_reducible refine Canon.rm ?_)

theorem State.dropped_canon {s : State} {why : DropWhy} {port : Nat} (h_s : Canon s) : Canon (State.dropped s why port) := by
  unfold State.dropped
  repeat' first | with_reducible assumption | with_reducible apply State.countDrop_canon

theorem State.putFrame_canon {s : State} {c : Nat} {b : List Byte} (h : Canon s) : Canon (s.putFrame c b) := by
  refine h.rm.with_cells (Mem.wf_foldl (fun t p ht => ?_) h.cells)
  split
  · exact Mem.wf_wr _ _ ht
  · exact ht

theorem State.putBase_canon {s : State} {c : Nat} {o : Operands} {b : Option Nat} (h_s : Canon s) :
    Canon (State.putBase s c o b) := by
  unfold State.putBase
  repeat' first | with_reducible assumption | with_reducible apply State.setR_canon | split

theorem State.dwrite_canon {s : State} {c a n v : Nat} (h : Canon s) : Canon (s.dwrite c a n v) := by
  simp only [State.dwrite]
  split
  · exact h.rm.with_ldm (Mem.wf_wrN _ _ _ h.ldm)
  · exact State.mwWrite_canon h
  · exact State.mwWrite_canon h
  · split
    · exact State.updJob_canon h
    · exact h
  · exact h.rm.with_scratch (Mem.wf_wrN _ _ _ h.scratch)
  · exact h

theorem State.dcheck_canon {s : State} {c a n : Nat} (h_s : Canon s) : Canon (State.dcheck s c a n).2 := by
  unfold State.dcheck
  repeat' first | with_reducible assumption | with_reducible apply State.eccRead_canon | split

theorem State.pauseClass_canon {s : State} {port c quanta : Nat} (h_s : Canon s) :
    Canon (State.pauseClass s port c quanta) := by
  unfold State.pauseClass
  repeat' first | with_reducible assumption | with_reducible apply State.setEport_canon | split

theorem State.pfcIn_canon {s : State} {port : Nat} {en : Byte} {times : List Nat} (h_s : Canon s) :
    Canon (State.pfcIn s port en times) := by
  unfold State.pfcIn
  repeat' first
    | with_reducible assumption
    | with_reducible apply State.pauseClass_canon
    | with_reducible apply State.dropped_canon
    | split
    | with_reducible refine Canon.foldl (fun _ _ _ => ?_) ?_
    | dsimp only

theorem State.pauseIn_canon {s : State} {port quanta : Nat} (h_s : Canon s) : Canon (State.pauseIn s port quanta) := by
  unfold State.pauseIn
  repeat' first
    | with_reducible assumption
    | with_reducible apply State.pauseClass_canon
    | with_reducible apply State.dropped_canon
    | split
    | with_reducible refine Canon.foldl (fun _ _ _ => ?_) ?_

theorem State.macControl_canon {s : State} {port : Nat} {b : List Byte} (h_s : Canon s) :
    Canon (State.macControl s port b) := by
  unfold State.macControl
  repeat' first
    | with_reducible assumption
    | with_reducible apply State.pfcIn_canon
    | with_reducible apply State.pauseIn_canon
    | with_reducible apply State.dropped_canon
    | split

theorem State.setSecy_canon {s : State} {port : Nat} {x : SecY} (h_s : Canon s) : Canon (State.setSecy s port x) := by
  unfold State.setSecy
  repeat' first | with_reducible assumption | (simp only [canon_mk]; with_reducible refine Canon.rm ?_)

theorem State.setSa_canon {s : State} {k : Nat} {x : SecA} (h_s : Canon s) : Canon (State.setSa s k x) := by
  unfold State.setSa
  repeat' first | with_reducible assumption | (simp only [canon_mk]; with_reducible refine Canon.rm ?_)

theorem State.fifoEnter_canon {s : State} {f : IFrame} (h_s : Canon s) : Canon (State.fifoEnter s f) := by
  unfold State.fifoEnter
  repeat' first
    | with_reducible assumption
    | with_reducible apply State.pfcTest_canon
    | with_reducible apply State.setFifo_canon
    | with_reducible apply State.bump_canon
    | split

theorem State.keyAction_canon {s : State} {e k : Nat} {key : List Byte} (h_s : Canon s) :
    Canon (State.keyAction s e k key).2 := by
  unfold State.keyAction
  repeat' first
    | with_reducible assumption
    | with_reducible apply State.lookup_canon
    | split
    | with_reducible refine Canon.of_snd (by assumption) ?_
    | dsimp only

theorem State.streamFilter_canon {s : State} {h len : Nat} (h_s : Canon s) : Canon (State.streamFilter s h len).2 := by
  unfold State.streamFilter
  repeat' first | with_reducible assumption | with_reducible apply State.setFld_canon | split | dsimp only

theorem State.runMeter_canon {s : State} {m a : Nat} {tag : Option Nat} (h_s : Canon s) :
    Canon (State.runMeter s m a tag).2 := by
  unfold State.runMeter
  repeat' first
    | with_reducible assumption
    | with_reducible apply State.setMeter_canon
    | split
    | with_reducible refine Canon.of_snd (by assumption) ?_
    | dsimp only

theorem State.classify_canon {s : State} {port : Nat} {b : List Byte} {fab : Option FabIn} {ts : DomTime} (h_s : Canon s) :
    Canon (State.classify s port b fab ts).2 := by
  unfold State.classify
  repeat' first
    | with_reducible assumption
    | with_reducible apply State.keyAction_canon
    | with_reducible apply State.dropped_canon
    | with_reducible apply State.streamFilter_canon
    | with_reducible apply State.runMeter_canon
    | split
    | with_reducible refine Canon.of_snd (by assumption) ?_
    | dsimp only

theorem State.setCan_canon {s : State} {n : Nat} {l : List (Nat × Nat)} (h_s : Canon s) : Canon (State.setCan s n l) := by
  unfold State.setCan
  repeat' first | with_reducible assumption | (simp only [canon_mk]; with_reducible refine Canon.rm ?_)

theorem bodyOut_canon {op : EOp} {c : Nat} {o : Operands} {s : State} (h_s : Canon s) : Canon (bodyOut op c o s).st := by
  unfold bodyOut
  repeat' first | with_reducible assumption | with_reducible apply State.ioWrite_canon

theorem State.landProduct_canon {s : State} {c : Nat} {lo hi : Word} (h_s : Canon s) :
    Canon (State.landProduct s c lo hi) := by
  unfold State.landProduct
  repeat' first | with_reducible assumption | with_reducible apply State.updCtx_canon | split

theorem bodyMul_canon {sgn : Bool} {c : Nat} {o : Operands} {s : State} (h_s : Canon s) : Canon (bodyMul sgn c o s).st := by
  unfold bodyMul
  repeat' first
    | with_reducible assumption
    | with_reducible apply Eff.ok_canon
    | with_reducible apply State.landProduct_canon

theorem shiftRegs_canon {f : Nat → Nat → Nat → Alu} {c : Nat} {o : Operands} {s : State} (h_s : Canon s) :
    Canon (shiftRegs f c o s).st := by
  unfold shiftRegs
  repeat' first
    | with_reducible assumption
    | with_reducible apply Eff.ok_canon
    | with_reducible apply State.setFlags_canon
    | with_reducible apply State.setR_canon

theorem State.tdmaWrite_canon {s : State} {dram : Bool} {a : Nat} {b : List Byte} (h : Canon s) :
    Canon (s.tdmaWrite dram a b) := by
  simp only [State.tdmaWrite]
  split
  · exact State.dramWrite_canon h
  · exact h.rm.with_host (Mem.wf_put _ _ h.host)

theorem State.noteSent_canon {s : State} {r : Route} {b : List Byte} (h_s : Canon s) : Canon (State.noteSent s r b) := by
  unfold State.noteSent
  repeat' first | with_reducible assumption | (simp only [canon_mk]; with_reducible refine Canon.rm ?_)

theorem State.replyAt_canon {s : State} {op : Nat} {q : CmdReq} {st : Nat} {b : List Byte} {h rsp n : Nat} {cookie : Word}
    (h_s : Canon s) :
    Canon (State.replyAt s op q st b h rsp n cookie) := by
  unfold State.replyAt
  repeat' first
    | with_reducible assumption
    | with_reducible apply State.queueReply_canon
    | with_reducible apply State.noteSent_canon
    | with_reducible apply State.tdmaWrite_canon
    | split

theorem State.sendReply_canon {s : State} {op : Nat} {q : CmdReq} {st : Nat} {b : List Byte} (h_s : Canon s) :
    Canon (State.sendReply s op q st b) := by
  unfold State.sendReply
  repeat' first
    | with_reducible assumption
    | with_reducible apply State.queueReply_canon
    | with_reducible apply State.replyAt_canon
    | with_reducible apply State.noteSent_canon
    | with_reducible apply State.pin_canon
    | with_reducible apply State.bump_canon
    | with_reducible apply State.fabControl_canon
    | split

theorem State.ends_canon {s : State} {st : Nat} (h_s : Canon s) : Canon (State.ends s st).2 := by
  unfold State.ends
  repeat' first | with_reducible assumption

theorem State.gives_canon {s : State} {b : List Byte} (h_s : Canon s) : Canon (State.gives s b).2 := by
  unfold State.gives
  repeat' first | with_reducible assumption

theorem State.setTrun_canon {s : State} {k : Nat} {x : Option TRun} (h_s : Canon s) : Canon (State.setTrun s k x) := by
  unfold State.setTrun
  repeat' first | with_reducible assumption | (simp only [canon_mk]; with_reducible refine Canon.rm ?_)

theorem State.tdmaOpLock_canon {s : State} {d : TDesc} (h_s : Canon s) : Canon (State.tdmaOpLock s d).2 := by
  unfold State.tdmaOpLock
  repeat' first | with_reducible assumption | split | (simp only [canon_mk]; with_reducible refine Canon.rm ?_)

theorem State.tdmaOpUnlock_canon {s : State} {d : TDesc} (h_s : Canon s) : Canon (State.tdmaOpUnlock s d).2 := by
  unfold State.tdmaOpUnlock
  repeat' first | with_reducible assumption | split | (simp only [canon_mk]; with_reducible refine Canon.rm ?_)

theorem State.tdmaBuf_canon {s : State} {k : Nat} {x : TRun} (h_s : Canon s) : Canon (State.tdmaBuf s k x) := by
  unfold State.tdmaBuf
  repeat' first
    | with_reducible assumption
    | with_reducible apply State.setTrun_canon
    | with_reducible apply State.dramUnserved_canon
    | with_reducible apply State.dramFetch_canon
    | split
    | dsimp only

theorem State.tdmaBegin_canon {s : State} {k : Nat} {x : TRun} (h_s : Canon s) : Canon (State.tdmaBegin s k x) := by
  unfold State.tdmaBegin
  repeat' first
    | with_reducible assumption
    | with_reducible apply State.setTrun_canon
    | with_reducible apply State.tdmaOpLock_canon
    | with_reducible apply State.tdmaOpUnlock_canon
    | with_reducible apply State.tdmaBuf_canon
    | split
    | dsimp only

theorem State.addCode_canon {s : State} {a n : Nat} (h_s : Canon s) : Canon (State.addCode s a n) := by
  unfold State.addCode
  repeat' first | with_reducible assumption | with_reducible apply State.setCode_canon

theorem State.flashErase_canon {s : State} {a n : Nat} (h : Canon s) : Canon (s.flashErase a n) :=
  h.rm.with_flash (Mem.wf_filter _ h.flash)

theorem State.flashProgram_canon {s : State} {a : Nat} {b : List Byte} (h : Canon s) : Canon (s.flashProgram a b) :=
  h.rm.with_flash (Mem.wf_put _ _ h.flash)

theorem State.free_canon {s : State} (h_s : Canon s) : Canon (State.free s).2 := by
  unfold State.free
  repeat' first | with_reducible assumption | (simp only [canon_mk]; with_reducible refine Canon.rm ?_)

theorem State.setIsland_canon {s : State} {x : Island} (h_s : Canon s) : Canon (State.setIsland s x) := by
  unfold State.setIsland
  repeat' first | with_reducible assumption | (simp only [canon_mk]; with_reducible refine Canon.rm ?_)

theorem State.yieldAddr_canon {s : State} (h_s : Canon s) : Canon (State.yieldAddr s) := by
  unfold State.yieldAddr
  repeat' first
    | with_reducible assumption
    | with_reducible apply State.setFld_canon
    | with_reducible apply State.floodOwn_canon
    | (simp only [canon_mk]; with_reducible refine Canon.rm ?_)

theorem State.leashRead_canon {s : State} {i id : Nat} (h_s : Canon s) : Canon (State.leashRead s i id).2 := by
  unfold State.leashRead
  repeat' first
    | with_reducible assumption
    | with_reducible apply State.leashDeny_canon
    | with_reducible apply State.setLock_canon
    | split
    | dsimp only

theorem State.lockRead_canon {s : State} {m : Master} {i : Nat} (h_s : Canon s) : Canon (State.lockRead s m i) := by
  unfold State.lockRead
  repeat' first
    | with_reducible assumption
    | with_reducible apply State.leashRead_canon
    | with_reducible apply State.answer_canon
    | split
    | with_reducible refine Canon.of_snd (by assumption) ?_

theorem State.errPop_canon {s : State} (h_s : Canon s) : Canon (State.errPop s).2 := by
  unfold State.errPop
  repeat' first
    | with_reducible assumption
    | with_reducible apply Canon.setReg
    | split
    | with_reducible refine Canon.of_snd (by assumption) ?_
    | (simp only [canon_mk]; with_reducible refine Canon.rm ?_)

theorem State.ddrPop_canon {s : State} (h_s : Canon s) : Canon (State.ddrPop s).2 := by
  unfold State.ddrPop
  repeat' first
    | with_reducible assumption
    | with_reducible apply Canon.setReg
    | split
    | with_reducible refine Canon.of_snd (by assumption) ?_
    | (simp only [canon_mk]; with_reducible refine Canon.rm ?_)

theorem State.txtsPop_canon {s : State} {x : Nat} (h_s : Canon s) : Canon (State.txtsPop s x).2 := by
  unfold State.txtsPop
  repeat' first
    | with_reducible assumption
    | with_reducible apply State.setEport_canon
    | with_reducible apply Canon.setReg
    | split
    | with_reducible refine Canon.of_snd (by assumption) ?_
    | (simp only [canon_mk]; with_reducible refine Canon.rm ?_)
    | dsimp only

theorem State.eccWord_canon {s : State} {mem x0 a v : Nat} (h_s : Canon s) : Canon (State.eccWord s mem x0 a v).2 := by
  unfold State.eccWord
  repeat' first
    | with_reducible assumption
    | with_reducible apply State.eccRead_canon
    | split
    | with_reducible refine Canon.of_snd (by assumption) ?_

theorem State.dbgRegRead_canon {s : State} {n : Nat} (h_s : Canon s) : Canon (State.dbgRegRead s n).2 := by
  unfold State.dbgRegRead
  repeat' first | with_reducible assumption | with_reducible apply State.dbgErr_canon | split | dsimp only

theorem State.dbgMemRead_canon {s : State} {m : DbgMem} {a : Nat} (h_s : Canon s) : Canon (State.dbgMemRead s m a).2 := by
  unfold State.dbgMemRead
  repeat' first
    | with_reducible assumption
    | with_reducible apply State.dbgErr_canon
    | with_reducible apply State.eccWord_canon
    | split

theorem State.latchHi_canon {s : State} {host : Bool} {id : RegId} {ix : List Nat} {off : Nat} (h_s : Canon s) :
    Canon (State.latchHi s host id ix off) := by
  unfold State.latchHi
  repeat' first
    | with_reducible assumption
    | split
    | with_reducible refine Canon.of_snd (by assumption) ?_
    | (simp only [canon_mk]; with_reducible refine Canon.rm ?_)

theorem State.readClears_canon {s : State} {r : RegDesc} {ix : List Nat} {off : Nat} (h_s : Canon s) :
    Canon (State.readClears s r ix off) := by
  unfold State.readClears
  repeat' first
    | with_reducible assumption
    | with_reducible apply State.setMeter_canon
    | with_reducible apply State.dbgErr_canon
    | with_reducible apply Canon.setReg
    | split
    | with_reducible refine Canon.of_snd (by assumption) ?_
    | (simp only [canon_mk]; with_reducible refine Canon.rm ?_)
    | dsimp only

theorem State.regRead_canon {s : State} {host clear : Bool} {r : RegDesc} {ix : List Nat} {off : Nat} (h_s : Canon s) :
    Canon (State.regRead s host clear r ix off).2 := by
  unfold State.regRead
  repeat' first
    | with_reducible assumption
    | with_reducible apply State.errPop_canon
    | with_reducible apply State.ddrPop_canon
    | with_reducible apply State.txtsPop_canon
    | with_reducible apply State.eccWord_canon
    | with_reducible apply State.dbgRegRead_canon
    | with_reducible apply State.dbgMemRead_canon
    | with_reducible apply State.latchHi_canon
    | with_reducible apply State.readClears_canon
    | split

theorem State.regBusRead_canon {s : State} {m : Master} {off : Nat} {r : RegDesc} {ix : List Nat} (h_s : Canon s) :
    Canon (State.regBusRead s m off r ix) := by
  unfold State.regBusRead
  repeat' first
    | with_reducible assumption
    | with_reducible apply State.answer_canon
    | with_reducible apply State.lockRead_canon
    | with_reducible apply State.regRead_canon
    | split

theorem State.busRead_canon {s : State} {m : Master} {off : Nat} (h_s : Canon s) : Canon (State.busRead s m off) := by
  unfold State.busRead
  repeat' first
    | with_reducible assumption
    | with_reducible apply State.misaligned_canon
    | with_reducible apply State.answer_canon
    | with_reducible apply State.regBusRead_canon
    | split

theorem State.metPost_canon {s : State} {w : List Word} (h_s : Canon s) : Canon (State.metPost s w) := by
  unfold State.metPost
  repeat' first
    | with_reducible assumption
    | with_reducible apply State.setIsland_canon
    | with_reducible apply State.setWhb_canon

theorem State.metEntry_canon {s : State} {ty : Nat} {lost : Bool} {data : List Byte} (h_s : Canon s) :
    Canon (State.metEntry s ty lost data) := by
  unfold State.metEntry
  repeat' first
    | with_reducible assumption
    | with_reducible apply State.setIsland_canon
    | with_reducible apply State.metPost_canon

theorem State.ioRead_canon {s : State} {c port : Nat} (h_s : Canon s) : Canon (State.ioRead s c port).2 := by
  unfold State.ioRead
  repeat' first
    | with_reducible assumption
    | with_reducible apply State.leashRead_canon
    | with_reducible apply State.updCtx_canon
    | split
    | with_reducible refine Canon.of_snd (by assumption) ?_

theorem bodyIn_canon {op : EOp} {c : Nat} {o : Operands} {s : State} (h_s : Canon s) : Canon (bodyIn op c o s).st := by
  unfold bodyIn
  repeat' first
    | with_reducible assumption
    | with_reducible apply State.ioRead_canon
    | with_reducible apply Eff.ok_canon
    | with_reducible apply State.land_canon
    | with_reducible apply State.updCtx_canon
    | split
    | with_reducible refine Canon.of_snd (by assumption) ?_

theorem State.resetCores_canon {s : State} {k : Nat} {live : Bool} (h_s : Canon s) : Canon (State.resetCores s k live) := by
  unfold State.resetCores
  repeat' first | with_reducible assumption | (simp only [canon_mk]; with_reducible refine Canon.rm ?_)

theorem State.startCtx_canon {s : State} {c : Nat} {x : Ctx} (h : Canon s) : Canon (s.startCtx c x) :=
  h.rm.with_scratch (Mem.wf_filter _ h.scratch)

theorem bitFlags_canon {f : Nat → Nat → Nat} {c : Nat} {o : Operands} {s : State} (h_s : Canon s) :
    Canon (bitFlags f c o s).st := by
  unfold bitFlags
  repeat' first
    | with_reducible assumption
    | with_reducible apply Eff.ok_canon
    | with_reducible apply State.setFlags_canon
    | with_reducible apply State.setR_canon

theorem State.fabLeash_canon {s : State} {d off : Nat} {write : Bool} (h_s : Canon s) :
    Canon (State.fabLeash s d off write) := by
  unfold State.fabLeash
  repeat' first
    | with_reducible assumption
    | with_reducible apply State.fabStatus_canon
    | with_reducible apply State.leashWrite_canon
    | with_reducible apply State.leashRead_canon
    | split
    | with_reducible refine Canon.of_snd (by assumption) ?_
    | dsimp only

theorem bitPlain_canon {f : Nat → Nat → Nat} {c : Nat} {o : Operands} {s : State} (h_s : Canon s) :
    Canon (bitPlain f c o s).st := by
  unfold bitPlain
  repeat' first | with_reducible assumption | with_reducible apply Eff.ok_canon | with_reducible apply State.setR_canon

theorem State.gbxNote_canon {s : State} {x : Nat} (h_s : Canon s) : Canon (State.gbxNote s x) := by
  unfold State.gbxNote
  repeat' first | with_reducible assumption | (simp only [canon_mk]; with_reducible refine Canon.rm ?_)

theorem State.gbxUnlock_canon {s : State} {x : Nat} (h_s : Canon s) : Canon (State.gbxUnlock s x) := by
  unfold State.gbxUnlock
  repeat' first
    | with_reducible assumption
    | with_reducible apply State.setFld_canon
    | with_reducible apply State.gbxNote_canon
    | (simp only [canon_mk]; with_reducible refine Canon.rm ?_)

theorem State.bumpBy_canon {s : State} {off n : Nat} (h_s : Canon s) : Canon (State.bumpBy s off n) := by
  unfold State.bumpBy
  repeat' first | with_reducible assumption | with_reducible apply Canon.setReg

theorem State.dramFix_canon {s : State} {i n : Nat} (h_s : Canon s) : Canon (State.dramFix s i n) := by
  unfold State.dramFix
  repeat' first
    | with_reducible assumption
    | with_reducible apply State.raise_canon
    | with_reducible apply State.bumpBy_canon
    | split

theorem State.clearSlot_canon {s : State} {t : Nat} {x : Slot} (h_s : Canon s) : Canon (State.clearSlot s t x) := by
  unfold State.clearSlot
  repeat' first
    | with_reducible assumption
    | with_reducible apply State.countEntry_canon
    | with_reducible apply State.putSlot_canon

theorem aluImm_canon {f : Nat → Nat → Nat → Nat → Alu} {wr : Bool} {c : Nat} {o : Operands} {s : State} (h_s : Canon s) :
    Canon (aluImm f wr c o s).st := by
  unfold aluImm
  repeat' first
    | with_reducible assumption
    | with_reducible apply Eff.ok_canon
    | with_reducible apply State.setFlags_canon
    | with_reducible apply State.setR_canon
    | split

theorem State.ddrDrift_canon {s : State} {i : Nat} {was now : ℤ} (h_s : Canon s) : Canon (State.ddrDrift s i was now) := by
  unfold State.ddrDrift
  repeat' first
    | with_reducible assumption
    | with_reducible apply State.raise_canon
    | with_reducible apply State.setFld_canon
    | split

theorem State.dramLog_canon {s : State} {a port n : Nat} {write : Bool} (h_s : Canon s) :
    Canon (State.dramLog s a port n write) := by
  unfold State.dramLog
  repeat' first
    | with_reducible assumption
    | with_reducible apply State.raise_canon
    | with_reducible apply State.bumpBy_canon
    | with_reducible apply State.bumpF_canon
    | split
    | with_reducible refine Canon.of_snd (by assumption) ?_
    | (simp only [canon_mk]; with_reducible refine Canon.rm ?_)
    | dsimp only

theorem State.runOut_canon {s : State} {c : Nat} {o : Operands} {row : Nat → Word → Bool} (h_s : Canon s) :
    CanonO (State.runOut s c o row) := by
  unfold State.runOut
  repeat' first
    | with_reducible assumption
    | with_reducible apply State.runIssue_canon
    | with_reducible apply bodyOut_canon
    | split
    | with_reducible refine canonO_next ?_

theorem State.dramFlaw_canon {s : State} {blk : Nat} {found : List (Nat × Bool)} (h_s : Canon s) :
    Canon (State.dramFlaw s blk found) := by
  unfold State.dramFlaw
  repeat' first
    | with_reducible assumption
    | split
    | with_reducible refine Canon.foldl (fun _ _ _ => ?_) ?_
    | (simp only [canon_mk]; with_reducible refine Canon.rm ?_)
    | dsimp only

theorem State.setPs_canon {s : State} {off ps : Nat} (h_s : Canon s) : Canon (State.setPs s off ps) := by
  unfold State.setPs
  repeat' first
    | with_reducible assumption
    | with_reducible apply State.setFld_canon
    | with_reducible apply State.free_canon
    | split

theorem State.runIn_canon {s : State} {c : Nat} {o : Operands} {row : Nat → Bool} (h_s : Canon s) :
    CanonO (State.runIn s c o row) := by
  unfold State.runIn
  repeat' first
    | with_reducible assumption
    | with_reducible apply State.runIssue_canon
    | with_reducible apply bodyIn_canon
    | split
    | with_reducible refine canonO_next ?_

theorem State.spoil_canon {s : State} {mem x0 off : Nat} (h_s : Canon s) : Canon (State.spoil s mem x0 off) := by
  unfold State.spoil
  repeat' first | with_reducible assumption | (simp only [canon_mk]; with_reducible refine Canon.rm ?_)

theorem State.dramLand_canon {s : State} {a p port : Nat} {b : List Byte} {found : List (Nat × Bool)} (h : Canon s) :
    Canon (s.dramLand a p port b found).2 := by
  have hu := fun l => State.dramFlaw_canon (blk := p / 64) (found := l) h
  have hw : ∀ (l : List Nat) (m : Mem), Mem.wf m = true → Mem.wf (((List.range b.length).zip b).foldl (fun (m : Mem) x =>
      if l.contains ((p + x.1) / 8) then m else m.wr (p + x.1) x.2) m) = true := fun l m hm =>
    Mem.wf_foldl (fun t x ht => by split; exact ht; exact Mem.wf_wr _ _ ht) hm
  simp only [State.dramLand]
  split
  · exact State.dramFix_canon ((hu _).rm.with_dram (hw _ _ (hu _).dramMem))
  · exact State.dramLog_canon (State.dramFix_canon ((hu _).rm.with_dram (hw _ _ (hu _).dramMem)))

theorem State.conflict_canon {s : State} (h_s : Canon s) : Canon (State.conflict s) := by
  unfold State.conflict
  repeat' first
    | with_reducible assumption
    | with_reducible apply State.raise_canon
    | with_reducible apply State.setFld_canon
    | split

theorem State.judgeRecord_canon {s : State} {r : LinkRecord} (h_s : Canon s) : Canon (State.judgeRecord s r) := by
  unfold State.judgeRecord
  repeat' first
    | with_reducible assumption
    | with_reducible apply State.conflict_canon
    | with_reducible apply State.yieldAddr_canon
    | split

theorem State.takeRecord_canon {s : State} {r : LinkRecord} (h_s : Canon s) : Canon (State.takeRecord s r) := by
  unfold State.takeRecord
  repeat' first
    | with_reducible assumption
    | with_reducible apply State.judgeRecord_canon
    | with_reducible apply State.noteUids_canon
    | split
    | (simp only [canon_mk]; with_reducible refine Canon.rm ?_)

theorem State.insertIndex_canon {s : State} {t i : Nat} {value : List Byte} {eng : Bool} (h_s : Canon s) :
    Canon (State.insertIndex s t i value eng).2 := by
  unfold State.insertIndex
  repeat' first
    | with_reducible assumption
    | with_reducible apply State.slotAt_canon
    | with_reducible apply State.detect_canon
    | with_reducible apply State.bump_canon
    | with_reducible apply State.countEntry_canon
    | with_reducible apply State.putSlot_canon
    | split
    | with_reducible refine Canon.of_snd (by assumption) ?_
    | dsimp only

theorem State.ibDrop_canon {s : State} {counter : Nat} (h_s : Canon s) : Canon (State.ibDrop s counter) := by
  unfold State.ibDrop
  repeat' first
    | with_reducible assumption
    | with_reducible apply State.raise_canon
    | with_reducible apply State.bump_canon

theorem State.strapAddr_canon {s : State} (h_s : Canon s) : Canon (State.strapAddr s) := by
  unfold State.strapAddr
  repeat' first | with_reducible assumption | with_reducible apply State.setFld_canon | split

theorem State.dmaWr_canon {s : State} {sp a : Nat} {b : Byte} (h : Canon s) : Canon (s.dmaWr sp a b) := by
  unfold State.dmaWr
  split
  · exact h.rm.with_cells (Mem.wf_wr _ _ h.cells)
  · exact h.rm.with_flow (Mem.wf_wr _ _ h.flow)
  · exact h.rm.with_csm (Mem.wf_wr _ _ h.csm)

theorem State.regulatorEntry_canon {s : State} {i p : Nat} (h_s : Canon s) : Canon (State.regulatorEntry s i p) := by
  unfold State.regulatorEntry
  repeat' first
    | with_reducible assumption
    | with_reducible apply State.dramRefuse_canon
    | with_reducible apply State.setTokens_canon
    | with_reducible apply State.dramEnter_canon
    | split
    | with_reducible refine Canon.of_snd (by assumption) ?_
    | (simp only [canon_mk]; with_reducible refine Canon.rm ?_)
    | dsimp only

theorem State.callTo_canon {s : State} {c target mask ret : Nat} (h_s : Canon s) :
    Canon (State.callTo s c target mask ret).st := by
  unfold State.callTo
  repeat' first
    | with_reducible assumption
    | with_reducible apply State.dwrite_canon
    | with_reducible apply State.setG_canon
    | split
    | with_reducible refine Canon.foldl (fun _ _ _ => ?_) ?_
    | dsimp only

theorem shiftImm_canon {f : Nat → Nat → Nat → Alu} {c : Nat} {o : Operands} {s : State} (h_s : Canon s) :
    Canon (shiftImm f c o s).st := by
  unfold shiftImm
  repeat' first
    | with_reducible assumption
    | with_reducible apply Eff.ok_canon
    | with_reducible apply State.setFlags_canon
    | with_reducible apply State.setR_canon

theorem State.avsDeclare_canon {s : State} (h_s : Canon s) : Canon (State.avsDeclare s) := by
  unfold State.avsDeclare
  repeat' first
    | with_reducible assumption
    | with_reducible apply State.paceJudge_canon
    | with_reducible apply State.bumpF_canon
    | with_reducible apply State.setFld_canon
    | split

theorem State.avsResult_canon {s : State} {ok : Bool} (h_s : Canon s) : Canon (State.avsResult s ok) := by
  unfold State.avsResult
  repeat' first
    | with_reducible assumption
    | with_reducible apply State.avsDeclare_canon
    | split
    | (simp only [canon_mk]; with_reducible refine Canon.rm ?_)
    | dsimp only

theorem State.setDomTime_canon {s : State} {d : Nat} {t : DomTime} (h_s : Canon s) : Canon (State.setDomTime s d t) := by
  unfold State.setDomTime
  repeat' first | with_reducible assumption | (simp only [canon_mk]; with_reducible refine Canon.rm ?_)

theorem State.mwAcquire_canon {s : State} {m a c dst : Nat} (h_s : Canon s) : Canon (State.mwAcquire s m a c dst) := by
  unfold State.mwAcquire
  repeat' first
    | with_reducible assumption
    | with_reducible apply State.land_canon
    | with_reducible apply State.mwPut_canon
    | with_reducible apply State.updCtx_canon
    | with_reducible apply State.peakF_canon
    | with_reducible apply State.bumpF_canon
    | split
    | (simp only [canon_mk]; with_reducible refine Canon.rm ?_)
    | dsimp only

theorem bodyLd_canon {c : Nat} {o : Operands} {s : State} (h_s : Canon s) : Canon (bodyLd c o s).st := by
  unfold bodyLd
  repeat' first
    | with_reducible assumption
    | with_reducible apply State.dcheck_canon
    | with_reducible apply State.putBase_canon
    | with_reducible apply Eff.ok_canon
    | with_reducible apply State.mwAcquire_canon
    | with_reducible apply State.land_canon
    | split
    | with_reducible refine Canon.of_snd (by assumption) ?_

theorem State.metSlot_canon {s : State} {ok : Bool} (h_s : Canon s) : Canon (State.metSlot s ok) := by
  unfold State.metSlot
  repeat' first
    | with_reducible assumption
    | with_reducible apply State.free_canon
    | with_reducible apply State.setIsland_canon
    | with_reducible apply State.metEntry_canon
    | split
    | with_reducible refine Canon.of_snd (by assumption) ?_
    | dsimp only

end Sys2Proof.Machine
end

