-- ==== Sys2Proof/Laws/Engine.lean ====
section
/-! SUPPORT. The laws of engine instructions: what the shared frame `runIssue` does with the effect of a body, said once
for every instruction that goes on to a next one. -/

namespace Sys2Proof.Machine

open Sys2Proof

/-- The body of an instruction issued in state `s` has had effect `e` and left `u`; the delayed results, the program counter
and the end of the instruction are still to come. -/
structure Wrote (s u : State) (c : Nat) (e : Effect) : Prop where
  rest : { u with ctxs := s.ctxs, engs := s.engs } = e.st s
  engines : ∀ k, k ≠ engOf c → u.eng k = s.eng k
  engine : { u.eng (engOf c) with s := (s.eng (engOf c)).s, issue := (s.eng (engOf c)).issue } = s.eng (engOf c)
  issue : (u.eng (engOf c)).issue = none
  regs : ∀ r, u.greg c r = (e.wr r).getD (s.greg c r)
  contexts : ∀ k, k ≠ c → u.ctx k =
    if k ∈ siblings c ∧ e.swr ≠ 0 then (s.ctx k).setEv e.swr else s.ctx k
  mlo : (u.ctx c).mlo = (e.product.getD ((e.own (s.ctx c)).mlo, (e.own (s.ctx c)).mhi)).1
  mhi : (u.ctx c).mhi = (e.product.getD ((e.own (s.ctx c)).mlo, (e.own (s.ctx c)).mhi)).2
  delayed : (u.ctx c).pend = (s.ctx c).pend ++ e.delayed
  flags : ((u.ctx c).z, (u.ctx c).cf, (u.ctx c).n, (u.ctx c).v) =
    e.flags.getD ((e.own (s.ctx c)).z, (e.own (s.ctx c)).cf, (e.own (s.ctx c)).n, (e.own (s.ctx c)).v)
  pc : (u.ctx c).pc = (s.ctx c).pc
  live : (u.ctx c).live = (s.ctx c).live
  stepping : (u.ctx c).stepping = (s.ctx c).stepping
  own : u.ctx c = { e.own (s.ctx c) with
    g := (u.ctx c).g, mlo := (u.ctx c).mlo, mhi := (u.ctx c).mhi, pend := (u.ctx c).pend, z := (u.ctx c).z,
    cf := (u.ctx c).cf, n := (u.ctx c).n, v := (u.ctx c).v, pc := (u.ctx c).pc, waitLen := (u.ctx c).waitLen,
    stepping := (u.ctx c).stepping }

/-! ### Delayed results -/

theorem Ctx.landOne_g (x : Ctx) (p : Pend) (r : Nat) :
    Tab.get 0 (x.landOne p).g r = if p.dst = .g r then p.lo else Tab.get 0 x.g r := by
  unfold Ctx.landOne
  split <;> rename_i h
  · rw [Tab.get_set]
    rename_i k
    by_cases hr : r = k
    · subst hr; simp [h]
    · simp [h, hr, Ne.symm hr]
  · simp [h]

theorem Ctx.landFold_g (l : List Pend) (x : Ctx) (r : Nat) :
    Tab.get 0 (l.foldl Ctx.landOne x).g r =
      l.foldl (fun u p => if p.dst = .g r then p.lo else u) (Tab.get 0 x.g r) := by
  induction l generalizing x with
  | nil => rfl
  | cons p l ih => simp only [List.foldl_cons]; rw [ih, Ctx.landOne_g]

theorem Ctx.landFold_product (l : List Pend) (x : Ctx) :
    ((l.foldl Ctx.landOne x).mlo, (l.foldl Ctx.landOne x).mhi) =
      l.foldl (fun u p => if p.dst = .product then (p.lo, p.hi) else u) (x.mlo, x.mhi) := by
  induction l generalizing x with
  | nil => rfl
  | cons p l ih =>
    simp only [List.foldl_cons]; rw [ih]; congr 1
    unfold Ctx.landOne
    split <;> rename_i h <;> simp [h]

/-- Landing changes G registers and the product only. -/
theorem Ctx.landFold_rest (l : List Pend) (x : Ctx) :
    l.foldl Ctx.landOne x = { x with
      g := (l.foldl Ctx.landOne x).g, mlo := (l.foldl Ctx.landOne x).mlo, mhi := (l.foldl Ctx.landOne x).mhi } := by
  induction l generalizing x with
  | nil => rfl
  | cons p l ih =>
    simp only [List.foldl_cons]; rw [ih]
    unfold Ctx.landOne
    split <;> rfl

/-! ### The end of an instruction -/

@[simp] theorem State.ctx_updCtx (s : State) (a b : Nat) (f : Ctx → Ctx) :
    (s.updCtx a f).ctx b = if b = a then f (s.ctx a) else s.ctx b := by
  simp [State.updCtx]

@[simp] theorem State.eng_updCtx (s : State) (a b : Nat) (f : Ctx → Ctx) : (s.updCtx a f).eng b = s.eng b := rfl

@[simp] theorem State.eng_updEng (s : State) (a b : Nat) (f : Eng → Eng) :
    (s.updEng a f).eng b = if b = a then f (s.eng a) else s.eng b := by
  simp [State.updEng]

@[simp] theorem State.ctx_updEng (s : State) (a b : Nat) (f : Eng → Eng) : (s.updEng a f).ctx b = s.ctx b := rfl

theorem Ctx.tickPend_take {x : Ctx} {l d : List Pend} (h : x.pend = l ++ d) :
    x.tickPend l.length =
      { (l.filter fun p => decide (p.left ≤ 1)).foldl Ctx.landOne x with
        pend := ((l.filter fun p => decide (1 < p.left)).map fun p => { p with left := p.left - 1 }) ++ d } := by
  simp [Ctx.tickPend, h]

theorem State.stepEnd_eng (s : State) (c k : Nat) : (s.stepEnd c).eng k = s.eng k := by
  simp only [State.stepEnd]; split <;> rfl

theorem State.stepEnd_rest (s : State) (c : Nat) (a : Tab Ctx) (b : Tab Eng) :
    { s.stepEnd c with ctxs := a, engs := b } = { s with ctxs := a, engs := b } := by
  simp only [State.stepEnd]; split <;> rfl

/-- What `finish` and `stepEnd` add to a body that goes on: the delayed results, the program counter, a halt. -/
theorem ran_of_wrote {s u : State} {c len : Nat} {e : Effect} {nx : Next}
    (hl : (s.ctx c).live = true) (hw : Wrote s u c e)
    (hnx : (nx = .seq ∧ e.pc = none) ∨ ∃ a, nx = .to a ∧ e.pc = some a) :
    Ran s (((Eff.mk u nx false).finish c len (s.ctx c).pend.length).stepEnd c) c len e := by
  obtain ⟨a, ha, hfin⟩ : ∃ a, a = e.pc.getD ((s.ctx c).pc + BitVec.ofNat 16 len) ∧
      (Eff.mk u nx false).finish c len (s.ctx c).pend.length =
        (u.updCtx c fun x => { x.tickPend (s.ctx c).pend.length with
          rsvHit := (x.tickPend (s.ctx c).pend.length).rsvHit || false, waitLen := len }).updCtx c
          fun x => { x with pc := a } := by
    rcases hnx with ⟨rfl, h⟩ | ⟨a, rfl, h⟩
    · exact ⟨_, rfl, by simp [Eff.finish, h, hw.pc]⟩
    · exact ⟨_, rfl, by simp [Eff.finish, h]⟩
  rw [hfin]
  have htk := Ctx.tickPend_take hw.delayed
  obtain ⟨F, hF⟩ : ∃ F, F = ((s.ctx c).pend.filter fun p => decide (p.left ≤ 1)) := ⟨_, rfl⟩
  have hrest := Ctx.landFold_rest F (u.ctx c)
  rw [← hF] at htk
  have hlive : ((F.foldl Ctx.landOne (u.ctx c))).live = true := by rw [hrest]; simp [hw.live, hl]
  have hstep : ((F.foldl Ctx.landOne (u.ctx c))).stepping = (s.ctx c).stepping := by rw [hrest]; simp [hw.stepping]
  -- the context at the end
  obtain ⟨y, hy⟩ : ∃ y : Ctx, y = { (u.ctx c).tickPend (s.ctx c).pend.length with
      rsvHit := ((u.ctx c).tickPend (s.ctx c).pend.length).rsvHit, waitLen := len, pc := a,
      stepping := false, halted := ((u.ctx c).tickPend (s.ctx c).pend.length).halted || (s.ctx c).stepping } := ⟨_, rfl⟩
  have hend : ∀ k, ((((u.updCtx c fun x => { x.tickPend (s.ctx c).pend.length with
          rsvHit := (x.tickPend (s.ctx c).pend.length).rsvHit || false, waitLen := len }).updCtx c
          fun x => { x with pc := a }).stepEnd c)).ctx k = if k = c then y else u.ctx k := by
    intro k
    unfold State.stepEnd
    by_cases hs : (s.ctx c).stepping = true
    · by_cases hk : k = c
      · subst hk; simp [htk, hlive, hstep, hs, hy]
      · simp [htk, hlive, hstep, hs, hk]
    · simp only [Bool.not_eq_true] at hs
      by_cases hk : k = c
      · subst hk; simp [htk, hlive, hstep, hs, hy]
      · simp [htk, hlive, hstep, hs, hk]
  generalize ht : ((u.updCtx c fun x => { x.tickPend (s.ctx c).pend.length with
          rsvHit := (x.tickPend (s.ctx c).pend.length).rsvHit || false, waitLen := len }).updCtx c
          fun x => { x with pc := a }).stepEnd c = t at hend
  have hte : ∀ k, t.eng k = u.eng k := by
    intro k; rw [← ht, State.stepEnd_eng]; rfl
  have htr : { t with ctxs := s.ctxs, engs := s.engs } = { u with ctxs := s.ctxs, engs := s.engs } := by
    rw [← ht, State.stepEnd_rest]; rfl
  have hc : t.ctx c = y := by simp [hend]
  have hg : ∀ r, Tab.get 0 y.g r = F.foldl (fun v p => if p.dst = .g r then p.lo else v) (Tab.get 0 (u.ctx c).g r) := by
    intro r; rw [hy, htk]; exact Ctx.landFold_g F _ r
  have hm : (y.mlo, y.mhi) = F.foldl (fun v p => if p.dst = .product then (p.lo, p.hi) else v)
      ((u.ctx c).mlo, (u.ctx c).mhi) := by
    rw [hy, htk]; exact Ctx.landFold_product F _
  have hyo : y = { u.ctx c with
      g := y.g, mlo := y.mlo, mhi := y.mhi, pend := y.pend, waitLen := len, pc := a, stepping := false,
      halted := (u.ctx c).halted || (s.ctx c).stepping } := by
    rw [hy, htk, hrest]
  have hu := hw.own
  have hh : (u.ctx c).halted = (e.own (s.ctx c)).halted := by rw [hu]
  have hfl := hw.flags
  constructor
  · rw [htr]; exact hw.rest
  · intro k hk; rw [hte]; exact hw.engines k hk
  · rw [hte]; exact hw.engine
  · rw [hte]; exact hw.issue
  · intro r
    have h1 := hw.regs r
    unfold State.greg at h1 ⊢
    rw [hte, hc]
    by_cases hr : r < 16
    · rw [if_pos hr] at h1
      simp only [hr, if_true] at h1 ⊢
      rw [hg, h1, hF]; rfl
    · simp only [hr, if_false] at h1 ⊢; exact h1
  · intro k hk; rw [hend, if_neg hk]; exact hw.contexts k hk
  · rw [hc, hm, hF, hw.mlo, hw.mhi]; rfl
  · rw [hc, hy, htk]; rfl
  · rw [hc, hyo]; exact hfl
  · rw [hc, hyo]; exact ha
  · rw [hc, hyo]
  · rw [hc, hyo]; show ((u.ctx c).halted || _) = _; rw [hh]
  · rw [hc, hyo]
  · rw [hc]
    generalize e.own (s.ctx c) = w at hu
    generalize u.ctx c = x at hu hyo
    clear hy hg hm hc hh hfl hend
    subst_vars
    cases y
    cases w
    simp only [Ctx.mk.injEq] at hyo ⊢
    simp only [hyo, true_and]
    cases x
    simp only [Ctx.mk.injEq] at hu
    simp only [hu, and_self]

/-- A hold changes nothing of its context but the hold and what it is drawn from (R98, R123). -/
theorem State.setHold_ctx (t : State) (c : Nat) (op : EOp) (o : Operands) (n k : Nat) :
    ∃ h i m, (t.setHold c op o n).ctx k =
      if k = c then { t.ctx c with hold := h, holds := i, mulAge := m } else t.ctx k := by
  unfold State.setHold
  dsimp only
  split
  · exact ⟨_, _, _, State.ctx_setCtx ..⟩
  · refine ⟨(t.ctx c).hold, (t.ctx c).holds, (t.ctx c).mulAge, ?_⟩
    split
    · rename_i h; rw [h]
    · rfl

/-- A hold changes nothing outside its context. -/
theorem State.setHold_rest (t : State) (c : Nat) (op : EOp) (o : Operands) (n : Nat) (a : Tab Ctx) :
    { t.setHold c op o n with ctxs := a } = { t with ctxs := a } := by
  unfold State.setHold; dsimp only; split <;> rfl

/-- An instruction has run the same with its hold set. -/
theorem Ran.setHold {s t : State} {c len : Nat} {e : Effect} (h : Ran s t c len e) (op : EOp) (o : Operands) (n : Nat) :
    Ran s (t.setHold c op o n) c len e := by
  have hs : (t.setHold c op o n).engs = t.engs := by
    unfold State.setHold; dsimp only; split <;> rfl
  have he : ∀ k, (t.setHold c op o n).eng k = t.eng k := fun k => by unfold State.eng; rw [hs]
  obtain ⟨d, i, m, hc⟩ := t.setHold_ctx c op o n c
  rw [if_pos rfl] at hc
  have ho := h.own
  constructor
  · rw [← h.rest]; have := t.setHold_rest c op o n s.ctxs
    exact congrArg (fun x : State => { x with engs := s.engs }) this
  · intro k hk; rw [he]; exact h.engines k hk
  · rw [he]; exact h.engine
  · rw [he]; exact h.issue
  · intro r; rw [← h.regs r]; unfold State.greg; rw [hc, he]
  · intro k hk
    obtain ⟨_, _, _, hk2⟩ := t.setHold_ctx c op o n k
    rw [hk2, if_neg hk]; exact h.contexts k hk
  · rw [hc]; exact h.product
  · rw [hc]; exact h.delayed
  · rw [hc]; exact h.flags
  · rw [hc]; exact h.pc
  · rw [hc]; exact h.length
  · rw [hc]; exact h.halted
  · rw [hc]; exact h.stepping
  · rw [hc]; conv_lhs => rw [ho]

/-- The meaning of an instruction whose body goes on, in one lemma: it answers a next state, and what that holds. -/
theorem State.runIssue_ran {s u : State} {op : EOp} {c : Nat} {o : Operands} {len : Nat}
    {body : Nat → Operands → State → Eff} {nx : Next} {e : Effect}
    (h : s.issued op c o = some len) (hb : body c o (s.clearIssue (engOf c)) = ⟨u, nx, false⟩) (hw : Wrote s u c e)
    (hnx : (nx = .seq ∧ e.pc = none) ∨ ∃ a, nx = .to a ∧ e.pc = some a) :
    ∃ t, s.runIssue op c o body = .next t ∧ Ran s t c len e := by
  refine ⟨_, ?_, (ran_of_wrote (len := len) ?_ hw hnx).setHold op o (s.accessCost c op o)⟩
  · simp only [State.runIssue, h, hb]; rfl
  · unfold State.issued at h
    split at h
    · split at h
      · rename_i hh; exact hh.2.2.2.2
      · cases h
    · cases h

/-! ### What a body writes -/

theorem mem_siblings_self (c : Nat) : c ∈ siblings c := by
  unfold siblings
  simp only [List.mem_map, List.mem_range]
  exact ⟨c % 8, by omega, by omega⟩

theorem engOf_of_mem_siblings {c k : Nat} (h : k ∈ siblings c) : engOf k = engOf c := by
  unfold siblings at h
  simp only [List.mem_map, List.mem_range] at h
  obtain ⟨i, hi, rfl⟩ := h
  unfold engOf; omega

theorem regNo_lt (o : Operands) (n : BitVec 4) : regNo o n < 24 := by
  unfold regNo; split <;> omega

/-- Before its body runs, an instruction has only left the latch. -/
theorem wrote_clearIssue (s : State) (c : Nat) : Wrote s (s.clearIssue (engOf c)) c {} := by
  constructor <;> try rfl
  · intro k hk; simp [State.clearIssue, hk]
  · simp [State.clearIssue]
  · simp [State.clearIssue]
  · intro r; simp only [State.greg, State.clearIssue]; split <;> simp
  · intro k _; simp [Effect.swr, State.clearIssue]
  · simp [State.clearIssue]

/-- The SWR flag reaches the other contexts of the engine (R163). -/
theorem State.setS_ctx (s : State) (c j : Nat) (v : Word) (k : Nat) :
    (s.setS c j v).ctx k = if k ∈ siblings c ∧ k ≠ c then (s.ctx k).setEv (W (2 ^ (8 + j))) else s.ctx k := by
  have key : ∀ (l : List Nat) (t : State), l.Nodup →
      (l.foldl (fun t k => if k = c then t else t.updCtx k fun x => x.setEv (W (2 ^ (8 + j)))) t).ctx k =
        if k ∈ l ∧ k ≠ c then (t.ctx k).setEv (W (2 ^ (8 + j))) else t.ctx k := by
    intro l
    induction l with
    | nil => simp
    | cons a l ih =>
      intro t hn
      rw [List.nodup_cons] at hn
      simp only [List.foldl_cons]
      rw [ih _ hn.2]
      by_cases ha : a = c
      · subst ha
        by_cases hk : k = a <;> simp [hk]
      · by_cases hk : k = a
        · subst hk; simp [ha, hn.1]
        · simp [ha, hk]
  have hn : (siblings c).Nodup := by
    unfold siblings
    exact List.Nodup.map (fun a b h => by simpa using h) List.nodup_range
  simp only [State.setS]
  rw [key _ _ hn]
  rfl

theorem State.setS_fold_rest (c j : Nat) (l : List Nat) (s : State) :
    l.foldl (fun t k => if k = c then t else t.updCtx k fun x => x.setEv (W (2 ^ (8 + j)))) s =
      { s with ctxs :=
        (l.foldl (fun t k => if k = c then t else t.updCtx k fun x => x.setEv (W (2 ^ (8 + j)))) s).ctxs } := by
  induction l generalizing s with
  | nil => rfl
  | cons a l ih =>
    simp only [List.foldl_cons]; rw [ih]
    split <;> rfl

theorem State.setS_eng (s : State) (c j : Nat) (v : Word) (e : Nat) :
    (s.setS c j v).eng e =
      if e = engOf c then { s.eng e with s := Tab.set 0 (s.eng e).s j v } else s.eng e := by
  have h1 : (s.setS c j v).engs = (s.updEng (engOf c) fun e => { e with s := Tab.set 0 e.s j v }).engs := by
    simp only [State.setS]
    rw [State.setS_fold_rest]
  have h2 : (s.setS c j v).eng e = (s.updEng (engOf c) fun e => { e with s := Tab.set 0 e.s j v }).eng e := by
    unfold State.eng; rw [h1]
  rw [h2]
  by_cases h : e = engOf c
  · subst h; simp
  · simp [h]

theorem State.setS_rest (s : State) (c j : Nat) (v : Word) (a : Tab Ctx) (b : Tab Eng) :
    { s.setS c j v with ctxs := a, engs := b } = { s with ctxs := a, engs := b } := by
  simp only [State.setS]
  rw [State.setS_fold_rest]
  rfl

theorem Effect.swr_wrOne (r : Nat) (v : Word) (e : Effect) (h : r < 24) :
    ({ e with wr := wrOne r v } : Effect).swr = if r < 16 then 0 else W (2 ^ (8 + (r - 16))) := by
  have : ∀ r < 24, (List.range 8).foldl
      (fun (a : Word) j => if (wrOne r v (16 + j)).isSome then a ||| W (2 ^ (8 + j)) else a) 0 =
        if r < 16 then 0 else W (2 ^ (8 + (r - 16))) := by
    intro r hr
    interval_cases r <;> simp [wrOne, List.range, List.range.loop] <;> decide
  exact this r h

/-- A register is written (R84, R107, R163). -/
theorem Wrote.setR {s u : State} {c : Nat} {e : Effect} (h : Wrote s u c e) (hn : e.wr = fun _ => none) (r : Nat)
    (hr : r < 24) (v : Word) : Wrote s (u.setR c r v) c { e with wr := wrOne r v } := by
  have hs0 : e.swr = 0 := by simp [Effect.swr, hn]
  have hreg := h.regs
  simp only [hn, Option.getD_none] at hreg
  unfold State.setR
  split
  · rename_i hlt
    have hc : ∀ k, (u.setG c r v).ctx k = if k = c then { u.ctx c with g := Tab.set 0 (u.ctx c).g r v } else u.ctx k := by
      intro k; simp [State.setG]
    have hx := h.contexts
    simp only [hs0] at hx
    constructor
    · exact h.rest
    · exact h.engines
    · exact h.engine
    · exact h.issue
    · intro k
      have := hreg k
      unfold State.greg at this ⊢
      rw [hc]
      by_cases hk : k < 16
      · simp only [hk, if_true, Tab.get_set] at this ⊢
        by_cases hkr : k = r
        · simp [wrOne, hkr]
        · simp [wrOne, hkr]; exact this
      · have hkr : k ≠ r := by omega
        simp only [hk, if_false] at this ⊢
        simp [wrOne, hkr]; exact this
    · intro k hk
      rw [hc, if_neg hk, Effect.swr_wrOne r v e hr, if_pos hlt]
      simpa using hx k hk
    · rw [hc, if_pos rfl]; exact h.mlo
    · rw [hc, if_pos rfl]; exact h.mhi
    · rw [hc, if_pos rfl]; exact h.delayed
    · rw [hc, if_pos rfl]; exact h.flags
    · rw [hc, if_pos rfl]; exact h.pc
    · rw [hc, if_pos rfl]; exact h.live
    · rw [hc, if_pos rfl]; exact h.stepping
    · have ho := h.own
      rw [hc, if_pos rfl]
      conv_lhs => rw [ho]
  · rename_i hlt
    have hc : (u.setS c (r - 16) v).ctx c = u.ctx c := by rw [State.setS_ctx]; simp
    have hx := h.contexts
    simp only [hs0] at hx
    constructor
    · rw [State.setS_rest]; exact h.rest
    · intro k hk; rw [State.setS_eng, if_neg hk]; exact h.engines k hk
    · rw [State.setS_eng, if_pos rfl]; exact h.engine
    · rw [State.setS_eng, if_pos rfl]; exact h.issue
    · intro k
      have := hreg k
      unfold State.greg at this ⊢
      rw [hc, State.setS_eng, if_pos rfl]
      by_cases hk : k < 16
      · have hkr : k ≠ r := by omega
        simp only [hk, if_true] at this ⊢
        simp [wrOne, hkr]; exact this
      · simp only [hk, if_false, Tab.get_set] at this ⊢
        by_cases hkr : k = r
        · simp [wrOne, hkr]
        · have : k - 16 ≠ r - 16 := by omega
          simp [wrOne, hkr, this]; assumption
    · intro k hk
      have h1 := hx k hk
      simp only [ne_eq, not_true_eq_false, and_false, if_false] at h1
      have hne : W (2 ^ (8 + (r - 16))) ≠ 0 := by
        have : ∀ j < 8, W (2 ^ (8 + j)) ≠ 0 := by decide
        exact this _ (by omega)
      rw [State.setS_ctx, Effect.swr_wrOne r v e hr, if_neg hlt, h1]
      simp only [hk, ne_eq, not_false_eq_true, and_true, hne]
    · rw [hc]; exact h.mlo
    · rw [hc]; exact h.mhi
    · rw [hc]; exact h.delayed
    · rw [hc]; exact h.flags
    · rw [hc]; exact h.pc
    · rw [hc]; exact h.live
    · rw [hc]; exact h.stepping
    · rw [hc]; exact h.own

/-- The flags are set. -/
theorem Wrote.setFlags {s u : State} {c : Nat} {e : Effect} (h : Wrote s u c e) (a : Alu) :
    Wrote s (u.setFlags c a) c { e with flags := some (a.z, a.cf, a.n, a.v) } := by
  have hc : ∀ k, (u.setFlags c a).ctx k = if k = c then (u.ctx c).setFlags a else u.ctx k := by
    intro k; simp [State.setFlags]
  have hself : (u.setFlags c a).ctx c = (u.ctx c).setFlags a := by simp [hc]
  constructor
  · exact h.rest
  · exact h.engines
  · exact h.engine
  · exact h.issue
  · intro r
    have := h.regs r
    unfold State.greg at this ⊢
    rw [hself]; exact this
  · intro k hk; rw [hc, if_neg hk]; exact h.contexts k hk
  · rw [hself]; exact h.mlo
  · rw [hself]; exact h.mhi
  · rw [hself]; exact h.delayed
  · rw [hself]; rfl
  · rw [hself]; exact h.pc
  · rw [hself]; exact h.live
  · rw [hself]; exact h.stepping
  · have ho := h.own
    rw [hself]
    conv_lhs => rw [ho]
    rfl

end Sys2Proof.Machine
end

