-- ==== Sys2Proof/Laws/Updates.lean ====
section
/-! SUPPORT. The small laws of the updates of one unit's own state: what each writes, and which fields of State it leaves
alone. -/

namespace Sys2Proof.Machine

open Sys2Proof

@[simp] theorem State.fabLink_setFabLink (s : State) (a b : Nat) (x : FabLink) :
    (s.setFabLink a x).fabLink b = if b = a then x else s.fabLink b := by
  simp [State.fabLink, State.setFabLink]

@[simp] theorem State.trun_setTrun (s : State) (a b : Nat) (x : Option TRun) :
    (s.setTrun a x).trun b = if b = a then x else s.trun b := by
  simp [State.trun, State.setTrun]

@[simp] theorem State.stepTwoQ_setStepTwoQ (s : State) (a b : Nat) (l : List StepTwo) :
    (s.setStepTwoQ a l).stepTwoQ b = if b = a then l else s.stepTwoQ b := by
  simp [State.stepTwoQ, State.setStepTwoQ]

@[simp] theorem State.secy_setSecy (s : State) (a b : Nat) (x : SecY) :
    (s.setSecy a x).secy b = if b = a then x else s.secy b := by
  simp [State.secy, State.setSecy]

@[simp] theorem State.sa_setSa (s : State) (a b : Nat) (x : SecA) :
    (s.setSa a x).sa b = if b = a then x else s.sa b := by
  simp [State.sa, State.setSa]

@[simp] theorem State.domTime_setDomTime (s : State) (a b : Nat) (x : DomTime) :
    (s.setDomTime a x).domTime b = if b = a then x else s.domTime b := by
  simp [State.domTime, State.setDomTime]

@[simp] theorem State.fifo_setFifo (s : State) (p c q d : Nat) (l : List IFrame) :
    (s.setFifo p c l).fifo q d = if q * 8 + d = p * 8 + c then l else s.fifo q d := by
  simp [State.fifo, State.setFifo]

@[simp] theorem State.dch_setDch (s : State) (i c j d : Nat) (x : DramCh) :
    (s.setDch i c x).dch j d = if j * 4 + d = i * 4 + c then x else s.dch j d := by
  simp [State.dch, State.setDch]

@[simp] theorem State.accepted_setAccepted (s : State) (l : List (Nat × CmdReq)) : (s.setAccepted l).ctl.accepted = l := rfl
@[simp] theorem State.island_setIsland (s : State) (x : Island) : (s.setIsland x).island = x := rfl

section
variable (s : State) (q : Nat) (l : FabLink)
@[simp] theorem State.setFabLink_chip : (s.setFabLink q l).chip = s.chip := rfl
@[simp] theorem State.setFabLink_fr : (s.setFabLink q l).fr = s.fr := rfl
@[simp] theorem State.setFabLink_regs : (s.setFabLink q l).regs = s.regs := rfl
@[simp] theorem State.setFabLink_hiLatch : (s.setFabLink q l).hiLatch = s.hiLatch := rfl
@[simp] theorem State.setFabLink_rdata : (s.setFabLink q l).rdata = s.rdata := rfl
@[simp] theorem State.setFabLink_tb : (s.setFabLink q l).tb = s.tb := rfl
@[simp] theorem State.setFabLink_mem : (s.setFabLink q l).mem = s.mem := rfl
@[simp] theorem State.setFabLink_ctxs : (s.setFabLink q l).ctxs = s.ctxs := rfl
@[simp] theorem State.setFabLink_engs : (s.setFabLink q l).engs = s.engs := rfl
@[simp] theorem State.setFabLink_disp : (s.setFabLink q l).disp = s.disp := rfl
@[simp] theorem State.setFabLink_herd : (s.setFabLink q l).herd = s.herd := rfl
@[simp] theorem State.setFabLink_leash : (s.setFabLink q l).leash = s.leash := rfl
@[simp] theorem State.setFabLink_help : (s.setFabLink q l).help = s.help := rfl
@[simp] theorem State.setFabLink_look : (s.setFabLink q l).look = s.look := rfl
@[simp] theorem State.setFabLink_kn : (s.setFabLink q l).kn = s.kn := rfl
@[simp] theorem State.setFabLink_ports : (s.setFabLink q l).ports = s.ports := rfl
@[simp] theorem State.setFabLink_meters : (s.setFabLink q l).meters = s.meters := rfl
@[simp] theorem State.setFabLink_eports : (s.setFabLink q l).eports = s.eports := rfl
@[simp] theorem State.setFabLink_pace : (s.setFabLink q l).pace = s.pace := rfl
@[simp] theorem State.setFabLink_dram : (s.setFabLink q l).dram = s.dram := rfl
@[simp] theorem State.setFabLink_ctl : (s.setFabLink q l).ctl = s.ctl := rfl
@[simp] theorem State.setFabLink_boot : (s.setFabLink q l).boot = s.boot := rfl
@[simp] theorem State.setFabLink_hub : (s.setFabLink q l).hub = s.hub := rfl
@[simp] theorem State.setFabLink_island : (s.setFabLink q l).island = s.island := rfl
@[simp] theorem State.setFabLink_pins : (s.setFabLink q l).pins = s.pins := rfl
@[simp] theorem State.setFabLink_freeCtr : (s.setFabLink q l).freeCtr = s.freeCtr := rfl
@[simp] theorem State.setFabLink_pending : (s.setFabLink q l).pending = s.pending := rfl
@[simp] theorem State.reg_setFabLink (off : Nat) : (s.setFabLink q l).reg off = s.reg off := rfl
end

section
variable (s : State) (i ch : Nat) (x : DramCh)
@[simp] theorem State.setDch_chip : (s.setDch i ch x).chip = s.chip := rfl
@[simp] theorem State.setDch_fr : (s.setDch i ch x).fr = s.fr := rfl
@[simp] theorem State.setDch_regs : (s.setDch i ch x).regs = s.regs := rfl
@[simp] theorem State.setDch_hiLatch : (s.setDch i ch x).hiLatch = s.hiLatch := rfl
@[simp] theorem State.setDch_rdata : (s.setDch i ch x).rdata = s.rdata := rfl
@[simp] theorem State.setDch_tb : (s.setDch i ch x).tb = s.tb := rfl
@[simp] theorem State.setDch_mem : (s.setDch i ch x).mem = s.mem := rfl
@[simp] theorem State.setDch_ctxs : (s.setDch i ch x).ctxs = s.ctxs := rfl
@[simp] theorem State.setDch_engs : (s.setDch i ch x).engs = s.engs := rfl
@[simp] theorem State.setDch_disp : (s.setDch i ch x).disp = s.disp := rfl
@[simp] theorem State.setDch_herd : (s.setDch i ch x).herd = s.herd := rfl
@[simp] theorem State.setDch_leash : (s.setDch i ch x).leash = s.leash := rfl
@[simp] theorem State.setDch_help : (s.setDch i ch x).help = s.help := rfl
@[simp] theorem State.setDch_look : (s.setDch i ch x).look = s.look := rfl
@[simp] theorem State.setDch_kn : (s.setDch i ch x).kn = s.kn := rfl
@[simp] theorem State.setDch_ports : (s.setDch i ch x).ports = s.ports := rfl
@[simp] theorem State.setDch_meters : (s.setDch i ch x).meters = s.meters := rfl
@[simp] theorem State.setDch_eports : (s.setDch i ch x).eports = s.eports := rfl
@[simp] theorem State.setDch_pace : (s.setDch i ch x).pace = s.pace := rfl
@[simp] theorem State.setDch_fab : (s.setDch i ch x).fab = s.fab := rfl
@[simp] theorem State.setDch_ctl : (s.setDch i ch x).ctl = s.ctl := rfl
@[simp] theorem State.setDch_boot : (s.setDch i ch x).boot = s.boot := rfl
@[simp] theorem State.setDch_hub : (s.setDch i ch x).hub = s.hub := rfl
@[simp] theorem State.setDch_island : (s.setDch i ch x).island = s.island := rfl
@[simp] theorem State.setDch_pins : (s.setDch i ch x).pins = s.pins := rfl
@[simp] theorem State.setDch_freeCtr : (s.setDch i ch x).freeCtr = s.freeCtr := rfl
@[simp] theorem State.setDch_pending : (s.setDch i ch x).pending = s.pending := rfl
@[simp] theorem State.reg_setDch (off : Nat) : (s.setDch i ch x).reg off = s.reg off := rfl
end

section
variable (s : State) (i p : Nat) (v : Int)
@[simp] theorem State.setTokens_chip : (s.setTokens i p v).chip = s.chip := rfl
@[simp] theorem State.setTokens_fr : (s.setTokens i p v).fr = s.fr := rfl
@[simp] theorem State.setTokens_regs : (s.setTokens i p v).regs = s.regs := rfl
@[simp] theorem State.setTokens_hiLatch : (s.setTokens i p v).hiLatch = s.hiLatch := rfl
@[simp] theorem State.setTokens_rdata : (s.setTokens i p v).rdata = s.rdata := rfl
@[simp] theorem State.setTokens_tb : (s.setTokens i p v).tb = s.tb := rfl
@[simp] theorem State.setTokens_mem : (s.setTokens i p v).mem = s.mem := rfl
@[simp] theorem State.setTokens_ctxs : (s.setTokens i p v).ctxs = s.ctxs := rfl
@[simp] theorem State.setTokens_engs : (s.setTokens i p v).engs = s.engs := rfl
@[simp] theorem State.setTokens_disp : (s.setTokens i p v).disp = s.disp := rfl
@[simp] theorem State.setTokens_herd : (s.setTokens i p v).herd = s.herd := rfl
@[simp] theorem State.setTokens_leash : (s.setTokens i p v).leash = s.leash := rfl
@[simp] theorem State.setTokens_help : (s.setTokens i p v).help = s.help := rfl
@[simp] theorem State.setTokens_look : (s.setTokens i p v).look = s.look := rfl
@[simp] theorem State.setTokens_kn : (s.setTokens i p v).kn = s.kn := rfl
@[simp] theorem State.setTokens_ports : (s.setTokens i p v).ports = s.ports := rfl
@[simp] theorem State.setTokens_meters : (s.setTokens i p v).meters = s.meters := rfl
@[simp] theorem State.setTokens_eports : (s.setTokens i p v).eports = s.eports := rfl
@[simp] theorem State.setTokens_pace : (s.setTokens i p v).pace = s.pace := rfl
@[simp] theorem State.setTokens_fab : (s.setTokens i p v).fab = s.fab := rfl
@[simp] theorem State.setTokens_ctl : (s.setTokens i p v).ctl = s.ctl := rfl
@[simp] theorem State.setTokens_boot : (s.setTokens i p v).boot = s.boot := rfl
@[simp] theorem State.setTokens_hub : (s.setTokens i p v).hub = s.hub := rfl
@[simp] theorem State.setTokens_island : (s.setTokens i p v).island = s.island := rfl
@[simp] theorem State.setTokens_pins : (s.setTokens i p v).pins = s.pins := rfl
@[simp] theorem State.setTokens_freeCtr : (s.setTokens i p v).freeCtr = s.freeCtr := rfl
@[simp] theorem State.setTokens_pending : (s.setTokens i p v).pending = s.pending := rfl
@[simp] theorem State.reg_setTokens (off : Nat) : (s.setTokens i p v).reg off = s.reg off := rfl
end

section
variable (s : State) (k : Nat) (x : Option TRun)
@[simp] theorem State.setTrun_chip : (s.setTrun k x).chip = s.chip := rfl
@[simp] theorem State.setTrun_fr : (s.setTrun k x).fr = s.fr := rfl
@[simp] theorem State.setTrun_regs : (s.setTrun k x).regs = s.regs := rfl
@[simp] theorem State.setTrun_hiLatch : (s.setTrun k x).hiLatch = s.hiLatch := rfl
@[simp] theorem State.setTrun_rdata : (s.setTrun k x).rdata = s.rdata := rfl
@[simp] theorem State.setTrun_tb : (s.setTrun k x).tb = s.tb := rfl
@[simp] theorem State.setTrun_mem : (s.setTrun k x).mem = s.mem := rfl
@[simp] theorem State.setTrun_ctxs : (s.setTrun k x).ctxs = s.ctxs := rfl
@[simp] theorem State.setTrun_engs : (s.setTrun k x).engs = s.engs := rfl
@[simp] theorem State.setTrun_disp : (s.setTrun k x).disp = s.disp := rfl
@[simp] theorem State.setTrun_herd : (s.setTrun k x).herd = s.herd := rfl
@[simp] theorem State.setTrun_leash : (s.setTrun k x).leash = s.leash := rfl
@[simp] theorem State.setTrun_help : (s.setTrun k x).help = s.help := rfl
@[simp] theorem State.setTrun_kn : (s.setTrun k x).kn = s.kn := rfl
@[simp] theorem State.setTrun_ports : (s.setTrun k x).ports = s.ports := rfl
@[simp] theorem State.setTrun_meters : (s.setTrun k x).meters = s.meters := rfl
@[simp] theorem State.setTrun_eports : (s.setTrun k x).eports = s.eports := rfl
@[simp] theorem State.setTrun_pace : (s.setTrun k x).pace = s.pace := rfl
@[simp] theorem State.setTrun_dram : (s.setTrun k x).dram = s.dram := rfl
@[simp] theorem State.setTrun_fab : (s.setTrun k x).fab = s.fab := rfl
@[simp] theorem State.setTrun_ctl : (s.setTrun k x).ctl = s.ctl := rfl
@[simp] theorem State.setTrun_boot : (s.setTrun k x).boot = s.boot := rfl
@[simp] theorem State.setTrun_hub : (s.setTrun k x).hub = s.hub := rfl
@[simp] theorem State.setTrun_island : (s.setTrun k x).island = s.island := rfl
@[simp] theorem State.setTrun_pins : (s.setTrun k x).pins = s.pins := rfl
@[simp] theorem State.setTrun_freeCtr : (s.setTrun k x).freeCtr = s.freeCtr := rfl
@[simp] theorem State.setTrun_pending : (s.setTrun k x).pending = s.pending := rfl
@[simp] theorem State.reg_setTrun (off : Nat) : (s.setTrun k x).reg off = s.reg off := rfl
end

section
variable (s : State) (k : Nat) (f : TRun → TRun)
@[simp] theorem State.updRun_chip : (s.updRun k f).chip = s.chip := rfl
@[simp] theorem State.updRun_fr : (s.updRun k f).fr = s.fr := rfl
@[simp] theorem State.updRun_regs : (s.updRun k f).regs = s.regs := rfl
@[simp] theorem State.updRun_hiLatch : (s.updRun k f).hiLatch = s.hiLatch := rfl
@[simp] theorem State.updRun_rdata : (s.updRun k f).rdata = s.rdata := rfl
@[simp] theorem State.updRun_tb : (s.updRun k f).tb = s.tb := rfl
@[simp] theorem State.updRun_mem : (s.updRun k f).mem = s.mem := rfl
@[simp] theorem State.updRun_ctxs : (s.updRun k f).ctxs = s.ctxs := rfl
@[simp] theorem State.updRun_engs : (s.updRun k f).engs = s.engs := rfl
@[simp] theorem State.updRun_disp : (s.updRun k f).disp = s.disp := rfl
@[simp] theorem State.updRun_herd : (s.updRun k f).herd = s.herd := rfl
@[simp] theorem State.updRun_leash : (s.updRun k f).leash = s.leash := rfl
@[simp] theorem State.updRun_help : (s.updRun k f).help = s.help := rfl
@[simp] theorem State.updRun_kn : (s.updRun k f).kn = s.kn := rfl
@[simp] theorem State.updRun_ports : (s.updRun k f).ports = s.ports := rfl
@[simp] theorem State.updRun_meters : (s.updRun k f).meters = s.meters := rfl
@[simp] theorem State.updRun_eports : (s.updRun k f).eports = s.eports := rfl
@[simp] theorem State.updRun_pace : (s.updRun k f).pace = s.pace := rfl
@[simp] theorem State.updRun_dram : (s.updRun k f).dram = s.dram := rfl
@[simp] theorem State.updRun_fab : (s.updRun k f).fab = s.fab := rfl
@[simp] theorem State.updRun_ctl : (s.updRun k f).ctl = s.ctl := rfl
@[simp] theorem State.updRun_boot : (s.updRun k f).boot = s.boot := rfl
@[simp] theorem State.updRun_hub : (s.updRun k f).hub = s.hub := rfl
@[simp] theorem State.updRun_island : (s.updRun k f).island = s.island := rfl
@[simp] theorem State.updRun_pins : (s.updRun k f).pins = s.pins := rfl
@[simp] theorem State.updRun_freeCtr : (s.updRun k f).freeCtr = s.freeCtr := rfl
@[simp] theorem State.updRun_pending : (s.updRun k f).pending = s.pending := rfl
@[simp] theorem State.reg_updRun (off : Nat) : (s.updRun k f).reg off = s.reg off := rfl
end

section
variable (s : State) (port : Nat) (l : List StepTwo)
@[simp] theorem State.setStepTwoQ_chip : (s.setStepTwoQ port l).chip = s.chip := rfl
@[simp] theorem State.setStepTwoQ_fr : (s.setStepTwoQ port l).fr = s.fr := rfl
@[simp] theorem State.setStepTwoQ_regs : (s.setStepTwoQ port l).regs = s.regs := rfl
@[simp] theorem State.setStepTwoQ_hiLatch : (s.setStepTwoQ port l).hiLatch = s.hiLatch := rfl
@[simp] theorem State.setStepTwoQ_rdata : (s.setStepTwoQ port l).rdata = s.rdata := rfl
@[simp] theorem State.setStepTwoQ_tb : (s.setStepTwoQ port l).tb = s.tb := rfl
@[simp] theorem State.setStepTwoQ_mem : (s.setStepTwoQ port l).mem = s.mem := rfl
@[simp] theorem State.setStepTwoQ_ctxs : (s.setStepTwoQ port l).ctxs = s.ctxs := rfl
@[simp] theorem State.setStepTwoQ_engs : (s.setStepTwoQ port l).engs = s.engs := rfl
@[simp] theorem State.setStepTwoQ_disp : (s.setStepTwoQ port l).disp = s.disp := rfl
@[simp] theorem State.setStepTwoQ_herd : (s.setStepTwoQ port l).herd = s.herd := rfl
@[simp] theorem State.setStepTwoQ_leash : (s.setStepTwoQ port l).leash = s.leash := rfl
@[simp] theorem State.setStepTwoQ_help : (s.setStepTwoQ port l).help = s.help := rfl
@[simp] theorem State.setStepTwoQ_look : (s.setStepTwoQ port l).look = s.look := rfl
@[simp] theorem State.setStepTwoQ_kn : (s.setStepTwoQ port l).kn = s.kn := rfl
@[simp] theorem State.setStepTwoQ_meters : (s.setStepTwoQ port l).meters = s.meters := rfl
@[simp] theorem State.setStepTwoQ_eports : (s.setStepTwoQ port l).eports = s.eports := rfl
@[simp] theorem State.setStepTwoQ_pace : (s.setStepTwoQ port l).pace = s.pace := rfl
@[simp] theorem State.setStepTwoQ_dram : (s.setStepTwoQ port l).dram = s.dram := rfl
@[simp] theorem State.setStepTwoQ_fab : (s.setStepTwoQ port l).fab = s.fab := rfl
@[simp] theorem State.setStepTwoQ_ctl : (s.setStepTwoQ port l).ctl = s.ctl := rfl
@[simp] theorem State.setStepTwoQ_boot : (s.setStepTwoQ port l).boot = s.boot := rfl
@[simp] theorem State.setStepTwoQ_hub : (s.setStepTwoQ port l).hub = s.hub := rfl
@[simp] theorem State.setStepTwoQ_island : (s.setStepTwoQ port l).island = s.island := rfl
@[simp] theorem State.setStepTwoQ_pins : (s.setStepTwoQ port l).pins = s.pins := rfl
@[simp] theorem State.setStepTwoQ_freeCtr : (s.setStepTwoQ port l).freeCtr = s.freeCtr := rfl
@[simp] theorem State.setStepTwoQ_pending : (s.setStepTwoQ port l).pending = s.pending := rfl
@[simp] theorem State.reg_setStepTwoQ (off : Nat) : (s.setStepTwoQ port l).reg off = s.reg off := rfl
end

section
variable (s : State) (port c : Nat) (l : List IFrame)
@[simp] theorem State.setFifo_chip : (s.setFifo port c l).chip = s.chip := rfl
@[simp] theorem State.setFifo_fr : (s.setFifo port c l).fr = s.fr := rfl
@[simp] theorem State.setFifo_regs : (s.setFifo port c l).regs = s.regs := rfl
@[simp] theorem State.setFifo_hiLatch : (s.setFifo port c l).hiLatch = s.hiLatch := rfl
@[simp] theorem State.setFifo_rdata : (s.setFifo port c l).rdata = s.rdata := rfl
@[simp] theorem State.setFifo_tb : (s.setFifo port c l).tb = s.tb := rfl
@[simp] theorem State.setFifo_mem : (s.setFifo port c l).mem = s.mem := rfl
@[simp] theorem State.setFifo_ctxs : (s.setFifo port c l).ctxs = s.ctxs := rfl
@[simp] theorem State.setFifo_engs : (s.setFifo port c l).engs = s.engs := rfl
@[simp] theorem State.setFifo_disp : (s.setFifo port c l).disp = s.disp := rfl
@[simp] theorem State.setFifo_herd : (s.setFifo port c l).herd = s.herd := rfl
@[simp] theorem State.setFifo_leash : (s.setFifo port c l).leash = s.leash := rfl
@[simp] theorem State.setFifo_help : (s.setFifo port c l).help = s.help := rfl
@[simp] theorem State.setFifo_look : (s.setFifo port c l).look = s.look := rfl
@[simp] theorem State.setFifo_kn : (s.setFifo port c l).kn = s.kn := rfl
@[simp] theorem State.setFifo_meters : (s.setFifo port c l).meters = s.meters := rfl
@[simp] theorem State.setFifo_eports : (s.setFifo port c l).eports = s.eports := rfl
@[simp] theorem State.setFifo_pace : (s.setFifo port c l).pace = s.pace := rfl
@[simp] theorem State.setFifo_dram : (s.setFifo port c l).dram = s.dram := rfl
@[simp] theorem State.setFifo_fab : (s.setFifo port c l).fab = s.fab := rfl
@[simp] theorem State.setFifo_ctl : (s.setFifo port c l).ctl = s.ctl := rfl
@[simp] theorem State.setFifo_boot : (s.setFifo port c l).boot = s.boot := rfl
@[simp] theorem State.setFifo_hub : (s.setFifo port c l).hub = s.hub := rfl
@[simp] theorem State.setFifo_island : (s.setFifo port c l).island = s.island := rfl
@[simp] theorem State.setFifo_pins : (s.setFifo port c l).pins = s.pins := rfl
@[simp] theorem State.setFifo_freeCtr : (s.setFifo port c l).freeCtr = s.freeCtr := rfl
@[simp] theorem State.setFifo_pending : (s.setFifo port c l).pending = s.pending := rfl
@[simp] theorem State.reg_setFifo (off : Nat) : (s.setFifo port c l).reg off = s.reg off := rfl
end

section
variable (s : State) (port c : Nat) (p : Option Nat)
@[simp] theorem State.setPfc_chip : (s.setPfc port c p).chip = s.chip := rfl
@[simp] theorem State.setPfc_fr : (s.setPfc port c p).fr = s.fr := rfl
@[simp] theorem State.setPfc_regs : (s.setPfc port c p).regs = s.regs := rfl
@[simp] theorem State.setPfc_hiLatch : (s.setPfc port c p).hiLatch = s.hiLatch := rfl
@[simp] theorem State.setPfc_rdata : (s.setPfc port c p).rdata = s.rdata := rfl
@[simp] theorem State.setPfc_tb : (s.setPfc port c p).tb = s.tb := rfl
@[simp] theorem State.setPfc_mem : (s.setPfc port c p).mem = s.mem := rfl
@[simp] theorem State.setPfc_ctxs : (s.setPfc port c p).ctxs = s.ctxs := rfl
@[simp] theorem State.setPfc_engs : (s.setPfc port c p).engs = s.engs := rfl
@[simp] theorem State.setPfc_disp : (s.setPfc port c p).disp = s.disp := rfl
@[simp] theorem State.setPfc_herd : (s.setPfc port c p).herd = s.herd := rfl
@[simp] theorem State.setPfc_leash : (s.setPfc port c p).leash = s.leash := rfl
@[simp] theorem State.setPfc_help : (s.setPfc port c p).help = s.help := rfl
@[simp] theorem State.setPfc_look : (s.setPfc port c p).look = s.look := rfl
@[simp] theorem State.setPfc_kn : (s.setPfc port c p).kn = s.kn := rfl
@[simp] theorem State.setPfc_meters : (s.setPfc port c p).meters = s.meters := rfl
@[simp] theorem State.setPfc_eports : (s.setPfc port c p).eports = s.eports := rfl
@[simp] theorem State.setPfc_pace : (s.setPfc port c p).pace = s.pace := rfl
@[simp] theorem State.setPfc_dram : (s.setPfc port c p).dram = s.dram := rfl
@[simp] theorem State.setPfc_fab : (s.setPfc port c p).fab = s.fab := rfl
@[simp] theorem State.setPfc_ctl : (s.setPfc port c p).ctl = s.ctl := rfl
@[simp] theorem State.setPfc_boot : (s.setPfc port c p).boot = s.boot := rfl
@[simp] theorem State.setPfc_hub : (s.setPfc port c p).hub = s.hub := rfl
@[simp] theorem State.setPfc_island : (s.setPfc port c p).island = s.island := rfl
@[simp] theorem State.setPfc_pins : (s.setPfc port c p).pins = s.pins := rfl
@[simp] theorem State.setPfc_freeCtr : (s.setPfc port c p).freeCtr = s.freeCtr := rfl
@[simp] theorem State.setPfc_pending : (s.setPfc port c p).pending = s.pending := rfl
@[simp] theorem State.reg_setPfc (off : Nat) : (s.setPfc port c p).reg off = s.reg off := rfl
end

section
variable (s : State) (port : Nat) (x : SecY)
@[simp] theorem State.setSecy_chip : (s.setSecy port x).chip = s.chip := rfl
@[simp] theorem State.setSecy_fr : (s.setSecy port x).fr = s.fr := rfl
@[simp] theorem State.setSecy_regs : (s.setSecy port x).regs = s.regs := rfl
@[simp] theorem State.setSecy_hiLatch : (s.setSecy port x).hiLatch = s.hiLatch := rfl
@[simp] theorem State.setSecy_rdata : (s.setSecy port x).rdata = s.rdata := rfl
@[simp] theorem State.setSecy_tb : (s.setSecy port x).tb = s.tb := rfl
@[simp] theorem State.setSecy_mem : (s.setSecy port x).mem = s.mem := rfl
@[simp] theorem State.setSecy_ctxs : (s.setSecy port x).ctxs = s.ctxs := rfl
@[simp] theorem State.setSecy_engs : (s.setSecy port x).engs = s.engs := rfl
@[simp] theorem State.setSecy_disp : (s.setSecy port x).disp = s.disp := rfl
@[simp] theorem State.setSecy_herd : (s.setSecy port x).herd = s.herd := rfl
@[simp] theorem State.setSecy_leash : (s.setSecy port x).leash = s.leash := rfl
@[simp] theorem State.setSecy_help : (s.setSecy port x).help = s.help := rfl
@[simp] theorem State.setSecy_look : (s.setSecy port x).look = s.look := rfl
@[simp] theorem State.setSecy_kn : (s.setSecy port x).kn = s.kn := rfl
@[simp] theorem State.setSecy_meters : (s.setSecy port x).meters = s.meters := rfl
@[simp] theorem State.setSecy_eports : (s.setSecy port x).eports = s.eports := rfl
@[simp] theorem State.setSecy_pace : (s.setSecy port x).pace = s.pace := rfl
@[simp] theorem State.setSecy_dram : (s.setSecy port x).dram = s.dram := rfl
@[simp] theorem State.setSecy_fab : (s.setSecy port x).fab = s.fab := rfl
@[simp] theorem State.setSecy_ctl : (s.setSecy port x).ctl = s.ctl := rfl
@[simp] theorem State.setSecy_boot : (s.setSecy port x).boot = s.boot := rfl
@[simp] theorem State.setSecy_hub : (s.setSecy port x).hub = s.hub := rfl
@[simp] theorem State.setSecy_island : (s.setSecy port x).island = s.island := rfl
@[simp] theorem State.setSecy_pins : (s.setSecy port x).pins = s.pins := rfl
@[simp] theorem State.setSecy_freeCtr : (s.setSecy port x).freeCtr = s.freeCtr := rfl
@[simp] theorem State.setSecy_pending : (s.setSecy port x).pending = s.pending := rfl
@[simp] theorem State.reg_setSecy (off : Nat) : (s.setSecy port x).reg off = s.reg off := rfl
end

section
variable (s : State) (k : Nat) (x : SecA)
@[simp] theorem State.setSa_chip : (s.setSa k x).chip = s.chip := rfl
@[simp] theorem State.setSa_fr : (s.setSa k x).fr = s.fr := rfl
@[simp] theorem State.setSa_regs : (s.setSa k x).regs = s.regs := rfl
@[simp] theorem State.setSa_hiLatch : (s.setSa k x).hiLatch = s.hiLatch := rfl
@[simp] theorem State.setSa_rdata : (s.setSa k x).rdata = s.rdata := rfl
@[simp] theorem State.setSa_tb : (s.setSa k x).tb = s.tb := rfl
@[simp] theorem State.setSa_mem : (s.setSa k x).mem = s.mem := rfl
@[simp] theorem State.setSa_ctxs : (s.setSa k x).ctxs = s.ctxs := rfl
@[simp] theorem State.setSa_engs : (s.setSa k x).engs = s.engs := rfl
@[simp] theorem State.setSa_disp : (s.setSa k x).disp = s.disp := rfl
@[simp] theorem State.setSa_herd : (s.setSa k x).herd = s.herd := rfl
@[simp] theorem State.setSa_leash : (s.setSa k x).leash = s.leash := rfl
@[simp] theorem State.setSa_help : (s.setSa k x).help = s.help := rfl
@[simp] theorem State.setSa_look : (s.setSa k x).look = s.look := rfl
@[simp] theorem State.setSa_kn : (s.setSa k x).kn = s.kn := rfl
@[simp] theorem State.setSa_meters : (s.setSa k x).meters = s.meters := rfl
@[simp] theorem State.setSa_eports : (s.setSa k x).eports = s.eports := rfl
@[simp] theorem State.setSa_pace : (s.setSa k x).pace = s.pace := rfl
@[simp] theorem State.setSa_dram : (s.setSa k x).dram = s.dram := rfl
@[simp] theorem State.setSa_fab : (s.setSa k x).fab = s.fab := rfl
@[simp] theorem State.setSa_ctl : (s.setSa k x).ctl = s.ctl := rfl
@[simp] theorem State.setSa_boot : (s.setSa k x).boot = s.boot := rfl
@[simp] theorem State.setSa_hub : (s.setSa k x).hub = s.hub := rfl
@[simp] theorem State.setSa_island : (s.setSa k x).island = s.island := rfl
@[simp] theorem State.setSa_pins : (s.setSa k x).pins = s.pins := rfl
@[simp] theorem State.setSa_freeCtr : (s.setSa k x).freeCtr = s.freeCtr := rfl
@[simp] theorem State.setSa_pending : (s.setSa k x).pending = s.pending := rfl
@[simp] theorem State.reg_setSa (off : Nat) : (s.setSa k x).reg off = s.reg off := rfl
end

section
variable (s : State) (n : Nat) (l : List (Nat × Nat))
@[simp] theorem State.setCan_chip : (s.setCan n l).chip = s.chip := rfl
@[simp] theorem State.setCan_fr : (s.setCan n l).fr = s.fr := rfl
@[simp] theorem State.setCan_regs : (s.setCan n l).regs = s.regs := rfl
@[simp] theorem State.setCan_hiLatch : (s.setCan n l).hiLatch = s.hiLatch := rfl
@[simp] theorem State.setCan_rdata : (s.setCan n l).rdata = s.rdata := rfl
@[simp] theorem State.setCan_tb : (s.setCan n l).tb = s.tb := rfl
@[simp] theorem State.setCan_mem : (s.setCan n l).mem = s.mem := rfl
@[simp] theorem State.setCan_ctxs : (s.setCan n l).ctxs = s.ctxs := rfl
@[simp] theorem State.setCan_engs : (s.setCan n l).engs = s.engs := rfl
@[simp] theorem State.setCan_disp : (s.setCan n l).disp = s.disp := rfl
@[simp] theorem State.setCan_herd : (s.setCan n l).herd = s.herd := rfl
@[simp] theorem State.setCan_leash : (s.setCan n l).leash = s.leash := rfl
@[simp] theorem State.setCan_help : (s.setCan n l).help = s.help := rfl
@[simp] theorem State.setCan_look : (s.setCan n l).look = s.look := rfl
@[simp] theorem State.setCan_kn : (s.setCan n l).kn = s.kn := rfl
@[simp] theorem State.setCan_meters : (s.setCan n l).meters = s.meters := rfl
@[simp] theorem State.setCan_eports : (s.setCan n l).eports = s.eports := rfl
@[simp] theorem State.setCan_pace : (s.setCan n l).pace = s.pace := rfl
@[simp] theorem State.setCan_dram : (s.setCan n l).dram = s.dram := rfl
@[simp] theorem State.setCan_fab : (s.setCan n l).fab = s.fab := rfl
@[simp] theorem State.setCan_ctl : (s.setCan n l).ctl = s.ctl := rfl
@[simp] theorem State.setCan_boot : (s.setCan n l).boot = s.boot := rfl
@[simp] theorem State.setCan_hub : (s.setCan n l).hub = s.hub := rfl
@[simp] theorem State.setCan_island : (s.setCan n l).island = s.island := rfl
@[simp] theorem State.setCan_pins : (s.setCan n l).pins = s.pins := rfl
@[simp] theorem State.setCan_freeCtr : (s.setCan n l).freeCtr = s.freeCtr := rfl
@[simp] theorem State.setCan_pending : (s.setCan n l).pending = s.pending := rfl
@[simp] theorem State.reg_setCan (off : Nat) : (s.setCan n l).reg off = s.reg off := rfl
end

section
variable (s : State) (l : List (Nat × CmdReq))
@[simp] theorem State.setAccepted_chip : (s.setAccepted l).chip = s.chip := rfl
@[simp] theorem State.setAccepted_fr : (s.setAccepted l).fr = s.fr := rfl
@[simp] theorem State.setAccepted_regs : (s.setAccepted l).regs = s.regs := rfl
@[simp] theorem State.setAccepted_hiLatch : (s.setAccepted l).hiLatch = s.hiLatch := rfl
@[simp] theorem State.setAccepted_rdata : (s.setAccepted l).rdata = s.rdata := rfl
@[simp] theorem State.setAccepted_tb : (s.setAccepted l).tb = s.tb := rfl
@[simp] theorem State.setAccepted_mem : (s.setAccepted l).mem = s.mem := rfl
@[simp] theorem State.setAccepted_ctxs : (s.setAccepted l).ctxs = s.ctxs := rfl
@[simp] theorem State.setAccepted_engs : (s.setAccepted l).engs = s.engs := rfl
@[simp] theorem State.setAccepted_disp : (s.setAccepted l).disp = s.disp := rfl
@[simp] theorem State.setAccepted_herd : (s.setAccepted l).herd = s.herd := rfl
@[simp] theorem State.setAccepted_leash : (s.setAccepted l).leash = s.leash := rfl
@[simp] theorem State.setAccepted_help : (s.setAccepted l).help = s.help := rfl
@[simp] theorem State.setAccepted_look : (s.setAccepted l).look = s.look := rfl
@[simp] theorem State.setAccepted_kn : (s.setAccepted l).kn = s.kn := rfl
@[simp] theorem State.setAccepted_ports : (s.setAccepted l).ports = s.ports := rfl
@[simp] theorem State.setAccepted_meters : (s.setAccepted l).meters = s.meters := rfl
@[simp] theorem State.setAccepted_eports : (s.setAccepted l).eports = s.eports := rfl
@[simp] theorem State.setAccepted_pace : (s.setAccepted l).pace = s.pace := rfl
@[simp] theorem State.setAccepted_dram : (s.setAccepted l).dram = s.dram := rfl
@[simp] theorem State.setAccepted_fab : (s.setAccepted l).fab = s.fab := rfl
@[simp] theorem State.setAccepted_boot : (s.setAccepted l).boot = s.boot := rfl
@[simp] theorem State.setAccepted_hub : (s.setAccepted l).hub = s.hub := rfl
@[simp] theorem State.setAccepted_island : (s.setAccepted l).island = s.island := rfl
@[simp] theorem State.setAccepted_pins : (s.setAccepted l).pins = s.pins := rfl
@[simp] theorem State.setAccepted_freeCtr : (s.setAccepted l).freeCtr = s.freeCtr := rfl
@[simp] theorem State.setAccepted_pending : (s.setAccepted l).pending = s.pending := rfl
@[simp] theorem State.reg_setAccepted (off : Nat) : (s.setAccepted l).reg off = s.reg off := rfl
end

section
variable (s : State) (x : Island)
@[simp] theorem State.setIsland_chip : (s.setIsland x).chip = s.chip := rfl
@[simp] theorem State.setIsland_fr : (s.setIsland x).fr = s.fr := rfl
@[simp] theorem State.setIsland_regs : (s.setIsland x).regs = s.regs := rfl
@[simp] theorem State.setIsland_hiLatch : (s.setIsland x).hiLatch = s.hiLatch := rfl
@[simp] theorem State.setIsland_rdata : (s.setIsland x).rdata = s.rdata := rfl
@[simp] theorem State.setIsland_tb : (s.setIsland x).tb = s.tb := rfl
@[simp] theorem State.setIsland_mem : (s.setIsland x).mem = s.mem := rfl
@[simp] theorem State.setIsland_ctxs : (s.setIsland x).ctxs = s.ctxs := rfl
@[simp] theorem State.setIsland_engs : (s.setIsland x).engs = s.engs := rfl
@[simp] theorem State.setIsland_disp : (s.setIsland x).disp = s.disp := rfl
@[simp] theorem State.setIsland_herd : (s.setIsland x).herd = s.herd := rfl
@[simp] theorem State.setIsland_leash : (s.setIsland x).leash = s.leash := rfl
@[simp] theorem State.setIsland_help : (s.setIsland x).help = s.help := rfl
@[simp] theorem State.setIsland_look : (s.setIsland x).look = s.look := rfl
@[simp] theorem State.setIsland_kn : (s.setIsland x).kn = s.kn := rfl
@[simp] theorem State.setIsland_ports : (s.setIsland x).ports = s.ports := rfl
@[simp] theorem State.setIsland_meters : (s.setIsland x).meters = s.meters := rfl
@[simp] theorem State.setIsland_eports : (s.setIsland x).eports = s.eports := rfl
@[simp] theorem State.setIsland_pace : (s.setIsland x).pace = s.pace := rfl
@[simp] theorem State.setIsland_dram : (s.setIsland x).dram = s.dram := rfl
@[simp] theorem State.setIsland_fab : (s.setIsland x).fab = s.fab := rfl
@[simp] theorem State.setIsland_ctl : (s.setIsland x).ctl = s.ctl := rfl
@[simp] theorem State.setIsland_boot : (s.setIsland x).boot = s.boot := rfl
@[simp] theorem State.setIsland_hub : (s.setIsland x).hub = s.hub := rfl
@[simp] theorem State.setIsland_pins : (s.setIsland x).pins = s.pins := rfl
@[simp] theorem State.setIsland_freeCtr : (s.setIsland x).freeCtr = s.freeCtr := rfl
@[simp] theorem State.setIsland_pending : (s.setIsland x).pending = s.pending := rfl
@[simp] theorem State.reg_setIsland (off : Nat) : (s.setIsland x).reg off = s.reg off := rfl
end

section
variable (s : State) (d : Nat) (t : DomTime)
@[simp] theorem State.setDomTime_chip : (s.setDomTime d t).chip = s.chip := rfl
@[simp] theorem State.setDomTime_fr : (s.setDomTime d t).fr = s.fr := rfl
@[simp] theorem State.setDomTime_regs : (s.setDomTime d t).regs = s.regs := rfl
@[simp] theorem State.setDomTime_hiLatch : (s.setDomTime d t).hiLatch = s.hiLatch := rfl
@[simp] theorem State.setDomTime_rdata : (s.setDomTime d t).rdata = s.rdata := rfl
@[simp] theorem State.setDomTime_mem : (s.setDomTime d t).mem = s.mem := rfl
@[simp] theorem State.setDomTime_ctxs : (s.setDomTime d t).ctxs = s.ctxs := rfl
@[simp] theorem State.setDomTime_engs : (s.setDomTime d t).engs = s.engs := rfl
@[simp] theorem State.setDomTime_disp : (s.setDomTime d t).disp = s.disp := rfl
@[simp] theorem State.setDomTime_herd : (s.setDomTime d t).herd = s.herd := rfl
@[simp] theorem State.setDomTime_leash : (s.setDomTime d t).leash = s.leash := rfl
@[simp] theorem State.setDomTime_help : (s.setDomTime d t).help = s.help := rfl
@[simp] theorem State.setDomTime_look : (s.setDomTime d t).look = s.look := rfl
@[simp] theorem State.setDomTime_kn : (s.setDomTime d t).kn = s.kn := rfl
@[simp] theorem State.setDomTime_ports : (s.setDomTime d t).ports = s.ports := rfl
@[simp] theorem State.setDomTime_meters : (s.setDomTime d t).meters = s.meters := rfl
@[simp] theorem State.setDomTime_eports : (s.setDomTime d t).eports = s.eports := rfl
@[simp] theorem State.setDomTime_pace : (s.setDomTime d t).pace = s.pace := rfl
@[simp] theorem State.setDomTime_dram : (s.setDomTime d t).dram = s.dram := rfl
@[simp] theorem State.setDomTime_fab : (s.setDomTime d t).fab = s.fab := rfl
@[simp] theorem State.setDomTime_ctl : (s.setDomTime d t).ctl = s.ctl := rfl
@[simp] theorem State.setDomTime_boot : (s.setDomTime d t).boot = s.boot := rfl
@[simp] theorem State.setDomTime_hub : (s.setDomTime d t).hub = s.hub := rfl
@[simp] theorem State.setDomTime_island : (s.setDomTime d t).island = s.island := rfl
@[simp] theorem State.setDomTime_pins : (s.setDomTime d t).pins = s.pins := rfl
@[simp] theorem State.setDomTime_freeCtr : (s.setDomTime d t).freeCtr = s.freeCtr := rfl
@[simp] theorem State.setDomTime_pending : (s.setDomTime d t).pending = s.pending := rfl
@[simp] theorem State.reg_setDomTime (off : Nat) : (s.setDomTime d t).reg off = s.reg off := rfl
end

section
variable (s : State) (m : Nat) (x : Meter)
@[simp] theorem State.setMeter_chip : (s.setMeter m x).chip = s.chip := rfl
@[simp] theorem State.setMeter_fr : (s.setMeter m x).fr = s.fr := rfl
@[simp] theorem State.setMeter_regs : (s.setMeter m x).regs = s.regs := rfl
@[simp] theorem State.setMeter_hiLatch : (s.setMeter m x).hiLatch = s.hiLatch := rfl
@[simp] theorem State.setMeter_rdata : (s.setMeter m x).rdata = s.rdata := rfl
@[simp] theorem State.setMeter_tb : (s.setMeter m x).tb = s.tb := rfl
@[simp] theorem State.setMeter_mem : (s.setMeter m x).mem = s.mem := rfl
@[simp] theorem State.setMeter_ctxs : (s.setMeter m x).ctxs = s.ctxs := rfl
@[simp] theorem State.setMeter_engs : (s.setMeter m x).engs = s.engs := rfl
@[simp] theorem State.setMeter_disp : (s.setMeter m x).disp = s.disp := rfl
@[simp] theorem State.setMeter_herd : (s.setMeter m x).herd = s.herd := rfl
@[simp] theorem State.setMeter_leash : (s.setMeter m x).leash = s.leash := rfl
@[simp] theorem State.setMeter_help : (s.setMeter m x).help = s.help := rfl
@[simp] theorem State.setMeter_look : (s.setMeter m x).look = s.look := rfl
@[simp] theorem State.setMeter_kn : (s.setMeter m x).kn = s.kn := rfl
@[simp] theorem State.setMeter_ports : (s.setMeter m x).ports = s.ports := rfl
@[simp] theorem State.setMeter_eports : (s.setMeter m x).eports = s.eports := rfl
@[simp] theorem State.setMeter_pace : (s.setMeter m x).pace = s.pace := rfl
@[simp] theorem State.setMeter_dram : (s.setMeter m x).dram = s.dram := rfl
@[simp] theorem State.setMeter_fab : (s.setMeter m x).fab = s.fab := rfl
@[simp] theorem State.setMeter_ctl : (s.setMeter m x).ctl = s.ctl := rfl
@[simp] theorem State.setMeter_boot : (s.setMeter m x).boot = s.boot := rfl
@[simp] theorem State.setMeter_hub : (s.setMeter m x).hub = s.hub := rfl
@[simp] theorem State.setMeter_island : (s.setMeter m x).island = s.island := rfl
@[simp] theorem State.setMeter_pins : (s.setMeter m x).pins = s.pins := rfl
@[simp] theorem State.setMeter_freeCtr : (s.setMeter m x).freeCtr = s.freeCtr := rfl
@[simp] theorem State.setMeter_pending : (s.setMeter m x).pending = s.pending := rfl
@[simp] theorem State.reg_setMeter (off : Nat) : (s.setMeter m x).reg off = s.reg off := rfl
end

section
variable (s : State) (id : Nat) (f : HlpCmd → HlpCmd)
@[simp] theorem State.updHlp_chip : (s.updHlp id f).chip = s.chip := rfl
@[simp] theorem State.updHlp_fr : (s.updHlp id f).fr = s.fr := rfl
@[simp] theorem State.updHlp_regs : (s.updHlp id f).regs = s.regs := rfl
@[simp] theorem State.updHlp_hiLatch : (s.updHlp id f).hiLatch = s.hiLatch := rfl
@[simp] theorem State.updHlp_rdata : (s.updHlp id f).rdata = s.rdata := rfl
@[simp] theorem State.updHlp_tb : (s.updHlp id f).tb = s.tb := rfl
@[simp] theorem State.updHlp_mem : (s.updHlp id f).mem = s.mem := rfl
@[simp] theorem State.updHlp_ctxs : (s.updHlp id f).ctxs = s.ctxs := rfl
@[simp] theorem State.updHlp_engs : (s.updHlp id f).engs = s.engs := rfl
@[simp] theorem State.updHlp_disp : (s.updHlp id f).disp = s.disp := rfl
@[simp] theorem State.updHlp_herd : (s.updHlp id f).herd = s.herd := rfl
@[simp] theorem State.updHlp_leash : (s.updHlp id f).leash = s.leash := rfl
@[simp] theorem State.updHlp_look : (s.updHlp id f).look = s.look := rfl
@[simp] theorem State.updHlp_kn : (s.updHlp id f).kn = s.kn := rfl
@[simp] theorem State.updHlp_ports : (s.updHlp id f).ports = s.ports := rfl
@[simp] theorem State.updHlp_meters : (s.updHlp id f).meters = s.meters := rfl
@[simp] theorem State.updHlp_eports : (s.updHlp id f).eports = s.eports := rfl
@[simp] theorem State.updHlp_pace : (s.updHlp id f).pace = s.pace := rfl
@[simp] theorem State.updHlp_dram : (s.updHlp id f).dram = s.dram := rfl
@[simp] theorem State.updHlp_fab : (s.updHlp id f).fab = s.fab := rfl
@[simp] theorem State.updHlp_ctl : (s.updHlp id f).ctl = s.ctl := rfl
@[simp] theorem State.updHlp_boot : (s.updHlp id f).boot = s.boot := rfl
@[simp] theorem State.updHlp_hub : (s.updHlp id f).hub = s.hub := rfl
@[simp] theorem State.updHlp_island : (s.updHlp id f).island = s.island := rfl
@[simp] theorem State.updHlp_pins : (s.updHlp id f).pins = s.pins := rfl
@[simp] theorem State.updHlp_freeCtr : (s.updHlp id f).freeCtr = s.freeCtr := rfl
@[simp] theorem State.updHlp_pending : (s.updHlp id f).pending = s.pending := rfl
@[simp] theorem State.reg_updHlp (off : Nat) : (s.updHlp id f).reg off = s.reg off := rfl
end

section
variable (s : State) (h : Nat) (used : Bool) (next : Nat)
@[simp] theorem State.setCell_chip : (s.setCell h used next).chip = s.chip := rfl
@[simp] theorem State.setCell_fr : (s.setCell h used next).fr = s.fr := rfl
@[simp] theorem State.setCell_regs : (s.setCell h used next).regs = s.regs := rfl
@[simp] theorem State.setCell_hiLatch : (s.setCell h used next).hiLatch = s.hiLatch := rfl
@[simp] theorem State.setCell_rdata : (s.setCell h used next).rdata = s.rdata := rfl
@[simp] theorem State.setCell_tb : (s.setCell h used next).tb = s.tb := rfl
@[simp] theorem State.setCell_mem : (s.setCell h used next).mem = s.mem := rfl
@[simp] theorem State.setCell_ctxs : (s.setCell h used next).ctxs = s.ctxs := rfl
@[simp] theorem State.setCell_engs : (s.setCell h used next).engs = s.engs := rfl
@[simp] theorem State.setCell_disp : (s.setCell h used next).disp = s.disp := rfl
@[simp] theorem State.setCell_herd : (s.setCell h used next).herd = s.herd := rfl
@[simp] theorem State.setCell_leash : (s.setCell h used next).leash = s.leash := rfl
@[simp] theorem State.setCell_help : (s.setCell h used next).help = s.help := rfl
@[simp] theorem State.setCell_look : (s.setCell h used next).look = s.look := rfl
@[simp] theorem State.setCell_ports : (s.setCell h used next).ports = s.ports := rfl
@[simp] theorem State.setCell_meters : (s.setCell h used next).meters = s.meters := rfl
@[simp] theorem State.setCell_eports : (s.setCell h used next).eports = s.eports := rfl
@[simp] theorem State.setCell_pace : (s.setCell h used next).pace = s.pace := rfl
@[simp] theorem State.setCell_dram : (s.setCell h used next).dram = s.dram := rfl
@[simp] theorem State.setCell_fab : (s.setCell h used next).fab = s.fab := rfl
@[simp] theorem State.setCell_ctl : (s.setCell h used next).ctl = s.ctl := rfl
@[simp] theorem State.setCell_boot : (s.setCell h used next).boot = s.boot := rfl
@[simp] theorem State.setCell_hub : (s.setCell h used next).hub = s.hub := rfl
@[simp] theorem State.setCell_island : (s.setCell h used next).island = s.island := rfl
@[simp] theorem State.setCell_pins : (s.setCell h used next).pins = s.pins := rfl
@[simp] theorem State.setCell_freeCtr : (s.setCell h used next).freeCtr = s.freeCtr := rfl
@[simp] theorem State.setCell_pending : (s.setCell h used next).pending = s.pending := rfl
@[simp] theorem State.reg_setCell (off : Nat) : (s.setCell h used next).reg off = s.reg off := rfl
end

end Sys2Proof.Machine
end

