-- ==== Sys2Proof/WellFormed.lean ====
section
/-! DEFINITION. The operand ranges of the commands: what a command can name (R2, R14, R103, R197, R220, R229, R495). A
command outside its ranges names nothing of the device; `exec` then changes nothing. -/

namespace Sys2Proof

/-- A BAR0 offset (R14). -/
def wfOff (n : Nat) : Bool := decide (n < 0x4000000)
/-- A context number (R103). -/
def wfCtx (n : Nat) : Bool := decide (n < 4096)
/-- An engine number (R229). -/
def wfEng (n : Nat) : Bool := decide (n < 512)
/-- A pack number. -/
def wfPack (n : Nat) : Bool := decide (n < 32)
/-- One of two: a Fetch slot, a DRAM interface, an MDIO master. -/
def wfBit (n : Nat) : Bool := decide (n < 2)
/-- A port number (R23). -/
def wfPort (n : Nat) : Bool := decide (n < 256)
/-- A traffic class. -/
def wfClass (n : Nat) : Bool := decide (n < 8)
/-- A table (R277). -/
def wfTable (n : Nat) : Bool := decide (n < 64)
/-- A Dispatcher shard (R220). -/
def wfShard (n : Nat) : Bool := decide (n < 4)
/-- A priority queue (R220). -/
def wfQueue (n : Nat) : Bool := decide (n < 32)
/-- An order domain. -/
def wfOd (n : Nat) : Bool := decide (n < 65536)
/-- An egress index (R365). -/
def wfEgress (n : Nat) : Bool := decide (n < 62)
/-- A PTP domain (R399). -/
def wfDomain (n : Nat) : Bool := decide (n < 4)
/-- A Keeper pair (R461). -/
def wfKeeper (n : Nat) : Bool := decide (n < 2)
/-- A host pair, or a table DMA ring. -/
def wfPair (n : Nat) : Bool := decide (n < 4)
/-- A Whistle block, the fabric pairs' and the island's included. -/
def wfBlock (n : Nat) : Bool := decide (n < 13)
/-- A group of event sources. -/
def wfGroup (n : Nat) : Bool := decide (n < 32)
/-- An event source (R521). -/
def wfSource (n : Nat) : Bool := decide (n < 1024)
/-- A lock (R197). -/
def wfLock (n : Nat) : Bool := decide (n < 4096)
/-- A lane quad. -/
def wfQuad (n : Nat) : Bool := decide (n < 12)
/-- A host ring (R341). -/
def wfRing16 (n : Nat) : Bool := decide (n < 16)
/-- A CAN channel. -/
def wfCan (n : Nat) : Bool := decide (n < 24)
/-- A DRAM requester port (R426). -/
def wfDdrPort (n : Nat) : Bool := decide (n < 8)
/-- A DRAM channel. -/
def wfChan (n : Nat) : Bool := decide (n < 4)
/-- A DRAM bank (R420). -/
def wfBank (n : Nat) : Bool := decide (n < 16)
/-- A fabric address (R447). -/
def wfDev (n : Nat) : Bool := decide (n < 16)
/-- A debug register (R535). -/
def wfDbgReg (n : Nat) : Bool := decide (n < 72)
/-- A master (R198). -/
def Master.wf : Master → Bool
  | .host | .debug => true
  | .keeper k => wfKeeper k
  | .fabric d => wfDev d
  | .ctx c => wfCtx c
/-- A route (R467). -/
def Route.wf : Route → Bool
  | .host h => wfPair h
  | .indirect h _ _ _ => wfPair h
  | .inBand src => decide (src.length = 6)
  | .fabric d => wfDev d
/-- The fields of a command packet fit their widths (R464). -/
def CmdReq.wf (q : CmdReq) : Bool :=
  q.route.wf && decide (q.version < 16) && decide (q.status < 256) && decide (q.len < 65536) && decide (q.authIdx < 16)
/-- A frame names a port. -/
def RxFrame.wf (r : RxFrame) : Bool := wfPort r.port

/-- The operands of a command lie in their ranges. -/
def Instr.wf : Instr → Bool
  | .cmdGetFeatures q => CmdReq.wf q
  | .registerWrite m off _ => Master.wf m && wfOff off
  | .readClear m off => Master.wf m && wfOff off
  | .counterLoRead m off => Master.wf m && wfOff off
  | .misalignedAccess m off _ _ => Master.wf m && wfOff off
  | .fwOwnWrite m _ => Master.wf m
  | .logRearm m off _ => Master.wf m && wfOff off
  | .paceWindowEnd _ => true
  | .samplerRotate p => wfPack p
  | .sampledTurnOverCeil p _ => wfPack p
  | .avsWriteVout _ => true
  | .avsReadVout _ _ => true
  | .paceEnable m _ => Master.wf m
  | .paceDisable m _ => Master.wf m
  | .paceManualSet m _ => Master.wf m
  | .paceManualClear m _ => Master.wf m
  | .turnCeilWrite m _ => Master.wf m
  | .wheelTurn e => wfEng e
  | .nop c _ => wfCtx c
  | .brk c _ => wfCtx c
  | .add c _ => wfCtx c
  | .sub c _ => wfCtx c
  | .adc c _ => wfCtx c
  | .sbc c _ => wfCtx c
  | .addi c _ => wfCtx c
  | .subi c _ => wfCtx c
  | .mov c _ => wfCtx c
  | .movi c _ => wfCtx c
  | .andR c _ => wfCtx c
  | .orR c _ => wfCtx c
  | .xorR c _ => wfCtx c
  | .andi c _ => wfCtx c
  | .ori c _ => wfCtx c
  | .xori c _ => wfCtx c
  | .cmp c _ => wfCtx c
  | .cmpi c _ => wfCtx c
  | .tst c _ => wfCtx c
  | .notR c _ => wfCtx c
  | .neg c _ => wfCtx c
  | .shl c _ => wfCtx c
  | .shr c _ => wfCtx c
  | .sar c _ => wfCtx c
  | .rol c _ => wfCtx c
  | .ror c _ => wfCtx c
  | .shli c _ => wfCtx c
  | .shri c _ => wfCtx c
  | .sari c _ => wfCtx c
  | .mul c _ => wfCtx c
  | .muls c _ => wfCtx c
  | .ld c _ => wfCtx c
  | .st c _ => wfCtx c
  | .ldi c _ => wfCtx c
  | .inp c _ => wfCtx c
  | .outp c _ => wfCtx c
  | .inr c _ => wfCtx c
  | .outr c _ => wfCtx c
  | .jmp c _ => wfCtx c
  | .bcc c _ => wfCtx c
  | .jmpr c _ => wfCtx c
  | .call c _ => wfCtx c
  | .callr c _ => wfCtx c
  | .ret c _ => wfCtx c
  | .mtc c _ => wfCtx c
  | .mfc c _ => wfCtx c
  | .crcb c _ => wfCtx c
  | .par c _ => wfCtx c
  | .popc c _ => wfCtx c
  | .brev c _ => wfCtx c
  | .bswap c _ => wfCtx c
  | .ext c _ => wfCtx c
  | .ins c _ => wfCtx c
  | .mfsp c _ => wfCtx c
  | .mtsp c _ => wfCtx c
  | .fork c _ => wfCtx c
  | .join c _ => wfCtx c
  | .endCtx c _ => wfCtx c
  | .kill c _ => wfCtx c
  | .waith c _ => wfCtx c
  | .waitev c _ => wfCtx c
  | .tret c _ => wfCtx c
  | .emitGo c _ => wfCtx c
  | .drop c _ => wfCtx c
  | .delay c _ => wfCtx c
  | .release c _ => wfCtx c
  | .packRst m p _ => Master.wf m && wfPack p
  | .packRstComplete p => wfPack p
  | .engRst m e _ => Master.wf m && wfEng e
  | .engRstComplete e => wfEng e
  | .deadlockDetect e => wfEng e
  | .engWake m e _ => Master.wf m && wfEng e
  | .jobStart e slot => wfEng e && wfBit slot
  | .hashH0 c _ => wfCtx c
  | .hashH1 c _ => wfCtx c
  | .hashH0H1 c _ => wfCtx c
  | .crcSteps c _ => wfCtx c
  | .checksum c _ => wfCtx c
  | .aesEnc c _ => wfCtx c
  | .aesDec c _ => wfCtx c
  | .gcmEnc c _ => wfCtx c
  | .gcmDec c _ => wfCtx c
  | .ghash c _ => wfCtx c
  | .gcmTag c _ => wfCtx c
  | .cmacUpd c _ => wfCtx c
  | .cmacFin c _ => wfCtx c
  | .lookupRead c _ => wfCtx c
  | .lookupLearn c _ => wfCtx c
  | .lookupInsert c _ => wfCtx c
  | .lookupDelete c _ => wfCtx c
  | .dmaGet c _ => wfCtx c
  | .dmaPut c _ => wfCtx c
  | .helperComplete _ _ => true
  | .leashAcquire m i _ => Master.wf m && wfLock i
  | .leashRelease m i _ => Master.wf m && wfLock i
  | .leashStallTimeout i _ => wfLock i
  | .leashGrpAccWrite m off _ => Master.wf m && wfOff off
  | .memoryWordLockAcquire c _ => wfCtx c
  | .frameReceive r => RxFrame.wf r
  | .canFrameReceive n _ _ => wfCan n
  | .frameAdmit port cls => wfPort port && wfClass cls
  | .pfcRefresh port cls => wfPort port && wfClass cls
  | .placement q => wfQueue q
  | .parkExpire _ => true
  | .steal sh => wfShard sh
  | .fetchSlotEnter e slot _ => wfEng e && wfBit slot
  | .recall e slot => wfEng e && wfBit slot
  | .scentTimeMarker => true
  | .scentRecordWrite => true
  | .scentEnable m _ => Master.wf m
  | .delayTick => true
  | .dueJobEnqueue sh => wfShard sh
  | .heldCommit c => wfCtx c
  | .holeTimeout od => wfOd od
  | .tblGeomWrite m off _ => Master.wf m && wfOff off
  | .tblInit m t _ => Master.wf m && wfTable t
  | .tblInitDone t => wfTable t
  | .tblEpvWrite m t _ => Master.wf m && wfTable t
  | .updateUnitApply _ => true
  | .agingVisit t => wfTable t
  | .cacheFlush m _ => Master.wf m
  | .cacheFlushDone => true
  | .tdmaRead r _ => wfPair r
  | .tdmaInsert r _ => wfPair r
  | .tdmaDelete r _ => wfPair r
  | .writeSlot r _ => wfPair r
  | .lockBucket r _ => wfPair r
  | .unlockBucket r _ => wfPair r
  | .ringPiWrite m off _ => Master.wf m && wfOff off
  | .ringEnable m off _ => Master.wf m && wfOff off
  | .knAlloc c _ => wfCtx c
  | .knFree c _ => wfCtx c
  | .knPoolWrite m off _ => Master.wf m && wfOff off
  | .portQuadWrite m q _ => Master.wf m && wfQuad q
  | .pfcFrameReceive port _ _ => wfPort port
  | .pauseFrameReceive port _ => wfPort port
  | .pauseExpire port cls => wfPort port && wfClass cls
  | .linkChange port _ _ => wfPort port
  | .alignmentMarker x _ => wfEgress x
  | .canTransmit n _ => wfCan n
  | .canBusoffRecovery n => wfCan n
  | .h2dDescriptor q => wfRing16 q
  | .d2hDescriptor q => wfRing16 q
  | .mdioRun m i _ => Master.wf m && wfBit i
  | .mdioRunDone i _ => wfBit i
  | .mtrCfgWrite m off _ => Master.wf m && wfOff off
  | .egressEnqueue _ => true
  | .egressSelect x => wfEgress x
  | .transmitEnd x _ => wfEgress x
  | .portDisable m port _ => Master.wf m && wfPort port
  | .gateEntry x => wfEgress x
  | .gclCommit m x _ => Master.wf m && wfEgress x
  | .gclSwitch x => wfEgress x
  | .tbclkLossOfLock => true
  | .srcRet m _ => Master.wf m
  | .tbAdjStep m d _ => Master.wf m && wfDomain d
  | .tbAdjSet m d _ => Master.wf m && wfDomain d
  | .tbSnap m _ => Master.wf m
  | .tbrFrLoRead c _ => wfCtx c
  | .txtsHdrRead m x => Master.wf m && wfEgress x
  | .ppsOut => true
  | .ppsPulseEnd => true
  | .ppsInEdge => true
  | .train m i _ => Master.wf m && wfBit i
  | .trainingDone i _ _ => wfBit i
  | .ddrOpenWrite m i _ => Master.wf m && wfBit i
  | .regulatorEntry i p => wfBit i && wfDdrPort p
  | .dramRequestIssue i k => wfBit i && wfChan k.ch
  | .dramReadComplete i ch _ => wfBit i && wfChan ch
  | .refresh i ch bank => wfBit i && wfChan ch && wfBank bank
  | .writeTracking i ch _ => wfBit i && wfChan ch
  | .idleTrackingRead i ch _ => wfBit i && wfChan ch
  | .ddrErrPopRead m => Master.wf m
  | .helloSend q => wfQuad q
  | .helloReceive q _ => wfQuad q
  | .helloTimeout q => wfQuad q
  | .lossOfBlockLock q => wfQuad q
  | .linkStateRecord q _ => wfQuad q
  | .recordFlood => true
  | .routeRecompute => true
  | .election => true
  | .fabricFrameReceive q _ _ => wfQuad q
  | .creditUpdate q _ => wfQuad q
  | .fabricLeashAccess d off _ => wfDev d && wfOff off
  | .cmdRegRead q => CmdReq.wf q
  | .cmdRegWrite q => CmdReq.wf q
  | .cmdAuthKeySet q => CmdReq.wf q
  | .cmdSysReset q => CmdReq.wf q
  | .cmdMacsecSecy q => CmdReq.wf q
  | .cmdMacsecRxsc q => CmdReq.wf q
  | .cmdMacsecSa q => CmdReq.wf q
  | .cmdTblOps q => CmdReq.wf q
  | .cmdProgLoad q => CmdReq.wf q
  | .cmdPackDrain q => CmdReq.wf q
  | .packDrainComplete => true
  | .cmdPackResume q => CmdReq.wf q
  | .cmdProgDrop q => CmdReq.wf q
  | .cmdFabForward q => CmdReq.wf q
  | .fabForwardTimeout => true
  | .cmdCfgStage q => CmdReq.wf q
  | .cmdCfgCommit q => CmdReq.wf q
  | .cmdCfgAbort q => CmdReq.wf q
  | .cmdCfgStatus q => CmdReq.wf q
  | .whistleGo m go => Master.wf m && wfBlock go.block && decide (go.dst < 16) && decide (go.words.length ≤ 16)
  | .whistleTake m b => Master.wf m && wfBlock b
  | .whistleTimeout b => wfBlock b
  | .h2kBlockTake h => wfPair h
  | .k2hPost h => wfPair h
  | .inBandCommand _ => true
  | .pcieLinkDown => true
  | .keeperLockstepMismatch k => wfKeeper k
  | .keeperRestart k => wfKeeper k
  | .porstN _ => true
  | .sysrstN _ => true
  | .selfReset _ => true
  | .bootStart _ => true
  | .cmdImgDownload q => CmdReq.wf q
  | .sysBootCtrlDone m _ => Master.wf m
  | .sysBootCtrlFail m _ => Master.wf m
  | .watchdogExpiry => true
  | .kick m _ => Master.wf m
  | .cmdSurveyRun q _ => CmdReq.wf q
  | .cmdSurveyGet q => CmdReq.wf q
  | .cmdFlashRead q => CmdReq.wf q
  | .cmdFlashErase q => CmdReq.wf q
  | .cmdFlashWrite q _ => CmdReq.wf q
  | .cmdImgVerify q => CmdReq.wf q
  | .evStatusWrite m g _ => Master.wf m && wfGroup g
  | .evEnableWrite m g _ => Master.wf m && wfGroup g
  | .evRouteWrite m src _ => Master.wf m && wfSource src
  | .evSwRaise m _ => Master.wf m
  | .evRaise c _ => wfCtx c
  | .msixConditionsRestored _ _ _ host => host.table.all fun p => decide (p.1 < 64)
  | .fatalError _ _ _ => true
  | .errPopRead m => Master.wf m
  | .dbgacc off _ _ => wfOff off
  | .dbgSessionAttach m _ => Master.wf m
  | .dbgSessionDetach m _ _ => Master.wf m
  | .halt m _ => Master.wf m
  | .resume m _ => Master.wf m
  | .step m _ => Master.wf m
  | .abortDbg m _ => Master.wf m
  | .dbgRegAccess m n _ _ => Master.wf m && wfDbgReg n
  | .metRecordPeriod _ _ => true
  | .adcFault => true
  | .sealNEdge _ => true
  | .cmdMetInfo q => CmdReq.wf q
  | .cmdMetRead q => CmdReq.wf q
  | .cmdMetOffer q => CmdReq.wf q
  | .metOfferJudge _ _ _ => true
  | .metRstN _ => true
  | .vddMetPowerUp _ => true
  | .mirrorRefill => true
  | .tbclkLock => true
  | .controlFrameReceive q _ _ => wfQuad q
  | .vddMetLoss => true
  | .adcAnswering => true
  | .metOfferTimeout => true
  | .gpioInputChange _ => true

end Sys2Proof
end

