-- ==== Sys2Proof/Tests/Slice0.lean ====
section
/-! SUPPORT. The model's own tests: states and operands that meet the hypotheses of every statement, clause by clause, an
ill-formed command for every check of WellFormed, and small tests of one step whose expected values are worked from the
spec. -/

namespace Sys2Proof.Tests

set_option Elab.async false

open Sys2Proof Sys2Proof.Machine

/-- The next state of an outcome satisfies a test. -/
def nextIs (o : Out) (p : State → Bool) : Bool :=
  match o with
  | .next t => p t
  | _ => false

/-- Operands of a W-width form. -/
def ow (d s : Nat) (imm : Nat := 0) : Operands :=
  { h := false, w := true, sh := false, cx := false, br := false, acq := false, rel := false, d := BitVec.ofNat 4 d,
    s := BitVec.ofNat 4 s, x := 0, m := 0, imm := W imm, mask := 0 }

/-- A live context. -/
def live : Ctx := { live := true, pc := 0x100, g := [(1, 7), (2, 3), (14, 0x7000)] }

/-- Context 9 as given has issued an instruction of 2 bytes. -/
def issues (op : EOp) (o : Operands) (x : Ctx := live) (s : State := State.reset) : State :=
  (s.setCtx 9 x).setEng 1 { Eng.idle with issue := some ⟨9, op, o, 2⟩ }

/-- Registers at given values. -/
def withRegs (l : List (Nat × Word)) (s : State := State.reset) : State := l.foldl (fun t p => t.setReg p.1 p.2) s

/-! ### Engine instructions -/

theorem witness_StepRunsFrontCommand :
    ({ State.reset with pending := [.halt .host 0, .recordFlood] }).pending = [.halt .host 0, .recordFlood] := by decide

theorem witness_ArithmeticAndLogicAtTheWidth :
    ∀ op ∈ [EOp.add, .adc, .sub, .sbc, .and, .or, .xor, .not, .neg, .cmp, .tst, .mov, .addi, .subi, .andi, .ori, .xori,
        .cmpi, .movi],
      (issues op (ow 1 2)).issued op 9 (ow 1 2) = some 2 := by decide +kernel

theorem witness_ShiftsAndRotatesMoveEveryBit :
    ∀ op ∈ [EOp.shl, .shr, .sar, .rol, .ror, .shli, .shri, .sari],
      (issues op (ow 1 2 31)).issued op 9 (ow 1 2 31) = some 2 := by decide +kernel

theorem witness_ProductsGoToMhiMlo :
    ∀ op ∈ [EOp.mul, .muls], (issues op (ow 1 2)).issued op 9 (ow 1 2) = some 2 := by decide +kernel

/-- EXT and INS take bits 24 to 31 of a word: pos 24, len 8, at the top of the width. -/
theorem witness_BitSpecialLaneAndCrcInstructions :
    (∀ op ∈ [EOp.par, .popc, .brev, .bswap, .mtc], (issues op (ow 1 2)).issued op 9 (ow 1 2) = some 2) ∧
    (∀ op ∈ [EOp.ext, .ins], (issues op (ow 1 2 0x718)).issued op 9 (ow 1 2 0x718) = some 2) ∧
    getF (ow 1 2 0x718).imm 4 0 + (getF (ow 1 2 0x718).imm 12 8 + 1) ≤ (ow 1 2 0x718).bits ∧
    (∀ k < 7, (issues .mfsp (ow 1 k)).issued .mfsp 9 (ow 1 k) = some 2) ∧
    (∀ k < 7, (issues .mtsp (ow k 1)).issued .mtsp 9 (ow k 1) = some 2) ∧
    ((issues .mfc (ow 12 2)).issued .mfc 9 (ow 12 2) = some 2 ∧ (ow 12 2).d.toNat ≤ 12) ∧
    ((issues .crcb (ow 1 2)).issued .crcb 9 (ow 1 2) = some 2 ∧
      ((issues .crcb (ow 1 2)).ctx 9).crcCfg.toNat % 4 ≠ 3) := by decide +kernel

/-- A stack with room for the link word and two registers, and one without. -/
def calls (op : EOp) (m : BitVec 16) (sp : Nat) (lim : BitVec 16 := 0) (s : State := State.reset) : State :=
  issues op { ow 0 2 0x200 with mask := m } { live with g := [(14, W sp)], spLim := lim } s

theorem witness_BranchesJumpsAndCalls :
    (∀ op ∈ [EOp.nop, .jmp, .jmpr], (issues op (ow 1 2)).issued op 9 (ow 1 2) = some 2) ∧
    (∀ k < 15, (issues .bcc (ow 0 k)).issued .bcc 9 (ow 0 k) = some 2) ∧
    (∀ op ∈ [EOp.call, .callr], (calls op 6 0x7000).issued op 9 { ow 0 2 0x200 with mask := 6 } = some 2) ∧
    ((calls .call 6 0x7000).greg 9 14).toNat % 4 = 0 ∧ ((calls .call 6 0x7000).greg 9 14).toNat ≤ 0x8000 ∧
    ((calls .call 6 0x7000).ctx 9).spLim.toNat + 12 ≤ ((calls .call 6 0x7000).greg 9 14).toNat ∧
    ((calls .ret 6 0x7000).issued .ret 9 { ow 0 2 0x200 with mask := 6 } = some 2 ∧
      (calls .ret 6 0x7000).hub.flips = [] ∧ 0x7000 + 4 * (16 + 1) ≤ 0x8000) := by decide +kernel

/-- The pack's handler is valid. -/
def handler : State := withRegs [(Reg.PACK_TRAP 0, 0x80000040)]

/-- An operand form of 4 bytes at G1, whose value 7 is no multiple of 4. -/
theorem witness_TrapsBreakpointsAndReturns :
    TrapReady (issues .brk (ow 0 0) live handler) 9 ∧
    ((issues .brk (ow 0 0) live handler).issued .brk 9 (ow 0 0) = some 2 ∧
      (issues .brk (ow 0 0) live handler).flag Reg.DBG_SESSION 0 = false) ∧
    ((issues .tret (ow 0 0) live handler).issued .tret 9 (ow 0 0) = some 2) ∧
    (∀ op ∈ [EOp.ld, .st], (issues op (ow 3 1) live handler).issued op 9 (ow 3 1) = some 2 ∧
      ((issues op (ow 3 1) live handler).ea 9 (ow 3 1)).1 % (ow 3 1).size ≠ 0) ∧
    (∀ op ∈ [EOp.call, .callr, .ret], (calls op 6 0x7002 0 handler).issued op 9 { ow 0 2 0x200 with mask := 6 } = some 2 ∧
      ((calls op 6 0x7002 0 handler).greg 9 14).toNat % 4 ≠ 0) ∧
    (∀ op ∈ [EOp.call, .callr], (calls op 6 0x7000 0x6FF8 handler).issued op 9 { ow 0 2 0x200 with mask := 6 } = some 2 ∧
      ((calls op 6 0x7000 0x6FF8 handler).greg 9 14).toNat <
        ((calls op 6 0x7000 0x6FF8 handler).ctx 9).spLim.toNat + 4 * (2 + 1)) ∧
    ((issues .brk (ow 0 0) live (withRegs [(Reg.DBG_SESSION, 1)])).flag Reg.DBG_SESSION 0 = true) ∧
    ((issues .tret (ow 0 0) { live with trapNest := true }).issued .tret 9 (ow 0 0) = some 2) := by
  refine ⟨⟨?_, ?_⟩, ?_⟩ <;> decide +kernel

/-- A load or store of 4 bytes whose address is in G1. -/
def access (op : EOp) (a : Nat) (s : State := State.reset) : State := issues op (ow 3 1) { live with g := [(1, W a)] } s

theorem witness_LoadsReadTheDataSpace :
    (∀ a ∈ [0x0, 0x7FFC, 0x8000, 0xBFFC, 0xC000, 0xDFFC, 0xE000, 0xF000, 0xF0FC],
      (access .ld a).issued .ld 9 (ow 3 1) = some 2 ∧ ((access .ld a).ea 9 (ow 3 1)).1 = a ∧ (ow 3 1).m.toNat < 4 ∧
      isMwLock (ow 3 1) a = false ∧ a % (ow 3 1).size = 0 ∧ regionOf a ≠ .reserved) ∧
    (regionOf 0xF400 = .reserved ∧ ((access .ld 0xF400).ea 9 (ow 3 1)).1 = 0xF400 ∧
      (access .ld 0xF400).flag (Reg.PACK_CFG (packOf 9)) 8 = false) ∧
    ((access .ldi 0xFFFE).issued .ldi 9 (ow 3 1) = some 2 ∧ (access .ldi 0xFFFE).hub.flips = []) := by decide +kernel

theorem witness_StoresWriteTheirBytes :
    (∀ p ∈ [(0x7FFC, Region.local_), (0xF0FC, .scratch), (0xBFFC, .psm), (0xDFFC, .csm), (0xF400, .reserved)],
      (access .st p.1).issued .st 9 (ow 3 1) = some 2 ∧ ((access .st p.1).ea 9 (ow 3 1)).1 = p.1 ∧ regionOf p.1 = p.2 ∧
      p.1 % (ow 3 1).size = 0 ∧ packOf 9 < 32 ∧ Tab.get [] (access .st p.1).leash.mwq (packOf 9) = [] ∧
      Tab.get [] (access .st p.1).leash.mwq 32 = []) ∧
    (regionOf 0xE000 = .hdr ∧
      ((issues .st (ow 3 1) { live with g := [(1, 0xE000)], job := some 4 }).ctx 9).job = some 4) := by decide +kernel

/-! ### Ports, contexts, the job channel, helpers, the Kennel and the Leash as engines reach them -/

/-- IN, INR, OUT and OUTR of a port by context 9; the value written stands in G2 (OUT) and G2 (OUTR, the port in G1). -/
def viaIn (p : Nat) (x : Ctx := live) (s : State := State.reset) : State := issues .inp (ow 1 2 p) x s
def viaInr (p : Nat) : State := issues .inr (ow 1 2) { live with g := [(2, W p)] }
def viaOut (p v : Nat) (x : Ctx := live) (s : State := State.reset) : State := issues .outp (ow 1 2 p) { x with g := [(2, W v)] } s
def viaOutr (p v : Nat) : State := issues .outr (ow 1 2) { live with g := [(1, W p), (2, W v)] }

/-- Bounds of the reserved and of the Kennel's port numbers are tried with each form. -/
theorem witness_PortReadsAndWrites :
    (∀ p ∈ [0x0000, 0x0001, 0x0002, 0x0003, 0x0004, 0x0005, 0x0006, 0x0007, 0x0100, 0x0101, 0x0110, 0x0114, 0x01F0, 0x0200,
        0x0201, 0x0202, 0x0207, 0x0210, 0x0212, 0x0300, 0x033F, 0x0340, 0x0341, 0x0342, 0x2000, 0x2081, 0x2085, 0x0008, 0x00FF,
        0x0213, 0x02FF, 0x3000, 0xFFFF],
      ((viaIn p).issued .inp 9 (ow 1 2 p) = some 2 ∧ (ow 1 2 p).imm.toNat % 65536 = p) ∧
      ((viaInr p).issued .inr 9 (ow 1 2) = some 2 ∧ ((viaInr p).greg 9 (regNo (ow 1 2) (ow 1 2).s)).toNat % 65536 = p) ∧
      (viaIn p).flag (Reg.PACK_CFG (packOf 9)) 8 = false) ∧
    (∀ p ∈ [0x0000, 0x0001, 0x0002, 0x0003, 0x0004, 0x0005, 0x0006, 0x0007, 0x0100, 0x0101, 0x01F0, 0x0200, 0x0201, 0x0202,
        0x0340, 0x0341, 0x0342, 0x2000, 0x2080, 0x2081, 0x2082, 0x2085, 0x0008, 0x00FF, 0x0213, 0x02FF, 0x3000, 0xFFFF],
      OutOf (viaOut p 5) 9 (ow 1 2 p) 2 p ∧ OutOf (viaOutr p 5) 9 (ow 1 2) 2 p) ∧
    InOf (viaIn 0x2080) 9 (ow 1 2 0x2080) 2 0x2080 := by
  unfold OutOf InOf; decide +kernel

/-- Context 10 is a child of context 9; every other context of engine 1 is taken in `fullEng`. -/
def family (op : EOp) (s : State := State.reset) : State :=
  issues op (ow 1 2 0x200) live (s.setCtx 10 { live with parent := some 9 })

def fullEng : State := [8, 10, 11, 12, 13, 14, 15].foldl (fun t k => t.setCtx k live) State.reset

theorem witness_ContextInstructions :
    ((issues .fork (ow 1 2 0x200) live fullEng).issued .fork 9 (ow 1 2 0x200) = some 2 ∧
      (issues .fork (ow 1 2 0x200) live fullEng).allocNum 1 false = none) ∧
    ((family .fork).issued .fork 9 (ow 1 2 0x200) = some 2 ∧ (family .fork).allocNum 1 false = some 0) ∧
    (∀ op ∈ [EOp.join, .kill], (family op).issued op 9 (ow 1 2 0x200) = some 2 ∧
      ((family op).ctx 10).live = true ∧ ((family op).ctx 10).parent = some 9 ∧
      9 / 8 * 8 + (W 0x1A).toNat % 8 = 10 ∧ ((family op).ctx 10).job = ((family op).ctx 9).job) ∧
    (∀ op ∈ [EOp.join, .kill], (issues op (ow 1 2)).issued op 9 (ow 1 2) = some 2 ∧
      ((issues op (ow 1 2)).ctx 11).live = false) ∧
    ((issues .endc (ow 1 2)).issued .endc 9 (ow 1 2) = some 2 ∧ ((issues .endc (ow 1 2)).ctx 9).job = none) ∧
    (∀ op ∈ [EOp.waith, .waitev], (issues op (ow 1 2)).issued op 9 (ow 1 2) = some 2) := by decide +kernel

/-- Jobs 4 and 5 in order domain 7: 4 is the head and runs, 5 is the job of context 9. -/
def twoJobs : State :=
  (State.reset.setJob 4 { place := .running, od := 7 }).setJob 5
    { place := .running, od := 7, seq := 1, len := 64, hdr := [(0, 1)] }

/-- Context 9 with job 5, EMIT_DST the host port, EMIT_HDR `h`. -/
def worker (h : Word := 0x4000) : Ctx := { live with job := some 5, emitDst := 97, emitHdr := h, g := [(2, 0)] }

theorem twoJobs_idle (p v : Nat) (x : Ctx) : HerdIdle (viaOut p v x twoJobs) 7 5 := by
  refine ⟨fun q (h : q ∈ []) => (nomatch h), ?_, 4, ?_⟩
  · rfl
  · exact ⟨rfl, by decide, rfl, rfl, rfl, rfl⟩

theorem witness_JobChannelAndItsMisuse :
    (∀ p ∈ [0x207, 0x210, 0x211, 0x212], OutOf (viaOut p 0x100 worker twoJobs) 9 (ow 1 2 p) 2 p) ∧
    (let s := viaOut 0x207 0x100 worker twoJobs
     (s.ctx 9).job = some 5 ∧ (s.ctx 9).live = true ∧ HerdIdle s 7 5 ∧ (s.job 5).od = 7 ∧ (s.job 5).retired = false ∧
      (s.job 5).passed = false ∧ (s.job 5).released = false ∧ (s.job 5).hole = false ∧
      s.emitDest (s.job 5) (s.ctx 9).emitDst = .port 97 [] ∧
      getF (s.ctx 9).emitHdr 7 0 + getF (s.ctx 9).emitHdr 16 8 ≤ 256 ∧ (s.job 5).commits < 16 ∧ 0 < s.storeFree ∧
      (s.buildOut 9 5 97 [] false).len = 128 ∧ s.running = true ∧ (W 0x100).getLsbD 0 = false ∧ s.herd.outs = [] ∧
      (s.job 5).emitted = false ∧ (s.job 5).freed = false ∧ (s.job 5).left = false ∧ s.jobCtxs 5 = [9] ∧
      (s.ctx 9).wait = .none ∧ (s.job 5).commits = 0 ∧ getF (W 0x100) 23 0 = 0x100 ∧ s.dlyUsed < 16384) ∧
    (let s := viaOut 0x207 0 { worker with wait := .store false } twoJobs
     (s.ctx 9).wait = .store false ∧ s.running = true ∧ HerdIdle s 7 5) ∧
    (∀ p ∈ [0x207, 0x210, 0x211, 0x212],
      let s := viaOut p 1 worker ((withRegs [(Reg.PACK_TRAP 0, 0x80000040)]).setJob 5 { retired := true })
      OutOf s 9 (ow 1 2 p) 2 p ∧ (s.ctx 9).job = some 5 ∧ (s.job 5).retired = true ∧ TrapReady s 9) := by
  refine ⟨by unfold OutOf; decide +kernel, ?_, ?_, by unfold OutOf TrapReady; decide +kernel⟩
  · refine ⟨by decide +kernel, by decide +kernel, twoJobs_idle _ _ _, ?_⟩; decide +kernel
  · exact ⟨by decide +kernel, by decide +kernel, twoJobs_idle _ _ _⟩

/-- A command of each unit: its port and a control word that passes the check. -/
def hlpWords : List (Nat × HlpKind × Nat) :=
  [(0x110, .hash, 0x100), (0x110, .hash, 0x101), (0x110, .hash, 0x102), (0x111, .crc, 0x100), (0x111, .crc, 0x101),
   (0x112, .aes, 0), (0x112, .aes, 1), (0x112, .aes, 2), (0x112, .aes, 3), (0x112, .aes, 4), (0x112, .aes, 5), (0x112, .aes, 6),
   (0x112, .aes, 7), (0x114, .dma, 0x1000000), (0x114, .dma, 0x1000001)]

/-- Table 0 is READY, and enabled in epoch 0. -/
def oneTable : State := withRegs [(Reg.TBL_CTRL 0, 9)]

def hlpCmd (k : HlpKind) : HlpCmd := { (default : HlpCmd) with ctx := 9, gen := 0, kind := k, word := 0x10100, stage := .running }

def onHlp (k : HlpKind) : State := { State.reset with help := { next := 1, cmds := [hlpCmd k] } }

theorem witness_HelperCommandsRunAndLand :
    (∀ r ∈ hlpWords, let s := viaOut r.1 r.2.2
      OutOf s 9 (ow 1 2 r.1) 2 r.1 ∧ (s.ctx 9).hlpBusy = false ∧ (s.ctx 9).tclass = false ∧ s.chip.part ≠ .lrv2560 ∧
      (r.2.1 = .dma → getF (W r.2.2) 25 24 ≠ 0) ∧ s.hlpCheck 9 r.2.1 (W r.2.2) = 0) ∧
    (∀ op < 4, OutOf (viaOut 0x113 op live oneTable) 9 (ow 1 2 0x113) 2 0x113 ∧
      (viaOut 0x113 op live oneTable).hlpCheck 9 .lookup (W op) = 0) ∧
    (∀ op < 4, let s := viaOut 0x113 op
      OutOf s 9 (ow 1 2 0x113) 2 0x113 ∧ (W op).toNat % 16 = op ∧ s.hlpCheck 9 .lookup (W op) ≠ 0) ∧
    (let s := viaOut 0x112 0 live { State.reset with chip := { Chip.reset with part := .lrv2560 } }
     OutOf s 9 (ow 1 2 0x112) 2 0x112 ∧ s.chip.part = .lrv2560 ∧ (s.ctx 9).hlpBusy = false) ∧
    (let s := viaOut 0x110 0 { live with hlpBusy := true } handler
     OutOf s 9 (ow 1 2 0x110) 2 0x110 ∧ (s.ctx 9).hlpBusy = true ∧ TrapReady s 9) ∧
    (∀ k ∈ [HlpKind.hash, .crc, .aes], (onHlp k).running = true ∧
      (onHlp k).help.cmds.find? (fun y => y.id == (hlpCmd k).id) = some (hlpCmd k) ∧ (onHlp k).hlpReady (hlpCmd k) = true) := by
  unfold OutOf TrapReady; decide +kernel

/-- A unit is free and no command waits; or the one AES path of pack 0 is taken. -/
theorem witness_HelperUnits :
    ((hlpWords.all fun r => (List.range 6).all fun g =>
      (viaOut r.1 r.2.2).unitFree 0 g { hlpCmd r.2.1 with stage := .waiting } && ((viaOut r.1 r.2.2).hlpNext 0 g).isNone) = true) ∧
    (onHlp .aes).unitFree 0 2 (hlpCmd .aes) = false := by
  decide +kernel

/-- Pool 3 holds the cells 8 to 11, its cursor at 9; cell 9 is in use. -/
def pool3 : State :=
  { withRegs [(Reg.KN_POOL_BASE 3, 8), (Reg.KN_POOL_SIZE 3, 4), (Reg.KN_FREE_CNT 3, 3), (Reg.KN_CURSOR 3, 9)] with
    kn := { state := [(9, true)] } }

/-- FW_OWN is 0. -/
def hostOwns : State := withRegs [(Reg.SYS_OWN, 0)]

theorem witness_KennelPortsAndPools :
    (∀ v ∈ [0, 1, 4], OutOf (viaOut 0x303 v live pool3) 9 (ow 1 2 0x303) 2 (0x300 + 3)) ∧
    (let s := viaOut 0x303 1 live pool3
     s.poolFree 3 < (W 4).toNat % 64 ∧ 1 ≤ s.poolFree 3 ∧ s.poolBase 3 + s.poolSize 3 ≤ 196608 ∧
      s.poolBase 3 ≤ s.fld (Reg.KN_CURSOR 3) 17 0 ∧ s.fld (Reg.KN_CURSOR 3) 17 0 = 9 ∧ s.cellUsed 9 = true ∧
      s.cellUsed 10 = false ∧ 10 < s.poolBase 3 + s.poolSize 3) ∧
    (∀ h ∈ [8, 9, 11], let s := viaOut 0x323 h live pool3
      OutOf s 9 (ow 1 2 0x323) 2 (0x320 + 3) ∧ (W h).getLsbD 31 = false ∧ s.poolBase 3 ≤ h ∧
      h < s.poolBase 3 + s.poolSize 3 ∧ (s.cellUsed h = true ↔ h = 9) ∧ s.poolFree 3 < 196608) ∧
    (∀ m ∈ [Master.host, .debug, .keeper 1], CanWrite hostOwns m (Reg.KN_POOL_BASE 31) ∧
      CanWrite hostOwns m (Reg.KN_POOL_SIZE 31)) ∧
    State.reset.knPoolRefused 31 196607 1 = (false, false) ∧ (State.reset.knPoolRefused 31 196607 2).1 = true ∧
    pool3.poolFree 3 ≠ pool3.poolSize 3 := by
  unfold OutOf CanWrite; (repeat' apply And.intro) <;> decide +kernel

/-- Lock 4095 is open to pack 0 and the bus masters, with a timeout of 1 unit. -/
def lockable (l : Lock := {}) : State :=
  (withRegs [(Reg.LEASH_GRP_ACC_LO 63, 0xFFFFFFFF), (Reg.LEASH_GRP_ACC_HI 63, 0x1D), (Reg.LEASH_GRP_TMO 63, 1)]).setLock 4095 l

theorem witness_LocksOfEnginesAndBusMasters :
    (∀ l ∈ [({} : Lock), { owner := 0x1009 }, { owner := 0x100A }],
      let s := viaIn 0x1FFF live (lockable l)
      s.issued .inp 9 (ow 1 2 0x1FFF) = some 2 ∧ (ow 1 2 0x1FFF).imm.toNat % 65536 = 0x1000 + 4095 ∧
      s.leashAcc 63 (0x1000 + 9) = true ∧ 0 < s.fld (Reg.LEASH_GRP_TMO 63) 19 0 ∧ s.lock 4095 = l) ∧
    ((viaOut 0x1FFF 0 live (lockable { owner := 0x1009 })).issued .outp 9 (ow 1 2 0x1FFF) = some 2) ∧
    (∀ a ∈ [0x8000, 0xBFFC, 0xC000, 0xDFFC], ∀ v ∈ [0, 5],
      let o := { ow 3 1 with acq := true }
      let s := (issues .ld o { live with g := [(1, W a)] })
      let s := { s with mem := { s.mem with psm := Mem.wrN [] (psmAddr live a) 4 v, csm := Mem.wrN [] (csmAddr live a) 4 v } }
      s.issued .ld 9 o = some 2 ∧ (s.ea 9 o).1 = a ∧ isMwLock o a = true ∧ a % o.size = 0 ∧ o.m.toNat < 4 ∧ s.hub.flips = [] ∧
      (s.mwPlace 9 a).1 < 33 ∧ s.mwRead (s.mwPlace 9 a).1 (s.mwPlace 9 a).2 4 = v ∧
      (Tab.get [] s.leash.mwq (s.mwPlace 9 a).1).length < 16) ∧
    (∀ m ∈ [Master.host, .keeper 0, .debug], lockable.onBus m = true ∧ lockable.leashAcc 63 (Master.owner m) = true ∧
      (withRegs [(Reg.LEASH_GRP_ACC_HI 63, 0)]).leashAcc 63 (Master.owner m) = false ∧ (lockable { broken := true, prior := 0x1009 }).lock 4095 ≠ {}) ∧
    (let l : Lock := { owner := BitVec.ofNat 16 (Master.owner .host), queue := [⟨0x3000, 0, 128⟩] }
     ((lockable l).lock 4095).owner = BitVec.ofNat 16 (Master.owner .host) ∧
      ((lockable l).lock 4095).queue = [⟨0x3000, 0, 128⟩] ∧ (0x3000#16).toNat / 0x1000 ≠ 1 ∧
      ((lockable { l with queue := [⟨0x4003, 0, 128⟩] }).lock 4095).queue.find? (fun x => x.id == 0x4003 && decide (x.deadline ≤ 128)) =
        some ⟨0x4003, 0, 128⟩ ∧ (0x4003#16).toNat / 0x1000 = 4 ∧
      128 ≤ { lockable l with fr := 128 }.fr ∧ Master.owner .debug ≠ Master.owner .host) ∧
    (∀ n < 64, (State.reset.lock (63 * 64 + n)).queue = []) := by
  (repeat' apply And.intro) <;> decide +kernel

/-- Engine 1 has context 9 live at a NOP; the pack's code is all zeros. -/
def turning (x : Ctx := live) : State := State.reset.setCtx 9 x

theorem witness_WheelTurnsAndDeadlock :
    ((turning).wheelRuns 1 = true ∧ ((turning).eng 1).issue = none ∧ ((turning).eng 1).due = [] ∧ (turning).hub.flips = [] ∧
      (∀ c ∈ (turning).liveOf 1, ((turning).ctx c).stepWait = false) ∧ ((turning).choice 1).map (·.1) = some 9 ∧ engOf 9 = 1 ∧
      (decodeBytes ((turning).codeAt (packOf 9) ((turning).ctx 9).pc.toNat)).isSome = true) ∧
    ((turning { live with wait := .waith }).wheelRuns 1 = true ∧ (turning { live with wait := .waith }).choice 1 = none ∧
      (turning { live with wait := .waith }).stuck 1 = false) ∧
    (∀ v ∈ [0x00000001, 0x01000001],
      let s := ((withRegs [(Reg.ENG_DL_CFG 0 1, W v)]).setCtx 9 { live with wait := .waitev 1 }).setEng 1
        { Eng.idle with watch := 2 ^ 20 }
      s.deadlockDue 1 = true ∧ (s.flag (Reg.ENG_DL_CFG (1 / 16) (1 % 16)) 24 = true ↔ v = 0x01000001) ∧
      ∀ c ∈ s.liveOf 1, (s.ctx c).job = none) := by
  (repeat' apply And.intro) <;> decide +kernel

/-- Job 4 stands in Fetch slot 0 of engine 1, its copy complete; the entry of class 7 in epoch 1 is valid. -/
def fetched (f : FetchSlot := ⟨4, true, 0, false⟩) (j : Job := { cls := 7, epoch := 1, place := .slot 1 0, len := 64 }) : State :=
  ((withRegs [(Reg.PACK_ENTRY 0 15, 0x80000040), (Reg.PACK_STACK 0, 0x04008000)]).setJob 4 j).setEng 1
    { Eng.idle with fs0 := some f }

theorem witness_JobStartSetsUpTheContext :
    fetched.running = true ∧ fetched.midTurn 1 = false ∧ (fetched.eng 1).due = [] ∧ fetched.slot 1 0 = some ⟨4, true, 0, false⟩ ∧ fetched.startable 1 0 = true ∧
    fetched.startAfter 1 0 = false ∧ (fetched.allocNum 1 (fetched.job 4).tclass).isSome = true ∧ (fetched.job 4).epoch < 2 ∧
    (fetched.job 4).cls < 8 ∧ (fetched.reg (Reg.PACK_ENTRY (packOfEng 1) (1 * 8 + 7))).getLsbD 31 = true := by
  (repeat' apply And.intro) <;> decide +kernel

/-- Job 4 waits alone in queue 7 of shard 0. -/
def waiting (l : List (Nat × Word) := []) (place : Place := .queue 7) : State :=
  let s := (withRegs l).setJob 4 { cls := 7, place := place, len := 64 }
  { s with disp := { s.disp with queues := if place = .queue 7 then [(7, [4])] else [] } }

/-- Job 4 alone waits in queue 7 of shard 0 while every pack of the shard is drained. -/
def stealing : State :=
  let s := waiting [(Reg.DSP_AFF, 0x10010)]
  { s with disp := { s.disp with drained := List.range 8 } }

theorem witness_PlacementFetchAndRecall :
    waiting.running = true ∧ waiting.hub.flips = [] ∧ 7 / 8 < waiting.chip.shards ∧ waiting.parkedReady 7 = none ∧
    waiting.dq 7 = [4] ∧ (waiting.job 4).place = .queue 7 ∧ waiting.placing 4 0 (waiting.lastEng 0) = .on 0 4 ∧
    waiting.outranked 0 7 0 = false ∧ (∀ p ∈ waiting.herd.jobs, p.2.place ≠ .parked 7) ∧
    (let s := { waiting [(Reg.DSP_AFF, 16)] with mem := { State.reset.mem with flow := Mem.wrN [] 0 2 0x8001 } }
     let s := s.setEng 1 { Eng.idle with fs0 := some ⟨9, true, 0, false⟩, fs1 := some ⟨8, true, 0, false⟩ }
     s.parkedReady 7 = none ∧ s.dq 7 = [4] ∧ s.placing 4 0 (s.lastEng 0) = .park 1) ∧
    ((waiting [] (.parked 7)).job 4).place = .parked 7 ∧ ((waiting [] (.parked 7)).job 4).parkUntil ≤ 0 ∧
    (stealing.flag Reg.DSP_AFF 16 = true ∧ 1 < stealing.chip.shards ∧ stealing.shardIdle 1 = true ∧
      stealing.stealable 1 = [(4, 7)] ∧ stealing.leastLoad 1 false = some 128) ∧
    ((fetched ⟨4, false, 0, false⟩).slot 1 0 = some ⟨4, false, 0, false⟩ ∧ (fetched ⟨4, false, 0, false⟩).hub.flips = []) ∧
    (fetched.recallDue 1 ⟨4, true, 0, true⟩ = true ∧ ((fetched ⟨4, true, 0, true⟩).updJob 4 fun y => { y with entry := none }).qRoom (fetched.queueOf 4) = true) ∧
    (let s := fetched ⟨4, true, 0, true⟩
     let s := { s with disp := { s.disp with queues := [(s.queueOf 4, List.replicate (s.qLimit (s.queueOf 4)) 9)] } }
     s.recallDue 1 ⟨4, true, 0, true⟩ = true ∧ (s.updJob 4 fun y => { y with entry := none }).qRoom (s.queueOf 4) = false) := by
  (repeat' apply And.intro) <;> decide +kernel

/-! ### Dispatcher, Herder, registers, tables, ports, time and DRAM -/

/-- Job 4 stands in delay list 3. -/
def delayed : State :=
  let s := State.reset.setJob 4 { place := .delay 3, expiry := 5, listed := true, shard := 3 }
  { s with disp := { s.disp with delays := [(3, [4])], tick := 5 } }

/-- Job 4 alone is the head of domain 7, its hole timer over its limit, and no context holds it. -/
def holed : State :=
  (State.reset.setJob 4 { od := 7, place := .delay 0, expiry := 100, listed := true }).setOd 7
    { timing := some 4, ran := 1000, limit := 1000 }

theorem witness_DelayListsAndHoleTimeouts :
    (delayed.running = true ∧ { delayed with fr := 1000 }.disp.tickAt + 1000 ≤ 1000 ∧ delayed.fr < delayed.disp.tickAt + delayed.disp.tickNs ∧
      Tab.get [] delayed.disp.delays 3 = [4] ∧ (delayed.job 4).place = .delay 3 ∧
      (delayed.job 4).expiry ≤ delayed.disp.tick ∧ delayed.qRoom (delayed.queueOf 4) = true ∧
      delayed.recallWaits (delayed.queueOf 4) = false) ∧
    (holed.running = true ∧ (holed.od 7).timing = some 4 ∧ holed.headJob 7 = some 4 ∧ (holed.od 7).limit ≤ (holed.od 7).ran ∧
      (holed.job 4).retired = false ∧ (holed.job 4).released = false ∧ (holed.job 4).hole = false ∧ holed.jobCtxs 4 = [] ∧
      holed.herd.outs = [] ∧ (holed.job 4).od = 7 ∧ (∀ p ∈ holed.herd.jobs, p.2.od = 7 → p.1 = 4)) := by
  (repeat' apply And.intro) <;> decide +kernel

/-- DRAM interface 0 is trained, open and holds memory. -/
def dramUp (l : List (Nat × Word) := []) : State := withRegs ((Reg.DDR_CTRL 0, 0x405) :: l) hostOwns

/-- Scent runs in mode 1, with one record in its buffer. -/
def scenting (base : Nat) : State :=
  let s := dramUp [(Reg.DSP_SCENT_CTRL, 0xA03), (Reg.DSP_SCENT_BASE_LO, W base), (Reg.DSP_SCENT_BASE_HI, W (base / 2 ^ 32))]
  { s with disp := { s.disp with scent := [7] } }

theorem witness_RingsAndScent :
    (∀ off ∈ [Reg.TDMA_PI 3, Reg.TDMA_CFG 3, Reg.HP_H2D_PI 15, Reg.HP_H2D_CFG 15, Reg.HP_D2H_PI 15, Reg.HP_D2H_CFG 15],
      CanWrite hostOwns .host off ∧ hostOwns.flag off 0 = false) ∧
    (∀ p ∈ [(Reg.TDMA_CFG 3, Reg.TDMA_CI 3, 12), (Reg.HP_H2D_CFG 15, Reg.HP_H2D_CI 15, 11)],
      (W 16 - hostOwns.reg p.2.1).toNat ≤ 2 ^ hostOwns.fld p.1 p.2.2 8 ∧
      2 ^ hostOwns.fld p.1 p.2.2 8 < (W 17 - hostOwns.reg p.2.1).toNat) ∧
    (∀ p ∈ [(W 0x401, 4), (W 0xE01, 14)], p.1.getLsbD 0 = true ∧ getF p.1 11 8 = p.2) ∧
    (∀ p ∈ [(W 0x401, 4), (W 0x1001, 16)], p.1.getLsbD 0 = true ∧ p.1.getLsbD 1 = false ∧ getF p.1 12 8 = p.2) ∧
    (CanWrite dramUp .host Reg.DSP_SCENT_CTRL ∧ dramUp.chip.scent = true ∧ dramUp.flag Reg.DSP_SCENT_CTRL 0 = false ∧
      (∀ p ∈ [(W 0xA01, 10), (W 0x1A01, 26)], p.1.getLsbD 0 = true ∧ getF p.1 12 8 = p.2) ∧
      dramUp.scentBase = 0 ∧ dramUp.dramPresent 0 0x2000 = true ∧ dramUp.disp.scent = []) ∧
    ((scenting 0).running = true ∧ (scenting 0).chip.part = .lrv5120 ∧ (scenting 0).flag Reg.DSP_SCENT_CTRL 0 = true ∧
      (scenting 0).flag Reg.DSP_SCENT_CTRL 1 = true ∧ (scenting 0).fr % 2 ^ 24 = 0 ∧ (scenting 0).disp.scent.length < 256) ∧
    (hostOwns.eport 49).sending = none ∧ hostOwns.trun 3 = none ∧
    (∀ p ∈ [(0, true), (0x2000000000, false)], let s := scenting p.1
      s.disp.scent = [7] ∧ s.scentBase = p.1 ∧ (s.reg Reg.DSP_SCENT_WR).toNat = 0 ∧
      s.regOn (s.dramPlace p.1).1 3 = false ∧ s.dramPresent p.1 8 = p.2 ∧ s.scentBase % 8 = 0 ∧
      Tab.get [] s.dram.wait ((s.dramPlace p.1).1 * 8 + 3) = []) := by
  unfold CanWrite; (repeat' apply And.intro) <;> decide +kernel

theorem witness_RegisterWritesAndFwOwn :
    (∀ off ∈ [Reg.HERD_TMO, Reg.DSP_AFF, Reg.DSP_FS_TMO, Reg.DSP_CLASS_MAP0, Reg.HERD_OD_SEL, Reg.SYS_GPIO_OUT, Reg.SYS_GPIO_OE,
        Reg.LEASH_GRP_TMO 63, Reg.PACK_TRAP 0, Reg.PACK_ENTRY 15 15],
      CanWrite hostOwns .host off ∧ CanWrite State.reset (.keeper 0) off ∧ CanWrite State.reset .debug off) ∧
    (withRegs [(Reg.SYS_OWN, 1)]).fwOwn = true ∧ (withRegs [(Reg.SYS_OWN, 1)]).flag Reg.SYS_HOST_ACC 31 = false ∧
    Tab.get false State.reset.ctl.keeperDown 1 = false := by
  unfold CanWrite; (repeat' apply And.intro) <;> decide +kernel

theorem witness_ClearingLatchingAndMisalignedAccesses :
    (∀ m ∈ [Master.host, .keeper 1, .debug], State.reset.onBus m = true) ∧
    ((0x1001 % 4 ≠ 0 ∨ 4 ≠ 4) ∧ (0x1000 % 4 ≠ 0 ∨ 8 ≠ 4)) ∧ State.reset.flag Reg.SYS_HOST_ACC 31 = false ∧
    (¬ (Master.host = .host ∧ hostOwns.fwOwn = true ∧ fwBlock Reg.HERD_HOLES = true)) ∧
    ((withRegs [(Reg.SYS_OWN, 1)]).fwOwn = true ∧ fwBlock Reg.HERD_HOLES = true) ∧ 31 < State.reset.chip.packs := by
  (repeat' apply And.intro) <;> decide +kernel

theorem witness_FirstEventLogsAndEventRegisters :
    (∀ off ∈ [Reg.SYS_HOST_ACC, Reg.LEASH_DENY_LOG, Reg.TBL_PAR_LOG, Reg.KN_ERR_LOG],
      CanWrite hostOwns .host off) ∧
    State.reset.onBus .host = true ∧ evPresent State.reset.chip 0 = true ∧ evPresent State.reset.chip 1023 = true ∧
    (∃ src < 1024, evPresent State.reset.chip src = false) := by
  unfold CanWrite; (repeat' apply And.intro) <;> decide +kernel

theorem witness_EngineAndPackResets :
    31 < State.reset.chip.packs ∧
    (∀ off ∈ [Reg.PACK_RST 31, Reg.ENG_RST 31 15, Reg.ENG_WAKE 31 15], CanWrite hostOwns .host off) ∧
    hostOwns.flag (Reg.PACK_RST 31) 1 = false ∧ (hostOwns.eng 511).rstBusy = false ∧
    (∀ c, (hostOwns.ctx c).job = none) ∧ (∀ n, (hostOwns.eng n).fs0 = none ∧ (hostOwns.eng n).fs1 = none) ∧
    ((hostOwns.setCtx 4095 live).ctx (511 * 8 + (W 7).toNat % 8)).live = true ∧
    (∀ n, (hostOwns.eng n).issue = none ∧ (hostOwns.eng n).due = []) ∧
    (let s := hostOwns.setEng 511 { Eng.idle with issue := some ⟨4088, .nop, ow 1 2, 2⟩ }
     (s.eng 511).issue ≠ none ∧ (s.eng 511).rstBusy = false) ∧
    (let s := hostOwns.setEng 511 { Eng.idle with due := [.reset] }
     (s.eng 511).issue = none ∧ (s.eng 511).due = [.reset]) := by
  refine ⟨by decide +kernel, by unfold CanWrite; decide +kernel, by decide +kernel, by decide +kernel, fun _ => rfl, fun _ => ⟨rfl, rfl⟩, by decide +kernel, fun _ => ⟨rfl, rfl⟩, by decide +kernel, by decide +kernel⟩

/-- Table 63 is READY: EXACT, with 2^4 slots of 8-byte keys and 8-byte values on chip, aging every scan. -/
def table63 (ctrl : Nat := 0x00010008) (s : State := hostOwns) : State :=
  withRegs [(Reg.TBL_CTRL 63, W ctrl), (Reg.TBL_GEOM 63, 0x08080400)] s

theorem witness_TableDefinitionInitAndEpv :
    (∀ off ∈ [Reg.TBL_GEOM 63, Reg.TBL_BASE_LO 63, Reg.TBL_BASE_HI 63, Reg.TBL_SEED_LO 63, Reg.TBL_SEED_HI 63, Reg.TBL_CTRL 63],
      CanWrite table63 .host off ∧ (findReg off).isSome = true) ∧
    (table63.fld (Reg.TBL_CTRL 63) 1 0 = 0 ∧ table63.flag (Reg.TBL_CTRL 63) 4 = false) ∧
    (table63 0x9).fld (Reg.TBL_CTRL 63) 1 0 ≠ 0 ∧ (table63 0x10).flag (Reg.TBL_CTRL 63) 4 = true ∧
    ((W 4).getLsbD 2 = true ∧ getF (W 4) 1 0 = 0 ∧ table63.tGeomOk 63 = true ∧ table63.tRegionOk 63 = true) ∧
    ((W 3).getLsbD 2 = false ∧ table63.flag (Reg.TBL_CTRL 63) 3 = true) ∧
    ((table63 0x1).flag (Reg.TBL_CTRL 63) 3 = false ∧ getF (W 1) 1 0 &&& (3 - 1) = 0 ∧ getF (W 3) 1 0 &&& (3 - 1) ≠ 0) ∧
    ((table63 0x10).tFar 63 = false ∧ (table63 0x10).tSize 63 = 4) := by
  unfold CanWrite; (repeat' apply And.intro) <;> decide +kernel

/-- Slot 0 of bucket 0 of table 63 is valid, of age 9. -/
def aged (locks : List (Nat × Nat) := []) : State :=
  { table63 with
    mem := { State.reset.mem with tblram := Mem.put [] 0 [1, 9, 0] }, look := { locks := locks } }

/-- The update of command 7 waits, of table `n`. -/
def updating (n : Nat) (s : State := table63) : State :=
  { s with help := { cmds := [{ (default : HlpCmd) with id := 7, kind := .lookup, word := W (n * 2 ^ 24 + 2), stage := .update }],
                     next := 8, updates := [.helper 7 0] } }

theorem witness_TableAgingCacheAndUpdates :
    (aged.running = true ∧ aged.tReady 63 = true ∧ { aged with fr := 2 ^ 40 }.ageDue 63 = true ∧ (table63 0x8).ageDue 63 = false ∧
      aged.tFar 63 = false ∧ { aged with help := { updates := [.aging 63 0 0] } }.help.updates = [.aging 63 0 0] ∧ aged.hub.flips = [] ∧
      (aged [(63, 0)]).bLocked 63 0 = true ∧ aged.bLocked 63 0 = false ∧ getF 0 23 16 = 0) ∧
    (CanWrite aged .host Reg.TBL_CACHE_CTRL ∧ (W 1).getLsbD 0 = true) ∧
    (∀ n ∈ [0, 63], (updating n).running = true ∧ (updating n).help.updates = [.helper 7 0] ∧ (updating n).tFar ((updating n).updTable (.helper 7 0)) = false ∧
      ((updating n).help.cmds.find? (fun y => y.id == 7)).isSome = true ∧
      ((updating n).tReady n = false ↔ n = 0)) := by
  unfold CanWrite; (repeat' apply And.intro) <;> decide +kernel

/-- Ring 3 holds one descriptor, of operation `op` on table `t`, bucket 3, with BUF at 0x1000. -/
def ringOf (op t : Nat) (locks : List (Nat × Nat) := []) (s : State := table63) : State :=
  let s := withRegs [(Reg.TDMA_CFG 3, 0x401), (Reg.TDMA_PI 3, 1)] s
  { s with
    mem := { s.mem with host := Mem.put [] 0 [B8 op, B8 t, 0, 0, 3, 0, 0, 0, 0, 0, 0, 0, 0, 0, 0, 0, 0, 0x10] }
    hub := { s.hub with busMaster := true }, look := { s.look with locks := locks } }

/-- The key in BUF, 8 zero bytes, is in slot 0 of bucket 0 of table 63. -/
def holding : State :=
  let s := ringOf 1 63
  { s with mem := { s.mem with tblram := Mem.put [] 0 [1, 0, 1] } }

/-- The lock store is full. -/
def fullLocks : List (Nat × Nat) := List.replicate 256 (1, 1)

theorem witness_TableDmaServesItsDescriptors :
    (∀ op ∈ [1, 2, 3, 4, 5, 6], (ringOf op 63).running = true ∧ (ringOf op 63).ringTurn 3 = true ∧
      (ringOf op 63).ringDram 3 = false ∧ tdescOf ((ringOf op 63).mem.host.bytes ((ringOf op 63).ringAt 3) 32) =
        { op := op, table := 63, irq := false, valid := false, bucket := 3, slot := 0, age := 0, buf := 0x1000, ebuf := 0 }) ∧
    ((ringOf 5 63).tReady 63 = true ∧ (ringOf 5 63).tBuckets 63 = 4 ∧ (ringOf 5 63).bLocked 63 3 = false ∧
      (ringOf 5 63).look.locks.length = 0) ∧
    ((ringOf 5 63 fullLocks).bLocked 63 3 = false ∧ (ringOf 5 63 fullLocks).look.locks = fullLocks ∧ fullLocks.length = 256) ∧
    ((ringOf 6 63 [(63, 3)]).bLocked 63 3 = true ∧ (ringOf 6 63).bLocked 63 3 = false) ∧
    ((ringOf 1 63).hub.busMaster = true ∧ (ringOf 1 63).tDirect 63 = false ∧
      (match (holding.lookup 63 (holding.mem.host.bytes 0x1000 8)).1 with | .hit x => x.bucket == 0 | _ => false) = true) ∧
    (ringOf 1 62).tReady 62 = false ∧ (ringOf 1 63).ringBusy = none ∧ (ringOf 1 63).tFar 63 = false ∧
    (ringOf 4 63).slotBad (tdescOf ((ringOf 4 63).mem.host.bytes ((ringOf 4 63).ringAt 3) 32)) = false ∧
    (let s := { ringOf 4 63 with mem := { State.reset.mem with host := Mem.put [] 0 [4, 63, 0, 0, 4] } }
     s.ringTurn 3 = true ∧ s.slotBad (tdescOf (s.mem.host.bytes (s.ringAt 3) 32)) = true) ∧
    (let d : TDesc := { op := 2, table := 63, irq := false, valid := false, bucket := 3, slot := 0, age := 0, buf := 0x1000, ebuf := 0 }
     let x : TRun := ⟨false, .queued, d, [], false, false⟩
     let s := (ringOf 2 63).setTrun 3 (some x)
     let s := { s with help := { updates := [.op 3 0] } }
     s.trun 3 = some x ∧ x.stage = .queued ∧ x.dram = false ∧ s.help.updates = [.op 3 0] ∧ s.tFar x.desc.table = false) := by
  refine ⟨?_, ?_, ⟨?_, rfl, List.length_replicate⟩, ?_, ?_, ?_⟩ <;> decide +kernel

/-- Quad 11 takes mode 2; port 97 is the host port and always valid. -/
theorem witness_PortsMetersAndMdio :
    (11 < hostOwns.chip.quads ∧ CanWrite hostOwns .host (Reg.PORT_QUAD 11) ∧ hostOwns.minimal = false ∧ fecOk 2 1 = true ∧
      (2 ≠ hostOwns.quadMode 11 ∨ 1 ≠ hostOwns.fld (Reg.PORT_QUAD 11) 5 4) ∧
      (∀ n ∈ quadPorts 11, hostOwns.flag (Reg.PORT_CFG n) 0 = false) ∧ (hostOwns.lflCount 11 2 ≤ hostOwns.chip.lflMax) ∧
      hostOwns.budgetsOk 11 2 = true ∧ hostOwns.quadMode 11 ≠ 7) ∧
    (let s := withRegs [(Reg.PORT_QUAD 11, 2), (Reg.PORT_CFG 47, 1)] hostOwns
     ∃ n ∈ quadPorts 11, s.flag (Reg.PORT_CFG n) 0 = true) ∧
    (∀ n ∈ [0, 65535], CanWrite hostOwns .host (Reg.MTR_CFG n) ∧ hostOwns.flag (Reg.MTR_CFG n) 8 = false ∧
      (withRegs [(Reg.MTR_CFG n, 0x1FF)]).flag (Reg.MTR_CFG n) 8 = true ∧ 255 ≠ hostOwns.fld (Reg.MTR_CFG n) 7 0) ∧
    (let s := withRegs [(Reg.PORT_CFG 97, 1)] hostOwns
     s.portValid 97 = true ∧ CanWrite s .host (Reg.PORT_CFG 97) ∧ s.flag (Reg.PORT_CFG 97) 0 = true ∧ (W 0).getLsbD 0 = false) ∧
    (CanWrite hostOwns .host (Reg.MDIO_RUN 1) ∧ (W 0x10000).getLsbD 16 = true ∧ hostOwns.flag (Reg.MDIO_RUN 1) 17 = false ∧
      (withRegs [(Reg.MDIO_RUN 1, 0x20000)]).flag (Reg.MDIO_RUN 1) 17 = true) ∧
    (let s := withRegs [(Reg.MDIO_RUN 1, 0x20000), (Reg.MDIO_SCRIPT 1 1020, 2)]
     s.fld (Reg.MDIO_SCRIPT 1 (2 * 510)) 3 0 = 2 ∧ s.fld (Reg.MDIO_SCRIPT 1 (2 * 511)) 3 0 = 0) := by
  unfold CanWrite; (repeat' apply And.intro) <;> decide +kernel

theorem witness_StoreEmpty : StoreEmpty State.reset := fun _ (h : _ ∈ []) => (nomatch h)

/-- The crystal is the source (TB_STAT.SRC), the PLL locked or not. -/
theorem witness_TimeBaseClockDomainsAndCaptures :
    (CanWrite hostOwns .host Reg.TB_STAT ∧ (withRegs [(Reg.TB_STAT, 3)]).flag Reg.TB_STAT 1 = true ∧
      (withRegs [(Reg.TB_STAT, 3)]).flag Reg.TB_STAT 0 = true ∧ (withRegs [(Reg.TB_STAT, 0)]).flag Reg.TB_STAT 0 = false) ∧
    (CanWrite hostOwns .host (Reg.TB_ADJ_CTRL 3) ∧ (W 0x20000).getLsbD 17 = true ∧ (W 0x20000).getLsbD 16 = false ∧
      (W 0x30000).getLsbD 16 = true) ∧
    (CanWrite hostOwns .host (Reg.TB_ADJ_SEC 3) ∧ CanWrite hostOwns .host (Reg.TB_ADJ_NS 3) ∧
      hostOwns.flag (Reg.TB_ADJ_CTRL 3) 17 = false ∧ hostOwns.pending = [] ∧
      (∀ c ∈ [0x20000, 0x30000], let s := withRegs [(Reg.TB_ADJ_CTRL 3, W c)] hostOwns
        s.flag (Reg.TB_ADJ_CTRL 3) 17 = true ∧ (∀ k < 3, s.flag (Reg.TB_ADJ_CTRL k) 17 = false) ∧
        (s.flag (Reg.TB_ADJ_CTRL 3) 16 = true ↔ c = 0x30000))) ∧
    ((W 999999999).toInt = 999999999 ∧ (W 3294967297).toInt = -999999999 ∧ (W 1000000000).toInt = 1000000000 ∧
      (W 3294967296).toInt = -1000000000 ∧ (W 999999999).toNat = 999999999 ∧ (W 1000000000).toNat = 1000000000) ∧
    (CanWrite hostOwns .host Reg.TB_SNAP ∧ (W 1).getLsbD 0 = true) ∧
    ((withRegs [(Reg.TB_PPS_CFG, 0x40000000)]).flag Reg.TB_PPS_CFG 30 = true) ∧
    (hostOwns.portValid (eqPort 48) = true ∧ hostOwns.onBus .host = true ∧ hostOwns.readsClear .host (Reg.TXTS_HDR 48) = true ∧
      (hostOwns.eport 48).txts = [] ∧ ((hostOwns.setEport 48 { EPort.idle with txts := [(7, default)] }).eport 48).txts = [(7, default)]) ∧
    (let s := { withRegs [(Reg.TB_PPS_CFG, 0x101)] with tb := { rolled := true } }
     s.tb.rolled = true ∧ s.flag Reg.TB_PPS_CFG 0 = true ∧ s.fld Reg.TB_PPS_CFG 27 8 = 1) ∧
    (let s := { State.reset with tb := { ppsHigh := true, ppsUntil := 9 }, fr := 9 }
     s.tb.ppsHigh = true ∧ s.tb.ppsUntil ≤ s.fr) := by
  unfold CanWrite; (repeat' apply And.intro) <;> decide +kernel

/-- DRAM interface 1 with DDR_CTRL `v`. -/
def ddr1 (v : Nat) : State := withRegs [(Reg.DDR_CTRL 1, W v)] hostOwns

theorem witness_DramInterfacesRefreshAndTracking :
    1 < (ddr1 0).chip.ddrs ∧ CanWrite (ddr1 0) .host (Reg.DDR_CTRL 1) ∧
    (∀ p ∈ [(0x402, true), (0x403, true), (0x401, false), (0, false)], (W p.1).getLsbD 1 = p.2 ∧ (W p.1).toNat / 256 % 8 < 5) ∧
    ((ddr1 0).flag (Reg.DDR_CTRL 1) 0 = false ∧ (ddr1 0).flag (Reg.DDR_CTRL 1) 2 = false ∧ (ddr1 1).flag (Reg.DDR_CTRL 1) 0 = true ∧
      (ddr1 4).flag (Reg.DDR_CTRL 1) 2 = true) ∧
    ((ddr1 0x402).flag (Reg.DDR_CTRL 1) 1 = true ∧ (ddr1 0x402).fld (Reg.DDR_CTRL 1) 10 8 = 4 ∧
      [16, 16, 16, 16] = List.replicate 4 (2 ^ 4) ∧ (ddr1 2).fld (Reg.DDR_CTRL 1) 10 8 = 0) ∧
    (let s := { ddr1 0x10405 with fr := 1000000 }
     s.ddrInService 1 = true ∧ s.trackDue 1 0 = true ∧ s.trackDue 1 3 = false ∧ (s.dch 1 0).q = [] ∧
      (s.dch 1 3).lastRead + 100000 ≤ s.fr ∧ State.reset.fr < (State.reset.dch 1 3).lastRead + 100000) ∧
    (let r : DramReq := { (default : DramReq) with id := 1, issued := true, dest := .idle }
     let s := { ddr1 0x10405 with dram := { ch := [(7, { DramCh.idle with q := [r], readDelay := [(0, 31)] })] } }
     (s.dch 1 3).q.find? (fun r => r.issued) = some r ∧ r.dest = .idle ∧ Tab.get 0 (s.dch 1 3).readMoved 0 ≤ s.fr ∧
      stepDelay (Tab.get 0 (s.dch 1 3).readDelay 0) 1 = 32) := by
  unfold CanWrite; (repeat' apply And.intro) <;> decide +kernel

/-- A request of helper command 7 at address 0; a write of half a word. -/
def req (write : Bool) (issued : Bool := false) (n : Nat := 8) : DramReq :=
  { id := 1, port := 0, tclass := false, write := write, addr := 0, phys := 0, len := n, row := 0, bank := 0, passed := 0,
    issued := issued, dest := .helper 7, data := List.replicate n 5 }

def queued (q : List DramReq) (tok : Int := 0) (rate : Nat := 0) : State :=
  let s := dramUp [(Reg.DDR_REG_CFG 0 0, W (rate * 2 ^ 31))]
  { s with
    dram := { s.dram with ch := [(0, { DramCh.idle with q := q })], wait := [(0, q)], tokens := [(0, tok)] }
    help := { cmds := [{ (default : HlpCmd) with id := 7, kind := .dma }], next := 8 } }

def errEntry : ErrEntry := ⟨1, 2, 3⟩

theorem witness_DramRequestsAndErrorLogs :
    (Tab.get [] (queued [req true]).dram.wait 0 = [req true] ∧ (queued [req true]).regOn 0 0 = false ∧
      (queued [req true] (-1) 1).regOn 0 0 = true ∧ (queued [req true] (-1) 1).tokens 0 0 = -1 ∧
      (queued [req true] 0 1).tokens 0 0 = 0 ∧ (queued [req true]).ddrInService 0 = true ∧
      (withRegs [(Reg.DDR_CTRL 0, 0x404)] (queued [req true])).ddrInService 0 = false) ∧
    ((queued []).dch 0 0).choose = none ∧
    (∀ w ∈ [true, false], ((queued [req w]).dch 0 0).choose = some (req w) ∧ (req w).dest = .helper 7 ∧
      ((queued [req w]).help.cmds.find? (fun y => y.id == 7)).isSome = true) ∧
    ((queued [req true]).dram.poisoned ++ (queued [req true]).dram.single = [] ∧
      (let s := queued [req true false 4]
       let s := { s with dram := { s.dram with poisoned := [0] } }
       (s.dch 0 0).choose = some (req true false 4) ∧ 0 ∈ s.dram.poisoned ∧ cutsWord 0 4 0 = true ∧ s.dram.log.length < 64)) ∧
    (((queued [req false true]).dch 0 0).q.find? (fun r => r.issued) = some (req false true) ∧
      (queued [req false true]).dramWaiting = [] ∧ (queued [req false true]).dram.log.length < 64) ∧
    (hostOwns.onBus .host = true ∧ hostOwns.readsClear .host Reg.DDR_ERR_POP = true ∧ hostOwns.readsClear .host Reg.ERR_POP = true ∧
      hostOwns.dram.log = [] ∧ hostOwns.hub.errLog = []) ∧
    (let s := { hostOwns with dram := { log := [errEntry] }, hub := { errLog := [errEntry] } }
     s.dram.log = [errEntry] ∧ s.hub.errLog = [errEntry] ∧ s.readsClear .host Reg.ERR_POP = true) := by
  (repeat' apply And.intro) <;> decide +kernel

/-! ### Start-up, resets, Pace and the debugger -/

/-- Start-up, at step `k` of R507, with TRIES = `n` of 3. -/
def starting (k : Nat) (n : Nat := 0) : State :=
  let s := withRegs [(Reg.SYS_BOOT_STATUS, 0), (Reg.SYS_BOOT_TRIES, W (n + 0x300))]
  { s with boot := { s.boot with stage := k } }

/-- An image of SVN 7 without a body, or with its SVN changed after it was signed (R505); key and signature by a P-384
implementation apart from the model. -/
def testImage (svn : Nat := 7) : List Byte :=
  leBytes 4 0x4956524C ++ leBytes 4 1 ++ leBytes 4 svn ++ leBytes 36 0 ++
    beBytes 48 0x7AE9E1DB1160794C70C1EF071BE5191F6C66240F4608FBE8A44ECD36C3ED5DB97500F2E4D84E3FB45850FD6F4303302B ++
    beBytes 48 0xD8AC21444CD80D241538D8034B399A0DEE3636EB5CB00B9499D061A571DB0F14BB47ED79453948ED63F3A6CCBBF6E74F ++
    beBytes 48 0xF91B5514A332CCA4C615927479C637081A572972730E951716D8686BACB12F5A6706CAA93329200D7EDF6E26B7EC86CE ++
    beBytes 48 0x4826763C63AE2E9CBC39B2B606A4EEF938466725A6D3DE33CCD77E81A196003821E12BC83F66B93F2A1B85EB8DD9B611 ++ leBytes 16 0

/-- What a check says of an image. -/
def verdict (x : ImageCheck) : Bool × Bool × Nat := (x.there, x.ok, x.svn)

/-- The memory that holds these bytes from an address on, and zeros. -/
def memAt (base : Nat) (l : List Byte) : Mem := ((List.range l.length).zip l).filterMap fun p => if p.2 = 0 then none else some (base + p.1, p.2)

/-- Start-up with these bytes at the start of copy A and of copy B, the rest of the flash erased. -/
def withCopies (a b : List Byte) : State :=
  { starting 0 with mem := { (starting 0).mem with flash := memAt 0 (a.map (~~~ ·)) ++ memAt 0x1000000 (b.map (~~~ ·)) } }

theorem witness_BootControlAndStartAttempts :
    (CanWrite hostOwns .host Reg.SYS_BOOT_CTRL ∧ hostOwns.minimal = false ∧
      (withRegs [(Reg.SYS_OWN, 0), (Reg.SYS_BOOT_STATUS, 0x2000)]).minimal = true) ∧
    (∀ p ∈ [(1, true, 0), (0x100, false, 1), (0xFF00, false, 255)],
      (W p.1).getLsbD 0 = p.2.1 ∧ (W p.1).toNat / 256 % 256 = p.2.2) ∧
    CanWrite hostOwns .host Reg.SYS_WDOG ∧
    (let t := { withRegs [(Reg.SYS_WDOG, 1)] with fr := 1000000 }
     t.fld Reg.SYS_WDOG 15 0 = 1 ∧ t.boot.wdogAt = 0 ∧ t.minimal = false ∧ t.boot.failed = false) ∧
    (let t := withRegs [(Reg.SYS_WDOG, 1)]
     t.fr = 0 ∧ t.fld Reg.SYS_WDOG 15 0 = 1) ∧
    (∀ k ∈ [0, 8], (starting k).mode = 0 ∧ (starting k).boot.resetAt = none ∧ (starting k).boot.romWait = false ∧ (starting k).boot.failed = false ∧
      (starting k).boot.stage = k ∧ (starting k).fld Reg.SYS_BOOT_TRIES 3 0 = 0 ∧
      (starting k).fld Reg.SYS_BOOT_TRIES 11 8 = 3) ∧
    (starting 0).chip.bootSel = 0 ∧ (starting 0 3).fld Reg.SYS_BOOT_TRIES 3 0 = 3 ∧
    verdict ((withCopies testImage []).flashImage 0) = (true, true, 7) ∧ verdict ((withCopies [0] testImage).flashImage 0) = (false, false, 0xFFFF) ∧
    verdict ((withCopies [0] testImage).flashImage 1) = (true, true, 7) ∧ verdict ((withCopies (testImage 65536) []).flashImage 0) = (true, false, 0) ∧
    verdict ((withCopies (testImage 65536) []).flashImage 1) = (false, false, 0xFFFF) ∧
    (∀ s ∈ [withCopies testImage [], withCopies [0] testImage, withCopies (testImage 8) []],
      s.mode = 0 ∧ s.boot.resetAt = none ∧ s.boot.romWait = false ∧ s.boot.stage = 0 ∧ s.chip.bootSel = 0 ∧
        s.fld Reg.SYS_BOOT_TRIES 3 0 = 0) ∧
    (∀ p ∈ [(0x13, false), (0x53, true)],
      let t := (starting 8).setReg Reg.FAB_STAT (W p.1)
      t.fabConflict = p.2 ∧ t.fabDev.isSome = true) ∧
    (0 < State.reset.chip.ddrs ∧ 0 < [4].getD 0 0 ∧ [4].getD 0 0 < 8) ∧
    (let r := railRange ((starting 8).setReg Reg.FAB_STAT 0x13).vset 1
     (r.1 ≤ 750 ∧ 750 ≤ r.2) ∧ ¬ (r.1 ≤ 800 ∧ 800 ≤ r.2)) ∧
    ((withRegs [(Reg.PORT_QUAD 11, 2)] (starting 8)).portValid 44 = true ∧ Tab.get false (starting 8).ctl.keeperDown 0 = false) := by
  unfold CanWrite; (repeat' apply And.intro) <;> decide +kernel

theorem witness_ResetsKeepersAndFatalErrors :
    ({ State.reset with boot := { resetAt := some 5 } }.boot.resetAt = some 5 ∧ State.reset.fr < 5 ∧
      5 ≤ { State.reset with boot := { resetAt := some 5 }, fr := 5 }.fr) ∧
    (∀ k < 2, Tab.get false State.reset.ctl.keeperDown k = false ∧
      Tab.get false { State.reset with ctl := { keeperDown := [(0, true), (1, true)] } }.ctl.keeperDown k = true) ∧
    State.reset.minimal = false ∧ State.reset.hub.flips = [] ∧ (∀ h < 4, (Tab.get [] State.reset.ctl.replyQ h).length < 16) ∧
    ((lockable { owner := 0x3000 }).lock 4095).owner = 0x3000 ∧ ((lockable { owner := 0x3000 }).lock 4095).queue = [] ∧
    ((lockable { owner := 0x2001 }).lock 4095).owner = BitVec.ofNat 16 (0x2000 + 1) ∧
    { State.reset with hub := { msgWait := [63] } }.hub.msgWait = [63] ∧ State.reset.hub.errLog.length < 16 := by
  (repeat' apply And.intro) <;> decide +kernel

/-- Pace with PACE_CTRL `c` and PACE_STATUS `st`, limits 700 to 900 mV. -/
def pacing (c : Nat) (st : Nat := 0x1000) (x : Pace := {}) : State :=
  { withRegs [(Reg.PACE_CTRL, W c), (Reg.PACE_STATUS, W st), (Reg.PACE_LIMITS, 0x038402BC)] hostOwns with pace := x }

theorem witness_PaceWindowsAndAvsTransactions :
    ((pacing 0).paceRuns = false ∧ (pacing 1).paceRuns = true ∧ (pacing 1).avsFault = false ∧ (pacing 1 0x20).avsFault = true ∧
      (pacing 1).pace.cleared = false ∧ (pacing 5).paceManual = true ∧ (pacing 1).paceManual = false ∧ (pacing 1).vmin = 700 ∧
      (pacing 1).vmax = 900) ∧
    (∀ c ∈ [0, 1], { pacing c with fr := 10000 }.fr % 10000 = 0 ∧ { pacing c with fr := 10000 }.pace.win < 10000 / 10000 ∧
      (pacing c).fr / 10000 ≤ (pacing c).pace.win ∧ ({ pacing c with fr := 10000 }.paceRuns = true ↔ c = 1)) ∧
    (Tab.get 0 (pacing 1).pace.rotAt 31 + 1000 ≤ { pacing 1 with fr := 1000 }.fr ∧ (pacing 1).fr < Tab.get 0 (pacing 1).pace.rotAt 31 + 1000) ∧
    ((pacing 1).pace.writeWin ≠ (pacing 1).fr / 10000 + 1 ∧ (pacing 1).pace.readWin ≠ (pacing 1).fr / 10000 + 1 ∧
      (pacing 1 0 { writeWin := 1, readWin := 1 }).pace.readWin = (pacing 1).fr / 10000 + 1) ∧
    (31 < (pacing 1).chip.packs ∧ (pacing 1).turnCeil = 800) ∧
    (∀ n ∈ [0, 1], (pacing 1 0 { writeDue := true, avsFails := n }).pace.writeDue = true ∧
      (pacing 1 0 { writeDue := true, avsFails := n }).paceEn = true ∧
      (pacing 1 0 { writeDue := true, avsFails := n }).avsFault = false) ∧
    (pacing 1).pace.writeDue = false ∧
    (∃ mv < 1024, mv = (pacing 1).vset + 15) ∧ (∃ mv < 1024, mv = (pacing 1).vset + 16) ∧ (pacing 1).pace.lastCommit = none ∧
    (let t := { pacing 1 0 { lastCommit := some 0 } with fr := 8001 }
     t.pace.lastCommit = some 0 ∧ t.fr = 8001) := by
  refine ⟨?_, ?_, ?_, ?_, ?_, ?_, ?_, ⟨865, ?_⟩, ⟨866, ?_⟩, ?_, ?_⟩ <;> decide +kernel

theorem witness_PaceControlWrites :
    (pacing 0).minimal = false ∧ (pacing 1).minimal = false ∧ CanWrite (pacing 0) .host Reg.PACE_CTRL ∧
    CanWrite (pacing 1) .host Reg.PACE_CTRL ∧ (pacing 0).paceEn = false ∧ (pacing 1).paceEn = true ∧
    (∀ p ∈ [(1, true, false), (0, false, false), (5, true, true)], (W p.1).getLsbD 0 = p.2.1 ∧ (W p.1).getLsbD 2 = p.2.2) ∧
    CanWrite (pacing 1) .host Reg.PACE_TURN_CEIL ∧ (pacing 1).turnCeil = 800 ∧
    (∀ c ∈ [549, 550, 800, 1200, 1201], (W c).toNat % 4096 = c) := by
  unfold CanWrite; (repeat' apply And.intro) <;> decide +kernel

/-- DBG_SEL names context 9, which is as given; every other context is dead. -/
def debugged (x : Ctx := live) : State := (withRegs [(Reg.DBG_SEL, 0x00010100)] hostOwns).setCtx 9 x

theorem witness_DebuggerControlsAndReads :
    (CanWrite debugged .host Reg.DBG_CMD ∧ CanWrite debugged .host Reg.DBG_SESSION ∧ debugged.dbgCtx = 9 ∧
      debugged.dbgHere = true ∧ (debugged.ctx 9).live = true ∧ (debugged.ctx 9).wait = .none ∧
      ((debugged.ctx 9).halted || (debugged.ctx 9).frozen) = false) ∧
    (∀ sc < 4, ∀ k ∈ [1, 2, 3, 4], (W (k + 16 * sc)).toNat % 8 = k ∧ (W (k + 16 * sc)).toNat / 16 % 4 = sc) ∧
    ((debugged { live with halted := true }).ctx 9).halted = true ∧
    ((lockable { owner := 0x5000 }).lock 4095).owner = 0x5000 ∧
    (∀ p ∈ (debugged Ctx.idle).ctxs, p.2.live = false) ∧ (∀ e < 512, (debugged.eng e).issue = none) ∧
    (((debugged.setEng 1 { Eng.idle with issue := some ⟨9, .nop, ow 1 2, 2⟩ }).eng (engOf 9)).issue.isSome = true) ∧
    (∀ n ∈ [0, 15, 23, 64, 71], CanWrite debugged .host (Reg.DBG_REG n)) := by
  unfold CanWrite; (repeat' apply And.intro) <;> decide +kernel

/-- No context of that state waits for a granted lock to land. -/
theorem witness_DebuggerResumes (k : Nat) (v : Word) (d b : Nat) : (debugged.ctx k).wait ≠ .landing v d b := by
  show (if 9 = k then live else Ctx.idle).wait ≠ _
  split <;> exact Wait.noConfusion

/-! ### Ports, egress and host rings -/

/-- Quad 0 in mode 2, port 0 with PORT_CFG `cfg`, PORT_STAT and more. -/
def port0 (cfg : Nat := 1) (l : List (Nat × Word) := []) : State :=
  withRegs ([(Reg.PORT_QUAD 0, 2), (Reg.PORT_CFG 0, W cfg), (Reg.PORT_STAT 0, 1)] ++ l) hostOwns

/-- A good frame of 60 zero bytes. -/
def zeros (ok : Bool := true) : RxFrame := { (default : RxFrame) with port := 0, bytes := List.replicate 60 0, fcsOk := ok }

/-- The 54-byte packet of the MACsec GCM-AES-128 test vectors: 12 bytes of addresses, SecTAG, 48 bytes encrypted, ICV. -/
def sealedBytes (last : Nat := 0x80) : List Byte :=
  beBytes 28 0xD609B1F056637A0D46DF998D88E52E00B2C2846512153524C0895E81 ++
    beBytes 48 0x701AFA1CC039C0D765128A665DAB69243899BF7318CCDC81C9931DA17FBE8EDD7D17CB8B4C26FC81E3284F2B7FBA713D ++
    beBytes 15 0x4F8D55E7D3F06FD5A13C0C29B9D5B8 ++ [B8 last]

/-- What it carries. -/
def openedBytes : List Byte :=
  beBytes 48 0x08000F101112131415161718191A1B1C1D1E1F202122232425262728292A2B2C2D2E2F303132333435363738393A0002

/-- The SA of the test vectors, at packet number `n`. -/
def vectorSa (en : Bool := true) (n : Nat := 1) : SecA :=
  { en := en, pn := n, key := beBytes 16 0xAD7A2BD03EAC835A6F620FDCB506B345 }

/-- Port 0 in Strict mode with replay protection, receive SC 5 with this SA at AN 2, and the same SA to transmit. -/
def securePort (a : SecA := vectorSa) : State :=
  let s := port0.setSecy 0 { strict := true, replay := true, sc := true, protect := true, sci := 0x12153524C0895E81, txAn := 2 }
  let s := (s.setSa (saRx 5 2) a).setSa (saTx 0 2) a
  { s with ports := { s.ports with rxscs := [(5, { port := 0, en := true, sci := 0x12153524C0895E81 })] } }

/-- Its tag. -/
def vectorTag : SecTag :=
  { es := false, sc := true, scb := false, enc := true, changed := true, an := 2, pn := 0xB2C28465,
    sci := 0x12153524C0895E81, size := 16, data := 48 }

/-- CAN channel 23 is active, its port enabled. -/
def canUp (mode : Nat := 0x301) (stat : Nat := 0) (q : List (Nat × Nat) := []) : State :=
  let s := withRegs [(Reg.CAN_MODE 23, W mode), (Reg.CAN_STAT 23, W stat), (Reg.PORT_CFG 87, 1)] hostOwns
  (q.foldl (fun t p => t.setOut p.1 { port := 87, hdr := List.replicate 16 0, place := .queued }) s).setCan 23 q

theorem witness_ReceivedFramesJoinTheirFifo :
    (port0.running = true ∧ port0.portKind 0 = .eth ∧ port0.portOn 0 = true ∧ (port0 0).portOn 0 = false ∧
      port0.stepTwoQ 0 = [] ∧ securePort.stepTwoQ 0 = [] ∧ canUp.stepTwoQ 87 = []) ∧
    (zeros.fcsOk = true ∧ zeros.bytes.length = 60 ∧ (zeros false).fcsOk = false ∧ port0.inBandFrame 0 zeros.bytes = false ∧
      be16 zeros.bytes 12 ≠ 0x8808 ∧ (port0.secy 0).strict = false ∧
      port0.rxScs 0 = [] ∧ port0.flag (Reg.CLS_PCTL port0.ing (port0.profile 0)) 26 = false) ∧
    (securePort.running = true ∧ securePort.portOn 0 = true ∧ securePort.chip.crypto = true ∧ (securePort.secy 0).strict = true ∧
      securePort.flag (Reg.CLS_PCTL securePort.ing (securePort.profile 0)) 26 = false ∧ securePort.fifoFits 0 0 60 = true ∧
      sealedBytes.length = 92 ∧ be16 sealedBytes 12 = 0x88E5 ∧ secTag false sealedBytes = some vectorTag ∧
      secTag false (beBytes 14 0x88E5 ++ List.replicate 60 0) = none ∧
      securePort.rxScOf 0 vectorTag sealedBytes = some (5, { port := 0, en := true, sci := 0x12153524C0895E81 }) ∧
      securePort.rxScOf 0 { vectorTag with sci := 0 } sealedBytes = none ∧
      (securePort (vectorSa false)).sa (saRx 5 vectorTag.an) = vectorSa false ∧ vectorTag.fullPn (securePort.secy 0) vectorSa = 0xB2C28465 ∧
      (securePort.secy 0).replay = true ∧ 0xB2C28465 + (securePort.secy 0).window < (vectorSa true 0xB2C28466).pn ∧
      vectorTag.unlock (securePort.secy 0) vectorSa 0x12153524C0895E81 0xB2C28465 sealedBytes = some openedBytes ∧
      vectorTag.unlock (securePort.secy 0) vectorSa 0x12153524C0895E81 0xB2C28465 (sealedBytes 0) = none) ∧
    (port0.fifoFits 0 0 60 = true ∧ (port0 1 [(Reg.PORT_IFIFO 0 0, 0)]).fifoFits 0 0 60 = false) ∧
    (canUp.running = true ∧ canUp.canActive 23 = true ∧ canUp.flag (Reg.PORT_CFG (64 + 23)) 0 = true ∧ canFlag 0 3 = false ∧
      canFlag 0 6 = false ∧ canUp.flag (Reg.CLS_PCTL canUp.ing (canUp.profile (64 + 23))) 26 = false) := by
  (repeat' apply And.intro) <;> decide +kernel

/-- An in-band command at the management port. -/
theorem witness_InBandFrame :
    (let s := withRegs [(Reg.PORT_CFG 96, 1), (Reg.WH_IB_MAC_HI, 0), (Reg.WH_IB_MAC_LO, 0)] hostOwns
     s.portKind 96 = .mgmt ∧ s.portOn 96 = true ∧
      s.inBandFrame 96 (List.replicate 12 0 ++ [0x88, 0xB5] ++ List.replicate 60 0) = true) := by
  (repeat' apply And.intro) <;> decide +kernel

/-- A frame of 60 bytes, of order domain 9 and pool 3. -/
def ninth (stalled : Bool := false) : IFrame :=
  ⟨List.replicate 60 0, 0, 7, 3, 0, 0, 9, 0, 0, 0, 255, 255, [], false, 0, 0, 0, stalled⟩

/-- It is at the head of FIFO 7 of port 0; pool 3 has `n` free cells, the domain `win` jobs in flight. -/
def headed (n : Nat) (stalled : Bool := false) (win : Nat := 0) (pace : Nat := 0) : State :=
  let s := withRegs [(Reg.KN_POOL_BASE 3, 8), (Reg.KN_POOL_SIZE 3, 4), (Reg.KN_FREE_CNT 3, W n), (Reg.KN_CURSOR 3, 8),
    (Reg.PACE_STATUS, W pace)] port0
  ({ s with ports := { s.ports with ififo := [(7, [ninth stalled])] } }).setOd 9 { next := BitVec.ofNat 16 win }

theorem witness_AdmittedFramesBecomeJobs :
    ((headed 4).running = true ∧ (headed 4).fifo 0 7 = [ninth] ∧ (headed 4).window 9 ≠ 8192 ∧
      (headed 4).queueAdmits ((headed 4).frameQueue ninth) = true ∧ (headed 4).throttleRoom = true ∧
      ((headed 4).knAlloc 3 (unitsOf 60)).1 = some 8) ∧
    ((headed 0).queueAdmits ((headed 0).frameQueue ninth) = true ∧ (headed 0).throttleRoom = true ∧
      ((headed 0).knAlloc 3 (unitsOf 60)).1 = none) ∧
    (((headed 4 false 0 0x40000).classMap 0 7).2 = false ∧ (headed 4 false 0 0x40000).throttleRoom = false) ∧
    (∀ st ∈ [true, false], (headed 4 st 8192).fifo 0 7 = [ninth st] ∧ (headed 4 st 8192).window 9 = 8192) := by
  (repeat' apply And.intro) <;> decide +kernel

theorem witness_PausesLinksAndMarkers :
    (eqIndex 0 = some 0 ∧ (port0 7).portOn 0 = true ∧ (port0 7).hub.fatal = false ∧ (port0 7).flag (Reg.PORT_CFG 0) 2 = true ∧
      (port0 7).flag (Reg.PORT_CFG 0) 1 = true ∧ port0.flag (Reg.PORT_CFG 0) 2 = false ∧ port0.flag (Reg.PORT_CFG 0) 1 = false) ∧
    (let s := withRegs [(Reg.PORT_PFC 0, 0x80), (Reg.PORT_IFIFO 0 7, 0x410)] ({ (headed 4).setPfc 0 7 (some 5) with fr := 1000000000 })
     s.pfcOn 0 7 = some 5 ∧ s.running = true ∧ s.pfcSends 0 7 = true ∧ s.fld (Reg.PORT_IFIFO 0 7) 29 20 < s.fifoUsed 0 7 ∧
      Tab.get 0 s.ports.pfcAt (0 * 8 + 7) = 0 ∧ s.portRate 0 = 25000 ∧ s.fr = 1000000000) ∧
    (port0.portKind 0 = .eth ∧ port0.flag (Reg.PORT_STAT 0) 0 = true) ∧
    (port0.rsFec 0 = false ∧ port0.flag (Reg.TS_GBX 0) 16 = false ∧ (port0 1 [(Reg.TS_GBX 0, 0x10400)]).flag (Reg.TS_GBX 0) 16 = true) ∧
    (let s := port0 1 [(Reg.PORT_QUAD 0, 0x22), (Reg.TS_GBX 0, 0x10400)]
     s.rsFec 0 = true ∧ s.flag (Reg.TS_GBX 0) 16 = true ∧ within (s.fld (Reg.TS_GBX 0) 15 0) 0 1024 = true ∧
      within (s.fld (Reg.TS_GBX 0) 15 0) 2049 1024 = false ∧ Tab.get 0 s.ports.gbxRej 0 < 2 ∧ s.portKind 0 = .eth ∧
      s.flag (Reg.PORT_STAT 0) 0 = true) := by
  (repeat' apply And.intro) <;> decide +kernel

/-- Output 4, of class 7 at port 0, stands at `place`; QLIM of the class is `lim`. -/
def output (place : OutPlace) (lim : Nat := 1) (cfg : Nat := 1) : State :=
  let s := port0 cfg ((Reg.EQ_CLASS 0 7, W (lim * 65536 + 7)) :: (List.range 7).map fun c => (Reg.EQ_CLASS 0 c, W (0x4000000 + c)))
  s.setOut 4 { port := 0, cls := 7, hdr := List.replicate 60 0, place := place }

/-- Host output 4 at the end of its path, its queue full. -/
def hostOutput : State :=
  (withRegs [(Reg.PORT_CFG 97, 1), (Reg.EQ_CLASS 49 7, 0)] hostOwns).setOut 4 { port := 97, cls := 7, hdr := [0], place := .path }

theorem witness_EgressQueuesGatesAndTransmissions :
    (∀ p ∈ [(1, 1), (0, 1), (1, 0)], let s := output .path p.1 p.2
      s.running = true ∧ (s.out 4).place = .path ∧ s.pathFirst 4 (s.out 4) = true ∧ eqIndex (s.out 4).port = some 0 ∧
      (s.out 4).routed = false ∧ (s.out 4).job = none ∧ (s.portOn 0 = true ↔ p.2 = 1) ∧ s.fld (Reg.EQ_CLASS 0 7) 27 16 = p.1 ∧ s.eq 0 7 = [] ∧ 0 < s.egressFree ∧
      Tab.get none (s.eport 0).maxwin 7 = none ∧ s.portKind 0 = .eth) ∧
    (hostOutput.portKind 97 = .host ∧ hostOutput.portOn 97 = true ∧ (hostOutput.out 4).place = .path ∧
      hostOutput.pathFirst 4 (hostOutput.out 4) = true ∧ eqIndex 97 = some 49 ∧ hostOutput.fld (Reg.EQ_CLASS 49 7) 27 16 = 0 ∧
      (hostOutput.out 4).routed = false ∧ (hostOutput.out 4).job = none ∧
      (hostOutput.setOut 4 { hostOutput.out 4 with job := some 2 }).pathFirst 4 { hostOutput.out 4 with job := some 2 } = true) ∧
    (let s := hostOutput.setOut 4 { hostOutput.out 4 with routed := true, fabHdr := List.replicate 16 1 }
     s.running = true ∧ s.pathFirst 4 (s.out 4) = true ∧ (s.out 4).routed = true ∧
      s.nextHop (hdrDst (s.out 4).fabHdr) (hdrOd (s.out 4).fabHdr) = none) ∧
    (port0.gclDue 61 = false ∧ (port0 1 [(Reg.EQ_GCL_CTRL 61, 0x20000)]).gclDue 61 = true) ∧
    (CanWrite port0 .host (Reg.EQ_GCL_CTRL 0) ∧ port0.portValid (eqPort 0) = true ∧ port0.flag (Reg.EQ_GCL_CTRL 0) 17 = false ∧
      (∀ p ∈ [(0x10000, 0), (0x10400, 1024), (0x10401, 1025)], (W p.1).getLsbD 16 = true ∧ (W p.1).toNat % 2048 = p.2) ∧
      (port0 1 [(Reg.EQ_GCL_CYCLE 0, 1000000000)]).fld (Reg.EQ_GCL_CYCLE 0) 29 0 = 1000000000 ∧
      (port0 1 [(Reg.EQ_GCL_CYCLE 0, 1)]).fld (Reg.EQ_GCL_CYCLE 0) 29 0 = 1 ∧ port0.fld (Reg.EQ_GCL_CYCLE 0) 29 0 = 0) ∧
    (let s := (output .queued).setEport 0 { EPort.idle with queues := [(7, [4])] }
     s.running = true ∧ s.flag (Reg.EQ_GCL_CTRL 0) 17 = false ∧ StoreEmpty s ∧
      s.portOn 0 = true ∧ (s.eport 0).sending = none ∧ (s.eport 0).oper = [] ∧ (s.eport 0).maxwin = [] ∧ s.eq 0 7 = [4] ∧
      (∀ d < 8, d ≠ 7 → s.eq 0 d = []) ∧ (∀ d < 8, d ≠ 7 → s.fld (Reg.EQ_CLASS 0 d) 2 0 ≠ s.fld (Reg.EQ_CLASS 0 7) 2 0) ∧
      s.cbsOn 0 7 = false ∧ s.pausedBy 0 7 = false ∧ (s.secy 0).protect = false ∧ s.outAcc 0 4 = 84 ∧
      s.fld (Reg.EQ_QUANTUM 0 7) 15 0 = 0x600) ∧
    (∀ a ∈ [vectorSa, vectorSa false, vectorSa true 0xBFFFFFFF, vectorSa true (2 ^ 32)],
      let s := ((output .queued).setEport 0 { EPort.idle with queues := [(7, [4])] }).setSa (saTx 0 2) a
      let s := s.setSecy 0 { sc := true, protect := true, txAn := 2 }
      s.running = true ∧ s.eq 0 7 = [4] ∧ s.chip.crypto = true ∧ (s.secy 0).protect = true ∧ (s.secy 0).suite = 0 ∧
        s.sa (saTx 0 (s.secy 0).txAn) = a) ∧
    (∀ c < 8, port0.eq 0 c = []) ∧
    (let s := (output .sending).setEport 0 { EPort.idle with sending := some 4, sec := some ({}, vectorSa) }
     (s.eport 0).sending = some 4 ∧ (s.eport 0).sec = some ({}, vectorSa) ∧ s.txTime 0 (s.outAcc 0 4 + 32) = 38) ∧
    (∀ fr ∈ [0, 10000], let s := { (output .sending).setEport 0 { EPort.idle with sending := some 4 } with fr := fr }
      (s.eport 0).sending = some 4 ∧ (s.out 4).startFr = 0 ∧ (s.out 4).tailLen = 0 ∧ s.txTime 0 (s.outAcc 0 4) = 27) := by
  unfold CanWrite StoreEmpty; (repeat' apply And.intro) <;> decide +kernel

/-- Host ring 15 in both directions, with the descriptor at address 0: `len` bytes at 0x1000, flags class 7. -/
def hosted (len : Nat) (l : List (Nat × Word) := []) : State :=
  let s := withRegs ([(Reg.PORT_CFG 97, 1), (Reg.HP_H2D_CFG 15, 0x401), (Reg.HP_H2D_PI 15, 1), (Reg.HP_D2H_CFG 15, 0x401),
    (Reg.HP_D2H_PI 15, 1)] ++ l) hostOwns
  let s := s.setOut 4 { port := 97, cls := 7, hq := 15, hdr := List.replicate 60 0, place := .sending }
  let s := s.setEport 49 { EPort.idle with sending := some 4 }
  { s with
    hub := { s.hub with busMaster := true }
    mem := { s.mem with host := Mem.put [] 0 [0, 0x10, 0, 0, 0, 0, 0, 0, B8 len, B8 (len / 256), 15, 0] } }

theorem witness_CanChannelsAndHostRings :
    (canUp.running = true ∧ 23 < canUp.chip.cans ∧ canUp.flag (Reg.CAN_MODE 23) 0 = true ∧
      canUp.portOn 87 = true ∧ canUp.fld (Reg.CAN_STAT 23) 8 0 = 0 ∧
      (canUp 0x301 250).fld (Reg.CAN_STAT 23) 8 0 = 250 ∧ (canUp 0x301 250).fld (Reg.CAN_STAT 23) 17 16 = 0 ∧
      canUp.fld (Reg.CAN_STAT 23) 17 16 < 2 ∧ canUp.flag (Reg.CAN_MODE 23) 3 = false ∧
      (Tab.get CanCh.idle canUp.ports.can 23).txq = []) ∧
    (∀ t ∈ [2, 3], (canUp 0x301 0 [(4, t)]).canOffer (Tab.get CanCh.idle (canUp 0x301 0 [(4, t)]).ports.can 23).txq = some (4, t) ∧
      (canUp 0x301 0 [(4, t)]).fld (Reg.CAN_MODE 23) 11 8 = 3) ∧
    (canUp 0xF01).fld (Reg.CAN_MODE 23) 11 8 = 15 ∧
    ((canUp 0x311 0x20000).fld (Reg.CAN_STAT 23) 17 16 = 2 ∧ (canUp 0x311 0x20000).flag (Reg.CAN_MODE 23) 4 = true) ∧
    (∀ n ∈ [0, 60, 9596, 9597], (hosted n).running = true ∧ (hosted n).hub.busMaster = true ∧ (hosted n).portOn 97 = true ∧
      (hosted n).hpRuns (Reg.HP_H2D_BASE_LO 15) = true ∧ (hosted n).hpRuns (Reg.HP_D2H_BASE_LO 15) = true ∧
      leNat ((((hosted n).mem.host.bytes ((hosted n).hpAt (Reg.HP_H2D_BASE_LO 15)) 16).drop 8).take 2) = n) ∧
    (be16 ((hosted 60).mem.host.bytes 0x1000 60) 12 ≠ 0x8808 ∧
      (hosted 60).flag (Reg.CLS_PCTL (hosted 60).ing ((hosted 60).profile 97)) 26 = false ∧ (hosted 60).fifoFits 97 7 60 = true ∧
      (hosted 60 [(Reg.PORT_IFIFO 97 7, 0)]).fifoFits 97 7 60 = false) ∧
    (((hosted 60).eport 49).sending = some 4 ∧ ((hosted 60).out 4).hq = 15 ∧ ((hosted 60).out 4).place = .sending ∧
      ((hosted 60).wireBytes 4).length = 60 ∧ (hosted 0).reg (Reg.HP_D2H_BASE_LO 15 + 16) + 1 = (hosted 0).reg (Reg.HP_D2H_BASE_LO 15 + 12) ∧
      ((hosted 0).setEport 49 EPort.idle).hpRuns (Reg.HP_D2H_BASE_LO 15) = true ∧
      (((hosted 0).setEport 49 EPort.idle).eport 49).sending = none ∧ (hosted 60).hpAt (Reg.HP_D2H_BASE_LO 15) = 0) := by
  (repeat' apply And.intro) <;> decide +kernel

/-! ### The fabric, Whistle and the control plane -/

/-- Links 1 and 2 are in service, this device is number 3; link 1 is up when `up`, device 5 is reached over link 2. -/
def fabUp (up : Nat := 1) (stat : Nat := 0x313) (l : List (Nat × Word) := []) : State :=
  withRegs ([(Reg.PORT_QUAD 1, 7), (Reg.PORT_QUAD 2, 7), (Reg.PORT_CFG 129, 1), (Reg.PORT_CFG 130, 1), (Reg.FAB_CFG, 0x201),
    (Reg.FAB_STAT, W stat), (Reg.FAB_LNK_STAT 1, W up), (Reg.FAB_LNK_STAT 2, 1), (Reg.FAB_ROUTE 5, 0x28)] ++ l) hostOwns

def peerRecord (strapped : Bool) : LinkRecord := ⟨0xFFFF, 3, true, strapped, [], 0⟩

theorem witness_FabricLinksRecordsAndRoutes :
    (fabUp.lflOn 1 = true ∧ fabUp.fabRuns = true ∧ fabUp.linkUp 1 = true ∧ (fabUp 0).linkUp 1 = false ∧ fabUp.chip.fabric = true ∧
      fabUp.chip.uid = 0 ∧ (fabUp.fabLink 1).peerUid = 0) ∧
    (let s := { fabUp with fr := 2000000 }
     (s.fabLink 1).lastHello = 0 ∧ max 2 (s.fld Reg.FAB_CFG 11 8) * 1000000 = 2000000 ∧ s.fr = 2000000 ∧ s.linkUp 1 = true) ∧
    fabUp.fr = 0 ∧
    (let h : Hello := { (default : Hello) with uid := 0, echo := fabUp.chip.uid, named := 2000, t2 := 10, t3 := 10 }
     let s := { fabUp 1 0x313 [(Reg.TS_GBX 4, 0x10000)] with fr := 4000 }
     let t4 := ((s.fr * 256 : Nat) : Int) - signed 24 (s.fld (Reg.FAB_LNK_CAL_RX 1) 23 0) - s.fabCorr 1
     s.linkUp 1 = true ∧ (s.fabLink 1).peerUid = h.uid ∧ h.echo = s.chip.uid ∧
      0 ≤ (t4 - h.named - (h.t3 - h.t2)) / 2 ∧ (t4 - h.named - (h.t3 - h.t2)) / 2 < 2 ^ 32) ∧
    ((∀ q < 3, (fabUp.fabLink q).ctlq = [] ∧ (fabUp.eport (50 + q)).sending = none) ∧
      ((fabUp.setFabLink 1 { fabUp.fabLink 1 with ctlq := [[1]] }).fabLink 1).ctlq = [[1]] ∧ fabUp.lflOn 2 = true) ∧
    (let r : LinkRecord := { peerRecord true with uid := fabUp.chip.uid }
     { r with hops := 0 } ∉ fabUp.fab.own ∧ { fabUp with fab := { fabUp.fab with own := [{ r with hops := 0 }] } }.linkUp 1 = true ∧
      fabUp.pins = []) ∧
    ((peerRecord true).uid ≠ fabUp.chip.uid ∧ fabUp.fabDev = some 3 ∧ fabUp.strapped = true ∧
      (fabUp 1 0xF13).strapped = false ∧ ((peerRecord false).strapped = true ∨ 0 < (0xFFFF : BitVec 64).toNat)) ∧
    (let s := { fabUp 1 0xF00 with chip := { Chip.reset with uid := 9 } }
     (0 : BitVec 64).toNat < s.chip.uid.toNat) ∧
    (let s := { fabUp 1 0xF00 with fr := 10000000 }
     s.fabRuns = true ∧ s.strapped = false ∧ s.fabDev = none ∧ s.fab.changed = 0 ∧ s.fr = 10000000 ∧ s.electAddr.isSome = true) ∧
    ((fabUp 1 0x313 [(Reg.FAB_ROUTE 9, 0x18)]).flag (Reg.FAB_ROUTE 9) 3 = true ∧ fabUp.fabDev ≠ some 9) := by
  (repeat' apply And.intro) <;> decide +kernel

/-- A fabric frame of type `ty` to device `dst` with `hops` devices crossed, `n` bytes after its header. -/
def fabBytes (ty dst hops n : Nat) : List Byte := fabHeader ty dst 5 7 hops 0 9 0 0 0 ++ List.replicate n 0

theorem witness_FabricFramesArriveOrPassOn :
    (fabUp.running = true ∧ fabUp.lflOn 1 = true ∧ fabUp.linkUp 1 = true) ∧
    (hdrF (List.replicate 16 0) 0 3 0 ≠ 1 ∧ 3 < hdrType (fabBytes 4 3 0 60)) ∧
    fabUp.stepTwoQ 129 = [] ∧
    (let b := fabBytes 0 3 0 60
     hdrF b 0 3 0 = 1 ∧ hdrType b = 0 ∧ fabUp.fabDev = some (hdrDst b) ∧ b.length = 76 ∧
      fabUp.flag (Reg.CLS_PCTL fabUp.ing (fabUp.profile 129)) 26 = false ∧ hdrF b 2 2 0 = 7 ∧
      fabUp.fifoFits 129 7 (b.length - 16) = true) ∧
    (∀ h ∈ [0, 2, 3], let b := fabBytes 0 5 h 60
      hdrF b 0 3 0 = 1 ∧ hdrType b = 0 ∧ fabUp.fabDev ≠ some (hdrDst b) ∧ hdrF b 2 5 3 = h ∧
      fabUp.nextHop (hdrDst b) (hdrOd b) = some 2 ∧ fabUp.linkUp 2 = true ∧ fabUp.fabConflict = false) ∧
    fabUp.nextHop (hdrDst (fabBytes 0 6 0 60)) (hdrOd (fabBytes 0 6 0 60)) = none ∧
    (let s := fabUp 1 0x313 [(Reg.KN_POOL_SIZE 0, 4), (Reg.KN_FREE_CNT 0, 4)]
     s.fld (Reg.PORT_POOL_HI 129) 28 24 = 0 ∧ (s.knAlloc 0 (unitsOf 60)).1.isSome = true) := by
  (repeat' apply And.intro) <;> decide +kernel

/-- A command by the route with LEN = the length of its parameters. -/
def cmd (params : List Byte := []) (r : Route := .host 0) (authIdx : Nat := 0) : CmdReq :=
  { route := r, version := 1, reply := false, resv := false, status := 0, tag := 0x5A, len := params.length, seq := 7,
    authIdx := authIdx, params := params }

/-- Parameters of CMD_FAB_FORWARD to device `d` with `n` data bytes. -/
def fwdArgs (d n : Nat) : List Byte := [B8 d, 0, 0, 0, 1, 0, 1, 0] ++ [B8 n, 0, 0, 0] ++ List.replicate (8 + n) 0

theorem witness_FabricControlReachesTheKeepers :
    (1 < fabUp.chip.quads ∧ fabUp.fabRuns = true ∧ fabUp.lflOn 1 = true ∧ fabUp.linkUp 1 = true) ∧
    (let b := fabBytes 1 5 2 64
     hdrF b 0 3 0 = 1 ∧ hdrType b = 1 ∧ fabUp.fabDev ≠ some (hdrDst b) ∧ fabUp.nextHop (hdrDst b) (hdrOd b) = some 2 ∧
      hdrF b 2 5 3 < 3 ∧ fabUp.linkUp 2 = true) ∧
    (∀ f < 2, let b := fabBytes 1 3 0 64
      let s := { fabUp with ctl := { fabUp.ctl with fabDst := [(f, 5)] } }
      hdrType b = 1 ∧ s.fabDev = some (hdrDst b) ∧ s.pair0Up = true ∧ leNat ((b.drop 16).take 4) < 16 ∧
      Tab.get 0 s.ctl.fabDst f = hdrSrc b ∧ (f = 1 → Tab.get 0 s.ctl.fabDst 0 ≠ hdrSrc b) ∧ (s.whb (9 + 2 * f)).full = false ∧
      (s.whb (9 + 2 * f)).timeout = false) ∧
    (let b := fabBytes 2 3 0 8
     hdrF b 0 3 0 = 1 ∧ hdrType b = 2 ∧ 16 ≤ b.length ∧ fabUp.fabDev = some (hdrDst b)) ∧
    (fabUp.running = true ∧ fabUp.chip.fabric = true ∧ fabUp.nextHop 5 0 = some 2 ∧ fabUp.linkUp 2 = true ∧
      (fabUp.fabLink 2).ctlq = [] ∧ (fabUp.fabLink 2).ctlOut < 8 ∧ (fabUp.eport 52).sending = none ∧
      ((fabUp.setEport 52 { EPort.idle with sending := some 4 }).eport 52).sending ≠ none ∧
      (fabUp.setEport 52 { EPort.idle with sending := some 4 }).linkUp 2 = true ∧
      (fabUp 1 0x313 [(Reg.FAB_LNK_STAT 2, 0)]).nextHop 5 0 = some 2 ∧ (fabUp 1 0x313 [(Reg.FAB_LNK_STAT 2, 0)]).linkUp 2 = false) ∧
    (0x3FFFFC < 0x400000 ∧ 0x404000 ≤ 0x404000 ∧ 0x400001 % 4 ≠ 0) ∧
    (∀ l ∈ [({} : Lock), { broken := true, prior := 0x2000 }, { owner := 0x2000 }, { owner := 0x400F }],
      (lockable l).running = true ∧ (lockable l).chip.fabric = true ∧ (lockable l).leashAcc 63 (0x4000 + 15) = true ∧
      (lockable l).lock ((0x403FFC - 0x400000) / 4) = l ∧ 0 < (lockable l).fld (Reg.LEASH_GRP_TMO 63) 19 0) ∧
    (withRegs [(Reg.LEASH_GRP_ACC_HI 63, 0)]).leashAcc 63 (0x4000 + 15) = false ∧
    (let q := cmd (fwdArgs 5 4)
     fabUp.pair0Up = true ∧ fabUp.serves q.route = true ∧ fabUp.cmdBusy = false ∧ fabUp.ctl.accepted = [] ∧ q.formOk = true ∧
      fabUp.minimal = false ∧ fabUp.boot.romWait = false ∧ q.len = 24 ∧ (byteAt q.args 0).toNat = 5 ∧
      leNat ((q.args.drop 8).take 2) = 4 ∧ leNat ((q.args.drop 1).take 3) = 0 ∧ fabUp.flag (Reg.FAB_ROUTE 5) 3 = true ∧
      fabUp.nextHop 5 0 = some 2) ∧
    ({ fabUp with chip := { Chip.reset with part := .lrv2560 } }.chip.fabric = false) ∧
    (fabUp.fabDev = some 3 ∧ (byteAt (cmd (fwdArgs 3 4)).args 0).toNat = 3) ∧
    (let s := { fabUp with ctl := { fabUp.ctl with fwdWait := some (cmd, 5) } }
     s.ctl.accepted = [] ∧ s.fr < 5 ∧ 5 ≤ { s with fr := 5 }.fr) := by
  (repeat' apply And.intro) <;> decide +kernel

/-- Block `b` of Whistle as given. -/
def whistled (b : Nat) (x : WhBlock) : State := fabUp.setWhb b x

theorem witness_WhistleBlocksAndHostPairs :
    (∀ m ∈ [Master.host, .keeper 0], fabUp.onBus m = true ∧ (Master.hostSide m = true ↔ m = .host)) ∧
    (∀ b ∈ [0, 7, 8, 9, 10, 11, 12], ((whistled b { full := true }).whb b).full = true ∧ (fabUp.whb b).full = false ∧
      (fabUp.whb b).timeout = false ∧ ((whistled b { timeout := true }).whb b).timeout = true) ∧
    (fabUp.pair0Up = true ∧ fabUp.chip.fabric = true ∧
      { fabUp with ctl := { fabUp.ctl with fabDst := [(0, 5)] } }.nextHop (Tab.get 0 [(0, 5)] (8 / 2 - 4)) 0 = some 2) ∧
    (∀ b ∈ [9, 11], let s := { whistled b { full := true, posted := W 1 :: ([W 0x10101, 0, 7] ++ List.replicate 12 0) } with
        ctl := { (whistled b { full := true, posted := W 1 :: ([W 0x10101, 0, 7] ++ List.replicate 12 0) }).ctl with fabDst := [(0, 5), (1, 6)] } }
      (s.whb b).full = true ∧ ((s.whb b).posted.getD 0 0).toNat = 1 ∧ s.pair0Up = true ∧
      (packetOf (.fabric (5 + (b - 9) / 2)) (bytesOf ((s.whb b).posted.drop 1))).map (fun x => (x.1, x.2.reply)) = some (0x0101, false) ∧
      s.cmdBusy = false ∧ s.ctl.accepted = [] ∧ s.serves (.fabric (5 + (b - 9) / 2)) = true ∧ Tab.get 0 s.ctl.fabDst (b / 2 - 4) = 5 + (b - 9) / 2) ∧
    (fabUp.nextHop 5 0 = some 2 ∧ fabUp.linkUp 2 = true ∧ (fabUp.fabLink 2).ctlq = [] ∧ (fabUp.fabLink 2).ctlOut < 8 ∧
      (fabUp.eport 52).sending = none ∧ (List.replicate 16 (W 1)).length ≤ 16) ∧
    (Tab.get [] fabUp.ctl.lateQ 3 = [] ∧ fabUp.boot.romWait = false ∧ fabUp.minimal = false ∧
      { fabUp with ctl := { fabUp.ctl with replyQ := [(3, [[1], [2]])] } }.pair0Up = true) ∧
    (fabUp.fld Reg.WH_CFG 19 0 = 1000 ∧ { whistled 12 { full := true } with fr := 1000000 }.fr = 0 + 1000 * 1000) ∧
    ({ fabUp with ctl := { fabUp.ctl with keeperDown := [(0, true)] } }.pair0Up = false ∧
      (withRegs [(Reg.SYS_BOOT_STATUS, 0x2000)]).minimal = true) ∧
    (∀ h < 4, fabUp.servesPair h = true) ∧
    (fabUp.ctl.accepted = [] ∧ fabUp.cmdBusy = false ∧ fabUp.ctl.offerWait = none ∧ Tab.get [] fabUp.ctl.replyQ 3 = []) ∧
    (∀ op ∈ [0x0101, 0x0102, 0x0103, 0x0A02],
      (packetOf (.host 3) (bytesOf ([W (op + 0x10000), 0, 7] ++ List.replicate 12 0))).map (·.1) = some op) ∧
    (fabUp.hub.busMaster = false ∧
      let s := { fabUp with
        hub := { fabUp.hub with busMaster := true }
        mem := { fabUp.mem with host := Mem.put [] 0x1000 [1, 1, 1, 0] } }
      (packetOf (.indirect 3 0 16 0) (s.mem.host.bytes 0x1000 16)).map (·.1) = some 0x0101) ∧
    (let s := { fabUp with ctl := { fabUp.ctl with replyQ := [(3, List.replicate 16 [])] } }
     (Tab.get [] s.ctl.replyQ 3).length = 16 ∧ (s.whb 7).full = false ∧ (s.whb 7).timeout = false) := by
  (repeat' apply And.intro) <;> decide +kernel

/-- A key of slot 15, and a management port. -/
def keyed (sq : Nat := 0) : State :=
  let s := withRegs [(Reg.PORT_CFG 96, 1), (Reg.PORT_STAT 96, 1)] hostOwns
  { s with ctl := { s.ctl with authKey := [(15, List.replicate 16 0)], authSeq := [(15, sq)] } }

/-- An in-band request of CMD_GET_FEATURES with SEQ 7 and its tag, or another tag. -/
def inBandOf (auth : Nat) (ok : Bool) (version : Nat := 1) : List Byte :=
  let p := [1, 1, B8 version, 0x5A, 0, 0, 0, 0, 7, 0, 0, 0, B8 auth, 0, 0, 0]
  fit 60 (List.replicate 12 0 ++ [0x88, 0xB5] ++ p ++
    (if ok then cmac (List.replicate 16 0) ([0x88, 0xB5] ++ p) else List.replicate 16 0))

theorem witness_InBandRequestsAreAuthenticated :
    (keyed.pair0Up = true ∧ keyed.boot.romWait = false ∧
      { keyed with ctl := { keyed.ctl with inBand := [inBandOf 15 true] } }.ctl.inBand = [inBandOf 15 true] ∧
      keyed.keyOf 15 ≠ [] ∧ keyed.keyOf 0 = [] ∧ Tab.get 0 keyed.ctl.authSeq 15 < 7 ∧ 7 ≤ Tab.get 0 (keyed 7).ctl.authSeq 15) ∧
    (∀ p ∈ [(15, true, 1, true), (0, false, 1, true), (15, false, 2, false), (0, false, 2, false)],
      (packetOf (.inBand (List.replicate 6 0)) ((inBandOf p.1 p.2.1 p.2.2.1).drop 14)).map
        (fun x => (x.1, x.2.authIdx, x.2.formOk, decide ((inBandOf p.1 p.2.1 p.2.2.1).length = max 60 (30 + (16 + x.2.len + 3) / 4 * 4)))) =
        some (0x0101, p.1, p.2.2.2, true)) ∧
    ((inBandOf 15 true).drop 30).take 16 =
      cmac (keyed.keyOf 15) ([0x88, 0xB5] ++ ((inBandOf 15 true).drop 14).take 16) := by
  (repeat' apply And.intro) <;> decide +kernel

theorem witness_CommandsAreCheckedInOrder :
    (State.reset.pair0Up = true ∧ State.reset.serves cmd.route = true ∧ State.reset.serves (.host 4) = false) ∧
    { State.reset with ctl := { fwdWait := some (cmd, 5) } }.cmdBusy = true ∧
    (let s := { withRegs [(Reg.SYS_SURVEY, 2)] with ctl := { fwdWait := some (cmd, 5) } }
     s.cmdBusy = true ∧ s.surveying = true ∧ s.pair0Up = true ∧ s.serves cmd.route = true ∧ State.reset.surveying = false) ∧
    (State.reset.cmdBusy = false ∧ State.reset.ctl.accepted = [] ∧ cmd.formOk = true ∧ { cmd with version := 2 }.formOk = false ∧
      State.reset.minimal = false ∧ State.reset.boot.romWait = false) ∧
    (let s := withRegs [(Reg.SYS_BOOT_STATUS, 0x2000)]
     s.minimal = true ∧ s.serves cmd.route = true ∧ s.pair0Up = true) ∧
    (let s := { State.reset with boot := { romWait := true } }
     s.boot.romWait = true ∧ s.serves cmd.route = true ∧ s.minimal = false) := by
  (repeat' apply And.intro) <;> decide +kernel

theorem witness_RepliesGoBackOnTheirRoute :
    (∀ r ∈ [Route.host 3, .indirect 3 0x1000 60 9, .inBand (List.replicate 6 1), .fabric 5], (cmd [] r).route = r) ∧
    { fabUp with hub := { busMaster := true } }.hub.busMaster = true ∧ fabUp.mgmtUp = false ∧ keyed.mgmtUp = true ∧
    (fabUp.nextHop 5 0 = some 2 ∧ fabUp.linkUp 2 = true) := by
  (repeat' apply And.intro) <;> decide +kernel

/-! ### Commands of the Keepers and of the island -/

/-- What makes pair 0 take a command at once, as data. -/
def takes (s : State) (q : CmdReq) : Bool :=
  s.pair0Up && s.serves q.route && !s.cmdBusy && s.ctl.accepted.isEmpty && q.formOk && !s.minimal && !s.boot.romWait

theorem takes_spec {s : State} {q : CmdReq} (h : takes s q = true) : TakesNow s q := by
  simpa [takes, TakesNow, and_assoc] using h

/-- Parameters from numbers. -/
def bytes (l : List Nat) : List Byte := l.map B8

theorem witness_DeviceCommands :
    (∀ q ∈ [cmd, cmd [0], cmd (bytesOf [W Reg.HERD_TMO, W Reg.SYS_GPIO_OUT]), cmd (bytesOf [W 0x400000]), cmd (bytesOf [W 0x403FFC]),
        cmd (bytesOf [W 1]), cmd (bytesOf [W 0x4000000]), cmd (bytesOf [W Reg.HERD_TMO, W 0x403FFC, W 2]), cmd (bytesOf [W Reg.HERD_TMO, 5, W 0x400000, 1, W Reg.DSP_AFF, 2]),
        cmd (bytesOf [W Reg.HERD_TMO, 5, W 0x400001, 1]), cmd (bytes ([15, 0, 0, 0] ++ List.replicate 16 1)),
        cmd (bytes ([1, 0, 0, 0] ++ List.replicate 16 1)), cmd (bytes ([2, 0, 0, 0] ++ List.replicate 16 1)) (.inBand []),
        cmd [1], cmd [0]],
      takes State.reset q = true) ∧
    (State.reset.flag (Reg.DDR_CTRL 0) 2 = false ∧ dramUp.flag (Reg.DDR_CTRL 0) 2 = true ∧
      dramUp.fld (Reg.DDR_CTRL 0) 10 8 = 4 ∧ 0 < dramUp.chip.ddrs ∧ takes dramUp cmd = true) ∧
    ((cmd (bytes ([15, 0, 0, 0] ++ List.replicate 16 1))).len = 20 ∧ State.reset.boot.resetAt = none) := by
  (repeat' apply And.intro) <;> decide +kernel

/-- SecY parameters of port `p`. -/
def secyArgs (p suite offset flags : Nat) : List Byte := bytes ([p, suite, offset, flags, 1, 0, 0, 0] ++ List.replicate 8 2)

/-- SA parameters: a transmit (`kind` 0) or receive SA, packet number `pn`, a key of 16 bytes. -/
def saArgs (p kind rx an en pn : Nat) : List Byte :=
  bytes [p, kind, rx, 0, an, en, 0, 0] ++ leBytes 8 pn ++ bytes (List.replicate 32 3)

/-- An INDIRECT request of host pair 0. -/
def indirect : Route := .indirect 0 0x1000 256 0

/-- CMD_TBL_OPS of one operation on bucket 3 of table 63, whose buffers the device reaches. -/
def tblCmd (op : Nat) : CmdReq := cmd (bytes ([op, 63, 0, 0, 3] ++ List.replicate 27 0))
def reaching : State := { table63 with hub := { table63.hub with busMaster := true } }

/-- The WRITE_SLOT that it waits for is the update unit's next. -/
def tblWaiting : State :=
  let s := reaching.tblTake (tblCmd 4).args
  { s with ctl := { s.ctl with tblWait := some (tblCmd 4, (tblCmd 4).args, []) } }

theorem witness_TableCommandsWaitForTheUpdateUnit :
    (∀ op ∈ [4, 5], takes reaching (tblCmd op) = true ∧ (tblCmd op).len = 32 ∧ reaching.hub.fatal = false ∧
      (tdescOf (tblCmd op).args).irq = false ∧ ((reaching.tblTake (tblCmd op).args).tblOver.isSome ↔ op = 5)) ∧
    (tblWaiting.running = true ∧ (tblCmd 4).args.length = 32 ∧ (match tblWaiting.help.updates with | .op 4 _ :: _ => true | _ => false) = true ∧
      (tblWaiting.updateApply none).ctl.tblWait = some (tblCmd 4, (tblCmd 4).args, []) ∧
      (({ tblWaiting.updateApply none with ctl := { (tblWaiting.updateApply none).ctl with tblWait := none } }).tdmaGo 4 0).tblOver.isSome ∧
      tblWaiting.ctl.accepted = []) ∧
    ({ tblWaiting with hub := { fatal := true } }.ctl.tblWait = some (tblCmd 4, (tblCmd 4).args, [])) := by
  (repeat' apply And.intro) <;> decide +kernel

theorem witness_MacsecAndTableCommands :
    (∀ q ∈ [cmd (secyArgs 47 3 50 15), cmd (secyArgs 0 0 0 0), cmd (secyArgs 0 4 0 0), cmd (secyArgs 0 0 31 0), cmd (secyArgs 0 0 30 16),
        cmd [0], cmd (bytes (List.replicate 12 0)), cmd (bytes ([255, 0, 47, 1] ++ List.replicate 8 5)),
        cmd (bytes ([0, 1, 47, 1] ++ List.replicate 8 5)), cmd (bytes ([0, 0, 0, 2] ++ List.replicate 8 5)),
        cmd (saArgs 47 1 255 3 1 9) indirect, cmd (saArgs 0 0 0 0 1 (3 * 2 ^ 30)) indirect, cmd (saArgs 0 0 0 0 0 9) indirect, cmd (bytes (List.replicate 31 0)), cmd,
        cmd (bytes ([5, 63] ++ List.replicate 30 0))],
      takes table63 q = true) ∧
    (table63.chip.crypto = true ∧ table63.chip.quads = 12 ∧ table63.hub.fatal = false) ∧
    (let s := { State.reset with chip := { Chip.reset with part := .lrv3840 } }
     s.chip.quads < 12 ∧ s.chip.crypto = true ∧ takes s (cmd [47]) = true ∧ 4 * s.chip.quads ≤ (byteAt (cmd [47]).args 0).toNat ∧
      (cmd [47]).len ∉ [16]) ∧
    ({ State.reset with chip := { Chip.reset with part := .lrv2560 } }.chip.crypto = false) ∧
    (let q := cmd (saArgs 0 0 0 0 1 (3 * 2 ^ 30)) indirect
     q.len = 48 ∧ (table63.secy 0).suite = 0 ∧ leNat ((q.args.drop 8).take 8) = 3 * 2 ^ (32 - 2)) ∧
    (let s := { State.reset with hub := { fatal := true } }
     s.hub.fatal = true ∧ takes s (cmd (bytes (List.replicate 32 0))) = true) ∧
    (tdescOf (cmd (bytes ([5, 63] ++ List.replicate 30 0))).args).irq = false := by
  (repeat' apply And.intro) <;> decide +kernel

/-- SYS_EPOCH as given, the code regions of epochs 0 and 1 holding one block each. -/
def epochs (v : Nat) (cnt : Nat := 0) : State :=
  let s := withRegs [(Reg.SYS_EPOCH, W v), (Reg.HERD_EPOCH_CNT 1, W cnt)] hostOwns
  { s with ctl := { s.ctl with code0 := [4], code1 := [255] } }

def loadArgs (addr n : Nat) : List Byte := bytes ([1, 0, 0, 0] ++ [addr % 256, addr / 256, 0, 0] ++ List.replicate n 7)
def dropArgs (addr len : Nat) : List Byte := leBytes 2 addr ++ [0, 0] ++ leBytes 4 len

/-- Pack 0 is not empty: a context of it is live. -/
def busyPack : State := (epochs 6).setCtx 9 live

theorem witness_ProgramsAndPacks :
    (∀ q ∈ [cmd (loadArgs 0x500 4), cmd (loadArgs 0xFFFC 4), cmd (loadArgs 0x400 4), cmd (loadArgs 0x3FC 4), cmd (loadArgs 0xFFFC 8),
        cmd (loadArgs 0 0), cmd (loadArgs 0x501 4), cmd (loadArgs 0x500 3), cmd (dropArgs 0xFF00 256), cmd (dropArgs 0 65536),
        cmd (bytes [1, 0, 0, 0, 5, 0, 0, 0]), cmd (bytes [1, 0, 0, 0, 0, 0, 0, 0]), cmd (bytes [1, 0, 0, 0])],
      takes (epochs 6) q = true) ∧
    ((epochs 6).flag Reg.SYS_EPOCH 1 = true ∧ (epochs 4).flag Reg.SYS_EPOCH 1 = false ∧ (epochs 6).ing = 0 ∧ (epochs 6).spare = 1 ∧
      (epochs 6).code 0 = [4]) ∧
    (leNat (((cmd (dropArgs 0 65536)).args.drop 4).take 4) = 65536 ∧ leNat (((cmd (loadArgs 0xFFFC 4)).args.drop 4).take 2) = 0xFFFC) ∧
    (State.reset.packsEmpty [0] = true ∧ busyPack.packsEmpty [0] = false ∧ busyPack.packsIn 1 = [0]) ∧
    (let s := { busyPack with ctl := { busyPack.ctl with drainWait := some (cmd, [0], 5) } }
     s.ctl.accepted = [] ∧ s.ctl.fwdWait = none ∧ s.packsEmpty [0] = false ∧ s.fr < 5 ∧ 5 ≤ { s with fr := 5 }.fr) := by
  (repeat' apply And.intro) <;> decide +kernel

theorem witness_EpochsStageCommitAndAbort :
    (∀ v ∈ [4, 6], takes (epochs v) cmd = true ∧ takes (epochs v) (cmd [0]) = true) ∧
    ((epochs 4 1).fld (Reg.HERD_EPOCH_CNT (epochs 4).spare) 17 0 = 1 ∧ (epochs 4).fld (Reg.HERD_EPOCH_CNT (epochs 4).spare) 17 0 = 0 ∧
      (epochs 4).flag Reg.SYS_EPOCH 1 = false ∧ (epochs 6).flag Reg.SYS_EPOCH 1 = true ∧ (epochs 4).chip.packs = 32 ∧
      (epochs 6).fld (Reg.HERD_EPOCH_CNT (epochs 6).ing) 17 0 = 0) := by
  (repeat' apply And.intro) <;> decide +kernel

/-- SYS_BOOT_STATUS as given. -/
def running (status : Nat) (rom : Bool := false) : State :=
  let s := withRegs [(Reg.SYS_BOOT_STATUS, W status)] hostOwns
  { s with boot := { s.boot with romWait := rom, survey := List.replicate 16 0 } }

/-- The ROM waits for a download, with these bytes in host memory. -/
def downloading (b : List Byte) : State :=
  let s := running 0 true
  { s with mem := { s.mem with host := memAt 0 b }, hub := { s.hub with busMaster := true } }

/-- A record of a supply out of range. -/
def supply : SurveyRec := .rail 0 (some 5000) false

theorem witness_ImagesSurveyAndFlash :
    (∀ p ∈ [(0x1000, false), (0x1700, false), (0x2000, false)],
      ∀ q ∈ [cmd, cmd (dropArgs 0 16), cmd ([0, 0, 0, 0, 16, 0]), cmd ([0, 0, 0, 0, 17, 0]), cmd (leBytes 6 0),
          cmd (leBytes 4 0x1FFFFFF ++ [1, 0]), cmd (leBytes 4 0x1FFFFFF ++ [2, 0]), cmd (leBytes 4 0x1FF0000 ++ leBytes 4 65536),
          cmd (leBytes 4 0x1FF0000 ++ leBytes 4 131072), cmd (leBytes 8 1), cmd (leBytes 4 0x1FFFFFF ++ [0xF0]), cmd [0], cmd [1]],
        (running p.1).pair0Up = true ∧ (running p.1).serves q.route = true ∧ (running p.1).cmdBusy = false ∧
          (running p.1).ctl.accepted = [] ∧ q.formOk = true ∧ (running p.1).boot.romWait = p.2) ∧
    ((running 0x1000).fld Reg.SYS_BOOT_STATUS 10 8 = 0 ∧ (running 0x1700).fld Reg.SYS_BOOT_STATUS 10 8 = 7 ∧
      (running 0x1000).minimal = false ∧ (running 0x2000).minimal = true ∧ (running 0x1000).chip.flashSize = 0x2000000) ∧
    ((running 0 true).boot.romWait = true ∧ (running 0 true).serves (.host 0) = true ∧ (cmd (leBytes 12 0)).len = 12) ∧
    (let h := testImage
     leNat ((h.drop 0).take 4) = 0x4956524C ∧ leNat ((h.drop 12).take 4) = 0 ∧ leNat ((h.drop 8).take 4) = 7 ∧
        (running 0).chip.minSvn.toNat ≤ 7 ∧ (∀ x ∈ (running 0).chip.keyHash, x = 0) ∧
        ecdsaP384 ((h.drop 0x30).take 96) ((h.drop 0x90).take 96) (h.take 0x90) = true ∧
        ecdsaP384 ((h.drop 0x30).take 96) ((h.drop 0x90).take 96) ((testImage 8).take 0x90) = false) ∧
    (let s := downloading testImage
     s.mem.host.bytes 0 256 = testImage ∧ s.hub.busMaster = true ∧ s.boot.romWait = true ∧ (downloading []).boot.romWait = true ∧
        leNat (((downloading []).mem.host.bytes 0 256).take 4) ≠ 0x4956524C) ∧
    (let s := { running 0x2000 with mem := (withCopies [] testImage).mem }
     s.flashBytes 0x1000000 256 = testImage ∧ s.flashBytes 0 4 = [255, 255, 255, 255]) ∧
    ((running 0x1000).surveying = false ∧ (running 0x1000).minimal = false ∧
      (∀ x ∈ [(0x1000, supply), (0x1000, SurveyRec.rail 7 none true), (0x1000, .load 0 (some 5) 0), (0x1000, .phy 255 none 0 0)],
        (running x.1).surveying = false) ∧ (railRange (running 0x1000).vset 0).2 < 5000 ∧ (hostOwns.portOn 97 = false) ∧
      (withRegs [(Reg.PORT_CFG 97, 1)] hostOwns).portOn 97 = true ∧ fabUp.portKind (128 + 1) = .lfl ∧ fabUp.linkUp 1 = true ∧
      (fabUp 0).linkUp 1 = false ∧ { running 0x1000 with ctl := { (running 0x1000).ctl with accepted := [] } }.cmdBusy = false) := by
  (repeat' apply And.intro) <;> decide +kernel

/-- The island as given. -/
def isle (x : Island) : State := { hostOwns with island := x }

theorem witness_IslandKeepsItsLog :
    (State.reset.chip.metro = true ∧ (isle {}).island.powered = true ∧ 0 < (Tab.get 0 (isle {}).island.params 3).toNat * 1000000000 ∧
      (isle { rtcNs := 60000000000 }).island.periodEnds = true ∧ 0 < (isle { rtcNs := 60000000000 }).island.rtcNs ∧
      60000000000 % ((Tab.get 0 (isle {}).island.params 3).toNat * 1000000000) = 0 ∧
      (isle { rtcNs := 7 }).island.rtcNs % ((Tab.get 0 (isle {}).island.params 3).toNat * 1000000000) ≠ 0 ∧ (isle {}).island.rtcNs ≤ (isle {}).island.recAt ∧
      (isle {}).island.adcOk = true ∧ (isle {}).island.sealLow = false ∧ (isle {}).island.newSlot = false ∧
      (isle { newSlot := true }).island.newSlot = true ∧ (isle {}).ctl.offerWait = none) ∧
    (∀ k ∈ [1, 2, 3], ∀ low ∈ [true, false], ∀ a ∈ [4094, 4095],
      let x : Island := { offer := some (k, [1]), offerLow := low, audit := a }
      (isle x).island.offer = some (k, [1]) ∧ (isle x).island.offerLow = low ∧ ((isle x).island.audit < 4095 ↔ a = 4094) ∧
        (isle x).island.fuseBlown = false) ∧
    (isle { powered := false }).island.powered = false ∧ (isle {}).island.pubKey = [] ∧ (isle { pubKey := [1] }).island.pubKey ≠ [] := by
  (repeat' apply And.intro) <;> decide +kernel

theorem witness_IslandCommands :
    (∀ q ∈ [cmd, cmd [0], cmd (leBytes 4 3 ++ [1, 0]), cmd (leBytes 4 3 ++ [64, 0]), cmd (leBytes 4 3 ++ [65, 0]),
        cmd (bytes ([1, 0, 0, 0] ++ List.replicate 12 0)), cmd (bytes [2, 0, 0, 0, 9]), cmd (bytes [3, 0, 0, 0]), cmd (bytes [4, 0, 0, 0]),
        cmd (bytes [1, 1, 0, 0])],
      takes State.reset q = true) ∧
    ({ State.reset with chip := { Chip.reset with metro := false } }.chip.metro = false ∧ State.reset.chip.metro = true) ∧
    (let s := { (isle { entries := 67 }) with regs := Tab.set none hostOwns.regs Reg.MET_STAT (some 1) }
     s.metAlive = true ∧ s.island.entries - min 1024 s.island.entries ≤ 3 ∧ 3 + 64 ≤ s.island.entries ∧ s.island.entries < 2 ^ 31) ∧
    ((isle {}).island.offer = none ∧ (isle { offer := some (3, []) }).island.offer ≠ none ∧ (isle {}).ctl.offerWait = none) ∧
    (∀ low ∈ [true, false], let s := { isle { offer := some (3, []), offerLow := low } with ctl := { offerWait := some (cmd, 5) } }
      s.ctl.offerWait = some (cmd, 5) ∧ s.fr < 5 ∧ 5 ≤ { s with fr := 5 }.fr ∧ s.island.offer = some (3, []) ∧
        s.island.fuseBlown = false ∧ s.island.audit < 4095 ∧ s.island.offerLow = low) := by
  (repeat' apply And.intro) <;> decide +kernel

theorem witness_EmptyQueueIsOneNanosecond :
    State.reset.pending = [] ∧ State.reset.reg (Reg.TB_ADJ_FREQ 3) = 0 ∧ (State.reset.domTime 3).ns < 1000000000 ∧
    ({ State.reset with tb := { dom := [(3, ⟨0, 999999999, 0⟩)] } }.domTime 3).ns = 999999999 ∧
    (∀ d < 4, State.reset.adjPending d = false ∧
      (withRegs [(Reg.TB_ADJ_CTRL d, 0x30000)]).adjPending d = (withRegs [(Reg.TB_ADJ_CTRL d, 0x30000)]).flag (Reg.TB_ADJ_CTRL d) 17) ∧
    (let s := { fabUp with fr := 999 }
     s.pending = [] ∧ (s.fr + 1) % 2 ^ 64 % 1000 = 0 ∧ s.linkUp 1 = true) := by
  (repeat' apply And.intro) <;> decide +kernel

/-- The reset state is canonical, and its step answers a next state. -/
theorem witness_EveryStepKeepsTheCanonicalForm : Canon State.reset ∧ ∃ t, step State.reset = .next t :=
  ⟨by unfold Canon; decide +kernel, _, rfl⟩

/-- An in-band CMD_CFG_STATUS under key 15, with a SEQ above its last. -/
def statusInBand : List Byte :=
  let p : List Byte := [4, 10, 1, 0x5A, 0, 0, 0, 0, 7, 0, 0, 0, 15, 0, 0, 0]
  fit 60 (List.replicate 12 0 ++ [0x88, 0xB5] ++ p ++ cmac (List.replicate 16 0) ([0x88, 0xB5] ++ p))

/-- Peer 5 is named in fabric pair 0; peer 15 may take lock 4095. -/
def namedPeer : State := { fabUp with ctl := { fabUp.ctl with fabDst := [(0, 5)] } }

theorem witness_BlockCommandsComplete :
    (1 < (ddr1 0).chip.ddrs ∧ CanWrite (ddr1 0) .host (Reg.DDR_CTRL 1) ∧ (ddr1 0x402).flag (Reg.DDR_CTRL 1) 1 = true ∧
      ∀ p ∈ [(0x402, false, true), (0x401, true, false)],
        (W p.1).toNat / 256 % 8 < 5 ∧ (W p.1).getLsbD 0 = p.2.1 ∧ (W p.1).getLsbD 1 = p.2.2) ∧
    (let s := { ddr1 0x10405 with fr := 1000000 }
     s.trackDue 1 0 = true ∧ s.ddrInService 1 = true ∧ (s.dch 1 3).lastRead + 100000 ≤ s.fr ∧ (s.dch 1 3).q = []) ∧
    (let s := { fabUp with fr := 2000000 }
     s.lflOn 1 = true ∧ s.fabRuns = true ∧ s.linkUp 1 = true ∧ (s.fabLink 1).lastHello + s.deadNs ≤ s.fr) ∧
    (let b := fabBytes 1 3 0 64
     namedPeer.lflOn 1 = true ∧ 1 < namedPeer.chip.quads ∧ namedPeer.linkUp 1 = true ∧ hdrF b 0 3 0 = 1 ∧ hdrType b = 1 ∧
      16 < b.length ∧ namedPeer.fabDev = some (hdrDst b) ∧ namedPeer.pair0Up = true ∧ leNat ((b.drop 16).take 4) < 16 ∧
      Tab.get 0 namedPeer.ctl.fabDst 0 = hdrSrc b ∧ (namedPeer.whb 9).full = false ∧ (namedPeer.whb 9).timeout = false) ∧
    ((lockable {}).chip.fabric = true ∧ (lockable {}).running = true ∧ (lockable {}).leashAcc 63 (0x4000 + 15) = true ∧
      ((lockable {}).lock 4095).owner = 0) ∧
    (let s := { fabUp with ctl := { fwdWait := some (cmd, 5), offerWait := some (cmd, 5) }, fr := 5 }
     s.ctl.fwdWait = some (cmd, 5) ∧ s.ctl.offerWait = some (cmd, 5) ∧ s.ctl.accepted = [] ∧ 5 ≤ s.fr) ∧
    (let s := whistled 6 { full := true, posted := [1, 0x00010A04, 0, 7] ++ List.replicate 12 0 }
     s.onBus .host = true ∧ s.pair0Up = true ∧ s.servesPair 3 = true ∧ (s.whb 6).full = true ∧ s.replyRoom 3 = true ∧
      s.ctl.accepted = [] ∧ s.cmdBusy = false ∧ (s.whb 6).posted.getD 0 0 = 1 ∧ s.minimal = false ∧ s.boot.romWait = false ∧
      (packetOf (.host 3) (bytesOf ((s.whb 6).posted.drop 1))).map (fun x => (x.1, x.2.formOk, x.2.len)) = some (0x0A04, true, 0)) ∧
    (let s := { keyed with ctl := { keyed.ctl with inBand := [statusInBand] } }
     s.pair0Up = true ∧ s.boot.romWait = false ∧ s.minimal = false ∧ s.ctl.inBand = [statusInBand] ∧ statusInBand.length = 60 ∧
      (packetOf (.inBand ((statusInBand.drop 6).take 6)) (statusInBand.drop 14)).map
        (fun x => (x.1, x.2.formOk, x.2.len, x.2.authIdx, x.2.seq)) = some (0x0A04, true, 0, 15, 7) ∧
      s.keyOf 15 ≠ [] ∧ Tab.get 0 s.ctl.authSeq 15 < 7 ∧ s.ctl.accepted = [] ∧ s.cmdBusy = false ∧
      (statusInBand.drop 30).take 16 = cmac (s.keyOf 15) ([0x88, 0xB5] ++ (statusInBand.drop 14).take 16)) ∧
    (let s := starting 0 3
     s.mode = 0 ∧ s.boot.resetAt = none ∧ s.boot.romWait = false ∧ s.boot.stage = 0 ∧
      max 1 (s.fld Reg.SYS_BOOT_TRIES 11 8) ≤ s.fld Reg.SYS_BOOT_TRIES 3 0) ∧
    (let s := debugged { live with halted := true }
     CanWrite s .host Reg.DBG_CMD ∧ s.dbgHere = true ∧ (s.ctx s.dbgCtx).halted = true ∧ (s.ctx s.dbgCtx).live = true ∧
      (s.ctx s.dbgCtx).wait = .none ∧ (s.eng (engOf s.dbgCtx)).issue = none ∧ CanWrite s .host (Reg.DBG_REG 15)) := by
  unfold CanWrite; (repeat' apply And.intro) <;> decide +kernel

/-! ### The spec's worked examples -/

/-- The fields that a worked encoding shows: instruction, length, width and prefixes, nibbles, immediate, mask. -/
def fieldsOfCode (l : List Nat) : Option (EOp × Nat × List Bool × List Nat) :=
  (decodeBytes l).map fun r =>
    let o := r.2.1
    (r.1, r.2.2, [o.h, o.w, o.sh, o.cx, o.br, o.acq, o.rel],
      [o.d.toNat, o.s.toNat, o.x.toNat, o.m.toNat, o.imm.toNat, o.mask.toNat])

/-- Worked encodings of the engine programming model and of the instruction reference. -/
theorem test_worked_encodings :
    (∀ p ∈ [([0x10, 0x35], EOp.add, 2), ([0x51, 0x01, 0x40, 0x02], .bcc, 4), ([0x60, 0x00, 0x04, 0x38, 0x00], .call, 5),
        ([0xF3, 0x70, 0x16, 0x20], .mtc, 4), ([0xF7, 0x30, 0x24, 0x00, 0x08], .fork, 5), ([0xF7, 0x01, 0x45], .crcb, 3),
        ([0xF1, 0xF7, 0x05, 0x29], .popc, 4), ([0xF1, 0xF2, 0x12, 0xA5], .mov, 4), ([0x19, 0xF0, 0x01], .andi, 3)],
      ((decodeBytes p.1).map fun r => (r.1, r.2.2)) = some p.2) ∧
    fieldsOfCode [0xF0, 0x40, 0x72, 0x01, 0x00, 0x01] =
      some (.ld, 6, [true, false, false, false, false, false, false], [7, 2, 0, 1, 0x0100, 0]) ∧
    fieldsOfCode [0xF1, 0xF4, 0x40, 0x46, 0x00] =
      some (.ld, 5, [false, true, false, false, false, true, false], [4, 6, 0, 0, 0, 0]) ∧
    fieldsOfCode [0xF1, 0x11, 0x30, 0x78, 0x56, 0x34, 0x12] =
      some (.addi, 7, [false, true, false, false, false, false, false], [3, 0, 0, 0, 0x12345678, 0]) ∧
    fieldsOfCode [0xF1, 0xF2, 0x11, 0xB0, 0x01, 0, 0, 0] =
      some (.addi, 8, [false, true, true, false, false, false, false], [11, 0, 0, 0, 1, 0]) ∧
    fieldsOfCode [0xF1, 0x49, 0x05, 0x07, 0x02] =
      some (.outp, 5, [false, true, false, false, false, false, false], [0, 5, 0, 0, 0x0207, 0]) ∧
    fieldsOfCode [0xF1, 0xF7, 0x08, 0x53, 0x08, 0x03] =
      some (.ext, 6, [false, true, false, false, false, false, false], [5, 3, 0, 0, 0x0308, 0]) ∧
    decodeBytes [0xF0, 0xF1, 0x10, 0x35] = none := by
  (repeat' apply And.intro) <;> decide +kernel

/-- R104, R126: unassigned bytes, cond 0xF, LDI of mode 3, a lane of 4 and G13 in an MFC are illegal. -/
theorem test_illegal_encodings :
    ∀ l ∈ [[0xF8], [0x02], [0xF7, 0x3F], [0x51, 0x0F, 0, 0], [0x42, 0x12, 0x03], [0xF3, 0x70, 0x16, 0x40], [0x71, 0xD0],
      [0x40, 0x22, 0x04, 0, 0]], decodeBytes l = none := by
  decide +kernel

/-- R8: the worked decode of SYS_CENSUS0, and the words of the other parts. -/
theorem test_census :
    { Chip.reset with part := .lrv3840 }.census0 = 0x04182818 ∧ { Chip.reset with part := .lrv2560 }.census0 = 0x00101610 ∧
    { Chip.reset with part := .lrv3840, metro := false }.census1 = 0x38400113 ∧
    { Chip.reset with part := .lrv2560, metro := true }.census1 = 0x25600118 := by
  decide +kernel

/-- R39: the two logged accesses of the worked example, and the write that clears the log. -/
theorem test_host_access_log :
    nextIs (exec (.registerWrite .host 0xC00100 4) (withRegs [(Reg.SYS_OWN, 1)])) (fun t =>
      t.reg Reg.SYS_HOST_ACC == 0xA8C00100) = true ∧
    nextIs (exec (.misalignedAccess .host 0x200002 4 false) (withRegs [(Reg.SYS_OWN, 1), (Reg.SYS_HOST_ACC, 0xA8C00100)]))
      (fun t => t.reg Reg.SYS_HOST_ACC == 0xE8C00100 && t.rdata == 0) = true ∧
    nextIs (exec (.logRearm .host Reg.SYS_HOST_ACC 0xC0000000) (withRegs [(Reg.SYS_OWN, 1), (Reg.SYS_HOST_ACC, 0xE8C00100)]))
      (fun t => t.reg Reg.SYS_HOST_ACC == 0) = true := by
  (repeat' apply And.intro) <;> decide +kernel

/-- The worked frame of R116: CALL 0x0400, 0x0038 at 0x0120 by context 1. -/
theorem test_call_frame :
    let o := { ow 0 0 0x400 with mask := 0x38, w := false }
    let s := (State.reset.setCtx 1 { live with pc := 0x120, g := [(3, 7), (4, 8), (5, 9), (14, 0x7C00)], spLim := 0x7800 }).setEng 0
      { Eng.idle with issue := some ⟨1, .call, o, 5⟩ }
    nextIs (exec (.call 1 o) s) (fun t =>
      t.mem.ldm.bytes 0x7BF0 16 == [0x38, 0, 0x25, 1, 7, 0, 0, 0, 8, 0, 0, 0, 9, 0, 0, 0] &&
        t.greg 1 14 == 0x7BF0 && (t.ctx 1).pc == 0x400) = true := by
  decide +kernel

/-- R111: with EXPOSE = 1 the instruction after a load reads the old value, and the load lands after it. -/
theorem test_exposed_load :
    let s := withRegs [(Reg.PACK_CFG 0, 1)]
    nextIs (exec (.add 9 (ow 3 2)) (issues .add (ow 3 2) { live with g := [(2, 5), (3, 1)], pend := [⟨.g 2, 9, 0, 1⟩] } s)) (fun t =>
      t.greg 9 3 == 6 && t.greg 9 2 == 9) = true := by
  decide +kernel

/-- The worked wheel: contexts 3 and 5 of engine 0 are ready, context 0 is of class T. -/
def wheel (slot rp : Nat) (zero : Wait := .waith) : State :=
  (((State.reset.setCtx 0 { live with tclass := true, wait := zero }).setCtx 3 live).setCtx 5 live).setEng 0
    { Eng.idle with slot := slot, rp := rp }

/-- Turns 0, 1, 2, 3, 4, 8 and 9 of the worked example of R159: who issues, and RP after. -/
theorem test_wheel_turns :
    (wheel 0 0 .none).choice 0 = some (0, 0) ∧ (wheel 1 0).choice 0 = some (3, 4) ∧ (wheel 2 4).choice 0 = some (5, 6) ∧
    (wheel 3 6).choice 0 = some (3, 6) ∧ (wheel 4 6).choice 0 = some (3, 4) ∧ (wheel 0 4).choice 0 = some (5, 6) ∧
    (wheel 1 6 .none).choice 0 = some (3, 4) := by
  (repeat' apply And.intro) <;> decide +kernel

/-- The worked SecOC words of R182: fields OP, SRC, DST, KEY, LEN, SEL of 0x0408_2317. -/
theorem test_helper_word :
    (hOp 0x04082317, hSrc 0x04082317, hDst 0x04082317, hKey 0x04082317, hLen 0x04082317, hSel 0x04082317) = (7, 1, 3, 2, 8, 4) ∧
    (hOp 0x03000100, hSrc 0x03000100, hDst 0x03000100, hSel 0x03000100) = (0, 0, 1, 3) := by
  decide

/-- The worked lock 70: a broken release grants the first waiter, and the host is denied (R198, R205, R207). -/
theorem test_lock_seventy :
    let s := (withRegs [(Reg.LEASH_GRP_ACC_LO 1, 0xFFFFFFFF), (Reg.LEASH_GRP_ACC_HI 1, 0x11)] hostOwns).setLock 70
      { owner := 0x11CD, queue := [⟨0x1203, 40, 131112⟩, ⟨0x2000, 95, 131167⟩] }
    let s := (s.setCtx 0x203 { live with wait := .leash 70 2 4 }).setCtx 0x1CD live
    nextIs (exec (.packRst (.keeper 0) 3 1) s) (fun t =>
      (t.lock 70).owner == 0x1203 && t.greg 0x203 2 == 0x11CD0003 && (t.ctx 0x203).wait == .none) = true ∧
    nextIs (exec (.leashAcquire .host 70 (ow 0 0)) s) (fun t => t.rdata == 4) = true := by
  (repeat' apply And.intro) <;> decide +kernel

/-- The worked Scent record and the histogram bin of a wait of 212 ns (R244, R245). -/
theorem test_scent_record :
    let s := { withRegs [(Reg.DSP_SCENT_CTRL, 0xA03)] with fr := 0x567A08 }
    (((s.setJob 1 { od := 0x2A51, seq := 0x1C37, prio := 3, shard := 1 }).scentRecord 1 198 3).disp.scent = [0x567A08D8CB372A51]) ∧
    histBin 212 = 2 ∧ histBin 63 = 0 ∧ histBin 64 = 1 ∧ histBin 1048575 = 14 ∧ histBin 1048576 = 15 := by
  (repeat' apply And.intro) <;> decide +kernel

/-- Pool 2 of the worked example of the Kennel. -/
def pool2 (used : List Nat) (links : List (Nat × Nat)) (cursor free : Nat) : State :=
  { withRegs [(Reg.KN_POOL_BASE 2, 65536), (Reg.KN_POOL_SIZE 2, 4), (Reg.KN_FREE_CNT 2, W free), (Reg.KN_CURSOR 2, W cursor)] with
    kn := { state := used.map fun h => (h, true), next := links } }

/-- Steps 1, 4 and 5 of the worked example of the Kennel (R314, R316, R318). -/
theorem test_kennel_example :
    nextIs (exec (.knAlloc 9 (ow 1 2 0x302)) (viaOut 0x302 2 live (pool2 [65537] [] 65538 3))) (fun t =>
      (t.ctx 9).knResult == 0x40010002 && t.cellNext 65538 == 65539 && t.poolFree 2 == 1 &&
        t.fld (Reg.KN_CURSOR 2) 17 0 == 65536) = true ∧
    nextIs (exec (.knFree 9 (ow 1 2 0x322)) (viaOut 0x322 0x80010002 live (pool2 [65536, 65537, 65538, 65539] [(65538, 65539)] 65537 0)))
      (fun t => t.poolFree 2 == 2 && !t.cellUsed 65538 && !t.cellUsed 65539 && t.cellUsed 65537) = true ∧
    nextIs (exec (.knFree 9 (ow 1 2 0x322)) (viaOut 0x322 0x00010003 live (pool2 [65536, 65537] [] 65537 2)))
      (fun t => t.poolFree 2 == 2 && t.reg Reg.KN_ERR_LOG == 0x80090003 && t.flag (Reg.EV_STATUS 1) 4) = true := by
  (repeat' apply And.intro) <;> decide +kernel

/-- R281: the header of the empty slot at 0x41_5180 is 0x0003_0000. -/
theorem test_empty_slot_header : (slotImage 32 0x415180 false 0 [] []).take 4 = [0, 0, 3, 0] := by decide +kernel

/-- R351: the order domain and shard of the worked CAN frame. -/
theorem test_hashed_domain :
    (withRegs [(Reg.CLS_PCTL 0 5, 0x0C2000)]).hashOd 0 5 0x9C412A51 = 0x2A51 ∧ State.reset.shardOf 0x2A51 = 1 := by
  decide +kernel

/-- The frame of LEN 124 at 25 Gb/s: A = 148 bytes, 47.36 ns. -/
theorem test_frame_time : port0.accOut 0 124 = 148 ∧ port0.txTime 0 148 = 48 := by decide +kernel

/-- The worked timestamp of port 8 (R404, R407). -/
theorem test_timestamp :
    let s := { withRegs [(Reg.TS_CAL_RX 8, 0x380), (Reg.TS_GBX 8, 0x10640)] with
      tb := { dom := [(0, ⟨1000, 500000123, BitVec.ofNat 40 (2 ^ 39)⟩)] } }
    (s.rxStamp 8 0).ns = 500000113 ∧ (s.rxStamp 8 0).sec = 1000 ∧ (s.rxStamp 8 0).frac.toNat / 2 ^ 32 = 0xC0 := by
  (repeat' apply And.intro) <;> decide +kernel

/-- The worked DRAM mapping (R420): channel 0, bank 11, row 166. -/
theorem test_dram_mapping : State.reset.dramBank 0 0x1234567 = (0, 11, 166) := by decide +kernel

/-- The worked header of the fabric (R446), and its byte 2 after device 15. -/
theorem test_fabric_header :
    fabHeader 0 9 3 5 0 12 0x2A51 8 0 0x9C412A51 =
      [0x01, 0x39, 0x05, 0x0C, 0x51, 0x2A, 0x08, 0x00, 0x51, 0x2A, 0x41, 0x9C, 0, 0, 0, 0] ∧
    byteAt (hopped (fabHeader 0 9 3 5 0 12 0x2A51 8 0 0x9C412A51)) 2 = 0x0D := by
  decide +kernel

/-- The worked header of R469: the reply to CMD_GET_FEATURES with TAG 0x5A and SEQ 7. -/
theorem test_get_features_reply :
    nextIs (exec (.cmdGetFeatures cmd) State.reset) (fun t =>
      ((Tab.get [] t.ctl.replyQ 0).headD []).take 4 == [1, 0x5A110101, 0x18, 7]) = true := by
  decide +kernel

/-- Steps 1, 3, 4, 7 and 8 of the worked reconfiguration (R483, R490, R492). -/
theorem test_reconfiguration :
    nextIs (exec (.cmdCfgStage cmd) (epochs 4)) (fun t => t.reg Reg.SYS_EPOCH == 6) = true ∧
    nextIs (exec (.cmdRegWrite (cmd (bytesOf [0x105012C, 0x80008000]))) (epochs 6)) (fun t =>
      t.reg 0x105012C == 0x80008000 && (((Tab.get [] t.ctl.replyQ 0).headD []).drop 2).take 4 == [4, 7, 0, 1]) = true ∧
    nextIs (exec (.cmdRegWrite (cmd (bytesOf [0x105010C, 0x80008000]))) (epochs 6)) (fun t =>
      t.reg 0x105010C == 0 && (((Tab.get [] t.ctl.replyQ 0).headD []).drop 2).take 4 == [0x40004, 7, 0, 0]) = true ∧
    nextIs (exec (.cmdCfgStage cmd) (epochs 5)) (fun t => t.reg Reg.SYS_EPOCH == 7) = true := by
  (repeat' apply And.intro) <;> decide +kernel

/-- The worked start-up: the fourth start of a board whose training fails, LIMIT 3 (R507, R515). -/
theorem test_boot_fallback :
    let s := withRegs [(Reg.SYS_BOOT_STATUS, 0x00070002), (Reg.SYS_BOOT_TRIES, 0x303)]
    nextIs (exec (.bootStart default) s) (fun t =>
      t.reg Reg.SYS_BOOT_STATUS == 0x00072002 && t.reg Reg.SYS_BOOT_TRIES == 0x303) = true := by
  decide +kernel

/-- The worked routing of EV_HERD_HOLE: vector 5 and IRQ_N (R521, R523). -/
theorem test_event_routing :
    let s := withRegs [(0x20108C, 0x505), (0x200084, 8)]
    let s := { s with hub := { s.hub with msixEn := true, busMaster := true, vecMask := [] } }
    (s.raise 35).pins = [.msix 5] ∧ ((s.raise 35).raise 35).pins = [.msix 5] ∧ (s.raise 35).reg 0x200004 = 8 := by
  (repeat' apply And.intro) <;> decide +kernel

/-- The worked offer: entry 2,500, AUDIT 18 (R546, R553). -/
theorem test_metrology_offer :
    let x : Island := { entries := 2500, audit := 17, sealLow := true, offerLow := true, offer := some (1, leBytes 4 3 ++ leBytes 8 900) }
    nextIs (exec (.metOfferJudge true true true) (isle x)) (fun t =>
      t.island.audit == 18 && Tab.get 0 t.island.params 3 == 900) = true := by
  decide +kernel

/-- The published MACsec test vector, protected by a SecY and opened again (IEEE 802.1AE; R329). -/
theorem test_macsec_vector :
    macsecProtect { suite := 0, sc := true, txAn := 2, sci := 0x12153524C0895E81 } (vectorSa true 0xB2C28465)
      (sealedBytes.take 12 ++ openedBytes) = sealedBytes := by decide +kernel

/-- SHA-256 and SHA-384 of the message abc (FIPS 180-4). -/
theorem test_sha : sha256 [0x61, 0x62, 0x63] = beBytes 32 0xBA7816BF8F01CFEA414140DE5DAE2223B00361A396177A9CB410FF61F20015AD ∧
    sha384 [0x61, 0x62, 0x63] = beBytes 48 0xCB00753F45A35E8BB5A03D699AC65007272C32AB0EDED1631A8B605A43FF5BED8086072BA1E7CC2358BAECA134C825A7 := by
  decide +kernel

/-- The table gives no row bits: no word spells a command, and the fetch word changes nothing. -/
theorem test_no_word_spells_a_command (n w : Nat) (s : State) :
    decodeTableWord n w = none ∧ s.withFetchWord n w = s := ⟨rfl, rfl⟩

/-! ### Well-formed commands -/

/-- An ill-formed command for every check of WellFormed, one at a time, is refused. -/
theorem test_wf_refuses :
    ∀ i ∈ [Instr.registerWrite .host 0x4000000 0, .nop 4096 (ow 0 0), .wheelTurn 512, .samplerRotate 32, .recall 0 2,
      .linkChange 256 true 1000, .frameAdmit 0 8, .tblInitDone 64, .steal 4, .placement 32, .holeTimeout 65536, .egressSelect 62,
      .tbAdjStep .host 4 0, .keeperRestart 2, .k2hPost 4, .whistleTimeout 13, .evStatusWrite .host 32 0, .evRouteWrite .host 1024 0,
      .leashStallTimeout 4096 0, .helloTimeout 12, .h2dDescriptor 16, .canBusoffRecovery 24, .regulatorEntry 0 8,
      .dramRequestIssue 0 ⟨4, []⟩, .refresh 0 0 16, .fabricLeashAccess 16 0 false, .dbgRegAccess .host 72 false 0,
      .paceEnable (.keeper 2) 0, .paceEnable (.fabric 16) 0, .paceEnable (.ctx 4096) 0,
      .cmdCfgStatus { cmd with route := .host 4 }, .cmdCfgStatus { cmd with route := .indirect 4 0 16 0 },
      .cmdCfgStatus { cmd with route := .inBand [0] }, .cmdCfgStatus { cmd with route := .fabric 16 },
      .cmdCfgStatus { cmd with version := 16 }, .cmdCfgStatus { cmd with status := 256 }, .cmdCfgStatus { cmd with len := 65536 },
      .cmdCfgStatus { cmd with authIdx := 16 }, .frameReceive ⟨256, [], true, 0⟩],
      i.wf = false := by
  decide +kernel

/-- The same commands at the last value of each range are accepted. -/
theorem test_wf_accepts :
    ∀ i ∈ [Instr.registerWrite .host 0x3FFFFFF 0, .nop 4095 (ow 0 0), .wheelTurn 511, .samplerRotate 31, .recall 0 1,
      .linkChange 255 true 1000, .frameAdmit 0 7, .tblInitDone 63, .steal 3, .placement 31, .holeTimeout 65535, .egressSelect 61,
      .tbAdjStep .host 3 0, .keeperRestart 1, .k2hPost 3, .whistleTimeout 12, .evStatusWrite .host 31 0, .evRouteWrite .host 1023 0,
      .leashStallTimeout 4095 0, .helloTimeout 11, .h2dDescriptor 15, .canBusoffRecovery 23, .regulatorEntry 0 7,
      .dramRequestIssue 0 ⟨3, []⟩, .refresh 0 0 15, .fabricLeashAccess 15 0 false, .dbgRegAccess .host 71 false 0,
      .paceEnable (.keeper 1) 0, .paceEnable (.fabric 15) 0, .paceEnable (.ctx 4095) 0, .cmdCfgStatus cmd,
      .cmdCfgStatus { cmd with route := .inBand [0, 1, 2, 3, 4, 5] }, .frameReceive ⟨255, [], true, 0⟩],
      i.wf = true := by
  decide +kernel

end Sys2Proof.Tests
end

namespace Sys2Proof.Machine
open Sys2Proof

/-! ### Bit fields -/

theorem bitOf_eq_getLsbD (v : Word) (b : Nat) : bitOf v b = v.getLsbD b := by
  rw [bitOf, ← BitVec.testBit_toNat, Nat.testBit_eq_decide_div_mod_eq]

theorem testBit_getF (v : Word) (hi lo i : Nat) :
    (getF v hi lo).testBit i = (decide (i < hi + 1 - lo) && v.getLsbD (lo + i)) := by
  rw [getF, Nat.testBit_mod_two_pow, Nat.testBit_div_two_pow, BitVec.testBit_toNat, Nat.add_comm lo i]

theorem getF_lt (v : Word) (hi lo : Nat) : getF v hi lo < 2 ^ (hi + 1 - lo) := Nat.mod_lt _ (Nat.two_pow_pos _)

/-- Replacing `w` bits of a number from bit `lo` on, bit by bit. -/
theorem testBit_replace (n lo w x i : Nat) :
    (n - n / 2 ^ lo % 2 ^ w * 2 ^ lo + x % 2 ^ w * 2 ^ lo).testBit i =
      if lo ≤ i ∧ i < lo + w then x.testBit (i - lo) else n.testBit i := by
  have hlow : n % 2 ^ lo < 2 ^ lo := Nat.mod_lt _ (Nat.two_pow_pos _)
  have hx : x % 2 ^ w < 2 ^ w := Nat.mod_lt _ (Nat.two_pow_pos _)
  have parts : n = 2 ^ lo * (2 ^ w * (n / 2 ^ lo / 2 ^ w) + n / 2 ^ lo % 2 ^ w) + n % 2 ^ lo := by
    rw [Nat.div_add_mod, Nat.div_add_mod]
  have new : n - n / 2 ^ lo % 2 ^ w * 2 ^ lo + x % 2 ^ w * 2 ^ lo =
      2 ^ lo * (2 ^ w * (n / 2 ^ lo / 2 ^ w) + x % 2 ^ w) + n % 2 ^ lo := by
    have h : n / 2 ^ lo % 2 ^ w * 2 ^ lo ≤ n :=
      (Nat.mul_le_mul_right _ (Nat.mod_le _ _)).trans (Nat.div_mul_le_self _ _)
    rw [Nat.mul_comm (x % _), Nat.mul_comm (_ % 2 ^ w)] at *
    rw [Nat.mul_add] at parts ⊢
    omega
  rw [new, Nat.testBit_two_pow_mul_add _ hlow, Nat.testBit_two_pow_mul_add _ hx, Nat.testBit_mod_two_pow,
    Nat.testBit_mod_two_pow, Nat.testBit_div_two_pow, Nat.testBit_div_two_pow]
  by_cases h1 : i < lo
  · simp [h1, Nat.not_le.2 h1]
  · by_cases h2 : i < lo + w
    · simp [h1, h2, show i - lo < w by omega, Nat.not_lt.1 h1]
    · simp [h1, h2, show ¬ i - lo < w by omega, show i - lo - w + w + lo = i by omega]

/-- A field write, bit by bit. -/
theorem getLsbD_setF (v : Word) {hi lo : Nat} (x i : Nat) (h : lo ≤ hi) (hh : hi < 32) :
    (setF v hi lo x).getLsbD i = if lo ≤ i ∧ i ≤ hi then x.testBit (i - lo) else v.getLsbD i := by
  rw [setF, BitVec.getLsbD_ofNat, testBit_replace, BitVec.testBit_toNat]
  by_cases hi32 : i < 32
  · simp only [hi32, decide_true, Bool.true_and, show i < lo + (hi + 1 - lo) ↔ i ≤ hi by omega]
  · simp [hi32, show ¬ i ≤ hi by omega, BitVec.getLsbD_of_ge v i (by omega)]

/-- A field reads back what was written to it. -/
theorem getF_setF_same (v : Word) {hi lo : Nat} (x : Nat) (h : lo ≤ hi) (hh : hi < 32) :
    getF (setF v hi lo x) hi lo = x % 2 ^ (hi + 1 - lo) := by
  refine Nat.eq_of_testBit_eq fun i => ?_
  rw [testBit_getF, getLsbD_setF _ _ _ h hh, Nat.testBit_mod_two_pow, Nat.add_sub_cancel_left]
  by_cases hi' : i < hi + 1 - lo
  · rw [if_pos (by omega)]
  · simp [hi']

/-- A field that shares no bit with the one written reads as before. -/
theorem getF_setF_disjoint (v : Word) {hi lo hi' lo' : Nat} (x : Nat) (h : lo ≤ hi) (hh : hi < 32)
    (hd : hi' < lo ∨ hi < lo') : getF (setF v hi lo x) hi' lo' = getF v hi' lo' := by
  refine Nat.eq_of_testBit_eq fun i => ?_
  rw [testBit_getF, testBit_getF, getLsbD_setF _ _ _ h hh]
  by_cases hi : i < hi' + 1 - lo'
  · rw [if_neg (by omega)]
  · simp [hi]

theorem bitOf_setF_disjoint (v : Word) {hi lo b : Nat} (x : Nat) (h : lo ≤ hi) (hh : hi < 32)
    (hd : b < lo ∨ hi < b) : bitOf (setF v hi lo x) b = bitOf v b := by
  rw [bitOf_eq_getLsbD, bitOf_eq_getLsbD, getLsbD_setF _ _ _ h hh, if_neg (by omega)]

theorem bitOf_setF_same (v : Word) {b : Nat} (x : Nat) (hb : b < 32) : bitOf (setF v b b x) b = x.testBit 0 := by
  rw [bitOf_eq_getLsbD, getLsbD_setF _ _ _ le_rfl hb, if_pos ⟨le_rfl, le_rfl⟩, Nat.sub_self]

/-- Setting one bit. -/
theorem setF_one (v : Word) {b : Nat} (hb : b < 32) : setF v b b 1 = v ||| BitVec.twoPow 32 b := by
  refine BitVec.eq_of_getLsbD_eq fun i hi => ?_
  rw [getLsbD_setF _ _ _ le_rfl hb, BitVec.getLsbD_or, BitVec.getLsbD_twoPow]
  by_cases h : b = i
  · subst h; simp [hb]
  · simp [h, show ¬ (b ≤ i ∧ i ≤ b) by omega]

/-- Clearing one bit. -/
theorem setF_zero (v : Word) {b : Nat} (hb : b < 32) : setF v b b 0 = v &&& ~~~(BitVec.twoPow 32 b) := by
  refine BitVec.eq_of_getLsbD_eq fun i hi => ?_
  rw [getLsbD_setF _ _ _ le_rfl hb, BitVec.getLsbD_and, BitVec.getLsbD_not, BitVec.getLsbD_twoPow]
  by_cases h : b = i
  · subst h; simp [hb]
  · simp [h, hi, show ¬ (b ≤ i ∧ i ≤ b) by omega]

end Sys2Proof.Machine

namespace Sys2Proof.Machine
open Sys2Proof

/-! ### Registers after an update of one of them -/

@[simp] theorem State.reg_setFld (s : State) (off hi lo x k : Nat) :
    (s.setFld off hi lo x).reg k = if k = off then setF (s.reg off) hi lo x else s.reg k := by
  rw [State.setFld, State.reg_setReg]

@[simp] theorem State.reg_bump (s : State) (off k : Nat) :
    (s.bump off).reg k = if k = off then W (satInc 32 (s.reg off).toNat) else s.reg k := by
  rw [State.bump, State.reg_setReg]

/-- A register depends on the part and on the registers written. -/
theorem State.reg_congr {s t : State} (hc : t.chip = s.chip) (hr : t.regs = s.regs) (k : Nat) : t.reg k = s.reg k := by
  rw [State.reg, State.reg, hc, hr]

/-! ### Finding a register -/

/-- No register of the row lies in `[lo, hi)`. -/
def RegDesc.misses (r : RegDesc) (lo hi : Nat) : Bool :=
  decide (hi ≤ r.base) ||
    match r.dims with
    | [] => decide (r.base < lo)
    | (n, st) :: _ => decide (0 < st ∧ r.base + n * st ≤ lo)

theorem findRegIn_cons_of_misses {r : RegDesc} {lo hi off : Nat} (h : r.misses lo hi = true) (hlo : lo ≤ off)
    (hhi : off < hi) (t : List RegDesc) : findRegIn off (r :: t) = findRegIn off t := by
  rw [findRegIn]
  by_cases hb : r.base ≤ off
  · have hsplit : splitDims r.dims (off - r.base) = none := by
      simp only [RegDesc.misses, Bool.or_eq_true, decide_eq_true_eq, show ¬ hi ≤ r.base by omega, false_or] at h
      split at h
      · next hd => rw [hd, splitDims, if_neg (by simp at h; omega)]
      · next n st rest hd =>
        rw [decide_eq_true_eq] at h
        rw [hd, splitDims, if_neg]
        rw [Nat.div_lt_iff_lt_mul h.1]
        omega
    rw [if_pos hb, hsplit]
  · rw [if_neg hb]

theorem findRegIn_append_of_misses {lo hi off : Nat} (hlo : lo ≤ off) (hhi : off < hi) (t : List RegDesc) :
    ∀ l : List RegDesc, (∀ r ∈ l, r.misses lo hi = true) → findRegIn off (l ++ t) = findRegIn off t
  | [], _ => rfl
  | r :: l, h => by
    rw [List.cons_append, findRegIn_cons_of_misses (h r (by simp)) hlo hhi]
    exact findRegIn_append_of_misses hlo hhi t l fun q hq => h q (by simp [hq])

/-- An element of an array of registers that stands in the map behind rows which lie elsewhere. -/
theorem findReg_array {l t : List RegDesc} {r : RegDesc} {n st i : Nat} (hmap : regTable = l ++ r :: t)
    (hdims : r.dims = [(n, st)]) (hst : 0 < st) (hl : ∀ q ∈ l, q.misses r.base (r.base + n * st) = true) (hi : i < n) :
    findReg (r.base + st * i) = some (r, [i]) := by
  have hoff : st * i < n * st := by rw [Nat.mul_comm n]; exact Nat.mul_lt_mul_of_pos_left hi hst
  rw [findReg, hmap, findRegIn_append_of_misses (lo := r.base) (hi := r.base + n * st) (by omega) (by omega) _ _ hl,
    findRegIn, if_pos (by omega), Nat.add_sub_cancel_left, hdims]
  simp [splitDims, Nat.mul_div_cancel_left _ hst, hi]

/-- The rows of EV_STATUS, EV_ENABLE and EV_ROUTE (R537). -/
def evStatusRow : RegDesc := ⟨.EV_STATUS, 0x200000, [(32, 4)], .always, 0, [⟨0, 32, .w1c⟩]⟩
def evEnableRow : RegDesc := ⟨.EV_ENABLE, 0x200080, [(32, 4)], .always, 0, [⟨0, 32, .rw⟩]⟩
def evRouteRow : RegDesc :=
  ⟨.EV_ROUTE, 0x201000, [(1024, 4)], .always, 0, [⟨0, 6, .rw⟩, ⟨8, 1, .rw⟩, ⟨9, 1, .rw⟩, ⟨10, 1, .rw⟩]⟩

theorem findReg_evStatus {g : Nat} (hg : g < 32) : findReg (Reg.EV_STATUS g) = some (evStatusRow, [g]) :=
  findReg_array (r := evStatusRow) (st := 4) (l := regTable.take 22) (t := regTable.drop 23)
    (by decide +kernel) rfl (by decide) (by decide +kernel) hg

theorem findReg_evEnable {g : Nat} (hg : g < 32) : findReg (Reg.EV_ENABLE g) = some (evEnableRow, [g]) :=
  findReg_array (r := evEnableRow) (st := 4) (l := regTable.take 23) (t := regTable.drop 24)
    (by decide +kernel) rfl (by decide) (by decide +kernel) hg

theorem findReg_evRoute {src : Nat} (h : src < 1024) : findReg (Reg.EV_ROUTE src) = some (evRouteRow, [src]) :=
  findReg_array (r := evRouteRow) (st := 4) (l := regTable.take 27) (t := regTable.drop 28)
    (by decide +kernel) rfl (by decide) (by decide +kernel) h

/-! ### A write that reaches its register -/

/-- A write of a master that nothing holds back, to a register that every part has, reaches it (R33, R34). -/
theorem State.busWrite_of_canWrite {s : State} {m : Master} {off : Nat} {r : RegDesc} {ix : List Nat} (v : Word)
    (h : CanWrite s m off) (hal : off % 4 = 0) (hmet : metWindow off = false) (hf : findReg off = some (r, ix))
    (hid : r.id ≠ .SYS_OWN) (htag : r.tag = .always) : s.busWrite m off v = s.regBusPut m off r ix v := by
  obtain ⟨hbus, hhost⟩ := h
  have hpresent : s.present r ix = true := by rw [State.present, htag]
  have hunit : s.unitAbsent r ix = false := by rw [State.unitAbsent, htag, hpresent]; rfl
  have hbar : s.hostBarred m r off = false := by
    by_cases hm : m = .host
    · have hown := (hhost hm).2
      by_cases hfw : s.fwOwn = true
      · simp [State.hostBarred, hid, hown hfw]
      · simp [State.hostBarred, hid, hfw]
    · simp [State.hostBarred, hm]
  simp [State.busWrite, State.regBusWrite, hbus, hal, hmet, hf, hunit, hbar, hpresent]

/-! ### Messages of the Event Hub (R525) -/

/-- From `s` to `t` only messages have fallen due or gone out. -/
structure MsgsOnly (s t : State) : Prop where
  regs : t.regs = s.regs
  rest : { t with hub := s.hub, pins := s.pins } = s
  pins : s.pins <:+ t.pins

theorem MsgsOnly.refl (s : State) : MsgsOnly s s := ⟨rfl, rfl, List.suffix_rfl⟩

theorem MsgsOnly.trans {s t u : State} (h : MsgsOnly s t) (h' : MsgsOnly t u) : MsgsOnly s u := by
  refine ⟨h'.regs.trans h.regs, ?_, h.pins.trans h'.pins⟩
  have := h'.rest
  rw [← h.rest, ← this]

theorem MsgsOnly.reg {s t : State} (h : MsgsOnly s t) (k : Nat) : t.reg k = s.reg k :=
  State.reg_congr (congrArg State.chip h.rest) h.regs k

theorem State.dueMsg_msgs (s : State) (v : Nat) : MsgsOnly s (s.dueMsg v) := by
  rw [State.dueMsg]
  split
  · exact ⟨rfl, rfl, List.suffix_cons _ _⟩
  · split
    · exact .refl s
    · exact ⟨rfl, rfl, List.suffix_rfl⟩

theorem State.touchVecs_msgs (s : State) (vs : List Nat) : MsgsOnly s (s.touchVecs vs) := by
  rw [State.touchVecs]
  generalize vs.dedup = l
  induction l generalizing s with
  | nil => exact .refl s
  | cons v l ih =>
    rw [List.foldl_cons]
    split
    · exact (s.dueMsg_msgs v).trans (ih _)
    · exact ih s

/-- EVENT_ASSERT of a present source sets its EV_STATUS bit, and the rest is messages (R520, R525). -/
theorem State.raise_of_present {s : State} {src : Nat} (h : evPresent s.chip src = true) :
    MsgsOnly (s.setFld (evReg src) (src % 32) (src % 32) 1) (s.raise src) := by
  rw [State.raise, if_pos h]
  dsimp only
  split
  · exact State.dueMsg_msgs _ _
  · exact .refl _

theorem State.raise_of_absent {s : State} {src : Nat} (h : evPresent s.chip src = false) : s.raise src = s := by
  rw [State.raise, if_neg (by simp [h])]

/-- The sources end with the software sources (R521). -/
theorem evPresent_lt {c : Chip} {src : Nat} (h : evPresent c src = true) : src < 1024 := by
  by_contra hn
  rw [evPresent] at h
  repeat rw [if_neg (by omega)] at h
  simp at h
  omega

end Sys2Proof.Machine

namespace Sys2Proof.Machine
open Sys2Proof

/-! ### First-event logs (R39) -/

/-- A write to a first-event log changes that register alone. -/
theorem State.rearm_onlyRegs (s : State) (off vb ob : Nat) (v : Word) : OnlyRegs s (s.rearm off vb ob v) [off] := by
  rw [State.rearm]
  constructor
  · intro k hk
    have hk : k ≠ off := by simpa using hk
    split <;> split <;> simp [hk]
  · split <;> split <;> rfl

/-- The word that a write to a first-event log leaves: VALID rearms it, OVF clears alone. -/
theorem State.rearm_reg (s : State) (off : Nat) {vb ob : Nat} (v : Word) (ho : ob < 32) :
    (s.rearm off vb ob v).reg off =
      let kept := if v.getLsbD vb then (if (s.reg off).getLsbD ob then BitVec.twoPow 32 ob else 0) else s.reg off
      if v.getLsbD ob then kept &&& ~~~(BitVec.twoPow 32 ob) else kept := by
  have rearmed : setF 0 ob ob (s.fld off ob ob) = if (s.reg off).getLsbD ob then BitVec.twoPow 32 ob else 0 := by
    refine BitVec.eq_of_getLsbD_eq fun i hi => ?_
    rw [getLsbD_setF _ _ _ le_rfl ho, State.fld, testBit_getF]
    by_cases h : ob = i
    · subst h
      by_cases hv : (s.reg off).getLsbD ob = true
      · simp [hv, ho]
      · simp [hv]
    · rw [if_neg (by omega)]
      split <;> simp [BitVec.getLsbD_twoPow, h]
  simp only [State.rearm, bitOf_eq_getLsbD, rearmed]
  split <;> split <;> simp [setF_zero _ ho]

/-- The bit of OVF set and then cleared. -/
theorem twoPow_and_not_twoPow (b : Nat) : BitVec.twoPow 32 b &&& ~~~(BitVec.twoPow 32 b) = 0 := by
  refine BitVec.eq_of_getLsbD_eq fun i hi => ?_
  simp

/-- A write of LOG_REARM to a first-event log, with the positions of its VALID and OVF (R39, R217, R303, R319). -/
theorem execLogRearm_eq {s : State} {m : Master} {off vb ob : Nat} (v : Word)
    (hp : (off, vb, ob) ∈ [(Reg.SYS_HOST_ACC, 31, 30), (Reg.LEASH_DENY_LOG, 15, 14), (Reg.TBL_PAR_LOG, 31, 30),
      (Reg.KN_ERR_LOG, 31, 30)]) (h : CanWrite s m off) :
    exec (.logRearm m off v) s = .next (s.rearm off vb ob v) := by
  have hrow : offIs firstLogs off = true ∧ s.busWrite m off v = s.rearm off vb ob v := by
    simp only [List.mem_cons, Prod.mk.injEq, List.not_mem_nil, or_false] at hp
    rcases hp with ⟨rfl, rfl, rfl⟩ | ⟨rfl, rfl, rfl⟩ | ⟨rfl, rfl, rfl⟩ | ⟨rfl, rfl, rfl⟩ <;>
      exact ⟨by decide +kernel, State.busWrite_of_canWrite v h rfl rfl rfl (by decide) rfl⟩
  change Host.Outcome.next (s.rowWrite firstLogs m off v) = _
  rw [State.rowWrite, if_pos hrow.1, hrow.2]

/-! ### Writes to the Event Hub's registers (R520 to R525) -/

theorem canWrite_of_onBus {s : State} {m : Master} {off : Nat} (h : s.onBus m = true) (hown : off ≠ Reg.SYS_OWN)
    (hfw : fwBlock off = false) : CanWrite s m off := ⟨h, fun _ => ⟨hown, fun _ => hfw⟩⟩

/-- A register is set, and messages follow. -/
theorem MsgsOnly.regsAndHub {s t : State} {off : Nat} {v : Word} (h : MsgsOnly (s.setReg off v) t) :
    (∀ k, k ≠ off → t.reg k = s.reg k) ∧ { t with regs := s.regs, hub := s.hub, pins := s.pins } = s ∧
      t.reg off = v := by
  refine ⟨fun k hk => ?_, ?_, ?_⟩
  · rw [h.reg, State.reg_setReg, if_neg hk]
  · have := h.rest
    exact congrArg (fun u : State => { u with regs := s.regs }) this
  · rw [h.reg, State.reg_setReg, if_pos rfl]

/-- A write of any master on the bus to a register of the Event Hub reaches it. -/
theorem State.busWrite_hub {s : State} {m : Master} {off : Nat} {r : RegDesc} {ix : List Nat} (v : Word)
    (h : s.onBus m = true) (hlo : 0x200000 ≤ off) (hhi : off < 0x300000) (hal : off % 4 = 0)
    (hf : findReg off = some (r, ix)) (hid : r.id ≠ .SYS_OWN) (htag : r.tag = .always) :
    s.busWrite m off v = s.regBusPut m off r ix v :=
  State.busWrite_of_canWrite v (canWrite_of_onBus h (by dsimp only [Reg.SYS_OWN]; omega) (by simp [fwBlock]; omega)) hal
    (by simp [metWindow]; omega) hf hid htag

section
variable {s : State} {m : Master} (v : Word) (h : s.onBus m = true)
include h

theorem execEvStatusWrite_eq {g : Nat} (hg : g < 32) : exec (.evStatusWrite m g v) s = .next (s.wrEvStatus g v) := by
  change Host.Outcome.next (s.ixWrite 32 g m (Reg.EV_STATUS g) v) = _
  rw [State.ixWrite, if_pos hg, State.busWrite_hub v h (by unfold Reg.EV_STATUS; omega)
    (by unfold Reg.EV_STATUS; omega) (by unfold Reg.EV_STATUS; omega) (findReg_evStatus hg) (by decide) rfl]
  rfl

theorem execEvEnableWrite_eq {g : Nat} (hg : g < 32) : exec (.evEnableWrite m g v) s = .next (s.wrEvEnable g v) := by
  change Host.Outcome.next (s.ixWrite 32 g m (Reg.EV_ENABLE g) v) = _
  rw [State.ixWrite, if_pos hg, State.busWrite_hub v h (by unfold Reg.EV_ENABLE; omega)
    (by unfold Reg.EV_ENABLE; omega) (by unfold Reg.EV_ENABLE; omega) (findReg_evEnable hg) (by decide) rfl]
  rfl

theorem execEvRouteWrite_eq {src : Nat} (hs : src < 1024) :
    exec (.evRouteWrite m src v) s = .next (s.wrEvRoute src v) := by
  change Host.Outcome.next (s.ixWrite 1024 src m (Reg.EV_ROUTE src) v) = _
  rw [State.ixWrite, if_pos hs, State.busWrite_hub v h (by unfold Reg.EV_ROUTE; omega)
    (by unfold Reg.EV_ROUTE; omega) (by unfold Reg.EV_ROUTE; omega) (findReg_evRoute hs) (by decide) rfl]
  rfl

theorem execEvSwRaise_eq : exec (.evSwRaise m v) s = .next (s.raise (Ev.SW (getF v 4 0))) :=
  congrArg Host.Outcome.next
    (State.busWrite_hub (off := Reg.EV_SW_RAISE) v h (by decide) (by decide) (by decide) rfl (by decide) rfl)

end

theorem State.wrEvStatus_msgs (s : State) (g : Nat) (v : Word) :
    MsgsOnly (s.setReg (Reg.EV_STATUS g) (s.reg (Reg.EV_STATUS g) &&& ~~~v)) (s.wrEvStatus g v) :=
  State.touchVecs_msgs _ _

theorem State.wrEvEnable_msgs (s : State) (g : Nat) (v : Word) :
    MsgsOnly (s.setReg (Reg.EV_ENABLE g) (v &&& evMask s.chip g)) (s.wrEvEnable g v) :=
  State.touchVecs_msgs _ _

theorem State.wrEvRoute_msgs {s : State} {src : Nat} (h : evPresent s.chip src = true) (v : Word) :
    MsgsOnly (s.setReg (Reg.EV_ROUTE src) (v &&& 0x73F)) (s.wrEvRoute src v) := by
  rw [State.wrEvRoute, if_pos h]
  exact State.touchVecs_msgs _ _

/-- A number built from its bits. -/
theorem testBit_bitSum (f : Nat → Bool) (n : Nat) :
    let sum := (List.range n).foldl (fun a b => a + (f b).toNat * 2 ^ b) 0
    sum < 2 ^ n ∧ ∀ i, sum.testBit i = (decide (i < n) && f i) := by
  induction n with
  | zero => simp
  | succ n ih =>
    obtain ⟨hlt, hbits⟩ := ih
    simp only [List.range_succ, List.foldl_append, List.foldl_cons, List.foldl_nil] at hlt hbits ⊢
    rw [Nat.add_comm, Nat.mul_comm]
    refine ⟨?_, fun i => ?_⟩
    · rw [Nat.pow_succ]
      cases f n <;> simp <;> omega
    · rw [Nat.testBit_two_pow_mul_add _ hlt, hbits]
      by_cases hi : i < n
      · simp [hi, Nat.lt_succ_of_lt hi]
      · by_cases he : i = n
        · subst he
          cases f i <;> simp
        · obtain ⟨k, hk⟩ : ∃ k, i - n = k + 1 := ⟨i - n - 1, by omega⟩
          rw [if_neg hi, hk, show decide (i < n + 1) = false by simp; omega]
          cases f n <;> simp [Nat.testBit_succ]

/-- EV_ENABLE takes the bits of the sources that are present (R522). -/
theorem getLsbD_evMask (c : Chip) (g : Nat) {b : Nat} (hb : b < 32) :
    (evMask c g).getLsbD b = evPresent c (32 * g + b) := by
  rw [evMask, BitVec.getLsbD_ofNat, (testBit_bitSum (fun b => evPresent c (32 * g + b)) 32).2]
  simp [hb]

/-- Every part has the 32 software sources (R521). -/
theorem evPresent_sw (c : Chip) {n : Nat} (hn : n < 32) : evPresent c (Ev.SW n) = true := by
  unfold Ev.SW evPresent
  repeat rw [if_neg (by omega)]
  exact decide_eq_true (by omega)

/-- Settles O23: each write reaches its register, and what follows it is messages. -/
theorem firstEventLogsAndEventRegisters : Obligations.FirstEventLogsAndEventRegisters := by
  unfold Obligations.FirstEventLogsAndEventRegisters
  refine ⟨?_, fun s m v hbus => ⟨fun g hg => ?_, fun g hg => ?_, fun src hsrc hp => ?_, fun src hsrc hp => ?_, ?_⟩⟩
  · rintro s m v ⟨off, vb, ob⟩ hp hw
    have ho : ob < 32 := by
      simp only [List.mem_cons, Prod.mk.injEq, List.not_mem_nil, or_false] at hp
      omega
    obtain ⟨hregs, hrest⟩ := s.rearm_onlyRegs off vb ob v
    refine ⟨_, execLogRearm_eq v hp hw, fun k hk => hregs k (by simpa using hk), hrest, ?_⟩
    simp only [s.rearm_reg off v ho]
    refine ⟨fun h1 h2 => ?_, fun h1 h2 => by simp [h1, h2], fun h1 h2 => by simp [h1, h2],
      fun h1 h2 => by simp [h1, h2]⟩
    simp only [h1, h2, if_true]
    split
    · exact twoPow_and_not_twoPow ob
    · exact BitVec.zero_and
  · obtain ⟨hregs, hrest, hreg⟩ := (s.wrEvStatus_msgs g v).regsAndHub
    exact ⟨_, execEvStatusWrite_eq v hbus hg, ⟨hregs, hrest⟩, hreg⟩
  · obtain ⟨hregs, hrest, hreg⟩ := (s.wrEvEnable_msgs g v).regsAndHub
    refine ⟨_, execEvEnableWrite_eq v hbus hg, ⟨hregs, hrest⟩, fun b hb => ?_⟩
    rw [hreg, BitVec.getLsbD_and, getLsbD_evMask s.chip g hb]
  · obtain ⟨hregs, hrest, hreg⟩ := (State.wrEvRoute_msgs hp v).regsAndHub
    exact ⟨_, execEvRouteWrite_eq v hbus hsrc, ⟨hregs, hrest⟩, hreg⟩
  · rw [execEvRouteWrite_eq v hbus hsrc, State.wrEvRoute, if_neg (by simp [hp])]
  · have hn : getF v 4 0 = v.toNat % 32 := by simp [getF]
    have hlt : v.toNat % 32 < 32 := Nat.mod_lt _ (by decide)
    have hmod : (992 + v.toNat % 32) % 32 = v.toNat % 32 := by omega
    have hdiv : (992 + v.toNat % 32) / 32 = 31 := by omega
    have hm := State.raise_of_present (evPresent_sw s.chip hlt)
    rw [evReg, hdiv, hmod, State.setFld, setF_one _ hlt] at hm
    obtain ⟨hregs, hrest, hreg⟩ := MsgsOnly.regsAndHub hm
    refine ⟨_, ?_, ⟨hregs, hrest⟩, hreg⟩
    rw [execEvSwRaise_eq v hbus, hn]

end Sys2Proof.Machine

namespace Sys2Proof.Machine
open Sys2Proof

/-- An LRV-2560, which has no fabric (R2), with quad 0 set to mode 7 (LFL). -/
def lflWithoutFabric : State :=
  { State.reset with
    chip := { Chip.reset with part := .lrv2560 }
    regs := [(Reg.PORT_QUAD 0, some 7)] }

/-- The COMMIT of the debugger at the egress index of its link 0 changes nothing: the registers of a link belong to an
absent unit on a part without the fabric (R9). -/
theorem gclCommit_ignored_without_fabric :
    exec (.gclCommit .debug 50 0x10000) lflWithoutFabric = .next lflWithoutFabric := by
  have h : lflWithoutFabric.busWrite .debug (Reg.EQ_GCL_CTRL 50) 0x10000 = lflWithoutFabric := by decide +kernel
  exact congrArg Host.Outcome.next h

/-- Refutes O40: its clause on COMMIT names no premise on the fabric. On an LRV-2560 with a quad in mode 7 the port of
egress index 50 is valid, but the link's registers belong to an absent unit, so that the legal COMMIT of an empty list
is ignored and PEND stays 0. -/
theorem not_egressQueuesGatesAndTransmissions : ¬ Obligations.EgressQueuesGatesAndTransmissions := by
  unfold Obligations.EgressQueuesGatesAndTransmissions
  rintro ⟨h, -⟩
  obtain ⟨-, -, -, hcommit⟩ := h lflWithoutFabric 50 (by decide +kernel) (by decide)
  have legal :=
    (hcommit .debug 0x10000 ⟨by decide +kernel, by simp⟩ (by decide +kernel) (by decide) (by decide +kernel)).1
  obtain ⟨t, ht, hpending, -⟩ := legal (by decide) (.inl (by decide))
  rw [gclCommit_ignored_without_fabric] at ht
  cases ht
  exact absurd hpending (by decide +kernel)

end Sys2Proof.Machine

namespace Sys2Proof.Machine
open Sys2Proof

/-! ### One command that pair 0 takes at once (R467, R468) -/

/-- The commands of the island (R554) are assigned, and neither Minimal mode nor a download is in the way. -/
theorem TakesNow.cmdExec {s : State} {q : CmdReq} (h : TakesNow s q) {op : Nat} (ha : assigned op = true) (e : CmdEnv) :
    s.cmdExec op q e = s.cmdBody op q e := by
  obtain ⟨-, -, -, -, hform, hmin, hrom⟩ := h
  simp [State.cmdExec, hform, ha, hmin, hrom]

/-- A command that pair 0 takes at once runs its body and, unless it waits, replies. -/
theorem TakesNow.serve {s : State} {q : CmdReq} (h : TakesNow s q) {op : Nat} (ha : assigned op = true)
    (hop : op ≠ 0x0801) (e : CmdEnv) {r : CmdEnd} {t : State} (hb : s.cmdBody op q e = (r, t)) :
    (∀ st b, r = .reply st b → s.serve op q e = .next (t.sendReply op q st b)) ∧
      (r = .waits → s.serve op q e = .next t) := by
  obtain ⟨hup, hserves, hbusy, hacc, -⟩ := id h
  have hserve : s.serve op q e = .next ((s.cmdTurn op q e).getD ((s.setAccepted [(op, q)]).park op)) := by
    simp [State.serve, State.submit, hup, hserves, hbusy, hacc, hop]
  have hturn : s.cmdExec op q e = (r, t) := (h.cmdExec ha e).trans hb
  constructor
  · rintro st b rfl
    rw [hserve, State.cmdTurn, hturn]
    rfl
  · rintro rfl
    rw [hserve, State.cmdTurn, hturn]
    rfl

theorem TakesNow.replies {s : State} {q : CmdReq} (h : TakesNow s q) {op : Nat} (ha : assigned op = true)
    (hop : op ≠ 0x0801) {e : CmdEnv} {st : Nat} {b : List Byte} {t : State} {p : State → Prop}
    (hb : s.cmdBody op q e = (.reply st b, t)) (hp : p t) : Replies (s.serve op q e) op q st b p :=
  ⟨t, hp, (h.serve ha hop e hb).1 st b rfl⟩

/-! ### CMD_MET_INFO -/

/-- The registers of the island's window in its first 192 bytes (R551). -/
theorem findReg_metInfo : ∀ i < 48, (findReg (0x2000000 + 4 * i)).all fun p =>
    p.1.id ∈ [RegId.MET_STAT, .MET_AUDIT, .MET_HEAD, .MET_FW_ID, .MET_FW_DIGEST, .MET_PARAM_DIGEST, .MET_PUBKEY] := by
  decide +kernel

/-- A read of the island's window changes nothing. -/
theorem State.peek_metInfo (s : State) {i : Nat} (hi : i < 48) : (s.peek (0x2000000 + 4 * i)).2 = s := by
  have h := findReg_metInfo i hi
  rw [State.peek]
  split
  · rfl
  · next r ix hf =>
    rw [hf] at h
    simp only [Option.all_some, List.mem_cons, List.not_mem_nil, or_false, decide_eq_true_eq] at h
    split
    · unfold State.regRead
      rcases h with h | h | h | h | h | h | h <;> simp [h, State.latchHi, RegId.hiOf]
    · rfl

theorem State.peekAll_cons (s : State) (o : Nat) (l : List Nat) :
    s.peekAll (o :: l) =
      ((s.peek o).1 :: ((s.peek o).2.peekAll l).1, ((s.peek o).2.peekAll l).2) := rfl

/-- Reads that change nothing, one after the other. -/
theorem State.peekAll_of_quiet {s : State} : ∀ l : List Nat, (∀ o ∈ l, (s.peek o).2 = s) →
    (s.peekAll l).1.length = l.length ∧ (s.peekAll l).2 = s
  | [], _ => ⟨rfl, rfl⟩
  | o :: l, h => by
    obtain ⟨hlen, hst⟩ := State.peekAll_of_quiet l fun a ha => h a (by simp [ha])
    rw [State.peekAll_cons, h o (by simp)]
    exact ⟨congrArg (· + 1) hlen, hst⟩

theorem length_leBytes (n v : Nat) : (leBytes n v).length = n := by simp [leBytes]

theorem length_bytesOf (l : List Word) : (bytesOf l).length = 4 * l.length := by
  induction l with
  | nil => rfl
  | cons w l ih =>
    rw [bytesOf] at ih
    simp only [bytesOf, List.flatMap_cons, List.length_append, ih, length_leBytes, List.length_cons]
    omega

theorem State.cmdMetInfo_gives {s : State} {q : CmdReq} (hm : s.chip.metro = true) (hq : q.len = 0) :
    ∃ b, s.cmdMetInfo q = (.reply 0 b, s) ∧ b.length = 192 := by
  obtain ⟨hlen, hst⟩ := State.peekAll_of_quiet (s := s) ((List.range 48).map fun i => 0x2000000 + 4 * i) (by
    intro o ho
    obtain ⟨i, hi, rfl⟩ := List.mem_map.1 ho
    exact s.peek_metInfo (List.mem_range.1 hi))
  rcases hread : s.peekAll ((List.range 48).map fun i => 0x2000000 + 4 * i) with ⟨l, t⟩
  rw [hread] at hlen hst
  obtain rfl : t = s := hst
  refine ⟨bytesOf l, ?_, ?_⟩
  · rw [State.cmdMetInfo, if_neg (by simp [hm]), if_neg (by simp [hq]), hread]
    rfl
  · rw [length_bytesOf, hlen, List.length_map, List.length_range]

theorem State.cmdMetInfo_bad {s : State} {q : CmdReq} (hm : s.chip.metro = true) (hq : q.len ≠ 0) :
    s.cmdMetInfo q = (.reply 3 [], s) := by
  rw [State.cmdMetInfo, if_neg (by simp [hm]), if_pos hq]
  rfl

/-! ### CMD_MET_READ -/

theorem State.cmdMetRead_long {s : State} {q : CmdReq} (hm : s.chip.metro = true) (hn : 64 < leAt q.args 4 2) :
    s.cmdMetRead q = (.reply 3 [], s) := by
  simp only [State.cmdMetRead, hm, hn, or_true, if_true]
  rfl

theorem leNat_lt (l : List Byte) : leNat l < 256 ^ l.length := by
  induction l with
  | nil => decide
  | cons b l ih =>
    rw [leNat, List.length_cons, Nat.pow_succ]
    have := b.isLt
    omega

theorem leNat_take_lt (l : List Byte) (n : Nat) : leNat (l.take n) < 256 ^ n :=
  (leNat_lt _).trans_le (Nat.pow_le_pow_right (by decide) (List.length_take_le n l))

theorem State.cmdMetRead_eq {s : State} {q : CmdReq} (hm : s.chip.metro = true) (hq : q.len = 6)
    (hn : 0 < leAt q.args 4 2) (hn' : leAt q.args 4 2 ≤ 64) (he : s.island.entries < 2 ^ 31) :
    s.cmdMetRead q =
      if s.metAlive = true ∧ s.island.entries - min 1024 s.island.entries ≤ leAt q.args 0 4 ∧
          leAt q.args 0 4 + leAt q.args 4 2 ≤ s.island.entries then
        s.gives ((List.range (leAt q.args 4 2)).flatMap fun i =>
          fit 128 (Tab.get [] s.island.log ((leAt q.args 0 4 + i) % 1024)))
      else s.ends 3 := by
  have hf : leAt q.args 0 4 < 2 ^ 32 := leNat_take_lt _ 4
  simp only [State.cmdMetRead, hm, hq, State.metCount]
  generalize leAt q.args 0 4 = f at *
  generalize leAt q.args 4 2 = n at *
  rw [if_neg (by simp), if_neg (by omega), if_neg (by omega)]
  by_cases ha : s.metAlive = true
  · simp only [ha, if_true, true_and]
    rw [← ite_not]
    congr 1
    rw [eq_iff_iff]
    omega
  · simp only [ha, false_and, if_false, Bool.false_eq_true]
    rw [if_pos (by omega)]

/-! ### CMD_MET_OFFER -/

/-- An offer that is laid out as R554 has it. -/
theorem offerOk_iff (q : CmdReq) : q.len ≥ 4 ∧ offerOk q = true ↔
    leAt q.args 1 3 = 0 ∧ (((byteAt q.args 0).toNat = 1 ∧ q.len = 16) ∨ ((byteAt q.args 0).toNat = 2 ∧ 4 < q.len) ∨
      ((byteAt q.args 0).toNat = 3 ∧ q.len = 4)) := by
  simp only [offerOk, zeros, Bool.and_eq_true, beq_iff_eq]
  generalize (byteAt q.args 0).toNat = k
  split
  · simp; omega
  · simp; omega
  · simp; omega
  · next h1 h2 h3 => simp [show _ ≠ 1 from h1, show _ ≠ 2 from h2, show _ ≠ 3 from h3]

/-- What a command leaves that has handed a good offer to the island (R468, R548). -/
def State.offerTaken (s : State) (q : CmdReq) : State :=
  { s with
    island := { s.island with
      offer := some ((byteAt q.args 0).toNat, q.args.drop 4), offerLow := s.island.sealLow }
    ctl := { s.ctl with offerWait := some (q, s.fr + 10000000000) } }

section
variable {s : State} {q : CmdReq} (hm : s.chip.metro = true)
include hm

theorem State.cmdMetOffer_bad (h : ¬ (q.len ≥ 4 ∧ offerOk q = true)) : s.cmdMetOffer q = (.reply 3 [], s) := by
  rw [State.cmdMetOffer, if_neg (by simp [hm]), if_pos]
  · rfl
  · by_cases hl : 4 ≤ q.len
    · simp only [ge_iff_le, hl, true_and] at h
      exact .inr (by simpa using h)
    · exact .inl (by omega)

theorem State.cmdMetOffer_busy (h : q.len ≥ 4 ∧ offerOk q = true)
    (hb : s.island.offer ≠ none ∨ s.ctl.offerWait ≠ none) :
    s.cmdMetOffer q = (.reply 1 [], s) := by
  rw [State.cmdMetOffer, if_neg (by simp [hm]), if_neg (by simp [h.2]; omega), if_pos]
  · rfl
  · simpa [Option.isSome_iff_ne_none] using hb

theorem State.cmdMetOffer_takes (h : q.len ≥ 4 ∧ offerOk q = true) (ho : s.island.offer = none)
    (hw : s.ctl.offerWait = none) (hp : s.island.powered = true) : s.cmdMetOffer q = (.waits, s.offerTaken q) := by
  rw [State.cmdMetOffer, if_neg (by simp [hm]), if_neg (by simp [h.2]; omega), if_neg (by simp [ho, hw]), if_pos hp]
  rfl

end

/-! ### The end of an offer (R548, R554) -/

section
variable (s : State)

@[simp] theorem State.queueReply_accepted (h : Nat) (r : Reply) : (s.queueReply h r).ctl.accepted = s.ctl.accepted := by
  rw [State.queueReply]
  split <;> rfl

theorem State.ctlPump_ctl (q : Nat) : (s.ctlPump q).ctl = s.ctl := by
  have pins : ∀ (l : List (List Byte)) (t : State), (l.foldl (fun t b => t.pin (.control q b)) t).ctl = t.ctl := by
    intro l
    induction l with
    | nil => exact fun t => rfl
    | cons b l ih => exact fun t => (ih _).trans rfl
  rw [State.ctlPump]
  dsimp only
  split
  · exact pins _ _
  · rfl

theorem State.fabControl_ctl (ty d : Nat) (b : List Byte) : (s.fabControl ty d b).ctl = s.ctl := by
  rw [State.fabControl]
  split
  · split
    · rw [State.ctlSend, State.ctlPump_ctl]
      rfl
    · rfl
  · rfl

/-- A reply leaves the commands that wait their turn. -/
theorem State.sendReply_accepted (op : Nat) (q : CmdReq) (st : Nat) (b : List Byte) :
    (s.sendReply op q st b).ctl.accepted = s.ctl.accepted := by
  rw [State.sendReply]
  split
  · exact s.queueReply_accepted _ _
  · simp only [State.replyAt]
    split
    · exact State.queueReply_accepted _ _ _
    · exact s.queueReply_accepted _ _
  · split <;> rfl
  · simp only [State.noteSent, State.fabControl_ctl]

/-- The offer command that waits ends with its reply, where no other command waits its turn. -/
theorem State.offerEnd_eq {s : State} {q : CmdReq} {limit : Nat} (hw : s.ctl.offerWait = some (q, limit))
    (ha : s.ctl.accepted = []) (st : Nat) (b : List Byte) :
    s.offerEnd st b = ({ s with ctl := { s.ctl with offerWait := none } }).sendReply 0x0903 q st b := by
  simp only [State.offerEnd, hw, State.resumeCmds, State.sendReply_accepted, ha]
  rfl

end

/-- What the judgement of an offer leaves of the commands: nothing but the island's posts are touched. -/
@[simp] theorem State.metPost_offerWait (s : State) (w : List Word) :
    (s.metPost w).ctl.offerWait = s.ctl.offerWait := rfl
@[simp] theorem State.metPost_accepted (s : State) (w : List Word) : (s.metPost w).ctl.accepted = s.ctl.accepted := rfl
@[simp] theorem State.metPost_island (s : State) (w : List Word) :
    (s.metPost w).island = { s.island with posts := s.island.posts + 1 } := rfl

/-- The judgement of an offer to blow the fuse (kind 3): the seal decides (R548). -/
theorem Island.judge_fuse {x : Island} (hf : x.fuseBlown = false) (ha : x.audit < 4095) (e i p : Bool) :
    x.judge 3 e i p = if (x.offerLow && e) = true then 0 else 1 := by
  by_cases h : (x.offerLow && e) = true
  · simp [Island.judge, h, hf, Nat.not_le.2 ha]
  · simp [Island.judge, h]

theorem State.raise_rest (s : State) (src : Nat) :
    { s.raise src with regs := s.regs, hub := s.hub, pins := s.pins } = s := by
  by_cases h : evPresent s.chip src = true
  · exact (State.raise_of_present h).regsAndHub.2.1
  · rw [State.raise_of_absent (by simpa using h)]

theorem State.raise_ctl (s : State) (src : Nat) : (s.raise src).ctl = s.ctl := (congrArg State.ctl (s.raise_rest src) :)
theorem State.raise_island (s : State) (src : Nat) : (s.raise src).island = s.island :=
  (congrArg State.island (s.raise_rest src) :)

/-- An accepted offer to blow the fuse blows it, and no command is touched. -/
theorem State.metAccept_fuse (s : State) (b : List Byte) :
    (s.metAccept 3 b).island.fuseBlown = true ∧ (s.metAccept 3 b).ctl.offerWait = s.ctl.offerWait ∧
      (s.metAccept 3 b).ctl.accepted = s.ctl.accepted := by
  simp only [State.metAccept, State.raise_ctl, State.raise_island]
  exact ⟨rfl, rfl, rfl⟩

section
variable {s : State} {q : CmdReq} {limit : Nat} {b : List Byte} (hw : s.ctl.offerWait = some (q, limit))
  (ha : s.ctl.accepted = [])
include hw ha

theorem State.offerEnd_replies (st : Nat) (r : List Byte) {p : State → Prop}
    (hp : p { s with ctl := { s.ctl with offerWait := none } }) : Replies (.next (s.offerEnd st r)) 0x0903 q st r p :=
  ⟨_, hp, by rw [State.offerEnd_eq hw ha]⟩

theorem execMetOfferTimeout_due (hl : limit ≤ s.fr) :
    Replies (exec .metOfferTimeout s) 0x0903 q 7 [] (· = { s with ctl := { s.ctl with offerWait := none } }) := by
  have hends : execMetOfferTimeout s = .next (s.offerEnd St.TIMEOUT []) := by
    rw [execMetOfferTimeout, hw]
    exact if_pos hl
  change Replies (execMetOfferTimeout s) _ _ _ _ _
  rw [hends]
  exact State.offerEnd_replies hw ha _ _ rfl

omit ha in
theorem execMetOfferTimeout_early (hl : s.fr < limit) : exec .metOfferTimeout s = .next s := by
  change execMetOfferTimeout s = _
  rw [execMetOfferTimeout, hw]
  simp only [Nat.not_le.2 hl, if_false]

variable (hon : s.metOn = true) (ho : s.island.offer = some (3, b)) (hf : s.island.fuseBlown = false)
  (hau : s.island.audit < 4095)
include hon ho hf hau

/-- With the seal in place at the offer it is denied for reason 1 (R548). -/
theorem execMetOfferJudge_sealed (hlow : s.island.offerLow = false) (e i p : Bool) :
    Replies (exec (.metOfferJudge e i p) s) 0x0903 q 4 [1] fun u =>
      u.island = { s.island with offer := none, posts := s.island.posts + 1 } ∧ u.ctl.offerWait = none := by
  have hjudge : s.metJudge 3 b e i p = (1, (s.setIsland { s.island with offer := none }).metPost [W 6, W 1]) := by
    simp [State.metJudge, Island.judge_fuse hf hau, hlow]
  have hends : execMetOfferJudge e i p s =
      .next (((s.setIsland { s.island with offer := none }).metPost [W 6, W 1]).offerEnd St.DENIED [1]) := by
    simp only [execMetOfferJudge, ho, hon, if_true, hjudge]
    rfl
  change Replies (execMetOfferJudge e i p s) _ _ _ _ _
  rw [hends]
  exact State.offerEnd_replies (by simpa using hw) (by simpa using ha) _ _ ⟨rfl, rfl⟩

/-- With the seal open at both ends the fuse is blown (R548, R550). -/
theorem execMetOfferJudge_open (hlow : s.island.offerLow = true) (i p : Bool) :
    Replies (exec (.metOfferJudge true i p) s) 0x0903 q 0 [] fun u =>
      u.island.fuseBlown = true ∧ u.ctl.offerWait = none := by
  have hjudge : s.metJudge 3 b true i p =
      (0, ((s.setIsland { s.island with offer := none }).metAccept 3 b).metPost [W 6, W 0]) := by
    simp [State.metJudge, Island.judge_fuse hf hau, hlow]
  obtain ⟨hblown, hwait, hacc⟩ := (s.setIsland { s.island with offer := none }).metAccept_fuse b
  have hends : execMetOfferJudge true i p s =
      .next ((((s.setIsland { s.island with offer := none }).metAccept 3 b).metPost [W 6, W 0]).offerEnd St.OK []) := by
    simp only [execMetOfferJudge, ho, hon, if_true, hjudge]
  change Replies (execMetOfferJudge true i p s) _ _ _ _ _
  rw [hends]
  exact State.offerEnd_replies (by simpa [hwait] using hw) (by simpa [hacc] using ha) _ _ ⟨hblown, rfl⟩

end

/-- Settles O55: a command that pair 0 takes at once runs its body, and the end of an offer replies to the command that
waits for it. -/
theorem islandCommands : Obligations.IslandCommands := by
  unfold Obligations.IslandCommands
  intro s q num kind first n
  refine ⟨fun ht => ⟨fun hm => ?_, fun hm => ⟨fun hl => ?_, fun hl => ?_, fun hl h0 hn he => ?_, fun hl hn => ?_,
    fun hz hk => ⟨fun hb => ?_, fun ho hw hp => ?_⟩, fun hbad => ?_⟩⟩,
    fun limit hw ha => ⟨?_, ?_, fun b hm hp ho hf hau => ⟨?_, ?_⟩⟩⟩
  · have absent : ∀ op, assigned op = true → op ≠ 0x0801 → s.cmdBody op q .none = (.reply 2 [], s) →
        Replies (s.serve op q .none) op q 2 [] (· = s) := fun op ha hop hb => ht.replies ha hop hb rfl
    simp only [List.forall_mem_cons, List.not_mem_nil, false_imp_iff, implies_true, and_true]
    refine ⟨absent _ (by decide) (by decide) ?_, absent _ (by decide) (by decide) ?_,
      absent _ (by decide) (by decide) ?_⟩
    · exact if_pos (by simp [hm])
    · exact if_pos (by simp [hm])
    · exact if_pos (by simp [hm])
  · obtain ⟨b, hb, hlen⟩ := State.cmdMetInfo_gives hm hl
    exact ⟨b, ht.replies (by decide) (by decide) hb rfl, hlen⟩
  · exact ht.replies (by decide) (by decide) (State.cmdMetInfo_bad hm hl) rfl
  · constructor
    · intro held
      refine ht.replies (by decide) (by decide) ((State.cmdMetRead_eq hm hl h0 hn he).trans (if_pos held)) rfl
    · intro held
      exact ht.replies (by decide) (by decide) ((State.cmdMetRead_eq hm hl h0 hn he).trans (if_neg held)) rfl
  · exact ht.replies (by decide) (by decide) (State.cmdMetRead_long hm hn) rfl
  · exact ht.replies (by decide) (by decide) (State.cmdMetOffer_busy hm ((offerOk_iff q).2 ⟨hz, hk⟩) hb) rfl
  · exact (ht.serve (op := 0x0903) (by decide) (by decide) .none
      (State.cmdMetOffer_takes hm ((offerOk_iff q).2 ⟨hz, hk⟩) ho hw hp)).2 rfl
  · refine ht.replies (by decide) (by decide) (State.cmdMetOffer_bad hm fun hgood => ?_) rfl
    obtain ⟨hz, hk⟩ := (offerOk_iff q).1 hgood
    rcases hbad with h | h | h
    · exact h hz
    · omega
    · rcases hk with hk | hk | hk <;> exact h (by simp [kind, hk.1])
  · exact execMetOfferTimeout_due hw ha
  · exact execMetOfferTimeout_early hw
  · exact fun hlow e i p => execMetOfferJudge_sealed hw ha (by simp [State.metOn, hm, hp]) ho hf hau hlow e i p
  · exact fun hlow i p => execMetOfferJudge_open hw ha (by simp [State.metOn, hm, hp]) ho hf hau hlow i p

end Sys2Proof.Machine

namespace Sys2Proof.Machine
open Sys2Proof

/-! ### Step 2 without a key action (R347) -/

/-- The frame that step 2 makes of `b` where its profile has no key action: no drop, no meter, no stream. -/
def State.plainFrame (s : State) (port : Nat) (b : List Byte) (ts : DomTime) : IFrame :=
  let e := s.ing
  let k := s.profile port
  let p := parseOf (s.portKind port = .can) b
  let h := flowHash (s.reg (Reg.CLS_PSEED e k)) (s.flowKey e k port p b)
  let c := s.srcClass e k p b
  { bytes := b, port := port, cls := c
    pool := s.fld (if c < 4 then Reg.PORT_POOL_LO port else Reg.PORT_POOL_HI port) (8 * (c % 4) + 4) (8 * (c % 4))
    epoch := e, profile := k, od := s.hashOd e k h, hash := h, color := 0, stream := 0
    l3 := p.l3.getD 255, l4 := p.l4.getD 255, mdata := [], fab := false
    tsSec := ts.sec.toNat, tsNs := ts.ns, tsFrac := B8 ts.fracByte, stalled := false }

/-- No key action for the frames of a port (R348): KEYACT of its profile is 0 in the ingress epoch. -/
def State.noKeyAction (s : State) (port : Nat) : Prop := s.flag (Reg.CLS_PCTL s.ing (s.profile port)) 26 = false

theorem State.classify_plain {s : State} {port : Nat} (h : s.noKeyAction port) (b : List Byte) (ts : DomTime) :
    s.classify port b none ts = (some (s.plainFrame port b ts), s) := by
  have hk : ∀ key, s.keyAction s.ing (s.profile port) key = ({}, s) := fun key => by
    rw [State.keyAction, if_pos (by simp [show _ = false from h])]
  simp [State.classify, hk, State.plainFrame]

/-- The state with the Lookup Engine's bookkeeping of readers as in `l`. -/
def State.withLook (s : State) (l : Look) : State := { s with look := l }

/-- A reader of far tables that asks for no line is done at once. -/
theorem State.farRun_quiet {α : Type} {s : State} {f : State → α × State} {v : α} (own : FarFor) (tclass : Bool)
    (h : ∀ l, f (s.withLook l) = (v, s.withLook l)) : ∃ l, s.farRun own tclass f = (.done v, s.withLook l) := by
  refine ⟨{ s.look with cur := none, need := [], gone := none, fetch := s.look.fetch.filter fun f => f.own != own }, ?_⟩
  have hf := h { s.look with cur := some (own, tclass), need := [], gone := none }
  rw [State.withLook] at hf
  simp only [State.farRun, hf]
  rfl

/-- Step 2 of a frame whose port has no key action and no frame waiting there: it goes to its FIFO. -/
theorem State.stepTwo_plain {s : State} {port : Nat} (h : s.noKeyAction port) (hq : s.stepTwoQ port = [])
    (b : List Byte) (ts : DomTime) : ∃ l, s.stepTwo port b none ts = (s.withLook l).fifoEnter (s.plainFrame port b ts) := by
  obtain ⟨l, hl⟩ := State.farRun_quiet (s := s) (f := fun u => u.classify port b none ts)
    (v := some (s.plainFrame port b ts)) (.frame port) false fun l => State.classify_plain (s := s.withLook l) h b ts
  refine ⟨l, ?_⟩
  simp [State.stepTwo, State.stepTwoTry, hq, hl]

/-! ### A frame enters its FIFO (R331, R333) -/

/-- The test for PFC changes nothing but which priorities are paused, and sends frames. -/
theorem State.pfcTest_rest (s : State) (port c : Nat) :
    { s.pfcTest port c with
      ports := { (s.pfcTest port c).ports with pfcOn := s.ports.pfcOn, pfcAt := s.ports.pfcAt }
      pins := s.pins } = s := by
  simp only [State.pfcTest]
  split
  · split
    · split <;> rfl
    · split <;> rfl
  · split <;> rfl

theorem State.fifoEnter_fits {s : State} {f : IFrame} (h : s.fifoFits f.port f.cls f.bytes.length = true) :
    s.fifoEnter f = (s.setFifo f.port f.cls (s.fifo f.port f.cls ++ [f])).pfcTest f.port f.cls := by
  rw [State.fifoEnter, if_pos (by simp [h])]

/-- A frame that does not fit is counted, but at the host port and on a link (R242, R331). -/
theorem State.fifoEnter_full {s : State} {f : IFrame} (h : s.fifoFits f.port f.cls f.bytes.length = false)
    (hk : s.portKind f.port ≠ .host) (hk' : s.portKind f.port ≠ .lfl) :
    s.fifoEnter f = s.bump (Reg.PORT_IDROP f.port f.cls) := by
  rw [State.fifoEnter, if_neg (by simp [h, State.noDrop, hk, hk'])]

/-! ### The class of a frame -/

theorem be16_lt (b : List Byte) (i : Nat) : be16 b i < 65536 := by
  have h := (byteAt b i).isLt
  have h' := (byteAt b (i + 1)).isLt
  rw [be16]
  omega

theorem dscpHigh_lt (b : List Byte) (o : Nat) : dscpHigh b o < 8 := by
  have h := (byteAt b (o + 1)).isLt
  rw [dscpHigh]
  split <;> omega

theorem parseFrame_tag_lt {b : List Byte} {t : Nat} (h : (parseFrame b).tag = some t) : t < 65536 := by
  have htag : (parseFrame b).tag = if isTag (be16 b 12) then some (be16 b 14) else none := by
    rw [parseFrame]
    split <;> rfl
  rw [htag] at h
  split at h
  · cases h; exact be16_lt b 14
  · cases h

theorem State.srcClass_lt (s : State) (e k : Nat) (can : Bool) (b : List Byte) :
    s.srcClass e k (parseOf can b) b < 8 := by
  have hfix : getF (s.reg (Reg.CLS_PCTL e k)) 25 23 < 8 := getF_lt _ _ _
  simp only [State.srcClass]
  split
  · split
    · next t ht =>
      cases can with
      | true => simp [parseOf] at ht
      | false =>
        have := parseFrame_tag_lt (b := b) (by simpa [parseOf] using ht)
        omega
    · exact hfix
  · split
    · exact dscpHigh_lt _ _
    · exact hfix
  · exact hfix


/-! ### A received frame joins its FIFO -/

/-- What is said of a frame `b` that step 2 of a port takes up in state `s`: it joins the FIFO of its class, or is
counted where it does not fit (R331, R347). -/
def JoinsFifo (s t : State) (port : Nat) (b : List Byte) : Prop :=
  let e := s.ing
  let k := s.profile port
  let p := parseOf (s.portKind port = .can) b
  let h := flowHash (s.reg (Reg.CLS_PSEED e k)) (s.flowKey e k port p b)
  let c := s.srcClass e k p b
  (s.fifoFits port c b.length = true →
    ∃ f, t.fifo port c = s.fifo port c ++ [f] ∧ f.bytes = b ∧ f.port = port ∧ f.cls = c ∧ f.epoch = e ∧ f.hash = h ∧
      f.od = s.hashOd e k h ∧ f.color = 0 ∧ f.fab = false ∧ (∀ d, d ≠ c → d < 8 → t.fifo port d = s.fifo port d) ∧
      t.mem = s.mem ∧ t.herd = s.herd) ∧
  (s.fifoFits port c b.length = false →
    t.reg (Reg.PORT_IDROP port c) = W (satInc 32 (s.reg (Reg.PORT_IDROP port c)).toNat) ∧
      (∀ d, t.fifo port d = s.fifo port d) ∧ t.mem = s.mem ∧ t.herd = s.herd)

theorem State.pfcTest_mem (s : State) (port c : Nat) : (s.pfcTest port c).mem = s.mem :=
  (congrArg State.mem (s.pfcTest_rest port c) :)
theorem State.pfcTest_herd (s : State) (port c : Nat) : (s.pfcTest port c).herd = s.herd :=
  (congrArg State.herd (s.pfcTest_rest port c) :)
theorem State.pfcTest_ports (s : State) (port c : Nat) :
    { (s.pfcTest port c).ports with pfcOn := s.ports.pfcOn, pfcAt := s.ports.pfcAt } = s.ports :=
  (congrArg State.ports (s.pfcTest_rest port c) :)
theorem State.pfcTest_fifo (s : State) (port c q d : Nat) : (s.pfcTest port c).fifo q d = s.fifo q d := by
  rw [State.fifo, State.fifo, (congrArg Ports.ififo (s.pfcTest_ports port c) :)]
theorem State.pfcTest_sa (s : State) (port c k : Nat) : (s.pfcTest port c).sa k = s.sa k := by
  rw [State.sa, State.sa, (congrArg Ports.sas (s.pfcTest_ports port c) :)]
theorem State.pfcTest_reg (s : State) (port c k : Nat) : (s.pfcTest port c).reg k = s.reg k :=
  State.reg_congr (congrArg State.chip (s.pfcTest_rest port c) :) (congrArg State.regs (s.pfcTest_rest port c) :) k

/-- The frame of step 2 enters its FIFO as said. -/
theorem joinsFifo_enter {s : State} {port : Nat} (l : Look) (b : List Byte) (ts : DomTime)
    (hk : s.portKind port ≠ .host) (hk' : s.portKind port ≠ .lfl) : JoinsFifo s ((s.withLook l).fifoEnter (s.plainFrame port b ts)) port b := by
  delta JoinsFifo
  intro e k p h c
  obtain ⟨f, hf⟩ : ∃ f, f = s.plainFrame port b ts := ⟨_, rfl⟩
  have hport : f.port = port := by rw [hf]; rfl
  have hcls : f.cls = c := by rw [hf]; rfl
  have hbytes : f.bytes = b := by rw [hf]; rfl
  have hfits : (s.withLook l).fifoFits f.port f.cls f.bytes.length = s.fifoFits port c b.length := by
    rw [hport, hcls, hbytes]; rfl
  rw [← hf]
  constructor
  · intro hfit
    rw [State.fifoEnter_fits (hfits.trans hfit), hport, hcls]
    refine ⟨f, ?_, hbytes, hport, hcls, by rw [hf]; rfl, by rw [hf]; rfl, by rw [hf]; rfl, by rw [hf]; rfl,
      by rw [hf]; rfl, fun d hd _ => ?_, ?_, ?_⟩
    · rw [State.pfcTest_fifo, State.fifo_setFifo, if_pos rfl]
      rfl
    · rw [State.pfcTest_fifo, State.fifo_setFifo, if_neg (by simpa using hd)]
      rfl
    · rw [State.pfcTest_mem]; rfl
    · rw [State.pfcTest_herd]; rfl
  · intro hfull
    rw [State.fifoEnter_full (hfits.trans hfull) (by rwa [hport]) (by rwa [hport]), hport, hcls]
    refine ⟨?_, fun d => rfl, rfl, rfl⟩
    rw [State.reg_bump, if_pos rfl]
    rfl

/-- Step 2 of a frame at a port where frames can be dropped. -/
theorem joinsFifo_stepTwo {s : State} {port : Nat} (h : s.noKeyAction port) (hq : s.stepTwoQ port = [])
    (hk : s.portKind port ≠ .host) (hk' : s.portKind port ≠ .lfl) (b : List Byte) (ts : DomTime) :
    JoinsFifo s (s.stepTwo port b none ts) port b := by
  obtain ⟨l, hl⟩ := State.stepTwo_plain h hq b ts
  rw [hl]
  exact joinsFifo_enter l b ts hk hk'

/-- Step 2 leaves the SAs of MACsec. -/
theorem State.stepTwo_sa {s : State} {port : Nat} (h : s.noKeyAction port) (hq : s.stepTwoQ port = []) (b : List Byte)
    (ts : DomTime) (i : Nat) : (s.stepTwo port b none ts).sa i = s.sa i := by
  obtain ⟨l, hl⟩ := State.stepTwo_plain h hq b ts
  rw [hl, State.fifoEnter]
  split
  · rw [State.pfcTest_sa]; rfl
  · rfl

/-! ### MACsec on reception (R329) -/

/-- The secure channel drops a frame and counts it. -/
def State.macsecDrop (s : State) (port : Nat) : State :=
  s.setSecy port { s.secy port with dropped := (s.secy port).dropped + 1 }

/-- A frame goes through where the port has no secure channel. -/
theorem State.macsecIn_open {s : State} {port : Nat} (b : List Byte)
    (h : ¬ (s.chip.crypto = true ∧ port < 48) ∨ ((s.secy port).strict = false ∧ s.rxScs port = [])) :
    s.macsecIn port b = (some b, s) := by
  rw [State.macsecIn, if_pos]
  rcases h with h | ⟨h, h'⟩
  · by_cases hc : s.chip.crypto = true
    · have : 48 ≤ port := by simpa [hc] using h
      simp [this]
    · simp [hc]
  · simp [h, h']

section
variable {s : State} {port : Nat} {b : List Byte} (hc : s.chip.crypto = true) (hp : port < 48)
  (hs : (s.secy port).strict = true)
include hc hp hs

theorem State.macsecIn_untagged (h : be16 b 12 ≠ 0x88E5) : s.macsecIn port b = (none, s.macsecDrop port) := by
  simp [State.macsecIn, hc, Nat.not_le.2 hp, hs, hasSecTag, h, State.macsecDrop]

variable (ht : be16 b 12 = 0x88E5)
include ht

theorem State.macsecIn_badTag (h : secTag (s.secy port).xpn b = none) :
    s.macsecIn port b = (none, s.macsecDrop port) := by
  simp [State.macsecIn, hc, Nat.not_le.2 hp, hs, hasSecTag, ht, h, State.macsecDrop]

variable {tag : SecTag} (htag : secTag (s.secy port).xpn b = some tag)
include htag

theorem State.macsecIn_noChannel (h : s.rxScOf port tag b = none) : s.macsecIn port b = (none, s.macsecDrop port) := by
  simp [State.macsecIn, hc, Nat.not_le.2 hp, hs, hasSecTag, ht, htag, h, State.macsecDrop]

variable {i : Nat} {sc : RxSc} (hsc : s.rxScOf port tag b = some (i, sc))
include hsc

/-- A frame under an SA that is off, with a packet number behind the replay window, or with a bad ICV. -/
theorem State.macsecIn_refused
    (h : (s.sa (saRx i tag.an)).en = false ∨
      ((s.secy port).replay = true ∧
        tag.fullPn (s.secy port) (s.sa (saRx i tag.an)) + (s.secy port).window < (s.sa (saRx i tag.an)).pn) ∨
      tag.unlock (s.secy port) (s.sa (saRx i tag.an)) sc.sci.toNat
        (tag.fullPn (s.secy port) (s.sa (saRx i tag.an))) b = none) :
    s.macsecIn port b = (none, s.macsecDrop port) := by
  simp only [State.macsecIn, hc, hs, hasSecTag, ht, htag, hsc, State.macsecDrop]
  rw [if_neg (by simp [hp]), if_neg (by simp), if_neg (by simp)]
  split
  · rfl
  · next hgood =>
    rcases h with h | h | h
    · exact absurd (by simp [h]) hgood
    · exact absurd (by simp [h]) hgood
    · rw [h]

theorem State.macsecIn_valid {u : List Byte} (hen : (s.sa (saRx i tag.an)).en = true)
    (hlate : ¬ ((s.secy port).replay = true ∧
        tag.fullPn (s.secy port) (s.sa (saRx i tag.an)) + (s.secy port).window < (s.sa (saRx i tag.an)).pn))
    (hu : tag.unlock (s.secy port) (s.sa (saRx i tag.an)) sc.sci.toNat
        (tag.fullPn (s.secy port) (s.sa (saRx i tag.an))) b = some u) :
    s.macsecIn port b = (some (b.take 12 ++ u), s.setSa (saRx i tag.an) { s.sa (saRx i tag.an) with
      pn := max (s.sa (saRx i tag.an)).pn (tag.fullPn (s.secy port) (s.sa (saRx i tag.an)) + 1) }) := by
  simp only [State.macsecIn, hc, hs, hasSecTag, ht, htag, hsc]
  rw [if_neg (by simp [hp]), if_neg (by simp), if_neg (by simp), if_neg (by simpa [hen] using hlate)]
  simp only [hu]

end

/-! ### The last bit of a frame (R24) -/

section
variable {s : State} {r : RxFrame} (hrun : s.running = true)
  (hk : s.portKind r.port = .eth ∨ s.portKind r.port = .mgmt)
include hrun hk

theorem execFrameReceive_eq : exec (.frameReceive r) s = .next (
    if !s.portOn r.port then s
    else if !decide (60 ≤ r.bytes.length ∧ r.bytes.length ≤ 9596) || !r.fcsOk then s.dropped .badFrame r.port
    else if s.inBandFrame r.port r.bytes then { s with ctl := { s.ctl with inBand := s.ctl.inBand ++ [r.bytes] } }
    else s.frameIn r.port r.bytes r.age) := by
  obtain ⟨hfatal, hmin⟩ : s.hub.fatal = false ∧ s.minimal = false := by simpa [State.running] using hrun
  change Host.Outcome.next (s.frameReceive r) = _
  rw [State.frameReceive]
  dsimp only
  rw [if_neg (by rcases hk with h | h <;> simp [hfatal, h]), if_neg (by simp [hmin])]

variable (hon : s.portOn r.port = true) (hgood : r.fcsOk = true ∧ 60 ≤ r.bytes.length ∧ r.bytes.length ≤ 9596)
  (hib : s.inBandFrame r.port r.bytes = false)
include hon hgood hib

/-- A good frame that is no command and no MAC Control frame goes on to MACsec. -/
theorem execFrameReceive_data : exec (.frameReceive r) s = .next (s.frameIn r.port r.bytes r.age) := by
  rw [execFrameReceive_eq hrun hk, if_neg (by simp [hon]), if_neg (by simp [hgood]), if_neg (by simp [hib])]

variable (hctl : be16 r.bytes 12 ≠ 0x8808)
include hctl

theorem execFrameReceive_dropped {u : State} (h : s.macsecIn r.port r.bytes = (none, u)) :
    exec (.frameReceive r) s = .next u := by
  rw [execFrameReceive_data hrun hk hon hgood hib, State.frameIn, if_neg hctl, h]

theorem execFrameReceive_passed {u : State} {c : List Byte} (h : s.macsecIn r.port r.bytes = (some c, u)) :
    exec (.frameReceive r) s = .next (u.stepTwo r.port c none (u.rxStamp r.port r.age)) := by
  rw [execFrameReceive_data hrun hk hon hgood hib, State.frameIn, if_neg hctl, h]

end

end Sys2Proof.Machine

namespace Sys2Proof.Machine
open Sys2Proof

/-! ### States that look the same to step 2 -/

/-- `u` differs from `s` in nothing that step 2 and the ingress FIFOs read, but perhaps in the registers of the CAN
channels. -/
structure SameIngress (s u : State) : Prop where
  chip : u.chip = s.chip
  fifos : u.ports.ififo = s.ports.ififo
  mem : u.mem = s.mem
  herd : u.herd = s.herd
  regs : ∀ k, k < 0xA00000 ∨ 0xB00000 ≤ k → u.reg k = s.reg k

namespace SameIngress
variable {s u : State} (h : SameIngress s u)
include h

theorem ing : u.ing = s.ing := by rw [State.ing, State.ing, State.fld, State.fld, h.regs _ (by decide)]

theorem fifo (port c : Nat) : u.fifo port c = s.fifo port c := by rw [State.fifo, State.fifo, h.fifos]

theorem cls (off hi lo : Nat) (ho : 0xB00000 ≤ off) : u.fld off hi lo = s.fld off hi lo := by
  rw [State.fld, State.fld, h.regs _ (.inr ho)]

theorem profile {port : Nat} (hp : port < 256) : u.profile port = s.profile port := by
  rw [State.profile, State.profile, State.fld, State.fld, h.regs _ (.inl (by unfold Reg.PORT_CFG; omega))]

theorem quadMode {q : Nat} (hq : q < 256) : u.quadMode q = s.quadMode q := by
  rw [State.quadMode, State.quadMode, State.fld, State.fld, h.regs _ (.inl (by unfold Reg.PORT_QUAD; omega))]

theorem portKind {port : Nat} (hp : port < 256) : u.portKind port = s.portKind port := by
  have h1 := h.quadMode (q := port / 4) (by omega)
  have h2 := h.quadMode (q := port - 128) (by omega)
  rw [State.portKind, State.portKind, portKindIn, portKindIn, h.chip, h1, h2]

theorem clsReg (off : Nat) (ho : 0xB00000 ≤ off) : u.reg off = s.reg off := h.regs _ (.inr ho)

theorem flowKey (e k port : Nat) (p : Parsed) (b : List Byte) : u.flowKey e k port p b = s.flowKey e k port p b := by
  have hfld : ∀ i, u.reg (Reg.CLS_PFLD e k i) = s.reg (Reg.CLS_PFLD e k i) := fun i =>
    h.clsReg _ (by unfold Reg.CLS_PFLD; omega)
  simp only [State.flowKey, hfld]

theorem srcClass (e k : Nat) (p : Parsed) (b : List Byte) : u.srcClass e k p b = s.srcClass e k p b := by
  simp only [State.srcClass, h.clsReg (Reg.CLS_PCTL e k) (by unfold Reg.CLS_PCTL; omega)]

theorem hashOd (e k : Nat) (w : Word) : u.hashOd e k w = s.hashOd e k w := by
  simp only [State.hashOd, h.clsReg (Reg.CLS_PCTL e k) (by unfold Reg.CLS_PCTL; omega)]

theorem fifoFits {port c : Nat} (hp : port < 256) (hc : c < 8) (n : Nat) :
    u.fifoFits port c n = s.fifoFits port c n := by
  have hused : u.fifoUsed port c = s.fifoUsed port c := by rw [State.fifoUsed, State.fifoUsed, h.fifo]
  have hsize : u.fifoSize port c = s.fifoSize port c := by
    rw [State.fifoSize, State.fifoSize, State.fld, State.fld, h.regs _ (.inl (by unfold Reg.PORT_IFIFO; omega))]
  rw [State.fifoFits, State.fifoFits, hused, hsize]

theorem noKeyAction {port : Nat} (hp : port < 256) (hk : s.noKeyAction port) : u.noKeyAction port := by
  rw [State.noKeyAction, h.ing, h.profile hp, State.flag, h.clsReg _ (by unfold Reg.CLS_PCTL; omega)]
  exact hk

/-- What is said of a frame in the one state holds in the other. -/
theorem joinsFifo {t : State} {port : Nat} {b : List Byte} (hp : port < 256) (hj : JoinsFifo u t port b) :
    JoinsFifo s t port b := by
  have hc := s.srcClass_lt s.ing (s.profile port) (s.portKind port = .can) b
  have hseed : u.reg (Reg.CLS_PSEED s.ing (s.profile port)) = s.reg (Reg.CLS_PSEED s.ing (s.profile port)) :=
    h.clsReg _ (by unfold Reg.CLS_PSEED; omega)
  have hdrop : ∀ c < 8, u.reg (Reg.PORT_IDROP port c) = s.reg (Reg.PORT_IDROP port c) := fun c hc =>
    h.regs _ (.inl (by unfold Reg.PORT_IDROP; omega))
  simpa only [JoinsFifo, h.ing, h.profile hp, h.portKind hp, h.flowKey, h.srcClass, h.hashOd, h.fifo, h.mem, h.herd,
    h.fifoFits hp hc, hseed, hdrop _ hc] using hj

end SameIngress

theorem SameIngress.trans {s t u : State} (h : SameIngress s t) (h' : SameIngress t u) : SameIngress s u :=
  ⟨h'.chip.trans h.chip, h'.fifos.trans h.fifos, h'.mem.trans h.mem, h'.herd.trans h.herd,
    fun k hk => (h'.regs k hk).trans (h.regs k hk)⟩

theorem sameIngress_freeCtr (s : State) (m : Nat) : SameIngress s { s with freeCtr := m } :=
  ⟨rfl, rfl, rfl, rfl, fun _ _ => rfl⟩

theorem sameIngress_setSa (s : State) (k : Nat) (x : SecA) : SameIngress s (s.setSa k x) :=
  ⟨rfl, rfl, rfl, rfl, fun _ _ => rfl⟩

/-! ### Error counters of a CAN channel (ISO 11898-1) -/

/-- STATE of a channel with these counters. -/
def canStateOf (tec cnt : Nat) : Nat := if 256 ≤ tec then 2 else if 128 ≤ tec ∨ 127 < cnt then 1 else 0

/-- CAN_STAT with these counters. -/
def canStatWord (v : Word) (tec cnt : Nat) : Word :=
  setF (setF (setF v 8 0 (min tec 511)) 15 9 (min cnt 127)) 17 16 (canStateOf tec cnt)

theorem canStatWord_tec (v : Word) (tec cnt : Nat) : getF (canStatWord v tec cnt) 8 0 = min tec 511 := by
  rw [canStatWord, getF_setF_disjoint _ _ (by decide) (by decide) (by decide),
    getF_setF_disjoint _ _ (by decide) (by decide) (by decide), getF_setF_same _ _ (by decide) (by decide)]
  exact Nat.mod_eq_of_lt (by omega)

theorem canStatWord_rec (v : Word) (tec cnt : Nat) : getF (canStatWord v tec cnt) 15 9 = min cnt 127 := by
  rw [canStatWord, getF_setF_disjoint _ _ (by decide) (by decide) (by decide),
    getF_setF_same _ _ (by decide) (by decide)]
  exact Nat.mod_eq_of_lt (by omega)

theorem canStatWord_state (v : Word) (tec cnt : Nat) : getF (canStatWord v tec cnt) 17 16 = canStateOf tec cnt := by
  rw [canStatWord, getF_setF_same _ _ (by decide) (by decide)]
  refine Nat.mod_eq_of_lt ?_
  rw [canStateOf]
  split
  · decide
  · split <;> decide

section
variable (s : State) (n tec cnt : Nat)

theorem State.canCounts_rest : { s.canCounts n tec cnt with regs := s.regs, ports := s.ports } = s := rfl

@[simp] theorem State.canCounts_reg (k : Nat) : (s.canCounts n tec cnt).reg k =
    if k = Reg.CAN_STAT n then canStatWord (s.reg (Reg.CAN_STAT n)) tec cnt else s.reg k :=
  State.reg_setReg _ _ _ _

theorem sameIngress_canCounts (hn : n < 24) : SameIngress s (s.canCounts n tec cnt) := by
  refine ⟨rfl, rfl, rfl, rfl, fun k hk => ?_⟩
  rw [State.canCounts_reg, if_neg]
  unfold Reg.CAN_STAT
  omega

end

/-- A part has at most 24 CAN channels (R2). -/
theorem Chip.cans_le (c : Chip) : c.cans ≤ 24 := by
  rw [Chip.cans]
  split <;> decide

theorem State.canActive_lt {s : State} {n : Nat} (h : s.canActive n = true) : n < s.chip.cans := by
  simp only [State.canActive, Bool.and_eq_true, decide_eq_true_eq] at h
  exact h.1.1

theorem State.portKind_can {s : State} {n : Nat} (h : n < s.chip.cans) : s.portKind (64 + n) = .can := by
  have := s.chip.cans_le
  rw [State.portKind, portKindIn, if_neg (by omega), if_pos (by omega), if_pos (by omega)]

/-! ### CAN reception (R28, R336, R339) -/

section
variable {s : State} {n : Nat} (r : CanRec) (hrun : s.running = true) (hact : s.canActive n = true)
include hrun hact

theorem execCanFrameReceive_eq (ok : Bool) : exec (.canFrameReceive n r ok) s = .next (s.canReceive n r ok) := by
  change execCanFrameReceive n r ok s = _
  rw [execCanFrameReceive, if_pos (by simp [hrun, hact])]

theorem execCanFrameReceive_error : exec (.canFrameReceive n r false) s =
    .next ((s.bump (Reg.CAN_RX_ERR n)).canCounts n (s.fld (Reg.CAN_STAT n) 8 0) (min (s.canRec n + 1) 128)) := by
  rw [execCanFrameReceive_eq r hrun hact]
  rfl

/-- A good frame of a channel whose port is in service, of a kind that needs no mode bit. -/
theorem execCanFrameReceive_good (hon : s.flag (Reg.PORT_CFG (64 + n)) 0 = true) (hfd : canFlag r.flags 3 = false)
    (hxl : canFlag r.flags 6 = false) : ∃ u, SameIngress s u ∧ u.ports.step2 = s.ports.step2 ∧
      exec (.canFrameReceive n r true) s =
        .next (u.stepTwo (64 + n) (canRecord r (s.domTime 0)) none (s.domTime 0)) := by
  have hn : n < 24 := by
    have := s.chip.cans_le
    have := State.canActive_lt hact
    omega
  obtain ⟨cnt, u, hfall, hu⟩ : ∃ cnt u, s.canRecFall n = (cnt, u) ∧ ∃ m, u = { s with freeCtr := m } := by
    rw [State.canRecFall]
    dsimp only
    split
    · exact ⟨_, _, rfl, _, rfl⟩
    · exact ⟨_, _, rfl, s.freeCtr, rfl⟩
  obtain ⟨m, rfl⟩ := hu
  have hsame : SameIngress s (({ s with freeCtr := m } : State).canCounts n (s.fld (Reg.CAN_STAT n) 8 0) cnt) :=
    (sameIngress_freeCtr s m).trans (sameIngress_canCounts _ n _ cnt hn)
  refine ⟨_, hsame, rfl, ?_⟩
  rw [execCanFrameReceive_eq r hrun hact, State.canReceive]
  simp only [hfall, hfd, hxl, Bool.false_and, Bool.or_false, Bool.not_true]
  rw [if_neg (by simp), if_neg]
  · rfl
  · rw [State.flag, hsame.regs _ (.inl (by unfold Reg.PORT_CFG; omega))]
    simpa [State.flag] using hon

end

/-! ### Frames that step 2 takes up -/

/-- Every port number lies below 140 (R22). -/
theorem State.portKind_lt {s : State} {port : Nat} (h : s.portKind port ≠ .none) : port < 140 := by
  by_contra hn
  apply h
  rw [State.portKind, portKindIn]
  repeat rw [if_neg (by omega)]

section
variable {s u : State} (h : SameIngress s u) (hq : u.ports.step2 = s.ports.step2) {port : Nat} (hp : port < 256)
  (hquiet : s.stepTwoQ port = []) (hact : s.noKeyAction port)
include h hq hp hquiet hact

/-- What step 2 does from a state that looks the same is said of the state before. -/
theorem SameIngress.stepTwo_joinsFifo (hk : s.portKind port ≠ .host) (hk' : s.portKind port ≠ .lfl) (b : List Byte)
    (ts : DomTime) : JoinsFifo s (u.stepTwo port b none ts) port b := by
  have hquiet' : u.stepTwoQ port = [] := by rw [State.stepTwoQ, hq]; exact hquiet
  rw [← h.portKind hp] at hk hk'
  exact h.joinsFifo hp (joinsFifo_stepTwo (h.noKeyAction hp hact) hquiet' hk hk' b ts)

theorem SameIngress.stepTwo_sa (b : List Byte) (ts : DomTime) (i : Nat) :
    (u.stepTwo port b none ts).sa i = u.sa i := by
  have hquiet' : u.stepTwoQ port = [] := by rw [State.stepTwoQ, hq]; exact hquiet
  exact State.stepTwo_sa (h.noKeyAction hp hact) hquiet' b ts i

end

/-- Settles O37: MACsec decides what step 2 takes up, and step 2 brings it to its FIFO. -/
theorem receivedFramesJoinTheirFifo : Obligations.ReceivedFramesJoinTheirFifo := by
  unfold Obligations.ReceivedFramesJoinTheirFifo
  intro s
  refine ⟨?_, ?_⟩
  · intro r hrun k good hk
    have hkind : s.portKind r.port ≠ .none ∧ s.portKind r.port ≠ .host ∧ s.portKind r.port ≠ .lfl := by
      rcases hk with h | h <;> (dsimp only [k] at h; simp [h])
    obtain ⟨hvalid, hhost, hlfl⟩ := hkind
    have hp : r.port < 256 := (State.portKind_lt hvalid).trans (by decide)
    refine ⟨fun hoff => ?_, fun hon hbad => ?_, fun hon hgood hib => ?_, fun hon hgood hib hctl hact => ?_⟩
    · rw [execFrameReceive_eq hrun hk, if_pos (by simp [hoff])]
    · rw [execFrameReceive_eq hrun hk, if_neg (by simp [hon]), if_pos]
      by_contra hn
      simp only [Bool.or_eq_true, Bool.not_eq_true', decide_eq_false_iff_not, not_or, not_not, Bool.not_eq_false] at hn
      exact hbad ⟨hn.2, hn.1⟩
    · obtain ⟨hf, hlen⟩ := hgood
      rw [execFrameReceive_eq hrun hk, if_neg (by simp [hon]), if_neg (by simp [hf, hlen]), if_pos hib]
    · intro y secured fails hq
      have drops : s.macsecIn r.port r.bytes = (none, s.macsecDrop r.port) → fails :=
        execFrameReceive_dropped hrun hk hon hgood hib hctl
      refine ⟨fun hopen => ⟨_, execFrameReceive_passed hrun hk hon hgood hib hctl (State.macsecIn_open _ hopen),
        joinsFifo_stepTwo hact hq hhost hlfl _ _⟩, fun ⟨hc, hport⟩ hs => ⟨fun ht => ?_, fun ht htag => ?_,
        fun tag ht htag => ⟨fun hsc => ?_, fun i sc hsc => ⟨fun hbad => ?_, fun u hen hlate hu => ?_⟩⟩⟩⟩
      · exact drops (State.macsecIn_untagged hc hport hs ht)
      · exact drops (State.macsecIn_badTag hc hport hs ht htag)
      · exact drops (State.macsecIn_noChannel hc hport hs ht htag hsc)
      · exact drops (State.macsecIn_refused hc hport hs ht htag hsc hbad)
      · have hsame := sameIngress_setSa s (saRx i tag.an) { s.sa (saRx i tag.an) with
          pn := max (s.sa (saRx i tag.an)).pn (tag.fullPn y (s.sa (saRx i tag.an)) + 1) }
        refine ⟨_, execFrameReceive_passed hrun hk hon hgood hib hctl
          (State.macsecIn_valid hc hport hs ht htag hsc hen hlate hu),
          hsame.stepTwo_joinsFifo rfl hp hq hact hhost hlfl _ _, ?_⟩
        rw [hsame.stepTwo_sa rfl hp hq hact, State.sa_setSa, if_pos rfl]
  · intro n r hrun hact
    refine ⟨⟨_, execCanFrameReceive_error r hrun hact, ?_, ?_, fun k hk => ?_, rfl⟩, fun hon hfd hxl hq hkey => ?_⟩
    · rw [State.canCounts_reg, if_neg (by unfold Reg.CAN_RX_ERR Reg.CAN_STAT; omega), State.reg_bump, if_pos rfl]
    · rw [State.fld, State.canCounts_reg, if_pos rfl, canStatWord_rec]
    · simp only [List.mem_cons, List.not_mem_nil, or_false, not_or] at hk
      rw [State.canCounts_reg, if_neg hk.2, State.reg_bump, if_neg hk.1]
    · have hn := State.canActive_lt hact
      have hk : s.portKind (64 + n) = .can := State.portKind_can hn
      have hp : 64 + n < 256 := by have := s.chip.cans_le; omega
      obtain ⟨u, hsame, hq', hexec⟩ := execCanFrameReceive_good r hrun hact hon hfd hxl
      exact ⟨_, hexec, hsame.stepTwo_joinsFifo hq' hp hq hkey (by simp [hk]) (by simp [hk]) _ _⟩

end Sys2Proof.Machine

namespace Sys2Proof.Machine
open Sys2Proof

/-! ### What follows for a job when an output ends (R141, R270, R316) -/

/-- From `s` to `t` only the records of jobs, the cells, events and replies have changed: no output, no port, and no
register from the ports on. -/
structure SettlesOnly (s t : State) : Prop where
  rest : { t with regs := s.regs, hub := s.hub, pins := s.pins, kn := s.kn, herd := s.herd, ctl := s.ctl } = s
  regs : ∀ k, 0x900000 ≤ k → t.reg k = s.reg k
  outs : t.herd.outs = s.herd.outs
  pins : s.pins <:+ t.pins

namespace SettlesOnly

theorem refl (s : State) : SettlesOnly s s := ⟨rfl, fun _ _ => rfl, rfl, List.suffix_rfl⟩

theorem trans {s t u : State} (h : SettlesOnly s t) (h' : SettlesOnly t u) : SettlesOnly s u := by
  refine ⟨?_, fun k hk => (h'.regs k hk).trans (h.regs k hk), h'.outs.trans h.outs, h.pins.trans h'.pins⟩
  have := h'.rest
  rw [← h.rest, ← this]

theorem of_msgsOnly {s t : State} (h : MsgsOnly s t) : SettlesOnly s t :=
  ⟨congrArg (fun u : State =>
      { u with regs := s.regs, hub := s.hub, pins := s.pins, kn := s.kn, herd := s.herd, ctl := s.ctl }) h.rest,
    fun k _ => h.reg k, (congrArg (fun u : State => u.herd.outs) h.rest :), h.pins⟩

theorem setReg (s : State) {off : Nat} (v : Word) (h : off < 0x900000) : SettlesOnly s (s.setReg off v) :=
  ⟨rfl, fun k hk => by rw [State.reg_setReg, if_neg (by omega)], rfl, List.suffix_rfl⟩

theorem setFld (s : State) {off : Nat} (hi lo x : Nat) (h : off < 0x900000) : SettlesOnly s (s.setFld off hi lo x) :=
  setReg s _ h

theorem raise (s : State) (src : Nat) : SettlesOnly s (s.raise src) := by
  cases h : evPresent s.chip src with
  | true =>
    have hlt := evPresent_lt h
    exact (setFld s _ _ _ (by unfold evReg Reg.EV_STATUS; omega)).trans (of_msgsOnly (State.raise_of_present h))
  | false =>
    rw [State.raise_of_absent h]
    exact refl s

theorem logFirst (s : State) {off : Nat} (vb ob : Nat) (v : Word) (h : off < 0x900000) :
    SettlesOnly s (s.logFirst off vb ob v) := by
  rw [State.logFirst]
  split
  · exact setFld s _ _ _ h
  · exact setReg s _ h

theorem setCell (s : State) (h : Nat) (used : Bool) (next : Nat) : SettlesOnly s (s.setCell h used next) :=
  ⟨rfl, fun _ _ => rfl, rfl, List.suffix_rfl⟩

theorem setJob (s : State) (j : Nat) (x : Job) : SettlesOnly s (s.setJob j x) :=
  ⟨rfl, fun _ _ => rfl, rfl, List.suffix_rfl⟩

theorem knBad (s : State) (h p cause : Nat) (dev : Bool) : SettlesOnly s (s.knBad h p cause dev) :=
  ((logFirst s _ _ _ (by decide)).trans (setReg _ _ (by decide))).trans (raise _ _)

theorem knFreeOne (s : State) (h : Nat) {p : Nat} (dev : Bool) (hp : p < 32) :
    SettlesOnly s (s.knFreeOne h p dev).2 := by
  rw [State.knFreeOne]
  split
  · exact knBad s h p 1 dev
  · split
    · exact knBad s h p 0 dev
    · exact (setCell s h _ _).trans (setFld _ _ _ _ (by unfold Reg.KN_FREE_CNT; omega))

theorem knFreeChain {p : Nat} (dev : Bool) (hp : p < 32) :
    ∀ (n h : Nat) (s : State), SettlesOnly s (s.knFreeChain p dev n h)
  | 0, _, s => refl s
  | n + 1, h, s => by
    rw [State.knFreeChain]
    dsimp only
    split
    · exact (knFreeOne s h dev hp).trans (knFreeChain dev hp n _ _)
    · exact knFreeOne s h dev hp

theorem knFree (s : State) (h p : Nat) (chain dev : Bool) : SettlesOnly s (s.knFree h p chain dev) := by
  have hp : p % 32 < 32 := Nat.mod_lt _ (by decide)
  rw [State.knFree]
  split
  · exact knFreeChain dev hp _ h s
  · exact knFreeOne s h dev hp

theorem queueReply (s : State) (h : Nat) (r : Reply) : SettlesOnly s (s.queueReply h r) := by
  rw [State.queueReply]
  split <;> exact ⟨rfl, fun _ _ => rfl, rfl, List.suffix_rfl⟩

theorem notifyAll (s : State) (reason : Nat) : SettlesOnly s (s.notifyAll reason) := by
  rw [State.notifyAll]
  generalize List.range 4 = l
  induction l generalizing s with
  | nil => exact refl s
  | cons h l ih =>
    rw [List.foldl_cons]
    exact (queueReply s h _).trans (ih _)

theorem freeCells (s : State) (j : Nat) : SettlesOnly s (s.freeCells j) := by
  rw [State.freeCells]
  split
  · exact (knFree s _ _ true true).trans (setJob _ j _)
  · exact refl s

theorem epochReport (s : State) (e : Nat) : SettlesOnly s (s.epochReport e) := by
  rw [State.epochReport]
  split
  · exact ((setFld s _ _ _ (by decide)).trans (raise _ _)).trans (notifyAll _ 2)
  · exact refl s

theorem leaveEpoch (s : State) (j : Nat) : SettlesOnly s (s.leaveEpoch j) := by
  rw [State.leaveEpoch]
  dsimp only
  split
  · exact ((setFld s _ _ _ (by unfold epochCnt Reg.HERD_EPOCH_CNT; omega)).trans (setJob _ j _)).trans
      (epochReport _ _)
  · exact refl s

theorem reap (s : State) (j : Nat) : SettlesOnly s (s.reap j) := by
  rw [State.reap]
  split
  · exact setJob s j _
  · exact refl s

theorem settle (s : State) (j : Nat) : SettlesOnly s (s.settle j) :=
  ((freeCells s j).trans (leaveEpoch _ j)).trans (reap _ j)

variable {s t : State} (h : SettlesOnly s t)
include h

theorem out (k : Nat) : t.out k = s.out k := by rw [State.out, State.out, h.outs]
theorem mem : t.mem = s.mem := (congrArg State.mem h.rest :)
theorem ctxs : t.ctxs = s.ctxs := (congrArg State.ctxs h.rest :)
theorem ports : t.ports = s.ports := (congrArg State.ports h.rest :)
theorem chip : t.chip = s.chip := (congrArg State.chip h.rest :)

end SettlesOnly

/-! ### An output that ends (R141) -/

/-- The state with output `k` taken off the Herder's list. -/
def State.dropOut (s : State) (k : Nat) : State := s.setOut k Output.none

/-- An output that ends leaves the Herder's list, and the rest is what follows for its job or its cells. -/
theorem State.outEnd_settles (s : State) (k : Nat) : SettlesOnly (s.dropOut k) (s.outEnd k) := by
  rw [State.outEnd]
  dsimp only
  split
  · exact .settle _ _
  · split
    · exact .refl _
    · exact .knFree _ _ _ _ _

section
variable (s : State) (k : Nat)

theorem State.outEnd_out (i : Nat) : (s.outEnd k).out i = if i = k then {} else s.out i := by
  rw [(s.outEnd_settles k).out, State.dropOut, State.out, State.setOut, Tab.get_set]
  rfl

theorem State.outEnd_mem : (s.outEnd k).mem = s.mem := (s.outEnd_settles k).mem
theorem State.outEnd_ctxs : (s.outEnd k).ctxs = s.ctxs := (s.outEnd_settles k).ctxs
theorem State.outEnd_ports : (s.outEnd k).ports = s.ports := (s.outEnd_settles k).ports
theorem State.outEnd_chip : (s.outEnd k).chip = s.chip := (s.outEnd_settles k).chip
theorem State.outEnd_pins : s.pins <:+ (s.outEnd k).pins := (s.outEnd_settles k).pins

/-- The registers from the ports on stay as they are. -/
theorem State.outEnd_reg {off : Nat} (h : 0x900000 ≤ off) : (s.outEnd k).reg off = s.reg off :=
  (s.outEnd_settles k).regs off h

end

end Sys2Proof.Machine

namespace Sys2Proof.Machine
open Sys2Proof

/-! ### The queue of a CAN channel (R338) -/

/-- The records that wait at a CAN channel, with the attempts made. -/
def State.canQueue (s : State) (n : Nat) : List (Nat × Nat) := (Tab.get CanCh.idle s.ports.can n).txq

theorem State.canQueue_congr {s t : State} (h : t.ports = s.ports) (n : Nat) : t.canQueue n = s.canQueue n := by
  rw [State.canQueue, State.canQueue, h]

@[simp] theorem State.canQueue_setCan (s : State) (n : Nat) (l : List (Nat × Nat)) : (s.setCan n l).canQueue n = l := by
  rw [State.canQueue, State.setCan, Tab.upd, Tab.get_set, if_pos rfl]

@[simp] theorem State.canQueue_canCounts (s : State) (n tec cnt : Nat) :
    (s.canCounts n tec cnt).canQueue n = s.canQueue n := by
  simp only [State.canQueue, State.canCounts, State.setReg_ports, Tab.upd, Tab.get_set, if_true]

/-! ### Outputs of a channel that leave its queue -/

/-- The queue, the CAN registers and the outputs after the discard of the records in `l` (R338). -/
theorem State.canDiscard_fold (n : Nat) (l : List (Nat × Nat)) (s : State) :
    let t := l.foldl (fun t p => (t.bump (Reg.CAN_TX_DROP n)).outEnd p.1) s
    t.ports = s.ports ∧ t.chip = s.chip ∧ t.reg (Reg.CAN_STAT n) = s.reg (Reg.CAN_STAT n) ∧
      (∀ k, s.out k = {} → t.out k = {}) ∧ ∀ p ∈ l, t.out p.1 = {} := by
  induction l generalizing s with
  | nil => exact ⟨rfl, rfl, rfl, fun _ h => h, by simp⟩
  | cons p l ih =>
    obtain ⟨hports, hchip, hstat, hkeep, hgone⟩ := ih ((s.bump (Reg.CAN_TX_DROP n)).outEnd p.1)
    have hp := State.outEnd_out (s.bump (Reg.CAN_TX_DROP n)) p.1
    refine ⟨hports.trans (State.outEnd_ports _ _), hchip.trans (State.outEnd_chip _ _), ?_, fun k hk => hkeep k ?_,
      fun x hx => ?_⟩
    · refine hstat.trans ?_
      rw [State.outEnd_reg _ _ (by unfold Reg.CAN_STAT; omega), State.reg_bump,
        if_neg (by unfold Reg.CAN_STAT Reg.CAN_TX_DROP; omega)]
    · rw [hp k]
      split
      · rfl
      · exact hk
    · rcases List.mem_cons.1 hx with rfl | hx
      · exact hkeep _ (by rw [hp, if_pos rfl])
      · exact hgone x hx

/-- A CAN channel's event is one of a present source. -/
theorem evPresent_canBusoff {c : Chip} {n : Nat} (h : n < c.cans) : evPresent c (Ev.CAN_BUSOFF n) = true := by
  have := c.cans_le
  rw [evPresent]
  repeat rw [if_neg (by unfold Ev.CAN_BUSOFF; omega)]
  rw [if_pos (by unfold Ev.CAN_BUSOFF; omega)]
  unfold Ev.CAN_BUSOFF
  simpa using h

/-- A raised source shows in EV_STATUS (R520). -/
theorem State.raised_raise {s : State} {src : Nat} (h : evPresent s.chip src = true) : Raised (s.raise src) src := by
  rw [Raised, State.flag, (State.raise_of_present h).reg, State.reg_setFld, if_pos (by rfl),
    bitOf_setF_same _ _ (Nat.mod_lt _ (by decide))]
  rfl

/-- Bus-off empties the queue, shows in CAN_STAT, raises its event and discards what waited (R338). -/
theorem State.canBusOff_facts {s : State} {n : Nat} (h : n < s.chip.cans) :
    (s.canBusOff n).canQueue n = [] ∧ (s.canBusOff n).fld (Reg.CAN_STAT n) 17 16 = 2 ∧
      Raised (s.canBusOff n) (Ev.CAN_BUSOFF n) ∧ ∀ p ∈ s.canQueue n, (s.canBusOff n).out p.1 = {} := by
  obtain ⟨hports, hchip, hstat, -, hgone⟩ :=
    State.canDiscard_fold n (s.canQueue n) ((s.canCounts n 256 (s.canRec n)).setCan n [])
  have hraise := SettlesOnly.raise ((s.canCounts n 256 (s.canRec n)).canDiscard n (s.canQueue n)) (Ev.CAN_BUSOFF n)
  refine ⟨?_, ?_, ?_, fun p hp => ?_⟩
  · exact (State.canQueue_congr hraise.ports n).trans
      ((State.canQueue_congr hports n).trans (State.canQueue_setCan _ n []))
  · have hreg : (s.canBusOff n).reg (Reg.CAN_STAT n) = canStatWord (s.reg (Reg.CAN_STAT n)) 256 (s.canRec n) := by
      refine (hraise.regs _ (by unfold Reg.CAN_STAT; omega)).trans (hstat.trans ?_)
      rw [State.reg_setCan, State.canCounts_reg, if_pos rfl]
    rw [State.fld, hreg, canStatWord_state, canStateOf, if_pos le_rfl]
  · refine State.raised_raise (evPresent_canBusoff ?_)
    exact hchip.symm ▸ h
  · exact (hraise.out p.1).trans (hgone p hp)

/-! ### An attempt to send (R338) -/

section
variable {s : State} {n : Nat} (hrun : s.running = true) (hact : s.canActive n = true)
  (hlisten : s.flag (Reg.CAN_MODE n) 3 = false) (hon : s.portOn (64 + n) = true)
include hrun hact hlisten hon

theorem execCanTransmit_eq (r : CanResult) : exec (.canTransmit n r) s = .next (s.canTransmit n r) := by
  change execCanTransmit n r s = _
  rw [execCanTransmit, if_pos (by simp [hrun, hact, hlisten, hon])]

theorem execCanTransmit_idle (hq : s.canQueue n = []) (r : CanResult) : exec (.canTransmit n r) s = .next s := by
  have hnone : s.canOffer (Tab.get CanCh.idle s.ports.can n).txq = none := by rw [← State.canQueue, hq]; rfl
  rw [execCanTransmit_eq hrun hact hlisten hon, State.canTransmit]
  simp only [hnone]

variable {k tries : Nat} (hoffer : s.canOffer (s.canQueue n) = some (k, tries))
include hoffer

theorem execCanTransmit_offer (r : CanResult) : exec (.canTransmit n r) s = .next (
    match r with
    | .sent => ((((s.canCounts n (s.fld (Reg.CAN_STAT n) 8 0 - 1) (s.canRec n)).pin
        (.frame (64 + n) (canSent (s.outBytes k)) false)).setCan n ((s.canQueue n).filter fun p => p.1 != k))).outEnd k
    | .lost => s.canRetry n (s.canQueue n) k tries
    | .error => if 256 ≤ s.fld (Reg.CAN_STAT n) 8 0 + 8 then s.canBusOff n
        else (s.canCounts n (s.fld (Reg.CAN_STAT n) 8 0 + 8) (s.canRec n)).canRetry n (s.canQueue n) k tries
    | .busOff => s.canBusOff n) := by
  have hoffer' : s.canOffer (Tab.get CanCh.idle s.ports.can n).txq = some (k, tries) := hoffer
  rw [execCanTransmit_eq hrun hact hlisten hon, State.canTransmit]
  simp only [hoffer']
  cases r <;> rfl

end

/-- RETRY lets a record that has been tried `tries` times be tried again (R338). -/
def State.canMayRetry (s : State) (n tries : Nat) : Prop :=
  s.fld (Reg.CAN_MODE n) 11 8 = 15 ∨ tries + 1 ≤ s.fld (Reg.CAN_MODE n) 11 8

section
variable {s : State} {n k tries : Nat} (l : List (Nat × Nat))

theorem State.canRetry_again (h : s.canMayRetry n tries) :
    s.canRetry n l k tries = s.setCan n (l.map fun p => if p.1 = k then (k, tries + 1) else p) := by
  rw [State.canRetry]
  exact if_neg (by rw [State.canMayRetry] at h; omega)

theorem State.canRetry_usedUp (h : ¬ s.canMayRetry n tries) :
    s.canRetry n l k tries = ((s.setCan n (l.filter fun p => p.1 != k)).bump (Reg.CAN_TX_DROP n)).outEnd k := by
  rw [State.canRetry]
  exact if_pos (by rw [State.canMayRetry] at h; omega)

/-- The error counters leave CAN_MODE. -/
theorem State.canMayRetry_canCounts (tec cnt : Nat) (h : s.canMayRetry n tries) :
    (s.canCounts n tec cnt).canMayRetry n tries := by
  rwa [State.canMayRetry, State.fld, State.canCounts_reg,
    if_neg (by unfold Reg.CAN_MODE Reg.CAN_STAT; omega)]

end

/-! ### Recovery from bus-off -/

/-- A field that spans two cleared fields is clear. -/
theorem getF_join_zero {v : Word} {hi mid lo : Nat} (h : getF v hi mid = 0) (h' : getF v (mid - 1) lo = 0)
    (hlo : lo < mid) : getF v hi lo = 0 := by
  have bits : ∀ {hi lo i : Nat}, getF v hi lo = 0 → lo ≤ i → i ≤ hi → v.getLsbD i = false := by
    intro hi lo i hz hl hh
    have := testBit_getF v hi lo (i - lo)
    rw [hz, Nat.zero_testBit, show lo + (i - lo) = i by omega] at this
    simpa [show i - lo < hi + 1 - lo by omega] using this.symm
  refine Nat.eq_of_testBit_eq fun i => ?_
  rw [testBit_getF, Nat.zero_testBit, Bool.and_eq_false_iff, decide_eq_false_iff_not]
  by_cases hi' : i < hi + 1 - lo
  · refine .inr ?_
    by_cases hmid : mid ≤ lo + i
    · exact bits h hmid (by omega)
    · exact bits h' (by omega) (by omega)
  · exact .inl hi'

theorem State.canCounts_clear (s : State) (n : Nat) :
    (s.canCounts n 0 0).fld (Reg.CAN_STAT n) 17 16 = 0 ∧ (s.canCounts n 0 0).fld (Reg.CAN_STAT n) 15 0 = 0 := by
  rw [State.fld, State.fld, State.canCounts_reg, if_pos rfl]
  exact ⟨canStatWord_state _ 0 0, getF_join_zero (canStatWord_rec _ 0 0) (canStatWord_tec _ 0 0) (by decide)⟩

theorem execCanBusoffRecovery_off {s : State} {n : Nat} (hrun : s.running = true) (hn : n < s.chip.cans)
    (hen : s.flag (Reg.CAN_MODE n) 0 = true) (hrec : s.flag (Reg.CAN_MODE n) 4 = true)
    (hoff : s.fld (Reg.CAN_STAT n) 17 16 = 2) : exec (.canBusoffRecovery n) s = .next (s.canCounts n 0 0) := by
  change execCanBusoffRecovery n s = _
  rw [execCanBusoffRecovery, if_pos (by simp [hrun, hn, hen, hrec, hoff])]

theorem execCanBusoffRecovery_on {s : State} {n : Nat} (hon : s.fld (Reg.CAN_STAT n) 17 16 ≠ 2) :
    exec (.canBusoffRecovery n) s = .next s := by
  change execCanBusoffRecovery n s = _
  rw [execCanBusoffRecovery, if_neg (by simp [hon])]

end Sys2Proof.Machine

namespace Sys2Proof.Machine
open Sys2Proof

/-! ### Bytes put into a memory -/

theorem Mem.rd_put_of_out (b : Nat) (l : List Byte) (m : Mem) (a : Nat) (h : b < a ∨ a + l.length ≤ b) :
    (m.put a l).rd b = m.rd b := by
  induction l generalizing m a with
  | nil => rfl
  | cons x l ih =>
    rw [List.length_cons] at h
    rw [Mem.put, ih _ _ (by omega), Mem.rd_wr, if_neg (by omega)]

theorem Mem.rd_put_of_in {i : Nat} {l : List Byte} (h : i < l.length) (m : Mem) (a : Nat) :
    (m.put a l).rd (a + i) = l[i] := by
  induction l generalizing m a i with
  | nil => simp at h
  | cons x l ih =>
    rw [Mem.put]
    cases i with
    | zero => rw [Mem.rd_put_of_out _ _ _ _ (by omega), Mem.rd_wr, if_pos (Nat.add_zero a)]; rfl
    | succ i =>
      rw [show a + (i + 1) = a + 1 + i by omega, ih (by simpa using h)]
      rfl

theorem Mem.length_bytes (m : Mem) (a n : Nat) : (m.bytes a n).length = n := by simp [Mem.bytes]

/-- A number of one byte. -/
theorem leNat_drop_take_one {l : List Byte} {i : Nat} (h : i < l.length) :
    leNat ((l.drop i).take 1) = (byteAt l i).toNat := by
  rw [List.drop_eq_getElem_cons h, byteAt, List.getD_eq_getElem _ _ h,
    List.take_succ_cons, List.take_zero]
  exact Nat.add_zero _

/-! ### A descriptor of a host ring completes (R342) -/

/-- Host memory once the descriptor at `a` has its words. -/
def hpMem (m : Mem) (d2h : Bool) (a len status : Nat) (port : Option Nat) : Mem :=
  let m := if d2h then m.put (a + 8) (leBytes 2 len) else m
  let m := m.put (a + 11) [B8 status]
  match port with
  | some p => m.put (a + 12) (leBytes 4 p)
  | none => m

section
variable (m : Mem) (d2h : Bool) (a len status : Nat) (port : Option Nat)

theorem hpMem_status : (hpMem m d2h a len status port).rd (a + 11) = B8 status := by
  have h : ∀ m : Mem, (m.put (a + 11) [B8 status]).rd (a + 11) = B8 status := fun m =>
    Mem.rd_put_of_in (i := 0) (l := [B8 status]) (by simp) m (a + 11)
  cases port with
  | none => exact h _
  | some p => exact (Mem.rd_put_of_out _ _ _ _ (by omega)).trans (h _)

/-- The rest of host memory stays. -/
theorem hpMem_out {b : Nat} (h : b < a + 8 ∨ a + 16 ≤ b) : (hpMem m d2h a len status port).rd b = m.rd b := by
  have hlen : (if d2h then m.put (a + 8) (leBytes 2 len) else m).rd b = m.rd b := by
    split
    · exact Mem.rd_put_of_out _ _ _ _ (by rw [length_leBytes]; omega)
    · rfl
  have hst : ((if d2h then m.put (a + 8) (leBytes 2 len) else m).put (a + 11) [B8 status]).rd b = m.rd b :=
    (Mem.rd_put_of_out _ _ _ _ (by simp; omega)).trans hlen
  cases port with
  | none => exact hst
  | some p => exact (Mem.rd_put_of_out _ _ _ _ (by rw [length_leBytes]; omega)).trans hst

end

section
variable (s : State) (q : Nat) (d2h irq : Bool) (r a len status : Nat) (port : Option Nat)

/-- The state before the event of a descriptor that completes. -/
def State.hpWords : State :=
  ({ s with mem := { s.mem with host := hpMem s.mem.host d2h a len status port } } : State).setReg (r + 16)
    (s.reg (r + 16) + 1)

theorem State.hpDone_eq : s.hpDone q d2h irq r a len status port =
    if irq then (s.hpWords d2h r a len status port).raise (Ev.HOST_RING q d2h)
    else s.hpWords d2h r a len status port := rfl

theorem State.hpDone_settles :
    SettlesOnly (s.hpWords d2h r a len status port) (s.hpDone q d2h irq r a len status port) := by
  rw [State.hpDone_eq]
  split
  · exact .raise _ _
  · exact .refl _

/-- A descriptor that completes changes host memory and registers, and raises its event. -/
theorem State.hpDone_rest :
    { s.hpDone q d2h irq r a len status port with regs := s.regs, hub := s.hub, pins := s.pins, mem := s.mem } = s := by
  rw [State.hpDone_eq]
  split
  · exact congrArg (fun u : State => { u with regs := s.regs, hub := s.hub, pins := s.pins, mem := s.mem })
      (State.raise_rest (s.hpWords d2h r a len status port) (Ev.HOST_RING q d2h))
  · rfl

theorem State.hpDone_mem : (s.hpDone q d2h irq r a len status port).mem =
    { s.mem with host := hpMem s.mem.host d2h a len status port } :=
  (s.hpDone_settles q d2h irq r a len status port).mem

theorem State.hpDone_ctxs : (s.hpDone q d2h irq r a len status port).ctxs = s.ctxs :=
  (congrArg State.ctxs (s.hpDone_rest q d2h irq r a len status port) :)
theorem State.hpDone_ports : (s.hpDone q d2h irq r a len status port).ports = s.ports :=
  (congrArg State.ports (s.hpDone_rest q d2h irq r a len status port) :)
theorem State.hpDone_herd : (s.hpDone q d2h irq r a len status port).herd = s.herd :=
  (congrArg State.herd (s.hpDone_rest q d2h irq r a len status port) :)
theorem State.hpDone_eports : (s.hpDone q d2h irq r a len status port).eports = s.eports :=
  (congrArg State.eports (s.hpDone_rest q d2h irq r a len status port) :)

theorem State.hpDone_reg {k : Nat} (hk : 0x900000 ≤ k) : (s.hpDone q d2h irq r a len status port).reg k =
    if k = r + 16 then s.reg (r + 16) + 1 else s.reg k := by
  rw [(s.hpDone_settles q d2h irq r a len status port).regs k hk, State.hpWords, State.reg_setReg]
  rfl

end

/-- From `s` to `t` the next descriptor of the ring at `r` has completed with this STATUS: its word and CI (R342). -/
def RingDone (s t : State) (r st : Nat) : Prop :=
  t.mem.host.rd (s.hpAt r + 11) = B8 st ∧ t.reg (r + 16) = s.reg (r + 16) + 1 ∧
    { t.mem with host := s.mem.host } = s.mem ∧ t.ctxs = s.ctxs

/-- From `s` to `u` nothing has changed that a completion touches, but perhaps host memory. -/
structure BeforeDone (s u : State) : Prop where
  reg : ∀ k, u.reg k = s.reg k
  mem : { u.mem with host := s.mem.host } = s.mem
  ctxs : u.ctxs = s.ctxs

theorem BeforeDone.refl (s : State) : BeforeDone s s := ⟨fun _ => rfl, rfl, rfl⟩

/-- A drop that no register counts comes before no completion. -/
theorem beforeDone_dropped (s : State) (why : DropWhy) (port : Nat) : BeforeDone s (s.dropped why port) :=
  ⟨fun _ => rfl, rfl, rfl⟩

theorem BeforeDone.hpDone {s u : State} (h : BeforeDone s u) (q : Nat) (d2h irq : Bool) {r : Nat} (hr : 0x900000 ≤ r)
    (len st : Nat) (port : Option Nat) : RingDone s (u.hpDone q d2h irq r (s.hpAt r) len st port) r st := by
  refine ⟨?_, ?_, ?_, ?_⟩
  · rw [State.hpDone_mem]
    exact hpMem_status _ _ _ _ _ _
  · rw [State.hpDone_reg _ _ _ _ _ _ _ _ _ (by omega), if_pos rfl, h.reg]
  · rw [State.hpDone_mem]
    exact h.mem
  · rw [State.hpDone_ctxs, h.ctxs]

/-! ### The next descriptor of an H2D ring -/

section
variable {s : State} {q : Nat} (hrun : s.running = true) (hq : q < 16) (hbm : s.hub.busMaster = true)
include hrun hq hbm

theorem execH2dDescriptor_eq (hon : s.portOn 97 = true) (hr : s.hpRuns (Reg.HP_H2D_BASE_LO q) = true) :
    exec (.h2dDescriptor q) s = .next (s.h2d q) := by
  change execH2dDescriptor q s = _
  rw [execH2dDescriptor, if_pos (by simp [hrun, hq, hbm, hon, hr])]

theorem execD2hDescriptor_eq (hr : s.hpRuns (Reg.HP_D2H_BASE_LO q) = true) :
    exec (.d2hDescriptor q) s = .next (s.d2h q) := by
  change execD2hDescriptor q s = _
  rw [execD2hDescriptor, if_pos (by simp [hrun, hq, hbm, hr])]

end

/-- The next descriptor of the ring at `r`, and a number in it. -/
def State.hpDesc (s : State) (r : Nat) : List Byte := s.mem.host.bytes (s.hpAt r) 16
def State.hpNum (s : State) (r i n : Nat) : Nat := leNat (((s.hpDesc r).drop i).take n)

/-- The control byte of the next descriptor. -/
theorem State.hpCtrl (s : State) (r : Nat) : (byteAt (s.hpDesc r) 10).toNat = s.hpNum r 10 1 :=
  (leNat_drop_take_one (by rw [State.hpDesc, Mem.length_bytes]; decide)).symm

/-- IRQ of the next descriptor. -/
def State.hpIrq (s : State) (r : Nat) : Bool := decide (s.hpNum r 10 1 / 16 % 2 = 1)

section
variable {s : State} {q : Nat}

theorem State.h2d_empty (h : s.hpNum (Reg.HP_H2D_BASE_LO q) 8 2 = 0) :
    s.h2d q = (s.dropped .hostDesc 97).hpDone q false (s.hpIrq (Reg.HP_H2D_BASE_LO q)) (Reg.HP_H2D_BASE_LO q)
      (s.hpAt (Reg.HP_H2D_BASE_LO q)) (s.hpNum (Reg.HP_H2D_BASE_LO q) 8 2) 2 none := by
  rw [State.hpIrq, ← State.hpCtrl]
  exact if_pos h

theorem State.h2d_long (h : 9596 < s.hpNum (Reg.HP_H2D_BASE_LO q) 8 2) :
    s.h2d q = (s.dropped .hostDesc 97).hpDone q false (s.hpIrq (Reg.HP_H2D_BASE_LO q)) (Reg.HP_H2D_BASE_LO q)
      (s.hpAt (Reg.HP_H2D_BASE_LO q)) (s.hpNum (Reg.HP_H2D_BASE_LO q) 8 2) 3 none := by
  rw [State.hpIrq, ← State.hpCtrl]
  exact (if_neg (by exact (Nat.zero_lt_of_lt h).ne')).trans (if_pos h)

/-- The frame of the next H2D descriptor. -/
def State.h2dBytes (s : State) (q : Nat) : List Byte :=
  s.mem.host.bytes (s.hpNum (Reg.HP_H2D_BASE_LO q) 0 8) (s.hpNum (Reg.HP_H2D_BASE_LO q) 8 2)

/-- The frame as it enters its FIFO: the descriptor may give its class (R342). -/
def State.h2dFrame (s : State) (q : Nat) : IFrame :=
  let f := s.plainFrame 97 (s.h2dBytes q) (s.domTime 0)
  let ctrl := s.hpNum (Reg.HP_H2D_BASE_LO q) 10 1
  if ctrl / 8 % 2 = 1 then { f with cls := ctrl % 8 } else f

/-- The class that the frame of the next H2D descriptor has. -/
def State.h2dClass (s : State) (q : Nat) : Nat :=
  let ctrl := s.hpNum (Reg.HP_H2D_BASE_LO q) 10 1
  if ctrl / 8 % 2 = 1 then ctrl % 8
  else s.srcClass s.ing (s.profile 97) (parseOf false (s.h2dBytes q)) (s.h2dBytes q)

theorem State.h2dFrame_bytes : (s.h2dFrame q).bytes = s.h2dBytes q := by
  rw [State.h2dFrame]
  split <;> rfl

theorem State.h2dFrame_port : (s.h2dFrame q).port = 97 := by
  rw [State.h2dFrame]
  split <;> rfl

theorem State.h2dFrame_cls : (s.h2dFrame q).cls = s.h2dClass q := by
  have hkind : decide (s.portKind 97 = .can) = false := decide_eq_false (fun h : PortKind.host = .can => nomatch h)
  rw [State.h2dFrame, State.h2dClass]
  split
  · rfl
  · rw [State.plainFrame]
    simp only [hkind]

/-- Step 2 of a frame of the host port without a key action asks for no line of a far table. -/
theorem State.farRun_plain (h : s.noKeyAction 97) (b : List Byte) :
    ∃ l, s.farRun (.frame 97) false (fun u => u.classify 97 b none (u.domTime 0)) =
      (.done (some (s.plainFrame 97 b (s.domTime 0))), s.withLook l) :=
  State.farRun_quiet (.frame 97) false fun l => State.classify_plain (s := s.withLook l) h b (s.domTime 0)

/-- A frame of a good length whose profile has no key action: it enters where it fits, and waits else (R242, R342). -/
theorem State.h2d_frame (hmin : 60 ≤ s.hpNum (Reg.HP_H2D_BASE_LO q) 8 2)
    (hmax : s.hpNum (Reg.HP_H2D_BASE_LO q) 8 2 ≤ 9596) (hctl : be16 (s.h2dBytes q) 12 ≠ 0x8808)
    (hkey : s.noKeyAction 97) :
    ∃ l, s.h2d q =
      if s.fifoFits 97 (s.h2dClass q) (s.h2dBytes q).length then
        ((s.withLook l).fifoEnter (s.h2dFrame q)).hpDone q false (s.hpIrq (Reg.HP_H2D_BASE_LO q)) (Reg.HP_H2D_BASE_LO q)
          (s.hpAt (Reg.HP_H2D_BASE_LO q)) (s.hpNum (Reg.HP_H2D_BASE_LO q) 8 2) 1 none
      else s := by
  obtain ⟨l, hl⟩ := State.farRun_plain hkey (s.h2dBytes q)
  refine ⟨l, ?_⟩
  have hfits : ∀ f : IFrame, (s.withLook l).fifoFits 97 f.cls (s.h2dBytes q).length =
      s.fifoFits 97 f.cls (s.h2dBytes q).length := fun _ => rfl
  rw [← State.h2dFrame_cls, State.h2dFrame, State.hpIrq, ← State.hpCtrl]
  simp only [State.h2dBytes, State.hpNum, State.hpDesc, List.drop_zero] at hmin hmax hctl hl hfits ⊢
  have hpos : ¬ leNat (((s.mem.host.bytes (s.hpAt (Reg.HP_H2D_BASE_LO q)) 16).drop 8).take 2) = 0 := by omega
  simp only [State.h2d, if_neg hpos, if_neg (Nat.not_lt.2 hmax), if_neg (Nat.not_lt.2 hmin), if_neg hctl, hl, hfits]
  rfl

end

end Sys2Proof.Machine

namespace Sys2Proof.Machine
open Sys2Proof

/-! ### A frame from an H2D ring joins its FIFO (R242, R342) -/

section
variable {s : State} (l : Look) {f : IFrame} (hfit : s.fifoFits f.port f.cls f.bytes.length = true)
include hfit

theorem State.fifoEnter_withLook : (s.withLook l).fifoEnter f =
    ((s.withLook l).setFifo f.port f.cls (s.fifo f.port f.cls ++ [f])).pfcTest f.port f.cls :=
  State.fifoEnter_fits hfit

theorem beforeDone_fifoEnter : BeforeDone s ((s.withLook l).fifoEnter f) := by
  rw [State.fifoEnter_withLook l hfit]
  refine ⟨fun k => State.pfcTest_reg _ _ _ k, ?_, (congrArg State.ctxs (State.pfcTest_rest _ _ _) :)⟩
  rw [State.pfcTest_mem]
  rfl

theorem State.fifo_fifoEnter : ((s.withLook l).fifoEnter f).fifo f.port f.cls = s.fifo f.port f.cls ++ [f] := by
  rw [State.fifoEnter_withLook l hfit, State.pfcTest_fifo, State.fifo_setFifo, if_pos (by rfl)]

end

/-! ### The next descriptor of a D2H ring -/

/-- Writes of an output and of an egress port touch nothing else. -/
theorem State.setEport_setOut_rest (s : State) (k x y : Nat) (o : Output) (p p' : EPort) :
    { ((s.setEport x p).setOut k o).setEport y p' with herd := s.herd, eports := s.eports } = s := by
  cases s
  rfl

/-- The frame that goes back to its queue touches the Egress scheduler and its own record only. -/
theorem State.d2hBack_rest (s : State) : { s.d2hBack with herd := s.herd, eports := s.eports } = s := by
  rw [State.d2hBack]
  split
  · dsimp only
    split
    · exact s.setEport_setOut_rest _ 49 49 _ _ _
    · rfl
  · rfl

theorem State.d2hBack_idle {s : State} (h : (s.eport 49).sending = none) : s.d2hBack = s := by
  rw [State.d2hBack, h]

/-- A frame in transmission whose ring has no descriptor left waits at the head of its queue again. -/
theorem State.d2hBack_back {s : State} {k : Nat} (hk : (s.eport 49).sending = some k)
    (hplace : (s.out k).place = .sending) (hring : s.hpRuns (Reg.HP_D2H_BASE_LO (s.out k).hq) = false) :
    (s.d2hBack.out k).place = .queued ∧ (s.d2hBack.eport 49).sending = none ∧
      s.d2hBack.eq 49 (s.out k).cls = k :: s.eq 49 (s.out k).cls := by
  have hback : s.d2hBack = ((s.creditSync 49).setOut k { s.out k with place := .queued }).setEport 49
      { (s.creditSync 49).eport 49 with
        sending := none
        queues := Tab.upd [] ((s.creditSync 49).eport 49).queues (s.out k).cls (k :: ·)
        deficit := Tab.upd 0 ((s.creditSync 49).eport 49).deficit (s.out k).cls
          (· + ((s.creditSync 49).setOut k { s.out k with place := .queued }).outAcc 49 k) } := by
    rw [State.d2hBack, hk]
    exact if_pos (by simp [hplace, hring])
  have hqueues : ((s.creditSync 49).eport 49).queues = (s.eport 49).queues := by
    rw [State.creditSync, State.eport_setEport, if_pos rfl]
  rw [hback]
  refine ⟨?_, ?_, ?_⟩
  · rw [State.out_setEport, State.out_setOut, if_pos rfl]
  · rw [State.eport_setEport, if_pos rfl]
  · rw [State.eq, State.eport_setEport, if_pos rfl, State.eq]
    dsimp only
    rw [Tab.upd, Tab.get_set, if_pos rfl, hqueues]

/-- Output `k` has gone to the ring. -/
def State.outSent (s : State) (k : Nat) : State := s.setOut k { s.out k with place := .sent }

/-- The state with these bytes in host memory. -/
def State.putHost (s : State) (a : Nat) (b : List Byte) : State :=
  { s with mem := { s.mem with host := s.mem.host.put a b } }

section
variable {s : State} {q : Nat}

/-- IRQ, place and length of the next D2H descriptor stand for `r`, `a` and `size` of `State.d2h`. -/
theorem State.d2h_noBuffer (h : s.hpNum (Reg.HP_D2H_BASE_LO q) 8 2 = 0) :
    s.d2h q = (s.hpDone q true (s.hpIrq (Reg.HP_D2H_BASE_LO q)) (Reg.HP_D2H_BASE_LO q)
      (s.hpAt (Reg.HP_D2H_BASE_LO q)) 0 4 none).d2hBack := by
  rw [State.hpIrq, ← State.hpCtrl]
  exact if_pos h

variable {k : Nat} (hbuf : 0 < s.hpNum (Reg.HP_D2H_BASE_LO q) 8 2) (hk : (s.eport 49).sending = some k)
  (hq : (s.out k).hq = q) (hplace : (s.out k).place = .sending)
include hbuf hk hq hplace

/-- A frame that its buffer does not hold (R342). -/
theorem State.d2h_long (h : s.hpNum (Reg.HP_D2H_BASE_LO q) 8 2 < (s.wireBytes k).length) :
    s.d2h q = ((s.outSent k).dropped .hostLong 97).hpDone q true
      (s.hpIrq (Reg.HP_D2H_BASE_LO q)) (Reg.HP_D2H_BASE_LO q) (s.hpAt (Reg.HP_D2H_BASE_LO q))
      (s.hpNum (Reg.HP_D2H_BASE_LO q) 8 2) 3 none := by
  have hmine : ¬ ((s.out k).hq ≠ q ∨ (s.out k).place ≠ .sending) := by simp [hq, hplace]
  rw [State.hpIrq, ← State.hpCtrl]
  simp only [State.hpNum, State.hpDesc] at hbuf h ⊢
  simp only [State.d2h, if_neg hbuf.ne', hk, if_neg hmine, if_pos h]
  rfl

/-- A frame that its buffer holds goes there (R342). -/
theorem State.d2h_fits (h : (s.wireBytes k).length ≤ s.hpNum (Reg.HP_D2H_BASE_LO q) 8 2) :
    ∃ port, s.d2h q = ((s.outSent k).putHost (s.hpNum (Reg.HP_D2H_BASE_LO q) 0 8) (s.wireBytes k)).hpDone q true
      (s.hpIrq (Reg.HP_D2H_BASE_LO q)) (Reg.HP_D2H_BASE_LO q) (s.hpAt (Reg.HP_D2H_BASE_LO q))
      (s.wireBytes k).length 1 (some port) := by
  have hmine : ¬ ((s.out k).hq ≠ q ∨ (s.out k).place ≠ .sending) := by simp [hq, hplace]
  rw [State.hpIrq, ← State.hpCtrl]
  simp only [State.hpNum, State.hpDesc, List.drop_zero] at hbuf h ⊢
  simp only [State.d2h, if_neg hbuf.ne', hk, if_neg hmine, if_neg (Nat.not_lt.2 h)]
  exact ⟨_, rfl⟩

end

end Sys2Proof.Machine

namespace Sys2Proof.Machine
open Sys2Proof

/-! ### The attempts of a CAN channel, by their result (R338) -/

section
variable {s : State} {n k tries : Nat} (hrun : s.running = true) (hact : s.canActive n = true)
  (hlisten : s.flag (Reg.CAN_MODE n) 3 = false) (hon : s.portOn (64 + n) = true)
  (hoffer : s.canOffer (s.canQueue n) = some (k, tries))
include hrun hact hlisten hon hoffer

theorem canTransmit_sent : ∃ t, exec (.canTransmit n .sent) s = .next t ∧
    PinEvent.frame (64 + n) (canSent (s.outBytes k)) false ∈ t.pins ∧
    t.canQueue n = (s.canQueue n).filter (fun p => p.1 != k) ∧ t.out k = {} ∧ t.mem = s.mem ∧ t.ctxs = s.ctxs := by
  refine ⟨_, execCanTransmit_offer hrun hact hlisten hon hoffer .sent, ?_, ?_, ?_, ?_, ?_⟩
  · exact (State.outEnd_pins _ k).subset (List.mem_cons_self ..)
  · exact (State.canQueue_congr (State.outEnd_ports _ k) n).trans (State.canQueue_setCan _ n _)
  · exact (State.outEnd_out _ k k).trans (if_pos rfl)
  · exact State.outEnd_mem _ k
  · exact State.outEnd_ctxs _ k

theorem canTransmit_lost_usedUp (h : ¬ s.canMayRetry n tries) : ∃ t, exec (.canTransmit n .lost) s = .next t ∧
    t.canQueue n = (s.canQueue n).filter (fun p => p.1 != k) ∧ t.out k = {} ∧
    t.reg (Reg.CAN_TX_DROP n) = W (satInc 32 (s.reg (Reg.CAN_TX_DROP n)).toNat) := by
  refine ⟨_, (execCanTransmit_offer hrun hact hlisten hon hoffer .lost).trans
    (congrArg _ (State.canRetry_usedUp _ h)), ?_, ?_, ?_⟩
  · exact (State.canQueue_congr (State.outEnd_ports _ k) n).trans (State.canQueue_setCan _ n _)
  · exact (State.outEnd_out _ k k).trans (if_pos rfl)
  · rw [State.outEnd_reg _ _ (by unfold Reg.CAN_TX_DROP; omega), State.reg_bump, if_pos rfl, State.reg_setCan]

theorem canTransmit_error_again (htec : s.fld (Reg.CAN_STAT n) 8 0 + 8 < 256) (h : s.canMayRetry n tries) :
    ∃ t, exec (.canTransmit n .error) s = .next t ∧
      t.fld (Reg.CAN_STAT n) 8 0 = s.fld (Reg.CAN_STAT n) 8 0 + 8 ∧
      t.canQueue n = (s.canQueue n).map (fun p => if p.1 = k then (k, tries + 1) else p) := by
  refine ⟨_, (execCanTransmit_offer hrun hact hlisten hon hoffer .error).trans
    (congrArg _ ((if_neg (Nat.not_le.2 htec)).trans
      (State.canRetry_again _ (State.canMayRetry_canCounts _ _ h)))), ?_, State.canQueue_setCan _ n _⟩
  rw [State.fld, State.reg_setCan, State.canCounts_reg, if_pos rfl, canStatWord_tec]
  exact Nat.min_eq_left (by omega)

theorem execCanTransmit_error_busOff (htec : 256 ≤ s.fld (Reg.CAN_STAT n) 8 0 + 8) :
    exec (.canTransmit n .error) s = .next (s.canBusOff n) :=
  (execCanTransmit_offer hrun hact hlisten hon hoffer .error).trans (congrArg _ (if_pos htec))

end

/-! ### The descriptors of a host ring, by their STATUS (R342) -/

/-- The ring has used up its descriptors once the one that completes is the last posted. -/
theorem State.hpRuns_last {s t : State} {r : Nat} (h : t.reg (r + 16) = s.reg (r + 16) + 1)
    (hpi : t.reg (r + 12) = s.reg (r + 12)) (hlast : s.reg (r + 16) + 1 = s.reg (r + 12)) : t.hpRuns r = false := by
  rw [State.hpRuns, h, hpi, hlast]
  simp

section
variable {s : State} {q : Nat} (hrun : s.running = true) (hq : q < 16) (hbm : s.hub.busMaster = true)
include hrun hq hbm

section
variable (hon : s.portOn 97 = true) (hr : s.hpRuns (Reg.HP_H2D_BASE_LO q) = true)
include hon hr

theorem h2dDescriptor_empty (h : s.hpNum (Reg.HP_H2D_BASE_LO q) 8 2 = 0) : ∃ t,
    exec (.h2dDescriptor q) s = .next t ∧ RingDone s t (Reg.HP_H2D_BASE_LO q) 2 ∧ t.ports.ififo = s.ports.ififo := by
  refine ⟨_, (execH2dDescriptor_eq hrun hq hbm hon hr).trans (congrArg _ (State.h2d_empty h)),
    (beforeDone_dropped s _ _).hpDone _ _ _ (by unfold Reg.HP_H2D_BASE_LO; omega) _ _ _, ?_⟩
  rw [State.hpDone_ports]
  rfl

theorem h2dDescriptor_long (h : 9596 < s.hpNum (Reg.HP_H2D_BASE_LO q) 8 2) : ∃ t,
    exec (.h2dDescriptor q) s = .next t ∧ RingDone s t (Reg.HP_H2D_BASE_LO q) 3 ∧ t.ports.ififo = s.ports.ififo := by
  refine ⟨_, (execH2dDescriptor_eq hrun hq hbm hon hr).trans (congrArg _ (State.h2d_long h)),
    (beforeDone_dropped s _ _).hpDone _ _ _ (by unfold Reg.HP_H2D_BASE_LO; omega) _ _ _, ?_⟩
  rw [State.hpDone_ports]
  rfl

variable (hmin : 60 ≤ s.hpNum (Reg.HP_H2D_BASE_LO q) 8 2) (hmax : s.hpNum (Reg.HP_H2D_BASE_LO q) 8 2 ≤ 9596)
  (hctl : be16 (s.h2dBytes q) 12 ≠ 0x8808) (hkey : s.noKeyAction 97)
include hmin hmax hctl hkey

theorem h2dDescriptor_joins (hfit : s.fifoFits 97 (s.h2dClass q) (s.h2dBytes q).length = true) : ∃ t f,
    exec (.h2dDescriptor q) s = .next t ∧ RingDone s t (Reg.HP_H2D_BASE_LO q) 1 ∧
      t.fifo 97 (s.h2dClass q) = s.fifo 97 (s.h2dClass q) ++ [f] ∧ f.bytes = s.h2dBytes q ∧ f.port = 97 ∧
      f.cls = s.h2dClass q := by
  obtain ⟨l, hl⟩ := State.h2d_frame hmin hmax hctl hkey
  obtain ⟨f, hf⟩ : ∃ f, f = s.h2dFrame q := ⟨_, rfl⟩
  have hport : f.port = 97 := hf ▸ State.h2dFrame_port
  have hcls : f.cls = s.h2dClass q := hf ▸ State.h2dFrame_cls
  have hbytes : f.bytes = s.h2dBytes q := hf ▸ State.h2dFrame_bytes
  have hfit' : s.fifoFits f.port f.cls f.bytes.length = true := by rw [hport, hcls, hbytes, hfit]
  rw [if_pos hfit, ← hf] at hl
  refine ⟨_, f, (execH2dDescriptor_eq hrun hq hbm hon hr).trans (congrArg _ hl),
    (beforeDone_fifoEnter l hfit').hpDone _ _ _ (by unfold Reg.HP_H2D_BASE_LO; omega) _ _ _, ?_, hbytes, hport, hcls⟩
  rw [State.fifo, State.hpDone_ports, ← State.fifo]
  have := State.fifo_fifoEnter l hfit'
  rwa [hport, hcls] at this

theorem h2dDescriptor_waits (hfull : s.fifoFits 97 (s.h2dClass q) (s.h2dBytes q).length = false) :
    exec (.h2dDescriptor q) s = .next s := by
  obtain ⟨l, hl⟩ := State.h2d_frame hmin hmax hctl hkey
  exact (execH2dDescriptor_eq hrun hq hbm hon hr).trans (congrArg _ (hl.trans (if_neg (by simp [hfull]))))

end

variable (hr : s.hpRuns (Reg.HP_D2H_BASE_LO q) = true)
include hr

theorem d2hDescriptor_noBuffer (h : s.hpNum (Reg.HP_D2H_BASE_LO q) 8 2 = 0) : ∃ t,
    exec (.d2hDescriptor q) s = .next t ∧ RingDone s t (Reg.HP_D2H_BASE_LO q) 4 ∧
      ((s.eport 49).sending = none → t.herd = s.herd) ∧
      ∀ k, (s.eport 49).sending = some k → (s.out k).hq = q → (s.out k).place = .sending →
        s.reg (Reg.HP_D2H_BASE_LO q + 16) + 1 = s.reg (Reg.HP_D2H_BASE_LO q + 12) →
        (t.out k).place = .queued ∧ (t.eport 49).sending = none ∧
          t.eq 49 (s.out k).cls = k :: s.eq 49 (s.out k).cls := by
  have hlow : 0x900000 ≤ Reg.HP_D2H_BASE_LO q := by unfold Reg.HP_D2H_BASE_LO; omega
  obtain ⟨u, hu⟩ : ∃ u, u = s.hpDone q true (s.hpIrq (Reg.HP_D2H_BASE_LO q)) (Reg.HP_D2H_BASE_LO q)
    (s.hpAt (Reg.HP_D2H_BASE_LO q)) 0 4 none := ⟨_, rfl⟩
  have hdone : RingDone s u (Reg.HP_D2H_BASE_LO q) 4 := hu ▸ (BeforeDone.refl s).hpDone _ _ _ hlow _ _ _
  have hherd : u.herd = s.herd := hu ▸ State.hpDone_herd _ _ _ _ _ _ _ _ _
  have heports : u.eports = s.eports := hu ▸ State.hpDone_eports _ _ _ _ _ _ _ _ _
  have hpi : u.reg (Reg.HP_D2H_BASE_LO q + 12) = s.reg (Reg.HP_D2H_BASE_LO q + 12) := by
    rw [hu, State.hpDone_reg _ _ _ _ _ _ _ _ _ (by omega), if_neg (by omega)]
  have hout : ∀ k, u.out k = s.out k := fun k => by rw [State.out, State.out, hherd]
  have heport : u.eport 49 = s.eport 49 := by rw [State.eport, State.eport, heports]
  have heq : ∀ c, u.eq 49 c = s.eq 49 c := fun c => by rw [State.eq, State.eq, heport]
  obtain ⟨hst, hci, hmem, hctxs⟩ := hdone
  refine ⟨u.d2hBack, (execD2hDescriptor_eq hrun hq hbm hr).trans (congrArg _ (hu ▸ State.d2h_noBuffer h)), ?_,
    fun hidle => ?_, fun k hk hhq hplace hlast => ?_⟩
  · have hmem' : u.d2hBack.mem = u.mem := (congrArg State.mem u.d2hBack_rest :)
    have hreg : u.d2hBack.reg (Reg.HP_D2H_BASE_LO q + 16) = u.reg (Reg.HP_D2H_BASE_LO q + 16) :=
      State.reg_congr (congrArg State.chip u.d2hBack_rest :) (congrArg State.regs u.d2hBack_rest :) _
    exact ⟨hmem' ▸ hst, hreg.trans hci, hmem' ▸ hmem, (congrArg State.ctxs u.d2hBack_rest :).trans hctxs⟩
  · rw [State.d2hBack_idle (by rw [heport, hidle]), hherd]
  · have hring : u.hpRuns (Reg.HP_D2H_BASE_LO (u.out k).hq) = false := by
      rw [hout, hhq]
      exact State.hpRuns_last hci hpi hlast
    have hback := State.d2hBack_back (s := u) (by rw [heport, hk]) (by rw [hout, hplace]) hring
    rwa [hout, heq] at hback

variable {k : Nat} (hbuf : 0 < s.hpNum (Reg.HP_D2H_BASE_LO q) 8 2) (hk : (s.eport 49).sending = some k)
  (hhq : (s.out k).hq = q) (hplace : (s.out k).place = .sending)
include hbuf hk hhq hplace

theorem d2hDescriptor_long (h : s.hpNum (Reg.HP_D2H_BASE_LO q) 8 2 < (s.wireBytes k).length) : ∃ t,
    exec (.d2hDescriptor q) s = .next t ∧ RingDone s t (Reg.HP_D2H_BASE_LO q) 3 ∧ (t.out k).place = .sent := by
  have hbefore : BeforeDone s ((s.outSent k).dropped .hostLong 97) := ⟨fun _ => rfl, rfl, rfl⟩
  refine ⟨_, (execD2hDescriptor_eq hrun hq hbm hr).trans (congrArg _ (State.d2h_long hbuf hk hhq hplace h)),
    hbefore.hpDone _ _ _ (by unfold Reg.HP_D2H_BASE_LO; omega) _ _ _, ?_⟩
  rw [State.out, State.hpDone_herd]
  exact congrArg Output.place ((State.out_setOut s k k _).trans (if_pos rfl))

theorem d2hDescriptor_fits (h : (s.wireBytes k).length ≤ s.hpNum (Reg.HP_D2H_BASE_LO q) 8 2) : ∃ t,
    exec (.d2hDescriptor q) s = .next t ∧ RingDone s t (Reg.HP_D2H_BASE_LO q) 1 ∧ (t.out k).place = .sent ∧
      ∀ i (h : i < (s.wireBytes k).length),
        s.hpNum (Reg.HP_D2H_BASE_LO q) 0 8 + i < s.hpAt (Reg.HP_D2H_BASE_LO q) + 8 ∨
          s.hpAt (Reg.HP_D2H_BASE_LO q) + 16 ≤ s.hpNum (Reg.HP_D2H_BASE_LO q) 0 8 + i →
        t.mem.host.rd (s.hpNum (Reg.HP_D2H_BASE_LO q) 0 8 + i) = (s.wireBytes k)[i] := by
  obtain ⟨port, hd2h⟩ := State.d2h_fits hbuf hk hhq hplace h
  have hbefore : BeforeDone s
      ((s.outSent k).putHost (s.hpNum (Reg.HP_D2H_BASE_LO q) 0 8) (s.wireBytes k)) := ⟨fun _ => rfl, rfl, rfl⟩
  refine ⟨_, (execD2hDescriptor_eq hrun hq hbm hr).trans (congrArg _ hd2h),
    hbefore.hpDone _ _ _ (by unfold Reg.HP_D2H_BASE_LO; omega) _ _ _, ?_, fun i hi hfree => ?_⟩
  · rw [State.out, State.hpDone_herd]
    exact congrArg Output.place ((State.out_setOut s k k _).trans (if_pos rfl))
  · rw [State.hpDone_mem]
    exact (hpMem_out _ true _ _ 1 (some port) hfree).trans (Mem.rd_put_of_in hi s.mem.host _)

end

/-- Settles O41: a CAN attempt by its result, and a descriptor of a host ring by the STATUS it completes with. -/
theorem canChannelsAndHostRings : Obligations.CanChannelsAndHostRings := by
  unfold Obligations.CanChannelsAndHostRings
  refine ⟨?_, ?_⟩
  · intro s n hrun hn hen l q state
    refine ⟨fun hstate hlisten hon => ?_, fun hstate hrec => ?_, fun hstate => execCanBusoffRecovery_on hstate⟩
    · have hact : s.canActive n = true := by
        have hlt : s.fld (Reg.CAN_STAT n) 17 16 < 2 := hstate
        simp [State.canActive, hn, hen, hlt]
      refine ⟨fun hl => execCanTransmit_idle hrun hact hlisten hon hl, fun k tries hoffer => ?_⟩
      intro tec off again
      refine ⟨canTransmit_sent hrun hact hlisten hon hoffer, fun h => ?_,
        canTransmit_lost_usedUp hrun hact hlisten hon hoffer,
        canTransmit_error_again hrun hact hlisten hon hoffer, fun htec => ?_, ?_⟩
      · exact (execCanTransmit_offer hrun hact hlisten hon hoffer .lost).trans (congrArg _ (State.canRetry_again _ h))
      · exact ⟨_, execCanTransmit_error_busOff hrun hact hlisten hon hoffer htec, State.canBusOff_facts hn⟩
      · exact ⟨_, execCanTransmit_offer hrun hact hlisten hon hoffer .busOff, State.canBusOff_facts hn⟩
    · obtain ⟨hclear, hcounts⟩ := s.canCounts_clear n
      refine ⟨_, execCanBusoffRecovery_off hrun hn hen hrec hstate, hclear, hcounts,
        State.canQueue_canCounts s n 0 0, fun k hk => ?_, rfl⟩
      rw [State.canCounts_reg, if_neg hk]
  · intro s q hrun hq hbm desc num done r u
    refine ⟨fun hon hr => ⟨h2dDescriptor_empty hrun hq hbm hon hr, h2dDescriptor_long hrun hq hbm hon hr,
      fun hmin hmax hctl hkey => ⟨h2dDescriptor_joins hrun hq hbm hon hr hmin hmax hctl hkey,
        h2dDescriptor_waits hrun hq hbm hon hr hmin hmax hctl hkey⟩⟩,
      fun hr => ⟨d2hDescriptor_noBuffer hrun hq hbm hr, fun k hbuf hk hhq hplace =>
        ⟨d2hDescriptor_long hrun hq hbm hr hbuf hk hhq hplace, d2hDescriptor_fits hrun hq hbm hr hbuf hk hhq hplace⟩⟩⟩

end Sys2Proof.Machine

namespace Sys2Proof.Machine
open Sys2Proof

/-- Pace's own state is replaced. -/
def State.withPace (s : State) (x : Pace) : State := { s with pace := x }

@[simp] theorem State.withPace_pace (s : State) (x : Pace) : (s.withPace x).pace = x := rfl
@[simp] theorem State.withPace_freeCtr (s : State) (x : Pace) : (s.withPace x).freeCtr = s.freeCtr := rfl
@[simp] theorem State.withPace_reg (s : State) (x : Pace) (k : Nat) : (s.withPace x).reg k = s.reg k := rfl

/-! ### What Pace may touch (R41 to R67) -/

/-- From `s` to `t` Pace has acted: the registers of `A`, its own state, the messages of the Event Hub and the draw of
free values may differ, and nothing else. -/
structure PaceActs (s t : State) (A : Set Nat) : Prop where
  regs : ∀ k ∉ A, t.reg k = s.reg k
  rest : { t with regs := s.regs, pace := s.pace, hub := s.hub, pins := s.pins, freeCtr := s.freeCtr } = s

namespace PaceActs

variable {s t u : State} {A B : Set Nat}

theorem refl (s : State) (A : Set Nat) : PaceActs s s A := ⟨fun _ _ => rfl, rfl⟩

theorem trans (h : PaceActs s t A) (h' : PaceActs t u A) : PaceActs s u A := by
  refine ⟨fun k hk => (h'.regs k hk).trans (h.regs k hk), ?_⟩
  have := h'.rest
  rw [← h.rest, ← this]

theorem mono (h : PaceActs s t A) (hAB : A ⊆ B) : PaceActs s t B := ⟨fun k hk => h.regs k fun hA => hk (hAB hA), h.rest⟩

theorem setReg (s : State) {off : Nat} (v : Word) (h : off ∈ A) : PaceActs s (s.setReg off v) A :=
  ⟨fun k hk => by rw [State.reg_setReg, if_neg (by rintro rfl; exact hk h)], rfl⟩

theorem setFld (s : State) {off : Nat} (hi lo x : Nat) (h : off ∈ A) : PaceActs s (s.setFld off hi lo x) A :=
  setReg s _ h

theorem bump (s : State) {off : Nat} (h : off ∈ A) : PaceActs s (s.bump off) A := setReg s _ h

/-- Pace changes its own state. -/
theorem own (s : State) (x : Pace) (A : Set Nat) : PaceActs s (s.withPace x) A := ⟨fun _ _ => rfl, rfl⟩

/-- A free value is drawn. -/
theorem free (s : State) (A : Set Nat) : PaceActs s s.free.2 A := ⟨fun _ _ => rfl, rfl⟩

theorem pin (s : State) (p : PinEvent) (A : Set Nat) : PaceActs s (s.pin p) A := ⟨fun _ _ => rfl, rfl⟩

theorem raise (s : State) {src : Nat} (h : evReg src ∈ A) : PaceActs s (s.raise src) A := by
  cases hp : evPresent s.chip src with
  | true =>
    have hm := State.raise_of_present hp
    exact (setFld s _ _ _ h).trans ⟨fun k _ => hm.reg k, congrArg (fun v : State =>
      { v with regs := (s.setFld (evReg src) (src % 32) (src % 32) 1).regs, pace := s.pace, hub := s.hub, pins := s.pins,
               freeCtr := s.freeCtr }) hm.rest⟩
  | false =>
    rw [State.raise_of_absent hp]
    exact refl s A

section
variable (h : PaceActs s t A)
include h

theorem chip : t.chip = s.chip := (congrArg State.chip h.rest :)
theorem fr : t.fr = s.fr := (congrArg State.fr h.rest :)
theorem fld {k : Nat} (hk : k ∉ A) (hi lo : Nat) : t.fld k hi lo = s.fld k hi lo := by rw [State.fld, State.fld, h.regs k hk]
theorem flag {k : Nat} (hk : k ∉ A) (b : Nat) : t.flag k b = s.flag k b := by rw [State.flag, State.flag, h.regs k hk]

/-- Where no free value was drawn, the draw counter stands too. -/
theorem undrawn (hf : t.freeCtr = s.freeCtr) :
    { t with regs := s.regs, pace := s.pace, hub := s.hub, pins := s.pins } = s := by
  conv_rhs => rw [← h.rest, ← hf]

end

end PaceActs

/-- An event leaves every register but the one of its source. -/
theorem State.raise_reg (s : State) {src k : Nat} (h : k ≠ evReg src) : (s.raise src).reg k = s.reg k :=
  (PaceActs.raise s (A := {evReg src}) rfl).regs k h

theorem State.raise_pace (s : State) (src : Nat) : (s.raise src).pace = s.pace := (congrArg State.pace (s.raise_rest src) :)
theorem State.raise_freeCtr (s : State) (src : Nat) : (s.raise src).freeCtr = s.freeCtr :=
  (congrArg State.freeCtr (s.raise_rest src) :)

/-! ### HOLD and its cause (R54 to R57) -/

/-- The registers that a fall of HOLD touches (R57). -/
def holdRegs : List Nat :=
  [Reg.PACE_STATUS, Reg.PACE_HOLD_DROPS, Reg.PACE_LAST_DROP_LO, Reg.PACE_LAST_DROP_HI, evReg Ev.PACE_LIMIT]

theorem holdRegs_lt : ∀ k ∈ holdRegs, k < 0x301000 := by decide

/-- HOLD has fallen with a cause, and its event is still to come. -/
def State.holdFallen (s : State) (cause : Nat) : State :=
  (((((((s.setFld Reg.PACE_STATUS 0 0 0).setFld Reg.PACE_STATUS 8 8 1).setFld Reg.PACE_STATUS 15 12 cause).bump
    Reg.PACE_HOLD_DROPS).setReg Reg.PACE_LAST_DROP_LO (W s.fr)).setReg Reg.PACE_LAST_DROP_HI
    (W (s.fr / 2 ^ 32)))).withPace { s.pace with rearm := 0 }

theorem State.holdFall_eq (s : State) (cause : Nat) : s.holdFall cause = (s.holdFallen cause).raise Ev.PACE_LIMIT := rfl

theorem State.holdFallen_acts (s : State) (cause : Nat) : PaceActs s (s.holdFallen cause) {k | k ∈ holdRegs} :=
  ((((((PaceActs.setFld s _ _ _ (by decide)).trans (.setFld _ _ _ _ (by decide))).trans
    (.setFld _ _ _ _ (by decide))).trans (.bump _ (by decide))).trans (.setReg _ _ (by decide))).trans
    (.setReg _ _ (by decide))).trans (.own _ _ _)

theorem State.holdFallen_status (s : State) (cause : Nat) : (s.holdFallen cause).reg Reg.PACE_STATUS =
    setF (setF (setF (s.reg Reg.PACE_STATUS) 0 0 0) 8 8 1) 15 12 cause := by
  simp [State.holdFallen]

/-- From `s` to `t` HOLD or its cause may have moved (R54, R57): of PACE_STATUS only HOLD, the limit flag and CAUSE. -/
structure HoldMoves (s t : State) : Prop where
  acts : PaceActs s t {k | k ∈ holdRegs}
  freeCtr : t.freeCtr = s.freeCtr
  bits : ∀ i, i ≠ 0 → i ≠ 8 → (i < 12 ∨ 15 < i) →
    (t.reg Reg.PACE_STATUS).getLsbD i = (s.reg Reg.PACE_STATUS).getLsbD i
  pace : { t.pace with rearm := s.pace.rearm } = s.pace
  rearm : t.pace.rearm = s.pace.rearm ∨ t.pace.rearm = 0

theorem HoldMoves.refl (s : State) : HoldMoves s s := ⟨.refl _ _, rfl, fun _ _ _ _ => rfl, rfl, .inl rfl⟩

section
variable (s : State) (c : Nat)

theorem State.holdFall_status : (s.holdFall c).reg Reg.PACE_STATUS =
    setF (setF (setF (s.reg Reg.PACE_STATUS) 0 0 0) 8 8 1) 15 12 c := by
  rw [State.holdFall_eq, State.raise_reg _ (by decide), State.holdFallen_status]

theorem State.holdFall_moves : HoldMoves s (s.holdFall c) where
  acts := by
    rw [State.holdFall_eq]
    exact (s.holdFallen_acts c).trans (.raise _ (by decide))
  freeCtr := by rw [State.holdFall_eq, State.raise_freeCtr]; rfl
  bits i h0 h8 hc := by
    rw [State.holdFall_status, getLsbD_setF _ _ _ (by omega) (by omega), if_neg (by omega),
      getLsbD_setF _ _ _ (by omega) (by omega), if_neg (by omega), getLsbD_setF _ _ _ (by omega) (by omega),
      if_neg (by omega)]
  pace := by rw [State.holdFall_eq, State.raise_pace]; rfl
  rearm := by rw [State.holdFall_eq, State.raise_pace]; exact .inr rfl

theorem State.holdFall_hold : (s.holdFall c).hold = false := by
  rw [State.hold, State.flag, State.holdFall_status, bitOf_setF_disjoint _ _ (by omega) (by omega) (by omega),
    bitOf_setF_disjoint _ _ (by omega) (by omega) (by omega), bitOf_setF_same _ _ (by omega), Nat.zero_testBit]

theorem State.holdFall_cause : (s.holdFall c).fld Reg.PACE_STATUS 15 12 = c % 16 := by
  rw [State.fld, State.holdFall_status, getF_setF_same _ _ (by omega) (by omega)]
  rfl

/-- CAUSE alone is written. -/
theorem State.showCause_moves : HoldMoves s (s.setFld Reg.PACE_STATUS 15 12 c) where
  acts := .setFld _ _ _ _ (by decide)
  freeCtr := rfl
  bits i _ _ hi := by rw [State.reg_setFld, if_pos rfl, getLsbD_setF _ _ _ (by omega) (by omega), if_neg (by omega)]
  pace := rfl
  rearm := .inl rfl

theorem State.showCause_hold : (s.setFld Reg.PACE_STATUS 15 12 c).hold = s.hold := by
  rw [State.hold, State.flag, State.reg_setFld, if_pos rfl, bitOf_setF_disjoint _ _ (by omega) (by omega) (by omega)]
  rfl

theorem State.showCause_cause : (s.setFld Reg.PACE_STATUS 15 12 c).fld Reg.PACE_STATUS 15 12 = c % 16 := by
  rw [State.fld, State.reg_setFld, if_pos rfl, getF_setF_same _ _ (by omega) (by omega)]
  rfl

end

/-- What a judgement of HOLD between two window ends does to a state (R55 to R57): it ends HOLD where a reason stands,
and shows the first of them. -/
structure Judged (s t : State) : Prop extends HoldMoves s t where
  hold : t.hold = (s.hold && s.paceReason.isNone)
  cause : ∀ c, s.paceReason = some c → t.fld Reg.PACE_STATUS 15 12 = c % 16

theorem State.paceJudge_judged (s : State) : Judged s s.paceJudge := by
  rw [State.paceJudge]
  cases hr : s.paceReason with
  | some c =>
    cases hh : s.hold with
    | true => exact ⟨s.holdFall_moves c, by simp [hr, s.holdFall_hold], fun d hd => by simp_all [s.holdFall_cause]⟩
    | false => exact ⟨s.showCause_moves c, by simp [hr, hh, s.showCause_hold], fun d hd => by simp_all [s.showCause_cause]⟩
  | none =>
    cases hh : s.hold with
    | true => exact ⟨.refl s, by simp [hr, hh], fun c hc => by simp [hr] at hc⟩
    | false => exact ⟨s.showCause_moves 8, by simp [hh, s.showCause_hold], fun d hd => by simp [hr] at hd⟩

/-- A field of a register is made of its bits. -/
theorem getF_congr {v w : Word} {hi lo : Nat} (h : ∀ i, lo ≤ i → i ≤ hi → v.getLsbD i = w.getLsbD i) :
    getF v hi lo = getF w hi lo := by
  refine Nat.eq_of_testBit_eq fun i => ?_
  rw [testBit_getF, testBit_getF]
  by_cases hi' : i < hi + 1 - lo
  · rw [h (lo + i) (by omega) (by omega)]
  · simp [hi']

/-- A reason ends HOLD (R55). -/
theorem Judged.hold_of_reason {s t : State} (h : Judged s t) (hr : s.paceReason ≠ none) : t.hold = false := by
  rw [h.hold, Option.isNone_eq_false_iff.2 (Option.isSome_iff_ne_none.2 hr), Bool.and_false]

namespace HoldMoves

variable {s t : State} (h : HoldMoves s t)
include h

theorem status_flag {b : Nat} (h0 : b ≠ 0) (h8 : b ≠ 8) (hc : b < 12 ∨ 15 < b) :
    t.flag Reg.PACE_STATUS b = s.flag Reg.PACE_STATUS b := by
  rw [State.flag, State.flag, bitOf_eq_getLsbD, bitOf_eq_getLsbD, h.bits b h0 h8 hc]

theorem reg {k : Nat} (hk : k ∉ holdRegs) : t.reg k = s.reg k := h.acts.regs k hk

end HoldMoves

end Sys2Proof.Machine

namespace Sys2Proof.Machine
open Sys2Proof

/-! ### What is done for every present pack -/

/-- `f` for each present pack in turn. -/
def State.eachPack (s : State) (f : State → Nat → State) : State := (List.range s.chip.packs).foldl f s

/-- What no turn of a fold undoes, and the turn of `p` brings about, holds at its end. -/
theorem foldl_establishes {σ : Type} {f : σ → Nat → σ} {Inv Q : σ → Prop} {p : Nat}
    (hinv : ∀ u q, Inv u → Inv (f u q)) (hp : ∀ u, Inv u → Q (f u p)) (hq : ∀ u q, q ≠ p → Q u → Q (f u q)) :
    ∀ (l : List Nat) (u : σ), Inv u → p ∈ l ∨ Q u → Q (l.foldl f u)
  | [], _, _, h => h.resolve_left (List.not_mem_nil)
  | q :: l, u, hu, h => by
    refine foldl_establishes hinv hp hq l _ (hinv u q hu) ?_
    by_cases hqp : q = p
    · exact .inr (hqp ▸ hp u hu)
    · exact h.imp (fun hm => (List.mem_cons.1 hm).resolve_left (Ne.symm hqp)) (hq u q hqp)

theorem State.eachPack_acts {s : State} {f : State → Nat → State} {A : Set Nat}
    (hf : ∀ t p, p < s.chip.packs → PaceActs t (f t p) A) : PaceActs s (s.eachPack f) A :=
  List.foldlRecOn (motive := fun t => PaceActs s t A) _ f (.refl s A) fun t ht p hp => ht.trans (hf t p (List.mem_range.1 hp))

/-- What every pack's turn leaves alone stays as it was. -/
theorem State.eachPack_same {α : Type} {s : State} {f : State → Nat → State} {g : State → α}
    (hf : ∀ t p, g (f t p) = g t) : g (s.eachPack f) = g s :=
  List.foldlRecOn (motive := fun t => g t = g s) _ f rfl fun t ht p _ => (hf t p).trans ht

theorem Chip.packs_le (c : Chip) : c.packs ≤ 32 := by
  rw [Chip.packs]
  split <;> decide

/-! ### EN rises (R60) -/

/-- A pack starts from the fused ratio, uncalibrated. -/
def State.calStart (t : State) (p : Nat) : State :=
  (t.setReg (Reg.PACE_PK_RATIO p) (t.reg Reg.PACE_FUSE_RATIO)).setReg (Reg.PACE_PK_CAL p) 0

/-- The registers as EN leaves them when it rises. -/
def State.startRegs (s : State) : State :=
  ((((s.setFld Reg.PACE_VDD 9 0 (min (max 850 s.vmin) s.vmax)).eachPack State.calStart).setReg
    Reg.PACE_WIN_CNT 0).setFld Reg.PACE_STATUS 1 1 0).setFld Reg.PACE_STATUS 4 4 0

/-- Pace's own state when EN rises. -/
def Pace.started (x : Pace) : Pace :=
  { x with
    rearm := 0, writeDue := true, cleared := false, predOver := false, turnOver := false
    ceilChanged := false, everHeld := false, liveMax := [], samples := [] }

theorem State.paceStart_eq (s : State) : s.paceStart = (s.startRegs.withPace s.startRegs.pace.started).paceJudge := rfl

theorem State.calStart_acts (t : State) (p : Nat) : PaceActs t (t.calStart p) {k | 0x301000 ≤ k} :=
  (PaceActs.setReg _ _ (by simp)).trans (.setReg _ _ (by simp [Reg.PACE_PK_CAL]; omega))

theorem State.calStarted_acts (s : State) : PaceActs s (s.eachPack State.calStart) {k | 0x301000 ≤ k} :=
  State.eachPack_acts fun t p _ => t.calStart_acts p

/-- Each present pack has the fused ratio and no calibration. -/
theorem State.calStarted_pack {s : State} {p : Nat} (hp : p < s.chip.packs) :
    (s.eachPack State.calStart).reg (Reg.PACE_PK_RATIO p) = s.reg Reg.PACE_FUSE_RATIO ∧
      (s.eachPack State.calStart).reg (Reg.PACE_PK_CAL p) = 0 := by
  refine foldl_establishes (Inv := fun u => u.reg Reg.PACE_FUSE_RATIO = s.reg Reg.PACE_FUSE_RATIO)
    (Q := fun u => u.reg (Reg.PACE_PK_RATIO p) = s.reg Reg.PACE_FUSE_RATIO ∧ u.reg (Reg.PACE_PK_CAL p) = 0)
    (fun u q hu => ((u.calStart_acts q).regs _ (by simp [Reg.PACE_FUSE_RATIO])).trans hu) (fun u hu => ?_) (fun u q hq hu => ?_) _ s rfl
    (.inl (List.mem_range.2 hp))
  · simp [State.calStart, hu]
  · simpa [State.calStart, Ne.symm hq, show 3149824 + 32 * p ≠ 3149836 + 32 * q by omega,
      show 3149836 + 32 * p ≠ 3149824 + 32 * q by omega] using hu


/-- The registers that the rise of EN writes. -/
abbrev startSet : Set Nat := {k | k ∈ [Reg.PACE_VDD, Reg.PACE_WIN_CNT, Reg.PACE_STATUS] ∨ 0x301000 ≤ k}

section
variable (s : State)

theorem State.startRegs_acts : PaceActs s s.startRegs startSet := by
  have hcal : PaceActs (s.setFld Reg.PACE_VDD 9 0 (min (max 850 s.vmin) s.vmax)) _ startSet :=
    (State.calStarted_acts _).mono fun k hk => .inr hk
  exact ((((PaceActs.setFld s _ _ _ (.inl (by simp))).trans hcal).trans (.setReg _ _ (.inl (by simp)))).trans
    (.setFld _ _ _ _ (.inl (by simp)))).trans (.setFld _ _ _ _ (.inl (by simp)))

theorem State.startRegs_freeCtr : s.startRegs.freeCtr = s.freeCtr :=
  State.eachPack_same (s := s.setFld Reg.PACE_VDD 9 0 _) (g := State.freeCtr) fun _ _ => rfl

theorem State.startRegs_vset : s.startRegs.vset = min (max 850 s.vmin) s.vmax := by
  have hcal := (State.calStarted_acts (s.setFld Reg.PACE_VDD 9 0 (min (max 850 s.vmin) s.vmax))).regs Reg.PACE_VDD
    (by simp [Reg.PACE_VDD])
  have hmax : s.vmax < 1024 := getF_lt _ _ _
  have hreg : s.startRegs.reg Reg.PACE_VDD = setF (s.reg Reg.PACE_VDD) 9 0 (min (max 850 s.vmin) s.vmax) := by
    simpa [State.startRegs] using hcal
  rw [State.vset, State.fld, hreg, getF_setF_same _ _ (by omega) (by omega), Nat.mod_eq_of_lt (by omega)]

theorem State.startRegs_pack {p : Nat} (hp : p < s.chip.packs) :
    s.startRegs.reg (Reg.PACE_PK_RATIO p) = s.reg Reg.PACE_FUSE_RATIO ∧ s.startRegs.reg (Reg.PACE_PK_CAL p) = 0 := by
  obtain ⟨hratio, hcal⟩ := State.calStarted_pack (s := s.setFld Reg.PACE_VDD 9 0 (min (max 850 s.vmin) s.vmax)) hp
  have hlow : 0x301000 ≤ Reg.PACE_PK_RATIO p ∧ 0x301000 ≤ Reg.PACE_PK_CAL p := by
    unfold Reg.PACE_PK_RATIO Reg.PACE_PK_CAL
    omega
  have hne : ∀ k, 0x301000 ≤ k → k ≠ Reg.PACE_STATUS ∧ k ≠ Reg.PACE_WIN_CNT := by
    unfold Reg.PACE_STATUS Reg.PACE_WIN_CNT
    omega
  simp only [State.startRegs, State.reg_setFld, State.reg_setReg, hne _ hlow.1, hne _ hlow.2, if_false]
  exact ⟨hratio.trans (by simp), hcal⟩

theorem State.startRegs_winCnt : s.startRegs.reg Reg.PACE_WIN_CNT = 0 := by simp [State.startRegs]

theorem State.startRegs_uncalibrated : s.startRegs.flag Reg.PACE_STATUS 1 = false := by
  simp [State.startRegs, State.flag, bitOf_setF_disjoint, bitOf_setF_same]

end

end Sys2Proof.Machine

namespace Sys2Proof.Machine
open Sys2Proof

/-! ### EN falls (R64) -/

/-- A pack's calibration is discarded. -/
def State.calClear (t : State) (p : Nat) : State := t.setReg (Reg.PACE_PK_CAL p) 0

/-- The registers as EN leaves them when it falls, once HOLD is judged. -/
def State.stopRegs (s : State) : State :=
  (((s.eachPack State.calClear).setFld Reg.PACE_STATUS 1 1 0).setFld Reg.PACE_STATUS 4 4 0).setFld Reg.PACE_STATUS 19 16 0

/-- Pace's own state when EN falls. -/
def Pace.stopped (x : Pace) : Pace := { x with rearm := 0, everHeld := false, predOver := false, turnOver := false }

theorem State.paceStop_eq (s : State) :
    s.paceStop = s.paceJudge.stopRegs.withPace s.paceJudge.stopRegs.pace.stopped := rfl

section
variable (s : State)

theorem State.calCleared_acts : PaceActs s (s.eachPack State.calClear) {k | 0x301000 ≤ k} :=
  State.eachPack_acts fun _ p _ => .setReg _ _ (by simp [Reg.PACE_PK_CAL]; omega)

theorem State.stopRegs_acts : PaceActs s s.stopRegs {k | k = Reg.PACE_STATUS ∨ 0x301000 ≤ k} :=
  ((((State.calCleared_acts s).mono fun _ hk => .inr hk).trans (.setFld _ _ _ _ (.inl rfl))).trans
    (.setFld _ _ _ _ (.inl rfl))).trans (.setFld _ _ _ _ (.inl rfl))

theorem State.stopRegs_freeCtr : s.stopRegs.freeCtr = s.freeCtr :=
  State.eachPack_same (g := State.freeCtr) fun _ _ => rfl

theorem State.stopRegs_status : s.stopRegs.reg Reg.PACE_STATUS =
    setF (setF (setF (s.reg Reg.PACE_STATUS) 1 1 0) 4 4 0) 19 16 0 := by
  simp [State.stopRegs, s.calCleared_acts.regs Reg.PACE_STATUS (by simp [Reg.PACE_STATUS])]

theorem State.stopRegs_cal {p : Nat} (hp : p < s.chip.packs) : s.stopRegs.reg (Reg.PACE_PK_CAL p) = 0 := by
  have hcal : (s.eachPack State.calClear).reg (Reg.PACE_PK_CAL p) = 0 :=
    foldl_establishes (Inv := fun _ => True) (Q := fun u : State => u.reg (Reg.PACE_PK_CAL p) = 0) (fun _ _ _ => trivial)
      (fun u _ => by simp [State.calClear]) (fun u q hq hu => by simpa [State.calClear, Ne.symm hq] using hu)
      _ s trivial (.inl (List.mem_range.2 hp))
  have hne : Reg.PACE_PK_CAL p ≠ Reg.PACE_STATUS := by unfold Reg.PACE_PK_CAL Reg.PACE_STATUS; omega
  simpa [State.stopRegs, hne] using hcal

theorem State.stopRegs_hold : s.stopRegs.hold = s.hold := by
  rw [State.hold, State.flag, State.stopRegs_status]
  simp [bitOf_setF_disjoint, State.hold, State.flag]

theorem State.stopRegs_uncalibrated : s.stopRegs.flag Reg.PACE_STATUS 1 = false := by
  rw [State.flag, State.stopRegs_status]
  simp [bitOf_setF_disjoint, bitOf_setF_same]

theorem State.stopRegs_level : s.stopRegs.fld Reg.PACE_STATUS 19 16 = 0 := by
  rw [State.fld, State.stopRegs_status, getF_setF_same _ _ (by omega) (by omega), Nat.zero_mod]

end

/-! ### A write of PACE_CTRL (R55, R59, R60, R64, R68) -/

/-- The word that PACE_CTRL takes has EN and MANUAL as written. -/
theorem State.paceEn_ctrl (s : State) (v : Word) : (s.setReg Reg.PACE_CTRL (v &&& 0x3FF07)).paceEn = v.getLsbD 0 := by
  simp [State.paceEn, State.flag, bitOf_eq_getLsbD]

theorem State.paceManual_ctrl (s : State) (v : Word) :
    (s.setReg Reg.PACE_CTRL (v &&& 0x3FF07)).paceManual = v.getLsbD 2 := by
  simp [State.paceManual, State.flag, bitOf_eq_getLsbD]

/-- Minimal mode depends on SYS_BOOT_STATUS. -/
theorem PaceActs.minimal {s t : State} {A : Set Nat} (h : PaceActs s t A) (hA : Reg.SYS_BOOT_STATUS ∉ A) :
    t.minimal = s.minimal := by
  rw [State.minimal, State.minimal, State.mode, State.mode, h.fld hA]

section
variable {s : State} (v : Word) (hmin : s.minimal = false)
include hmin

theorem State.ctrl_minimal : (s.setReg Reg.PACE_CTRL v).minimal = false :=
  ((PaceActs.setReg s v (A := {Reg.PACE_CTRL}) rfl).minimal (by decide)).trans hmin

theorem State.wrPaceCtrl_rise (hen : s.paceEn = false) (hv : v.getLsbD 0 = true) :
    s.wrPaceCtrl v = (s.setReg Reg.PACE_CTRL (v &&& 0x3FF07)).paceStart := by
  simp only [State.wrPaceCtrl, State.ctrl_minimal _ hmin, State.paceEn_ctrl, hen, hv]
  rfl

theorem State.wrPaceCtrl_fall (hen : s.paceEn = true) (hv : v.getLsbD 0 = false) :
    s.wrPaceCtrl v = (s.setReg Reg.PACE_CTRL (v &&& 0x3FF07)).paceStop := by
  simp only [State.wrPaceCtrl, State.ctrl_minimal _ hmin, State.paceEn_ctrl, hen, hv]
  rfl

theorem State.wrPaceCtrl_on (hen : s.paceEn = true) (hv : v.getLsbD 0 = true) :
    s.wrPaceCtrl v = (s.setReg Reg.PACE_CTRL (v &&& 0x3FF07)).paceJudge := by
  simp only [State.wrPaceCtrl, State.ctrl_minimal _ hmin, State.paceEn_ctrl, hen, hv]
  rfl

end

/-- A write that reaches PACE_CTRL is its effect on Pace. -/
theorem State.busWrite_paceCtrl {s : State} {m : Master} (v : Word) (h : CanWrite s m Reg.PACE_CTRL) :
    s.busWrite m Reg.PACE_CTRL v = s.wrPaceCtrl v :=
  State.busWrite_of_canWrite v h rfl rfl rfl (by decide) rfl

theorem State.busWrite_turnCeil {s : State} {m : Master} (v : Word) (h : CanWrite s m Reg.PACE_TURN_CEIL) :
    s.busWrite m Reg.PACE_TURN_CEIL v = (s.wrPaceCeil v).2 :=
  State.busWrite_of_canWrite v h rfl rfl rfl (by decide) rfl

/-! ### Reasons (R56) -/

section
variable {s : State}

theorem State.paceReason_off (h : s.paceRuns = false) : s.paceReason = some 1 := by simp [State.paceReason, h]

theorem State.paceReason_manual (h : s.paceRuns = true) (hm : s.paceManual = true) : s.paceReason = some 7 := by
  simp [State.paceReason, h, hm]

/-- With no reason to end HOLD the governor runs without MANUAL, calibrated, its last window clean. -/
theorem State.paceReason_none (h : s.paceReason = none) :
    s.paceRuns = true ∧ s.paceManual = false ∧ s.flag Reg.PACE_STATUS 1 = true ∧ s.pace.predOver = false ∧
      s.pace.turnOver = false ∧ s.avsFault = false ∧ s.pace.ceilChanged = false := by
  simp only [State.paceReason] at h
  repeat (split at h; · simp at h)
  simp_all

end

end Sys2Proof.Machine

namespace Sys2Proof.Machine
open Sys2Proof

/-! ### EN rises and falls -/

section
variable (s : State)

theorem State.paceStart_judged : Judged (s.startRegs.withPace s.startRegs.pace.started) s.paceStart := by
  rw [State.paceStart_eq]
  exact State.paceJudge_judged _

theorem State.paceStart_acts : PaceActs s s.paceStart (startSet ∪ {k | k ∈ holdRegs}) :=
  ((s.startRegs_acts.mono fun _ hk => .inl hk).trans (.own _ _ _)).trans
    (s.paceStart_judged.acts.mono fun _ hk => .inr hk)

theorem State.paceStart_freeCtr : s.paceStart.freeCtr = s.freeCtr :=
  s.paceStart_judged.freeCtr.trans s.startRegs_freeCtr

/-- HOLD does not stand at the start: the governor is not calibrated. -/
theorem State.paceStart_hold : s.paceStart.hold = false ∧ s.paceStart.flag Reg.PACE_STATUS 1 = false := by
  have hcal := s.startRegs_uncalibrated
  refine ⟨s.paceStart_judged.hold_of_reason fun hnone => ?_, ?_⟩
  · obtain ⟨-, -, hcalibrated, -⟩ := State.paceReason_none hnone
    exact absurd hcalibrated (by rw [Bool.not_eq_true]; exact hcal)
  · rw [s.paceStart_judged.status_flag (by decide) (by decide) (by decide)]
    exact hcal

/-- What the start sets stands after HOLD is judged. -/
theorem State.paceStart_reg {k : Nat} (h : k ∉ holdRegs) : s.paceStart.reg k = s.startRegs.reg k := s.paceStart_judged.reg h

theorem State.paceStart_pace : s.paceStart.pace.writeDue = true ∧ s.paceStart.pace.rearm = 0 := by
  have hj := s.paceStart_judged
  exact ⟨(congrArg Pace.writeDue hj.pace :), hj.rearm.elim id id⟩

theorem State.paceStart_pack {p : Nat} (hp : p < s.chip.packs) :
    s.paceStart.reg (Reg.PACE_PK_RATIO p) = s.reg Reg.PACE_FUSE_RATIO ∧ s.paceStart.reg (Reg.PACE_PK_CAL p) = 0 := by
  have hout : ∀ k, 0x301000 ≤ k → k ∉ holdRegs := fun k hk hmem => absurd (holdRegs_lt k hmem) (by omega)
  rw [s.paceStart_reg (hout _ (by unfold Reg.PACE_PK_RATIO; omega)),
    s.paceStart_reg (hout _ (by unfold Reg.PACE_PK_CAL; omega))]
  exact s.startRegs_pack hp

theorem State.paceStart_vset : s.paceStart.vset = min (max 850 s.vmin) s.vmax := by
  rw [State.vset, State.fld, s.paceStart_reg (by decide)]
  exact s.startRegs_vset

theorem State.paceStart_winCnt : s.paceStart.reg Reg.PACE_WIN_CNT = 0 := by
  rw [s.paceStart_reg (by decide), s.startRegs_winCnt]

theorem State.paceStop_acts :
    PaceActs s s.paceStop ({k | k = Reg.PACE_STATUS ∨ 0x301000 ≤ k} ∪ {k | k ∈ holdRegs}) := by
  rw [State.paceStop_eq]
  exact ((s.paceJudge_judged.acts.mono fun _ hk => .inr hk).trans
    (s.paceJudge.stopRegs_acts.mono fun _ hk => .inl hk)).trans (.own _ _ _)

theorem State.paceStop_freeCtr : s.paceStop.freeCtr = s.freeCtr := by
  rw [State.paceStop_eq, State.withPace_freeCtr, State.stopRegs_freeCtr, s.paceJudge_judged.freeCtr]

/-- The registers are those that `stopRegs` leaves. -/
theorem State.paceStop_reg (k : Nat) : s.paceStop.reg k = s.paceJudge.stopRegs.reg k := by
  rw [State.paceStop_eq, State.withPace_reg]

theorem State.paceStop_rearm : s.paceStop.pace.rearm = 0 := by rw [State.paceStop_eq]; rfl

/-- With EN clear HOLD falls. -/
theorem State.paceStop_hold (h : s.paceRuns = false) : s.paceStop.hold = false := by
  have hjudged := s.paceJudge_judged.hold_of_reason (by simp [State.paceReason_off h])
  rwa [← s.paceJudge.stopRegs_hold, State.hold, State.flag, ← s.paceStop_reg] at hjudged

theorem State.paceStop_cal {p : Nat} (hp : p < s.chip.packs) : s.paceStop.reg (Reg.PACE_PK_CAL p) = 0 := by
  rw [s.paceStop_reg]
  exact s.paceJudge.stopRegs_cal (by rwa [s.paceJudge_judged.acts.chip])

theorem State.paceStop_status : s.paceStop.flag Reg.PACE_STATUS 1 = false ∧ s.paceStop.fld Reg.PACE_STATUS 19 16 = 0 := by
  rw [State.flag, State.fld, s.paceStop_reg]
  exact ⟨s.paceJudge.stopRegs_uncalibrated, s.paceJudge.stopRegs_level⟩

end

/-! ### The rows on PACE_CTRL and PACE_TURN_CEIL -/

section
variable (s : State) (m : Master) (v : Word)

theorem exec_paceEnable : exec (.paceEnable m v) s = .next (s.busWrite m Reg.PACE_CTRL v) := rfl
theorem exec_paceDisable : exec (.paceDisable m v) s = .next (s.busWrite m Reg.PACE_CTRL v) := rfl
theorem exec_paceManualSet : exec (.paceManualSet m v) s = .next (s.busWrite m Reg.PACE_CTRL v) := rfl
theorem exec_paceManualClear : exec (.paceManualClear m v) s = .next (s.busWrite m Reg.PACE_CTRL v) := rfl
theorem exec_turnCeilWrite : exec (.turnCeilWrite m v) s = .next (s.busWrite m Reg.PACE_TURN_CEIL v) := rfl

end

section
variable {s : State} {m : Master} {v : Word} (hmin : s.minimal = false) (hcan : CanWrite s m Reg.PACE_CTRL)
include hmin hcan

theorem paceEnable_starts (hen : s.paceEn = false) (hv : v.getLsbD 0 = true) :
    ∃ t, exec (.paceEnable m v) s = .next t ∧ t.reg Reg.PACE_CTRL = v &&& 0x3FF07 ∧ t.hold = false ∧
      t.vset = min (max 850 s.vmin) s.vmax ∧ t.pace.writeDue = true ∧ t.pace.rearm = 0 ∧ t.reg Reg.PACE_WIN_CNT = 0 ∧
      (∀ p, p < s.chip.packs → t.reg (Reg.PACE_PK_RATIO p) = s.reg Reg.PACE_FUSE_RATIO ∧
        t.reg (Reg.PACE_PK_CAL p) = 0) ∧ t.flag Reg.PACE_STATUS 1 = false ∧
      { t with regs := s.regs, pace := s.pace, hub := s.hub, pins := s.pins } = s := by
  obtain ⟨u, hu⟩ : ∃ u, u = s.setReg Reg.PACE_CTRL (v &&& 0x3FF07) := ⟨_, rfl⟩
  have hwrite : PaceActs s u ({Reg.PACE_CTRL} ∪ (startSet ∪ {k | k ∈ holdRegs})) := by
    rw [hu]; exact .setReg s _ (.inl rfl)
  have hrow : exec (.paceEnable m v) s = .next u.paceStart := by
    rw [hu, exec_paceEnable, State.busWrite_paceCtrl v hcan, State.wrPaceCtrl_rise v hmin hen hv]
  obtain ⟨hhold, hcal⟩ := u.paceStart_hold
  obtain ⟨hdue, hrearm⟩ := u.paceStart_pace
  have hkeep : ∀ k, k ≠ Reg.PACE_CTRL → u.reg k = s.reg k := fun k hk => by rw [hu, State.reg_setReg, if_neg hk]
  refine ⟨_, hrow, ?_, hhold, ?_, hdue, hrearm, u.paceStart_winCnt, fun p hp => ?_, hcal,
    (hwrite.trans (u.paceStart_acts.mono fun _ hk => .inr hk)).undrawn
      (u.paceStart_freeCtr.trans (by rw [hu]; rfl))⟩
  · rw [u.paceStart_acts.regs _ (by decide), hu, State.reg_setReg, if_pos rfl]
  · rw [u.paceStart_vset, State.vmin, State.vmax, State.fld, State.fld, hkeep _ (by decide)]
    rfl
  · have hpack := u.paceStart_pack (p := p) (by rwa [hwrite.chip])
    rwa [hkeep _ (by decide)] at hpack

theorem paceDisable_stops (hen : s.paceEn = true) (hv : v.getLsbD 0 = false) :
    ∃ t, exec (.paceDisable m v) s = .next t ∧ t.paceEn = false ∧ t.hold = false ∧ t.vset = s.vset ∧
      t.pace.rearm = 0 ∧ (∀ p, p < s.chip.packs → t.reg (Reg.PACE_PK_CAL p) = 0) ∧
      t.flag Reg.PACE_STATUS 1 = false ∧ t.fld Reg.PACE_STATUS 19 16 = 0 ∧
      { t with regs := s.regs, pace := s.pace, hub := s.hub, pins := s.pins } = s := by
  obtain ⟨u, hu⟩ : ∃ u, u = s.setReg Reg.PACE_CTRL (v &&& 0x3FF07) := ⟨_, rfl⟩
  have hoff : u.paceEn = false := by rw [hu, State.paceEn_ctrl, hv]
  have hwrite : PaceActs s u ({Reg.PACE_CTRL} ∪ ({k | k = Reg.PACE_STATUS ∨ 0x301000 ≤ k} ∪ {k | k ∈ holdRegs})) := by
    rw [hu]; exact .setReg s _ (.inl rfl)
  have hall := hwrite.trans (u.paceStop_acts.mono fun _ hk => .inr hk)
  have hrow : exec (.paceDisable m v) s = .next u.paceStop := by
    rw [hu, exec_paceDisable, State.busWrite_paceCtrl v hcan, State.wrPaceCtrl_fall v hmin hen hv]
  obtain ⟨hcal, hlevel⟩ := u.paceStop_status
  refine ⟨_, hrow, ?_, u.paceStop_hold (by simp [State.paceRuns, hoff]), ?_, u.paceStop_rearm,
    fun p hp => u.paceStop_cal (by rwa [hwrite.chip]), hcal, hlevel,
    hall.undrawn (u.paceStop_freeCtr.trans (by rw [hu]; rfl))⟩
  · rw [State.paceEn, u.paceStop_acts.flag (by decide)]
    exact hoff
  · exact hall.fld (by decide) _ _

theorem paceManualSet_ends (hen : s.paceEn = true) (hv : v.getLsbD 0 = true) (hman : v.getLsbD 2 = true) :
    ∃ t, exec (.paceManualSet m v) s = .next t ∧ t.reg Reg.PACE_CTRL = v &&& 0x3FF07 ∧ t.hold = false ∧
      t.fld Reg.PACE_STATUS 15 12 = 7 ∧ PaceActs s t {k | k ∈ Reg.PACE_CTRL :: holdRegs} ∧ t.freeCtr = s.freeCtr := by
  obtain ⟨u, hu⟩ : ∃ u, u = s.setReg Reg.PACE_CTRL (v &&& 0x3FF07) := ⟨_, rfl⟩
  have hrow : exec (.paceManualSet m v) s = .next u.paceJudge := by
    rw [hu, exec_paceManualSet, State.busWrite_paceCtrl v hcan, State.wrPaceCtrl_on v hmin hen hv]
  have hreason : u.paceReason = some 7 :=
    State.paceReason_manual (by rw [hu, State.paceRuns, State.paceEn_ctrl, State.ctrl_minimal _ hmin, hv]; rfl)
      (by rw [hu, State.paceManual_ctrl, hman])
  have hj := u.paceJudge_judged
  refine ⟨_, hrow, ?_, hj.hold_of_reason (by simp [hreason]), hj.cause 7 hreason, ?_, ?_⟩
  · rw [hj.reg (by decide), hu, State.reg_setReg, if_pos rfl]
  · rw [hu] at hj ⊢
    exact (PaceActs.setReg s _ (by simp)).trans (hj.acts.mono fun _ hk => List.mem_cons_of_mem _ hk)
  · rw [hj.freeCtr, hu]
    rfl

theorem paceManualClear_keepsHoldDown (hen : s.paceEn = true) (hv : v.getLsbD 0 = true) :
    ∃ t, exec (.paceManualClear m v) s = .next t ∧ t.reg Reg.PACE_CTRL = v &&& 0x3FF07 ∧
      (t.hold = true → s.hold = true) ∧ PaceActs s t {k | k ∈ Reg.PACE_CTRL :: holdRegs} ∧ t.freeCtr = s.freeCtr := by
  obtain ⟨u, hu⟩ : ∃ u, u = s.setReg Reg.PACE_CTRL (v &&& 0x3FF07) := ⟨_, rfl⟩
  have hrow : exec (.paceManualClear m v) s = .next u.paceJudge := by
    rw [hu, exec_paceManualClear, State.busWrite_paceCtrl v hcan, State.wrPaceCtrl_on v hmin hen hv]
  have hj := u.paceJudge_judged
  refine ⟨_, hrow, ?_, fun hhold => ?_, ?_, ?_⟩
  · rw [hj.reg (by decide), hu, State.reg_setReg, if_pos rfl]
  · rw [hj.hold, Bool.and_eq_true] at hhold
    rw [← hhold.1, hu, State.hold, State.hold, State.flag, State.flag, State.reg_setReg, if_neg (by decide)]
  · rw [hu] at hj ⊢
    exact (PaceActs.setReg s _ (by simp)).trans (hj.acts.mono fun _ hk => List.mem_cons_of_mem _ hk)
  · rw [hj.freeCtr, hu]
    rfl

end

section
variable {s : State} {m : Master} {v : Word} (hcan : CanWrite s m Reg.PACE_TURN_CEIL)
include hcan

/-- The ceiling that a write names is its low 12 bits (R70). -/
theorem turnCeilWrite_legal (hmin : 550 ≤ v.toNat % 4096) (hmax : v.toNat % 4096 ≤ 1200)
    (hnew : v.toNat % 4096 ≠ s.turnCeil) :
    ∃ t, exec (.turnCeilWrite m v) s = .next t ∧ t.reg Reg.PACE_TURN_CEIL = W (v.toNat % 4096) ∧
      t.pace.ceilChanged = true ∧ t.pace.rearm = 0 ∧ t.hold = false ∧
      PaceActs s t {k | k ∈ Reg.PACE_TURN_CEIL :: holdRegs} ∧ t.freeCtr = s.freeCtr := by
  obtain ⟨u, hu⟩ : ∃ u, u = (s.setReg Reg.PACE_TURN_CEIL (W (v.toNat % 4096))).withPace
      { s.pace with ceilChanged := true, rearm := 0 } := ⟨_, rfl⟩
  have hc : getF v 11 0 = v.toNat % 4096 := by simp [getF]
  have hrow : exec (.turnCeilWrite m v) s = .next u.paceJudge := by
    rw [exec_turnCeilWrite, State.busWrite_turnCeil v hcan, State.wrPaceCeil, State.wrTurnCeil, hc, if_neg (by omega),
      if_neg hnew, hu]
    rfl
  have hj := u.paceJudge_judged
  have hwrite : PaceActs s u {k | k ∈ Reg.PACE_TURN_CEIL :: holdRegs} := by
    rw [hu]
    exact (PaceActs.setReg s _ (by simp)).trans (.own _ _ _)
  have hchanged : u.pace.ceilChanged = true := by rw [hu, State.withPace_pace]
  refine ⟨_, hrow, ?_, ?_, ?_, hj.hold_of_reason fun hnone => ?_,
    hwrite.trans (hj.acts.mono fun _ hk => List.mem_cons_of_mem _ hk), ?_⟩
  · rw [hj.reg (by decide), hu, State.withPace_reg, State.reg_setReg, if_pos rfl]
  · rw [← hchanged]
    exact (congrArg Pace.ceilChanged hj.pace :)
  · exact hj.rearm.elim (fun h => h.trans (by rw [hu, State.withPace_pace])) id
  · obtain ⟨-, -, -, -, -, -, hsame⟩ := State.paceReason_none hnone
    simp [hchanged] at hsame
  · rw [hj.freeCtr, hu, State.withPace_freeCtr, State.setReg_freeCtr]

theorem turnCeilWrite_ignored (h : v.toNat % 4096 < 550 ∨ 1200 < v.toNat % 4096 ∨ v.toNat % 4096 = s.turnCeil) :
    exec (.turnCeilWrite m v) s = .next s := by
  have hc : getF v 11 0 = v.toNat % 4096 := by simp [getF]
  rw [exec_turnCeilWrite, State.busWrite_turnCeil v hcan, State.wrPaceCeil, State.wrTurnCeil, hc]
  by_cases hbad : v.toNat % 4096 < 550 ∨ 1200 < v.toNat % 4096
  · rw [if_pos hbad]
    rfl
  · rw [if_neg hbad, if_pos (by omega)]

end

/-- What changes where a write ends HOLD, in the words of the statements. -/
theorem PaceActs.kept {s t : State} {k : Nat} (h : PaceActs s t {i | i ∈ k :: holdRegs}) (hf : t.freeCtr = s.freeCtr) :
    (∀ i, i ∉ [k] ++ [Reg.PACE_STATUS, Reg.PACE_HOLD_DROPS, Reg.PACE_LAST_DROP_LO, Reg.PACE_LAST_DROP_HI,
        evReg Ev.PACE_LIMIT] → t.reg i = s.reg i) ∧
      { t with regs := s.regs, pace := s.pace, hub := s.hub, pins := s.pins } = s :=
  ⟨h.regs, h.undrawn hf⟩

/-- Settles O35: a write of PACE_CTRL starts, stops or judges the governor by EN as it was and is; a new ceiling is a
reason to end HOLD. -/
theorem paceControlWrites : Obligations.PaceControlWrites := by
  unfold Obligations.PaceControlWrites
  intro s m v hmin ctrl kept
  refine ⟨fun hcan => ⟨paceEnable_starts hmin hcan, paceDisable_stops hmin hcan, fun hen hv hman => ?_,
    fun hen hv _ => ?_⟩, fun hcan => ?_⟩
  · obtain ⟨t, hrow, hctrl, hhold, hcause, hacts, hfree⟩ := paceManualSet_ends hmin hcan hen hv hman
    exact ⟨t, hrow, hctrl, hhold, hcause, hacts.kept hfree⟩
  · obtain ⟨t, hrow, hctrl, hhold, hacts, hfree⟩ := paceManualClear_keepsHoldDown hmin hcan hen hv
    exact ⟨t, hrow, hctrl, hhold, hacts.kept hfree⟩
  · intro c
    refine ⟨fun hlo hhi hnew => ?_, turnCeilWrite_ignored hcan⟩
    obtain ⟨t, hrow, hceil, hchanged, hrearm, hhold, hacts, hfree⟩ := turnCeilWrite_legal hcan hlo hhi hnew
    exact ⟨t, hrow, hceil, hchanged, hrearm, hhold, hacts.kept hfree⟩

end Sys2Proof.Machine

namespace Sys2Proof.Machine
open Sys2Proof

/-! ### What rings and samplers report (R43, R44, R81) -/

/-- A register of the Pace block of pack `p` that the report writes. -/
def reportRegs (packs : Nat) : Set Nat := {k | ∃ p < packs, k = Reg.PACE_PK_CANARY p ∨ k = Reg.PACE_PK_LIVE p}

section
variable (s : State) (off ps : Nat)

theorem State.setPs_acts {A : Set Nat} (h : off ∈ A) : PaceActs s (s.setPs off ps) A := by
  rw [State.setPs]
  split
  · exact .setFld s _ _ _ h
  · exact (PaceActs.free s A).trans (.setFld _ _ _ _ h)

@[simp] theorem State.setPs_pace : (s.setPs off ps).pace = s.pace := by
  rw [State.setPs]; split <;> rfl
@[simp] theorem State.setPs_hub : (s.setPs off ps).hub = s.hub := by
  rw [State.setPs]; split <;> rfl
@[simp] theorem State.setPs_pins : (s.setPs off ps).pins = s.pins := by
  rw [State.setPs]; split <;> rfl

/-- A value that fits its field reads back. -/
theorem State.setPs_fld (h : ps < 4096) : (s.setPs off ps).fld off 11 0 = ps := by
  rw [State.setPs, if_pos h, State.fld, State.reg_setFld, if_pos rfl, getF_setF_same _ _ (by omega) (by omega)]
  exact Nat.mod_eq_of_lt h

end

section
variable (s : State) (x : PaceMeas)

/-- The register of the canary is written first. -/
def State.canaryReport (p : Nat) : State :=
  (s.setReg (Reg.PACE_PK_CANARY p) (W ((ringLongest (x.rings.getD p [])).2 * 0x10000))).setPs
    (Reg.PACE_PK_CANARY p) (canaryPs x p)

theorem State.paceReport_eq (p : Nat) : s.paceReport x p =
    ((s.canaryReport x p).setReg (Reg.PACE_PK_LIVE p) (W (min ((s.canaryReport x p).samples p) 65535 * 0x10000))).setPs
      (Reg.PACE_PK_LIVE p) ((s.canaryReport x p).liveMax x p) := rfl

theorem State.canaryReport_acts (p : Nat) : PaceActs s (s.canaryReport x p) {Reg.PACE_PK_CANARY p} :=
  (PaceActs.setReg s _ (Set.mem_singleton _)).trans (State.setPs_acts _ _ _ (Set.mem_singleton _))

theorem State.liveReport_acts (p : Nat) : PaceActs (s.canaryReport x p) (s.paceReport x p) {Reg.PACE_PK_LIVE p} := by
  rw [State.paceReport_eq]
  exact (PaceActs.setReg _ _ (Set.mem_singleton _)).trans (State.setPs_acts _ _ _ (Set.mem_singleton _))

theorem State.paceReport_acts (p : Nat) :
    PaceActs s (s.paceReport x p) {k | k = Reg.PACE_PK_CANARY p ∨ k = Reg.PACE_PK_LIVE p} :=
  ((s.canaryReport_acts x p).mono fun _ hk => .inl hk).trans ((s.liveReport_acts x p).mono fun _ hk => .inr hk)

theorem State.paceReport_quiet (p : Nat) : ((s.paceReport x p).pace, (s.paceReport x p).hub, (s.paceReport x p).pins) =
    (s.pace, s.hub, s.pins) := by
  simp [State.paceReport_eq, State.canaryReport]

/-- Every present pack has reported. -/
def State.reported : State := s.eachPack fun t p => t.paceReport x p

theorem State.reported_acts : PaceActs s (s.reported x) (reportRegs s.chip.packs) :=
  State.eachPack_acts fun t p hp => (t.paceReport_acts x p).mono fun _ hk => ⟨p, hp, hk⟩

theorem State.reported_quiet :
    ((s.reported x).pace, (s.reported x).hub, (s.reported x).pins) = (s.pace, s.hub, s.pins) :=
  State.eachPack_same (g := fun u : State => (u.pace, u.hub, u.pins)) fun t p => t.paceReport_quiet x p

theorem State.reported_pace : (s.reported x).pace = s.pace := congrArg (fun r => r.1) (s.reported_quiet x)

/-- Each present pack shows its canary. -/
theorem State.reported_canary {q : Nat} (hq : q < s.chip.packs) (hfit : canaryPs x q < 4096) :
    (s.reported x).fld (Reg.PACE_PK_CANARY q) 11 0 = canaryPs x q := by
  refine foldl_establishes (Inv := fun _ => True) (Q := fun u : State => u.fld (Reg.PACE_PK_CANARY q) 11 0 = canaryPs x q)
    (fun _ _ _ => trivial) (fun u _ => ?_) (fun u p hp hu => ?_) _ s trivial (.inl (List.mem_range.2 hq))
  · rw [(u.liveReport_acts x q).fld (by simp [Reg.PACE_PK_CANARY, Reg.PACE_PK_LIVE])]
    exact State.setPs_fld _ _ _ hfit
  · rw [(u.paceReport_acts x p).fld (by simp [Reg.PACE_PK_CANARY, Reg.PACE_PK_LIVE]; omega)]
    exact hu

end

/-! ### A new window opens -/

/-- What the statement says of the window that opens after state `s`. -/
def WindowOpened (s : State) (x : PaceMeas) (t : State) : Prop :=
  t.pace.win = s.fr / 10000 ∧ t.pace.created = s.pace.made ∧ t.pace.made = 0 ∧ t.pace.liveMax = [] ∧
    t.pace.samples = [] ∧ ∀ q < s.chip.packs, canaryPs x q < 4096 → t.fld (Reg.PACE_PK_CANARY q) 11 0 = canaryPs x q

theorem windowOpened_of {s t : State} {x : PaceMeas} (hfr : t.fr = s.fr) (hmade : t.pace.made = s.pace.made)
    (hcanary : ∀ q < s.chip.packs, t.reg (Reg.PACE_PK_CANARY q) = (s.reported x).reg (Reg.PACE_PK_CANARY q)) :
    WindowOpened s x t.windowOpen := by
  refine ⟨?_, hmade, rfl, rfl, rfl, fun q hq hfit => ?_⟩
  · rw [← hfr]; rfl
  · rw [← s.reported_canary x hq hfit, State.fld, State.fld, ← hcanary q hq]
    rfl

theorem PaceActs.paceRuns {s t : State} {A : Set Nat} (h : PaceActs s t A) (hc : Reg.PACE_CTRL ∉ A)
    (hb : Reg.SYS_BOOT_STATUS ∉ A) : t.paceRuns = s.paceRuns := by
  rw [State.paceRuns, State.paceRuns, h.minimal hb, State.paceEn, State.paceEn, h.flag hc]

/-- The registers below those of the packs are no report's. -/
theorem not_mem_reportRegs {packs k : Nat} (h : k < 0x301000) : k ∉ reportRegs packs := by
  rintro ⟨p, -, hk⟩
  simp only [Reg.PACE_PK_CANARY, Reg.PACE_PK_LIVE] at hk
  omega

section
variable {s : State} (x : PaceMeas)

theorem exec_paceWindowEnd (s : State) : exec (.paceWindowEnd x) s = execPaceWindowEnd x s := rfl

theorem execPaceWindowEnd_idle (h : s.windowDue = false) : exec (.paceWindowEnd x) s = .next s := by
  rw [exec_paceWindowEnd, execPaceWindowEnd, if_neg (by simp [h])]

theorem execPaceWindowEnd_due (h : s.windowDue = true) : exec (.paceWindowEnd x) s =
    .next (if s.paceRuns then ((s.reported x).paceCompute x).windowOpen else (s.reported x).windowOpen) := by
  have hruns : (s.reported x).paceRuns = s.paceRuns :=
    (s.reported_acts x).paceRuns (not_mem_reportRegs (by decide)) (not_mem_reportRegs (by decide))
  rw [exec_paceWindowEnd, execPaceWindowEnd, if_pos h, ← hruns]
  rfl

/-- While Pace does not run its control a window end is its reports. -/
theorem paceWindowEnd_off (h : s.windowDue = true) (hruns : s.paceRuns = false) :
    ∃ t, exec (.paceWindowEnd x) s = .next t ∧ WindowOpened s x t ∧
      (∀ k, (∀ q < s.chip.packs, k ≠ Reg.PACE_PK_CANARY q ∧ k ≠ Reg.PACE_PK_LIVE q) → t.reg k = s.reg k) ∧
      { t with regs := s.regs, pace := s.pace, freeCtr := s.freeCtr } = s := by
  have hacts := s.reported_acts x
  have hquiet := s.reported_quiet x
  simp only [Prod.mk.injEq] at hquiet
  obtain ⟨hpace, hhub, hpins⟩ := hquiet
  refine ⟨(s.reported x).windowOpen, by rw [execPaceWindowEnd_due x h, hruns]; rfl,
    windowOpened_of hacts.fr (by rw [hpace]) fun _ _ => rfl, fun k hk => ?_, ?_⟩
  · refine hacts.regs k ?_
    rintro ⟨p, hp, hk' | hk'⟩
    · exact (hk p hp).1 hk'
    · exact (hk p hp).2 hk'
  · have hrest := hacts.rest
    rw [← hhub, ← hpins] at hrest
    exact hrest

end

end Sys2Proof.Machine

namespace Sys2Proof.Machine
open Sys2Proof

/-! ### The computation up to PRED and TURN_OBS (R46, R47, R61) -/

/-- The registers of a pack's calibration. -/
def calRegs : Set Nat := {k | ∃ p, k = Reg.PACE_PK_RATIO p ∨ k = Reg.PACE_PK_CAL p}

theorem not_mem_calRegs {k : Nat} (hk : k < 0x301000) : k ∉ calRegs := by
  rintro ⟨p, h⟩
  simp only [Reg.PACE_PK_RATIO, Reg.PACE_PK_CAL] at h
  omega

theorem canary_not_mem_calRegs (q : Nat) : Reg.PACE_PK_CANARY q ∉ calRegs := by
  rintro ⟨p, h⟩
  simp only [Reg.PACE_PK_RATIO, Reg.PACE_PK_CAL, Reg.PACE_PK_CANARY] at h
  omega

theorem State.pacePack_acts (s : State) (x : PaceMeas) (p : Nat) : PaceActs s (s.pacePack x p).2 calRegs := by
  have hdraw : ∀ c : Bool, PaceActs s (if c then s.free else (0, s)).2 calRegs := by
    intro c
    cases c
    · exact .refl s _
    · exact .free s _
  exact ((hdraw _).trans (.setReg _ _ ⟨p, .inl rfl⟩)).trans (.setReg _ _ ⟨p, .inr rfl⟩)

theorem State.pacePack_pace (s : State) (x : PaceMeas) (p : Nat) : (s.pacePack x p).2.pace = s.pace := by
  have hdraw : ∀ c : Bool, (if c then s.free else (0, s)).2.pace = s.pace := by
    intro c
    cases c <;> rfl
  exact hdraw _

/-- The present packs one after another: PRED_p of each, and the state. -/
def State.predicted (s : State) (x : PaceMeas) : List (Nat × Nat) × State :=
  (List.range s.chip.packs).foldl (fun (a : List (Nat × Nat) × State) p =>
    let (v, t) := a.2.pacePack x p
    (a.1 ++ [(v, p)], t)) ([], s)

theorem State.predicted_acts (s : State) (x : PaceMeas) : PaceActs s (s.predicted x).2 calRegs :=
  List.foldlRecOn (motive := fun a : List (Nat × Nat) × State => PaceActs s a.2 calRegs) _ _ (.refl s _)
    fun a ha p _ => ha.trans (a.2.pacePack_acts x p)

theorem State.predicted_pace (s : State) (x : PaceMeas) : (s.predicted x).2.pace = s.pace :=
  List.foldlRecOn (motive := fun a : List (Nat × Nat) × State => a.2.pace = s.pace) _ _ rfl
    fun a ha p _ => (a.2.pacePack_pace x p).trans ha

/-- PRED and TURN_OBS are shown. -/
def State.paceShown (s : State) (pred obs : Nat × Nat) : State :=
  (((s.setReg Reg.PACE_PRED (W (pred.2 * 0x10000))).setPs Reg.PACE_PRED pred.1).setReg Reg.PACE_TURN_OBS
    (W (obs.2 * 0x10000))).setPs Reg.PACE_TURN_OBS obs.1

theorem State.paceShown_acts (s : State) (pred obs : Nat × Nat) :
    PaceActs s (s.paceShown pred obs) {k | k ∈ [Reg.PACE_PRED, Reg.PACE_TURN_OBS]} :=
  (((PaceActs.setReg s _ (by simp)).trans (State.setPs_acts _ _ _ (by simp))).trans (.setReg _ _ (by simp))).trans
    (State.setPs_acts _ _ _ (by simp))

theorem State.paceShown_pace (s : State) (pred obs : Nat × Nat) : (s.paceShown pred obs).pace = s.pace := by
  simp [State.paceShown]

/-- The global calibration flag is set once every present pack is calibrated (R61). -/
def State.calibrate (s : State) : State := if s.calibrated then s.setFld Reg.PACE_STATUS 1 1 1 else s

theorem State.calibrate_acts (s : State) : PaceActs s s.calibrate {Reg.PACE_STATUS} := by
  rw [State.calibrate]
  split
  · exact .setFld _ _ _ _ rfl
  · exact .refl s _

theorem State.calibrate_pace (s : State) : s.calibrate.pace = s.pace := by
  rw [State.calibrate]
  split <;> rfl

theorem State.calibrate_flag (s : State) {b : Nat} (hb : b ≠ 1) :
    s.calibrate.flag Reg.PACE_STATUS b = s.flag Reg.PACE_STATUS b := by
  rw [State.calibrate]
  split
  · rw [State.flag, State.flag, State.reg_setFld, if_pos rfl, bitOf_setF_disjoint _ _ (by omega) (by omega) (by omega)]
  · rfl

/-- The governor's regulation: VSET from what the window has found, with the marks that HOLD is decided by. -/
def State.steered (s : State) (pred obs : Nat) : State :=
  (s.withPace { s.pace with
    writeDue := s.pace.writeDue || (s.newVset pred != s.vset)
    predOver := decide (s.turnCeil < pred)
    turnOver := decide (s.turnCeil < obs)
    cleared := false }).setFld Reg.PACE_VDD 9 0 (s.newVset pred)

/-- A governor that has not held for the windows of its bound says so. -/
def State.boundMissed (s : State) : State :=
  let bw := s.fld Reg.PACE_CFG2 19 8
  if bw ≠ 0 ∧ bw ≤ (s.reg Reg.PACE_WIN_CNT).toNat ∧ !s.pace.everHeld then s.setFld Reg.PACE_STATUS 4 4 1 else s

theorem State.paceCompute_eq (s : State) (x : PaceMeas) :
    let u := (s.setReg Reg.PACE_WIN_CNT (s.reg Reg.PACE_WIN_CNT + 1)).predicted x
    let pred := maxAt u.1
    let obs := maxAt ((List.range s.chip.packs).map fun p => (u.2.liveMax x p, p))
    s.paceCompute x =
      ((((u.2.paceShown pred obs).calibrate.steered pred.1 obs.1).paceDecide.boundMissed).throttle pred.1 x.tj) := rfl

end Sys2Proof.Machine

namespace Sys2Proof.Machine
open Sys2Proof

/-- The registers that hold what a window has found. -/
def measuredRegs : Set Nat :=
  {k | k ∈ [Reg.PACE_WIN_CNT, Reg.PACE_PRED, Reg.PACE_TURN_OBS, Reg.PACE_STATUS]} ∪ calRegs

theorem not_mem_measuredRegs {k : Nat} (hk : k < 0x301000)
    (hlist : k ∉ [Reg.PACE_WIN_CNT, Reg.PACE_PRED, Reg.PACE_TURN_OBS, Reg.PACE_STATUS]) : k ∉ measuredRegs :=
  not_or.2 ⟨hlist, not_mem_calRegs hk⟩

/-- A window of state `s` has been measured, and `w` is what the regulation starts from. -/
structure Measured (s w : State) : Prop where
  acts : PaceActs s w measuredRegs
  pace : w.pace = s.pace
  winCnt : w.reg Reg.PACE_WIN_CNT = s.reg Reg.PACE_WIN_CNT + 1
  fault : w.avsFault = s.avsFault

/-- The computation is a regulation of what has been measured, the decision on HOLD, and the throttle. -/
theorem State.paceCompute_stages (s : State) (x : PaceMeas) : ∃ w pred obs, Measured s w ∧
    s.paceCompute x = ((w.steered pred obs).paceDecide.boundMissed).throttle pred x.tj := by
  obtain ⟨u, hu⟩ : ∃ u, u = s.setReg Reg.PACE_WIN_CNT (s.reg Reg.PACE_WIN_CNT + 1) := ⟨_, rfl⟩
  have hstages := s.paceCompute_eq x
  simp only [← hu] at hstages
  have hcount : PaceActs s u {Reg.PACE_WIN_CNT} := hu ▸ .setReg s _ (Set.mem_singleton _)
  have hpred := u.predicted_acts x
  refine ⟨_, _, _, ⟨?_, ?_, ?_, ?_⟩, hstages⟩
  · exact (((hcount.mono (by simp [measuredRegs])).trans (hpred.mono fun _ hk => .inr hk)).trans
      ((State.paceShown_acts _ _ _).mono fun _ hk =>
        .inl (List.mem_cons_of_mem _ (List.mem_append_left [Reg.PACE_STATUS] hk)))).trans
      ((State.calibrate_acts _).mono (by simp [measuredRegs]))
  · rw [State.calibrate_pace, State.paceShown_pace, State.predicted_pace, hu]
    rfl
  · rw [(State.calibrate_acts _).regs _ (by decide), (State.paceShown_acts _ _ _).regs _ (by decide),
      hpred.regs _ (not_mem_calRegs (by decide)), hu, State.reg_setReg, if_pos rfl]
  · rw [State.avsFault, State.calibrate_flag _ (by decide), (State.paceShown_acts _ _ _).flag (by decide),
      hpred.flag (not_mem_calRegs (by decide)), hcount.flag (by decide)]
    rfl

/-! ### VSET (R46, R49, R53, R59) -/

/-- What VSET is taken from. -/
theorem State.newVset_congr {s w : State} (hreg : ∀ k ∈ [Reg.PACE_VDD, Reg.PACE_LIMITS, Reg.PACE_CTRL,
      Reg.PACE_TURN_CEIL, Reg.PACE_SLEW, Reg.PACE_CFG], w.reg k = s.reg k)
    (hfault : w.avsFault = s.avsFault) (hcleared : w.pace.cleared = s.pace.cleared) (pred : Nat) :
    w.newVset pred = s.newVset pred := by
  simp only [State.newVset, State.vset, State.vmin, State.vmax, State.paceManual, State.turnCeil, State.fld, State.flag,
    hfault, hcleared, hreg Reg.PACE_VDD (by decide), hreg Reg.PACE_LIMITS (by decide), hreg Reg.PACE_CTRL (by decide),
    hreg Reg.PACE_TURN_CEIL (by decide), hreg Reg.PACE_SLEW (by decide), hreg Reg.PACE_CFG (by decide)]
  rfl

/-- VSET is taken from nothing that is measured but PRED. -/
theorem Measured.newVset {s w : State} (h : Measured s w) (pred : Nat) : w.newVset pred = s.newVset pred := by
  refine State.newVset_congr (fun k hk => h.acts.regs k ?_) h.fault (by rw [h.pace]) pred
  have hlow : k < 0x301000 ∧ k ∉ [Reg.PACE_WIN_CNT, Reg.PACE_PRED, Reg.PACE_TURN_OBS, Reg.PACE_STATUS] := by
    revert k
    decide
  exact not_mem_measuredRegs hlow.1 hlow.2

section
variable {s : State} (pred : Nat)

theorem State.newVset_fault (h : s.avsFault = true) : s.newVset pred = s.vset := by simp [State.newVset, h]

variable (hfault : s.avsFault = false) (hcleared : s.pace.cleared = false)
include hfault hcleared

theorem State.newVset_manual (h : s.paceManual = true) :
    s.newVset pred = min (max (s.fld Reg.PACE_CTRL 17 8) s.vmin) s.vmax / 5 * 5 := by
  simp [State.newVset, hfault, hcleared, h]

/-- An automatic step stays within the limits. -/
theorem State.newVset_auto (h : s.paceManual = false) (hlim : s.vmin ≤ s.vmax) :
    s.vmin ≤ s.newVset pred ∧ s.newVset pred ≤ s.vmax := by
  simp only [State.newVset, hfault, hcleared, h, Bool.or_self, Bool.false_eq_true, if_false]
  split
  · omega
  · split <;> omega

end

/-! ### HOLD at the end of a window (R54 to R56, R63) -/

/-- The count to re-arm, and the new ceiling has been judged. -/
def State.counted (s : State) : State :=
  s.withPace { s.pace with
    rearm := if !s.pace.predOver && (!s.pace.turnOver && !s.avsFault) then min (s.pace.rearm + 1) 16 else 0
    ceilChanged := false }

/-- What the decision at the end of a window does to a state: HOLD stands after it only where no reason does. -/
structure Decided (s t : State) : Prop where
  acts : PaceActs s t {k | k ∈ holdRegs}
  bits : ∀ i, i ≠ 0 → i ≠ 8 → (i < 12 ∨ 15 < i) →
    (t.reg Reg.PACE_STATUS).getLsbD i = (s.reg Reg.PACE_STATUS).getLsbD i
  pace : { t.pace with rearm := s.pace.rearm, ceilChanged := s.pace.ceilChanged, everHeld := s.pace.everHeld } = s.pace
  holds : t.hold = true → s.paceManual = false ∧ s.flag Reg.PACE_STATUS 1 = true ∧ s.pace.predOver = false ∧
    s.pace.turnOver = false ∧ s.avsFault = false
  manual : s.paceRuns = true → s.paceManual = true → t.hold = false ∧ t.fld Reg.PACE_STATUS 15 12 = 7

/-- HOLD may move once the window is counted. -/
theorem HoldMoves.decided {s t : State} (h : HoldMoves s.counted t) :
    PaceActs s t {k | k ∈ holdRegs} ∧ (∀ i, i ≠ 0 → i ≠ 8 → (i < 12 ∨ 15 < i) →
      (t.reg Reg.PACE_STATUS).getLsbD i = (s.reg Reg.PACE_STATUS).getLsbD i) ∧
    { t.pace with rearm := s.pace.rearm, ceilChanged := s.pace.ceilChanged, everHeld := s.pace.everHeld } = s.pace := by
  refine ⟨(PaceActs.own s _ _).trans h.acts, h.bits, ?_⟩
  exact (congrArg (fun p : Pace =>
    { p with rearm := s.pace.rearm, ceilChanged := s.pace.ceilChanged, everHeld := s.pace.everHeld }) h.pace :)

/-- HOLD rises (R54). -/
def State.holdRise (s : State) : State := (s.setFld Reg.PACE_STATUS 0 0 1).setFld Reg.PACE_STATUS 15 12 0

theorem State.holdRise_moves (s : State) : HoldMoves s s.holdRise where
  acts := (PaceActs.setFld s _ _ _ (by decide)).trans (.setFld _ _ _ _ (by decide))
  freeCtr := rfl
  bits i h0 _ hc := by
    rw [State.holdRise, State.reg_setFld, if_pos rfl, State.reg_setFld, if_pos rfl,
      getLsbD_setF _ _ _ (by omega) (by omega), if_neg (by omega), getLsbD_setF _ _ _ (by omega) (by omega),
      if_neg (by omega)]
  pace := rfl
  rearm := .inl rfl

/-- The windows a clean governor has to count before HOLD rises. -/
def State.rearmDue (s : State) : Bool := decide (s.pace.rearm < max (s.fld Reg.PACE_CFG2 3 0) 1)

theorem State.paceDecide_eq (s : State) : s.paceDecide =
    if s.counted.paceReason.isSome then s.counted.paceJudge
    else if s.counted.rearmDue then
      (if s.counted.hold then s.counted.holdFall 8 else s.counted.setFld Reg.PACE_STATUS 15 12 8)
    else s.counted.holdRise.withPace { s.counted.holdRise.pace with everHeld := true } := by
  have hmatch : s.paceDecide = match s.counted.paceReason with
    | some _ => s.counted.paceJudge
    | none =>
      if s.counted.pace.rearm < max (s.counted.fld Reg.PACE_CFG2 3 0) 1 then
        (if s.counted.hold then s.counted.holdFall 8 else s.counted.setFld Reg.PACE_STATUS 15 12 8)
      else s.counted.holdRise.withPace { s.counted.holdRise.pace with everHeld := true } := rfl
  rw [hmatch]
  cases s.counted.paceReason <;> simp [State.rearmDue]

theorem State.paceDecide_decided (s : State) : Decided s s.paceDecide := by
  have hfinds : s.counted.paceReason = none → s.paceManual = false ∧ s.flag Reg.PACE_STATUS 1 = true ∧
      s.pace.predOver = false ∧ s.pace.turnOver = false ∧ s.avsFault = false := by
    intro h
    obtain ⟨-, hman, hcal, hpred, hturn, hfault, -⟩ := State.paceReason_none h
    exact ⟨hman, hcal, hpred, hturn, hfault⟩
  have hmanual : s.paceRuns = true → s.paceManual = true → s.counted.paceReason = some 7 :=
    fun hruns hman => State.paceReason_manual (s := s.counted) hruns hman
  rw [State.paceDecide_eq]
  cases hr : s.counted.paceReason with
  | some c =>
    have hj := s.counted.paceJudge_judged
    have hdown := hj.hold_of_reason (by simp [hr])
    obtain ⟨hacts, hbits, hpace⟩ := hj.toHoldMoves.decided
    exact ⟨hacts, hbits, hpace, fun hup => by simp [hdown] at hup,
      fun hruns hman => ⟨hdown, hj.cause 7 (hmanual hruns hman)⟩⟩
  | none =>
    have hclean := hfinds hr
    have hnoManual : ∀ {p : Prop}, s.paceRuns = true → s.paceManual = true → p :=
      fun _ hman => absurd (hclean.1.symm.trans hman) (by simp)
    simp only [Option.isSome_none, Bool.false_eq_true, if_false]
    split
    · split
      · obtain ⟨hacts, hbits, hpace⟩ := (s.counted.holdFall_moves 8).decided
        exact ⟨hacts, hbits, hpace, fun _ => hclean, hnoManual⟩
      · obtain ⟨hacts, hbits, hpace⟩ := (s.counted.showCause_moves 8).decided
        exact ⟨hacts, hbits, hpace, fun _ => hclean, hnoManual⟩
    · obtain ⟨hacts, hbits, hpace⟩ := s.counted.holdRise_moves.decided
      exact ⟨hacts.trans (.own _ _ _), hbits, hpace, fun _ => hclean, hnoManual⟩

/-! ### After the decision (R63, R65, R66) -/

/-- What follows the decision on HOLD writes its own fields of PACE_STATUS alone. -/
structure Trimmed (s t : State) : Prop where
  acts : PaceActs s t {Reg.PACE_STATUS}
  bits : ∀ i, i ≠ 4 → (i < 16 ∨ 19 < i) → (t.reg Reg.PACE_STATUS).getLsbD i = (s.reg Reg.PACE_STATUS).getLsbD i
  pace : { t.pace with latched := s.pace.latched } = s.pace

theorem State.boundMissed_trimmed (s : State) : Trimmed s s.boundMissed := by
  rw [State.boundMissed]
  split
  · refine ⟨.setFld _ _ _ _ rfl, fun i h4 _ => ?_, rfl⟩
    rw [State.reg_setFld, if_pos rfl, getLsbD_setF _ _ _ (by omega) (by omega), if_neg (by omega)]
  · exact ⟨.refl _ _, fun _ _ _ => rfl, rfl⟩

/-- The throttle level is set, and with its first step the jobs of the window are latched. -/
theorem State.levelSet_trimmed (s : State) (new : Nat) :
    Trimmed s ((if s.fld Reg.PACE_STATUS 19 16 = 0 ∧ new = 1 then
      s.withPace { s.pace with latched := s.pace.created } else s).setFld Reg.PACE_STATUS 19 16 new) := by
  split
  · refine ⟨(PaceActs.own s _ _).trans (.setFld _ _ _ _ rfl), fun i _ hi => ?_, rfl⟩
    rw [State.reg_setFld, if_pos rfl, getLsbD_setF _ _ _ (by omega) (by omega), if_neg (by omega), State.withPace_reg]
  · refine ⟨.setFld _ _ _ _ rfl, fun i _ hi => ?_, rfl⟩
    rw [State.reg_setFld, if_pos rfl, getLsbD_setF _ _ _ (by omega) (by omega), if_neg (by omega)]

theorem State.throttle_trimmed (s : State) (pred : Nat) (tj : Int) : Trimmed s (s.throttle pred tj) :=
  s.levelSet_trimmed _

theorem Trimmed.trans {s t u : State} (h : Trimmed s t) (h' : Trimmed t u) : Trimmed s u := by
  refine ⟨h.acts.trans h'.acts, fun i h4 hi => (h'.bits i h4 hi).trans (h.bits i h4 hi), ?_⟩
  have := h'.pace
  rw [← h.pace, ← this]

end Sys2Proof.Machine

namespace Sys2Proof.Machine
open Sys2Proof

/-! ### The computation at a window end -/

theorem State.steered_acts (s : State) (pred obs : Nat) : PaceActs s (s.steered pred obs) {Reg.PACE_VDD} :=
  (PaceActs.own s _ _).trans (.setFld _ _ _ _ rfl)

theorem State.steered_vset (s : State) (pred obs : Nat) : (s.steered pred obs).vset = s.newVset pred % 1024 := by
  rw [State.vset, State.fld, State.steered, State.reg_setFld, if_pos rfl, getF_setF_same _ _ (by omega) (by omega)]
  rfl

/-- The registers that a window end of the running governor writes besides its reports. -/
def computedRegs : Set Nat := measuredRegs ∪ ({Reg.PACE_VDD} ∪ {k | k ∈ holdRegs})

theorem not_mem_computedRegs {k : Nat} (hk : k < 0x301000)
    (hlist : k ∉ [Reg.PACE_WIN_CNT, Reg.PACE_PRED, Reg.PACE_TURN_OBS, Reg.PACE_STATUS] ++ Reg.PACE_VDD :: holdRegs) :
    k ∉ computedRegs := by
  simp only [List.mem_append, List.mem_cons (b := Reg.PACE_VDD), not_or] at hlist
  exact not_or.2 ⟨not_mem_measuredRegs hk hlist.1, not_or.2 ⟨hlist.2.1, hlist.2.2⟩⟩

theorem canary_not_mem_computedRegs (q : Nat) : Reg.PACE_PK_CANARY q ∉ computedRegs := by
  have hlow : 0x301000 ≤ Reg.PACE_PK_CANARY q := by unfold Reg.PACE_PK_CANARY; omega
  rintro ((hlist | hcal) | (hvdd | hhold))
  · exact absurd ((by decide : ∀ k ∈ [Reg.PACE_WIN_CNT, Reg.PACE_PRED, Reg.PACE_TURN_OBS, Reg.PACE_STATUS],
      k < 0x301000) _ hlist) (by omega)
  · exact canary_not_mem_calRegs q hcal
  · exact absurd (hvdd ▸ hlow) (by decide)
  · exact absurd (holdRegs_lt _ hhold) (by omega)

/-- What the computation makes of a state (R46, R54 to R59). -/
structure Computed (s t : State) : Prop where
  acts : PaceActs s t computedRegs
  made : t.pace.made = s.pace.made
  winCnt : t.reg Reg.PACE_WIN_CNT = s.reg Reg.PACE_WIN_CNT + 1
  vset : ∃ pred, t.vset = s.newVset pred % 1024
  holds : t.hold = true → s.paceManual = false ∧ t.avsFault = false ∧ t.pace.predOver = false ∧
    t.pace.turnOver = false ∧ t.flag Reg.PACE_STATUS 1 = true
  manual : s.paceRuns = true → s.paceManual = true → t.hold = false ∧ t.fld Reg.PACE_STATUS 15 12 = 7

theorem State.paceCompute_computed (s : State) (x : PaceMeas) : Computed s (s.paceCompute x) := by
  obtain ⟨w, pred, obs, hm, hstages⟩ := s.paceCompute_stages x
  obtain ⟨v, hv⟩ : ∃ v, v = w.steered pred obs := ⟨_, rfl⟩
  have hd := v.paceDecide_decided
  have htr := v.paceDecide.boundMissed_trimmed.trans (v.paceDecide.boundMissed.throttle_trimmed pred x.tj)
  rw [hstages, ← hv]
  generalize (v.paceDecide.boundMissed).throttle pred x.tj = t at htr
  have hsteer : PaceActs w v {Reg.PACE_VDD} := hv ▸ w.steered_acts pred obs
  have hbefore : PaceActs s v computedRegs :=
    (hm.acts.mono fun _ hk => .inl hk).trans (hsteer.mono fun _ hk => .inr (.inl hk))
  have hflag : ∀ b, b ∈ [1, 5] → t.flag Reg.PACE_STATUS b = v.flag Reg.PACE_STATUS b := by
    intro b hb
    have hb' : b = 1 ∨ b = 5 := by simpa using hb
    rw [State.flag, State.flag, bitOf_eq_getLsbD, bitOf_eq_getLsbD, htr.bits b (by omega) (by omega),
      hd.bits b (by omega) (by omega) (by omega)]
  have hhold : t.hold = v.paceDecide.hold := by
    rw [State.hold, State.hold, State.flag, State.flag, bitOf_eq_getLsbD, bitOf_eq_getLsbD, htr.bits 0 (by omega) (by omega)]
  have hctrl : v.paceManual = s.paceManual := hbefore.flag (not_mem_computedRegs (by decide) (by decide)) 2
  refine ⟨(hbefore.trans (hd.acts.mono fun _ hk => .inr (.inr hk))).trans
      (htr.acts.mono (by simp [computedRegs, measuredRegs])), ?_, ?_, ⟨pred, ?_⟩, fun hup => ?_, fun hruns hman => ?_⟩
  · have hmade : t.pace.made = v.pace.made :=
      (congrArg Pace.made htr.pace :).trans (congrArg Pace.made hd.pace :)
    rw [hmade, hv, ← hm.pace]
    rfl
  · rw [htr.acts.regs _ (by decide), hd.acts.regs _ (by decide), hsteer.regs _ (by decide), hm.winCnt]
  · rw [← hm.newVset, ← State.steered_vset _ _ obs, ← hv, State.vset, State.vset, htr.acts.fld (by decide),
      hd.acts.fld (by decide)]
  · rw [hhold] at hup
    obtain ⟨hman, hcal, hpred, hturn, hfault⟩ := hd.holds hup
    refine ⟨hctrl ▸ hman, (hflag 5 (by simp)).trans hfault, ?_, ?_, (hflag 1 (by simp)).trans hcal⟩
    · exact ((congrArg Pace.predOver htr.pace :).trans (congrArg Pace.predOver hd.pace :)).trans hpred
    · exact ((congrArg Pace.turnOver htr.pace :).trans (congrArg Pace.turnOver hd.pace :)).trans hturn
  · have hruns' : v.paceRuns = s.paceRuns :=
      hbefore.paceRuns (not_mem_computedRegs (by decide) (by decide)) (not_mem_computedRegs (by decide) (by decide))
    obtain ⟨hdown, hcause⟩ := hd.manual (hruns'.trans hruns) (hctrl.trans hman)
    refine ⟨hhold.trans hdown, ?_⟩
    rw [← hcause, State.fld, State.fld]
    exact getF_congr fun i h1 h2 => htr.bits i (by omega) (by omega)

/-- The end of a window with the governor on. -/
theorem paceWindowEnd_on {s : State} (x : PaceMeas) (h : s.windowDue = true) (hruns : s.paceRuns = true) :
    ∃ t, exec (.paceWindowEnd x) s = .next t ∧ WindowOpened s x t ∧
      t.reg Reg.PACE_WIN_CNT = s.reg Reg.PACE_WIN_CNT + 1 ∧
      { t with regs := s.regs, pace := s.pace, hub := s.hub, pins := s.pins, freeCtr := s.freeCtr } = s ∧
      (s.avsFault = true → t.vset = s.vset) ∧
      (s.avsFault = false → s.pace.cleared = false →
        (s.paceManual = true → t.hold = false ∧ t.fld Reg.PACE_STATUS 15 12 = 7 ∧
          t.vset = min (max (s.fld Reg.PACE_CTRL 17 8) s.vmin) s.vmax / 5 * 5) ∧
        (s.paceManual = false → s.vmin ≤ s.vmax → s.vmin ≤ t.vset ∧ t.vset ≤ s.vmax)) ∧
      (t.hold = true → s.paceManual = false ∧ t.avsFault = false ∧ t.pace.predOver = false ∧ t.pace.turnOver = false ∧
        t.flag Reg.PACE_STATUS 1 = true) := by
  have hrep := s.reported_acts x
  obtain ⟨u, hu⟩ : ∃ u, u = s.reported x := ⟨_, rfl⟩
  have hpace : u.pace = s.pace := hu ▸ s.reported_pace x
  rw [← hu] at hrep
  have hc := u.paceCompute_computed x
  obtain ⟨t, ht⟩ : ∃ t, t = u.paceCompute x := ⟨_, rfl⟩
  rw [← ht] at hc
  have hlow : ∀ k, k < 0x301000 → u.reg k = s.reg k := fun k hk => hrep.regs k (not_mem_reportRegs hk)
  obtain ⟨pred, hpred⟩ := hc.vset
  rw [State.newVset_congr (s := s) (fun k hk => hlow k (by revert k; decide))
    (by rw [State.avsFault, State.avsFault, State.flag, State.flag, hlow _ (by decide)]) (by rw [hpace])] at hpred
  have hman : u.paceManual = s.paceManual := hrep.flag (not_mem_reportRegs (by decide)) 2
  have hruns' : u.paceRuns = true :=
    (hrep.paceRuns (not_mem_reportRegs (by decide)) (not_mem_reportRegs (by decide))).trans hruns
  have hmax : s.vmax < 1024 := getF_lt _ _ _
  refine ⟨t.windowOpen, by rw [execPaceWindowEnd_due x h, hruns, ht, hu]; rfl,
    windowOpened_of (hc.acts.fr.trans hrep.fr) (by rw [hc.made, hpace]) fun q _ => ?_, ?_, ?_, fun hfault => ?_,
    fun hfault hcl => ⟨fun hm => ?_, fun hm hlim => ?_⟩, fun hup => ?_⟩
  · rw [hc.acts.regs _ (canary_not_mem_computedRegs q), hu]
  · exact hc.winCnt.trans (by rw [hlow _ (by decide)])
  · have hrest := hc.acts.rest
    rw [← hrep.rest, ← hrest]
    rfl
  · rw [State.newVset_fault _ hfault] at hpred
    exact hpred.trans (Nat.mod_eq_of_lt (getF_lt _ _ _))
  · obtain ⟨hdown, hcause⟩ := hc.manual hruns' (hman.trans hm)
    rw [State.newVset_manual _ hfault hcl hm] at hpred
    exact ⟨hdown, hcause, hpred.trans (Nat.mod_eq_of_lt (by omega))⟩
  · have hbound := State.newVset_auto pred hfault hcl hm hlim
    rw [Nat.mod_eq_of_lt (by omega)] at hpred
    change s.vmin ≤ t.vset ∧ t.vset ≤ s.vmax
    rwa [hpred]
  · rw [← hman]
    exact hc.holds hup

end Sys2Proof.Machine

namespace Sys2Proof.Machine
open Sys2Proof

/-! ### The samplers (R44, R55) -/

theorem exec_samplerRotate (s : State) (p : Nat) : exec (.samplerRotate p) s = execSamplerRotate p s := rfl
theorem exec_sampledTurnOverCeil (s : State) (p ps : Nat) :
    exec (.sampledTurnOverCeil p ps) s = execSampledTurnOverCeil p ps s := rfl

section
variable {s : State} {p ps : Nat}

theorem samplerRotate_moves (hp : p < s.chip.packs) (hdue : Tab.get 0 s.pace.rotAt p + 1000 ≤ s.fr) :
    ∃ t, exec (.samplerRotate p) s = .next t ∧ Tab.get 0 t.pace.sampler p = (Tab.get 0 s.pace.sampler p + 1) % 16 ∧
      Tab.get 0 t.pace.rotAt p = s.fr ∧
      (∀ k, k ≠ p → Tab.get 0 t.pace.sampler k = Tab.get 0 s.pace.sampler k) ∧ { t with pace := s.pace } = s := by
  refine ⟨_, (exec_samplerRotate s p).trans (if_pos ⟨hp, hdue⟩), ?_, ?_, fun k hk => ?_, rfl⟩
  · rw [Tab.get_set, if_pos rfl]
  · rw [Tab.get_set, if_pos rfl]
  · rw [Tab.get_set, if_neg hk]

theorem samplerRotate_early (h : s.fr < Tab.get 0 s.pace.rotAt p + 1000) : exec (.samplerRotate p) s = .next s := by
  rw [exec_samplerRotate, execSamplerRotate, if_neg (by omega)]

theorem sampledTurnOverCeil_within (h : ps ≤ s.turnCeil) : exec (.sampledTurnOverCeil p ps) s = .next s := by
  rw [exec_sampledTurnOverCeil, execSampledTurnOverCeil, if_neg (by omega)]

/-- A measured turn over the ceiling counts, and with the governor on it is a reason to end HOLD. -/
theorem sampledTurnOverCeil_over (hp : p < s.chip.packs) (hover : s.turnCeil < ps) :
    ∃ t, exec (.sampledTurnOverCeil p ps) s = .next t ∧
      Tab.get 0 t.pace.liveMax p = max (Tab.get 0 s.pace.liveMax p) ps ∧ t.vset = s.vset ∧
      (s.paceRuns = true → t.hold = false ∧ t.pace.turnOver = true) ∧ (s.paceRuns = false → { t with pace := s.pace } = s) ∧
      { t with regs := s.regs, pace := s.pace, hub := s.hub, pins := s.pins } = s := by
  obtain ⟨l, hl⟩ : ∃ l, l = Tab.set 0 s.pace.liveMax p (max (Tab.get 0 s.pace.liveMax p) ps) := ⟨_, rfl⟩
  have hget : Tab.get 0 l p = max (Tab.get 0 s.pace.liveMax p) ps := by rw [hl, Tab.get_set, if_pos rfl]
  have hrow : exec (.sampledTurnOverCeil p ps) s = .next (if s.paceRuns then
      (s.withPace { s.pace with liveMax := l, turnOver := true }).paceJudge else s.withPace { s.pace with liveMax := l }) := by
    rw [exec_sampledTurnOverCeil, execSampledTurnOverCeil, if_pos ⟨hp, hover⟩, hl]
    rfl
  cases hruns : s.paceRuns with
  | false =>
    rw [hruns] at hrow
    exact ⟨_, hrow, hget, rfl, by simp, fun _ => rfl, rfl⟩
  | true =>
    rw [hruns] at hrow
    have hj := (s.withPace { s.pace with liveMax := l, turnOver := true }).paceJudge_judged
    refine ⟨_, hrow, ?_, hj.acts.fld (by decide) _ _, fun _ => ⟨hj.hold_of_reason fun hnone => ?_, ?_⟩, by simp,
      ((PaceActs.own s _ _).trans hj.acts).undrawn hj.freeCtr⟩
    · rw [← hget]
      exact congrArg (Tab.get 0 · p) (congrArg Pace.liveMax hj.pace :)
    · obtain ⟨-, -, -, -, hturn, -⟩ := State.paceReason_none hnone
      simp at hturn
    · exact (congrArg Pace.turnOver hj.pace :)

end

/-! ### AVSBus transactions (R50 to R53) -/

theorem exec_avsWriteVout (s : State) (ok : Bool) : exec (.avsWriteVout ok) s = execAvsWriteVout ok s := rfl
theorem exec_avsReadVout (s : State) (ok : Bool) (mv : Nat) : exec (.avsReadVout ok mv) s = execAvsReadVout ok mv s := rfl

/-- What the statement says of a fault that has been declared. -/
def Faulted (s t : State) : Prop :=
  t.avsFault = true ∧ t.fld Reg.PACE_AVS 23 16 = satInc 8 (s.fld Reg.PACE_AVS 23 16) ∧
    { t with regs := s.regs, pace := s.pace, hub := s.hub, pins := s.pins } = s

theorem satInc_lt (w n : Nat) : satInc w n < 2 ^ w := by
  have := Nat.two_pow_pos w
  rw [satInc]
  split <;> omega

/-- A fault is declared: it shows, it is counted, and HOLD is judged anew. -/
theorem State.avsDeclare_declares {s : State} (h : s.avsFault = false) :
    s.avsDeclare.avsFault = true ∧ s.avsDeclare.fld Reg.PACE_AVS 23 16 = satInc 8 (s.fld Reg.PACE_AVS 23 16) ∧
      PaceActs s s.avsDeclare {k | k ∈ Reg.PACE_AVS :: holdRegs} ∧ s.avsDeclare.freeCtr = s.freeCtr ∧
      s.avsDeclare.pace.writeDue = s.pace.writeDue := by
  obtain ⟨u, hu⟩ : ∃ u, u = (s.setFld Reg.PACE_STATUS 5 5 1).bumpF Reg.PACE_AVS 23 16 := ⟨_, rfl⟩
  have hj := u.paceJudge_judged
  have hshown : s.avsDeclare = u.paceJudge := by rw [State.avsDeclare, if_neg (by simp [h]), hu]
  have hmark : PaceActs s u {k | k ∈ Reg.PACE_AVS :: holdRegs} := by
    rw [hu]
    exact (PaceActs.setFld s _ _ _ (by decide)).trans (.setFld _ _ _ _ (by decide))
  rw [hshown]
  refine ⟨?_, ?_, hmark.trans (hj.acts.mono fun _ hk => List.mem_cons_of_mem _ hk), hj.freeCtr.trans (by rw [hu]; rfl), ?_⟩
  · rw [State.avsFault, hj.status_flag (by decide) (by decide) (by decide), hu, State.flag, State.bumpF, State.reg_setFld,
      if_neg (by decide), State.reg_setFld, if_pos rfl, bitOf_setF_same _ _ (by omega)]
    rfl
  · rw [hj.acts.fld (by decide), hu, State.fld, State.bumpF, State.reg_setFld, if_pos rfl,
      getF_setF_same _ _ (by omega) (by omega), State.fld, State.reg_setFld, if_neg (by decide)]
    exact Nat.mod_eq_of_lt (satInc_lt 8 _)
  · rw [(congrArg Pace.writeDue hj.pace :), hu]
    rfl

/-- A fault that is declared once the transaction has gone over the bus, and its reading has been shown. -/
theorem faulted_avsDeclare {s u : State} (hu : PaceActs s u {Reg.PACE_VDD}) (hfree : u.freeCtr = s.freeCtr)
    (h : s.avsFault = false) : Faulted s u.avsDeclare := by
  have hfault : u.avsFault = false := (hu.flag (by decide) 5).trans h
  obtain ⟨hshown, hcount, hacts, hdrawn, -⟩ := State.avsDeclare_declares hfault
  refine ⟨hshown, hcount.trans (by rw [hu.fld (by decide)]), ?_⟩
  exact ((hu.mono Set.subset_union_left).trans (hacts.mono Set.subset_union_right)).undrawn (hdrawn.trans hfree)

/-- A transaction goes over the bus. -/
def State.onBusAvs (s : State) (p : PinEvent) (x : Pace) : State := (s.pin p).withPace x

theorem State.onBusAvs_acts (s : State) (p : PinEvent) (x : Pace) (A : Set Nat) : PaceActs s (s.onBusAvs p x) A :=
  (PaceActs.pin s p A).trans (.own _ _ _)

/-- The second failure in a row declares a fault (R53). -/
theorem State.avsResult_failed {s : State} (h : 0 < s.pace.avsFails) :
    s.avsResult false = (s.withPace { s.pace with avsFails := s.pace.avsFails + 1 }).avsDeclare := by
  simp only [State.avsResult, Bool.false_eq_true, if_false]
  rw [if_pos (by omega)]
  rfl

theorem avsResult_faults {s u : State} (hu : PaceActs s u {Reg.PACE_VDD}) (hfree : u.freeCtr = s.freeCtr)
    (h : s.avsFault = false) (hfails : 0 < u.pace.avsFails) :
    Faulted s (u.avsResult false) ∧ (u.avsResult false).pace.writeDue = u.pace.writeDue := by
  have hacts := hu.trans (.own u { u.pace with avsFails := u.pace.avsFails + 1 } _)
  obtain ⟨-, -, -, -, hdue⟩ := State.avsDeclare_declares ((hacts.flag (by decide) 5).trans h)
  rw [State.avsResult_failed hfails]
  exact ⟨faulted_avsDeclare hacts hfree h, hdue⟩

/-- The Write Vout of this window has gone out. -/
def State.writeOut (s : State) (ok : Bool) : State :=
  s.onBusAvs (.avsWrite (s.fld Reg.PACE_AVS 3 0) s.vset) { s.pace with
    writeDue := false, writeWin := s.fr / 10000 + 1, lastCommit := if ok then some s.fr else s.pace.lastCommit }

section
variable {s : State} {mv : Nat}

theorem execAvsWriteVout_due (ok : Bool) (hdue : s.pace.writeDue = true) (hen : s.paceEn = true)
    (hfault : s.avsFault = false) (hwin : s.pace.writeWin ≠ s.fr / 10000 + 1) :
    exec (.avsWriteVout ok) s = .next ((s.writeOut ok).avsResult ok) := by
  have hwin' : (s.pace.writeWin != s.paceWindow + 1) = true := bne_iff_ne.2 hwin
  rw [exec_avsWriteVout, execAvsWriteVout, if_pos (by simp [hdue, hen, hfault, hwin'])]
  rfl

theorem avsWriteVout_idle (h : s.pace.writeDue = false ∨ s.pace.writeWin = s.fr / 10000 + 1) (ok : Bool) :
    exec (.avsWriteVout ok) s = .next s := by
  have hnot : ¬ (s.pace.writeDue && ((s.minimal || (s.paceEn && !s.avsFault)) && s.pace.writeWin != s.paceWindow + 1)) = true := by
    rcases h with h | h
    · simp [h]
    · simp [h, State.paceWindow]
  rw [exec_avsWriteVout, execAvsWriteVout, if_neg hnot]

theorem avsWriteVout_fails (hdue : s.pace.writeDue = true) (hen : s.paceEn = true) (hfault : s.avsFault = false)
    (hwin : s.pace.writeWin ≠ s.fr / 10000 + 1) (hfails : 0 < s.pace.avsFails) :
    ∃ t, exec (.avsWriteVout false) s = .next t ∧ Faulted s t ∧ t.pace.writeDue = false :=
  ⟨_, execAvsWriteVout_due false hdue hen hfault hwin,
    avsResult_faults (u := s.writeOut false) (s.onBusAvs_acts _ _ _) rfl hfault hfails⟩

theorem avsReadVout_done (hwin : s.pace.readWin = s.fr / 10000 + 1) (ok : Bool) :
    exec (.avsReadVout ok mv) s = .next s := by
  rw [exec_avsReadVout, execAvsReadVout, if_neg (by simp [hwin, State.paceWindow])]

end

/-- The Read Vout of this window has gone out. -/
def State.readOut (s : State) : State :=
  s.onBusAvs (.avsRead (s.fld Reg.PACE_AVS 3 0)) { s.pace with readWin := s.fr / 10000 + 1 }

/-- The reading is shown (R72). -/
def State.readShown (s : State) (mv : Nat) : State := s.readOut.setFld Reg.PACE_VDD 25 16 mv

section
variable (s : State) (mv : Nat)

theorem State.readShown_acts : PaceActs s (s.readShown mv) {Reg.PACE_VDD} :=
  (s.onBusAvs_acts _ _ _).trans (.setFld _ _ _ _ rfl)

theorem State.readShown_fault : (s.readShown mv).avsFault = s.avsFault := (s.readShown_acts mv).flag (by decide) 5

theorem State.readShown_fld (h : mv < 1024) : (s.readShown mv).fld Reg.PACE_VDD 25 16 = mv := by
  rw [State.readShown, State.fld, State.reg_setFld, if_pos rfl, getF_setF_same _ _ (by omega) (by omega)]
  exact Nat.mod_eq_of_lt h

end

/-- The last commit is more than 8 us ago (R53). -/
def State.settled (s : State) : Bool :=
  match s.pace.lastCommit with
  | none => true
  | some t => decide (t + 8000 < s.fr)

/-- The reading is within 15 mV of VSET. -/
def nearVset (s : State) (mv : Nat) : Bool := decide (mv ≤ s.vset + 15 ∧ s.vset ≤ mv + 15)

/-- A near reading has cleared the fault. -/
def State.faultGone (s : State) : State :=
  (s.setFld Reg.PACE_STATUS 5 5 0).withPace { s.pace with avsFails := 0, cleared := true }

section
variable {s : State} {mv : Nat} (hen : s.paceEn = true) (hwin : s.pace.readWin ≠ s.fr / 10000 + 1)
include hen hwin

/-- A Read Vout that succeeds: a near reading clears a fault, a settled one that is far off declares one. -/
theorem execAvsReadVout_ok (hmv : mv < 1024) : exec (.avsReadVout true mv) s = .next (
    if (s.readShown mv).avsFault && nearVset s mv then
      (s.readShown mv).faultGone.paceJudge
    else if !nearVset s mv && ((s.readShown mv).avsResult true).settled then
      ((s.readShown mv).avsResult true).avsDeclare
    else (s.readShown mv).avsResult true) := by
  have hwin' : (s.pace.readWin != s.paceWindow + 1) = true := bne_iff_ne.2 hwin
  obtain ⟨u, hu⟩ : ∃ u, u = s.readOut.setVread mv := ⟨_, rfl⟩
  have hread : u = s.readShown mv := hu.trans (if_pos hmv)
  have hrow : exec (.avsReadVout true mv) s = if u.avsFault && nearVset s mv then .next u.faultGone.paceJudge
      else .next (if !nearVset s mv && (u.avsResult true).settled then (u.avsResult true).avsDeclare
        else u.avsResult true) := by
    rw [exec_avsReadVout, execAvsReadVout, if_pos (by simp [hen, hwin']), hu]
    rfl
  rw [hrow, hread]
  split <;> rfl

theorem execAvsReadVout_failed : exec (.avsReadVout false mv) s = .next (s.readOut.avsResult false) := by
  have hwin' : (s.pace.readWin != s.paceWindow + 1) = true := bne_iff_ne.2 hwin
  rw [exec_avsReadVout, execAvsReadVout, if_pos (by simp [hen, hwin'])]
  rfl

variable (hmv : mv < 1024)
include hmv

theorem avsReadVout_near (hfault : s.avsFault = false) (hnear : mv ≤ s.vset + 15 ∧ s.vset ≤ mv + 15) :
    exec (.avsReadVout true mv) s = .next { s.setFld Reg.PACE_VDD 25 16 mv with
      pins := .avsRead (s.fld Reg.PACE_AVS 3 0) :: s.pins
      pace := { s.pace with readWin := s.fr / 10000 + 1, avsFails := 0 } } := by
  rw [execAvsReadVout_ok hen hwin hmv, State.readShown_fault, hfault, nearVset, decide_eq_true hnear]
  rfl

theorem avsReadVout_far (hfault : s.avsFault = false) (hfar : ¬ (mv ≤ s.vset + 15 ∧ s.vset ≤ mv + 15))
    (hsettled : ∀ n, s.pace.lastCommit = some n → n + 8000 < s.fr) :
    ∃ t, exec (.avsReadVout true mv) s = .next t ∧ Faulted s t ∧ t.fld Reg.PACE_VDD 25 16 = mv := by
  obtain ⟨u, hu⟩ : ∃ u, u = (s.readShown mv).avsResult true := ⟨_, rfl⟩
  have hacts : PaceActs s u {Reg.PACE_VDD} := hu ▸ (s.readShown_acts mv).trans (.own _ _ _)
  have hlast : u.settled = true := by
    have hcommit : u.pace.lastCommit = s.pace.lastCommit := by rw [hu]; rfl
    rw [State.settled, hcommit, hacts.fr]
    split
    · rfl
    · next n hn => exact decide_eq_true (hsettled n hn)
  have hdeclared := State.avsDeclare_declares ((hacts.flag (by decide) 5).trans hfault)
  refine ⟨u.avsDeclare, ?_, faulted_avsDeclare hacts (by rw [hu]; rfl) hfault, ?_⟩
  · rw [execAvsReadVout_ok hen hwin hmv, State.readShown_fault, hfault, nearVset, decide_eq_false hfar, ← hu, hlast]
    rfl
  · rw [hdeclared.2.2.1.fld (by decide), hu]
    exact s.readShown_fld mv hmv

theorem avsReadVout_clears (hfault : s.avsFault = true) (hnear : mv ≤ s.vset + 15 ∧ s.vset ≤ mv + 15) :
    ∃ t, exec (.avsReadVout true mv) s = .next t ∧ t.avsFault = false ∧ t.pace.cleared = true ∧
      t.pace.avsFails = 0 ∧ t.fld Reg.PACE_VDD 25 16 = mv := by
  have hj := (s.readShown mv).faultGone.paceJudge_judged
  refine ⟨(s.readShown mv).faultGone.paceJudge, ?_, ?_, (congrArg Pace.cleared hj.pace :),
    (congrArg Pace.avsFails hj.pace :), ?_⟩
  · rw [execAvsReadVout_ok hen hwin hmv, State.readShown_fault, hfault, nearVset, decide_eq_true hnear]
    rfl
  · rw [State.avsFault, hj.status_flag (by decide) (by decide) (by decide), State.faultGone, State.flag,
      State.withPace_reg, State.reg_setFld, if_pos rfl, bitOf_setF_same _ _ (by omega), Nat.zero_testBit]
  · rw [hj.acts.fld (by decide), State.fld, State.faultGone, State.withPace_reg, State.reg_setFld, if_neg (by decide)]
    exact s.readShown_fld mv hmv

omit hmv in
theorem avsReadVout_fails (hfault : s.avsFault = false) (hfails : 0 < s.pace.avsFails) :
    ∃ t, exec (.avsReadVout false mv) s = .next t ∧ Faulted s t :=
  ⟨_, execAvsReadVout_failed hen hwin,
    (avsResult_faults (u := s.readOut) (s.onBusAvs_acts _ _ _) rfl hfault hfails).1⟩

end

/-- Settles O34: a window end reports, and with the governor on computes; the samplers count; the transactions of AVSBus
go out once in a window, and their failures declare a fault. -/
theorem paceWindowsAndAvsTransactions : Obligations.PaceWindowsAndAvsTransactions := by
  unfold Obligations.PaceWindowsAndAvsTransactions
  refine ⟨?_, ?_⟩
  · intro s x p ps cause opened
    have hdue : s.fr % 10000 = 0 → s.pace.win < s.fr / 10000 → s.windowDue = true := fun h0 hw => by
      simp [State.windowDue, State.paceWindow, h0, hw]
    refine ⟨fun h => execPaceWindowEnd_idle x ?_, fun h0 hw hruns => paceWindowEnd_off x (hdue h0 hw) hruns,
      fun h0 hw hruns => paceWindowEnd_on x (hdue h0 hw) hruns, fun hp => ⟨samplerRotate_moves hp, samplerRotate_early⟩,
      sampledTurnOverCeil_over, sampledTurnOverCeil_within⟩
    rcases h with h | h
    · simp [State.windowDue, h]
    · simp [State.windowDue, State.paceWindow, Nat.not_lt.2 h]
  · intro s mv now rail faulted near
    refine ⟨fun hd hen hfault hwin => ⟨execAvsWriteVout_due true hd hen hfault hwin,
        avsWriteVout_fails hd hen hfault hwin⟩, avsWriteVout_idle, avsReadVout_done, fun hen hmv hwin => ?_⟩
    exact ⟨avsReadVout_near hen hwin hmv, avsReadVout_far hen hwin hmv, avsReadVout_clears hen hwin hmv,
      avsReadVout_fails hen hwin⟩

end Sys2Proof.Machine

namespace Sys2Proof.Machine
open Sys2Proof

/-! ### Cells for a frame (R313, R314) -/

/-- From `s` to `t` cells have been allocated: only the Kennel and its registers have changed. -/
structure AllocOnly (s t : State) : Prop where
  regs : ∀ k < 0x800000, t.reg k = s.reg k
  rest : { t with regs := s.regs, kn := s.kn } = s

namespace AllocOnly

theorem refl (s : State) : AllocOnly s s := ⟨fun _ _ => rfl, rfl⟩

theorem trans {s t u : State} (h : AllocOnly s t) (h' : AllocOnly t u) : AllocOnly s u := by
  refine ⟨fun k hk => (h'.regs k hk).trans (h.regs k hk), ?_⟩
  have := h'.rest
  rw [← h.rest, ← this]

theorem setFld (s : State) {off : Nat} (hi lo x : Nat) (h : 0x800000 ≤ off) : AllocOnly s (s.setFld off hi lo x) :=
  ⟨fun k hk => by rw [State.reg_setFld, if_neg (by omega)], rfl⟩

theorem setCell (s : State) (h : Nat) (used : Bool) (next : Nat) : AllocOnly s (s.setCell h used next) :=
  ⟨fun _ _ => rfl, rfl⟩

theorem knTake (p : Nat) : ∀ (n first prev : Nat) (s : State), AllocOnly s (s.knTake p n first prev).2
  | 0, _, _, s => refl s
  | n + 1, first, prev, s => by
    rw [State.knTake]
    dsimp only
    split
    · exact refl s
    · next h _ =>
      refine AllocOnly.trans ?_ (knTake p n _ h _)
      refine AllocOnly.trans (t := if prev = KN_NULL then s.setCell h true KN_NULL
        else (s.setCell h true KN_NULL).setCell prev true h) ?_ (setFld _ _ _ _ (by unfold Reg.KN_CURSOR; omega))
      split
      · exact setCell s h _ _
      · exact (setCell s h _ _).trans (setCell _ _ _ _)

theorem knAlloc (s : State) (p n : Nat) : AllocOnly s (s.knAlloc p n).2 := by
  rw [State.knAlloc]
  split
  · exact refl s
  · split
    · exact ⟨fun k hk => by rw [State.reg_bump, if_neg (by unfold Reg.KN_EMPTY_CNT; omega)], rfl⟩
    · exact (knTake p n KN_NULL KN_NULL s).trans (setFld _ _ _ _ (by unfold Reg.KN_FREE_CNT; omega))

end AllocOnly

/-- A pool without the cells counts the refusal and keeps the rest (R314). -/
theorem State.knAlloc_none {s : State} {p n : Nat} (h : (s.knAlloc p n).1 = none) :
    (s.knAlloc p n).2 = s.bump (Reg.KN_EMPTY_CNT p) := by
  rw [State.knAlloc] at h ⊢
  split at h
  · simp at h
  · next hn =>
    rw [if_neg hn]
    split at h
    · next hfew => rw [if_pos hfew]
    · simp at h

/-! ### What admission leaves as it was -/

/-- From `s` to `u` a frame has been put into cells: what the job is made from, and where it goes, stands. -/
structure InCells (s u : State) : Prop where
  regs : ∀ k < 0x800000, u.reg k = s.reg k
  rest : { u with regs := s.regs, kn := s.kn, mem := s.mem } = s
  mem : { u.mem with cells := s.mem.cells } = s.mem

theorem AllocOnly.inCells {s u : State} (h : AllocOnly s u) (c : Nat) (b : List Byte) : InCells s (u.putFrame c b) := by
  have hrest := h.rest
  have hmem : u.mem = s.mem := (congrArg State.mem hrest :)
  exact ⟨h.regs, congrArg (fun v : State => { v with mem := s.mem }) hrest, by rw [State.putFrame, hmem]⟩

namespace InCells

variable {s u : State} (h : InCells s u)
include h

theorem chip : u.chip = s.chip := (congrArg State.chip h.rest :)
theorem fr : u.fr = s.fr := (congrArg State.fr h.rest :)
theorem herd : u.herd = s.herd := (congrArg State.herd h.rest :)
theorem disp : u.disp = s.disp := (congrArg State.disp h.rest :)
theorem ports : u.ports = s.ports := (congrArg State.ports h.rest :)
theorem ctxs : u.ctxs = s.ctxs := (congrArg State.ctxs h.rest :)
theorem engs : u.engs = s.engs := (congrArg State.engs h.rest :)
theorem flow : u.mem.flow = s.mem.flow := (congrArg Mems.flow h.mem :)

theorem classMap (e c : Nat) : u.classMap e c = s.classMap e c := by
  have hreg : u.reg (if e = 0 then Reg.DSP_CLASS_MAP0 else Reg.DSP_CLASS_MAP1) =
      s.reg (if e = 0 then Reg.DSP_CLASS_MAP0 else Reg.DSP_CLASS_MAP1) :=
    h.regs _ (by split <;> decide)
  rw [State.classMap, State.classMap, hreg]

theorem frameQueue (f : IFrame) : u.frameQueue f = s.frameQueue f := by
  rw [State.frameQueue, State.frameQueue, State.shardOf, State.shardOf, State.lastEng, State.lastEng, h.classMap, h.flow,
    h.chip]

theorem od (d : Nat) : u.od d = s.od d := by rw [State.od, State.od, h.herd]

theorem frameJob (f : IFrame) (c : Nat) : u.frameJob f c = s.frameJob f c := by
  rw [State.frameJob, State.frameJob, h.classMap, h.od]

end InCells

/-- The queue of a frame is one of the 32 (R221, R222). -/
theorem State.frameQueue_lt (s : State) (f : IFrame) : s.frameQueue f < 32 := by
  have hprio : (s.classMap f.epoch f.cls).1 < 8 := by
    refine (getF_lt _ _ _).trans_le ?_
    rw [show 4 * f.cls + 2 + 1 - 4 * f.cls = 3 by omega]
    decide
  have hpacks := s.chip.packs_le
  have hshard : s.shardOf f.od < 4 := by
    rw [State.shardOf]
    split
    · next e he =>
      rw [State.lastEng] at he
      split at he
      · cases he
        omega
      · cases he
    · have h4 : s.chip.shards ≤ 4 ∧ 0 < s.chip.shards := by
        unfold Chip.shards Chip.packs
        split <;> decide
      exact (Nat.mod_lt _ h4.2).trans_le h4.1
  rw [State.frameQueue]
  omega

end Sys2Proof.Machine

namespace Sys2Proof.Machine
open Sys2Proof

/-! ### A job enters its queue (R221, R223, R256) -/

theorem State.peakF_onlyRegs (s : State) (off hi lo x : Nat) : OnlyRegs s (s.peakF off hi lo x) [off] := by
  rw [State.peakF]
  split
  · exact ⟨fun k hk => by rw [State.reg_setFld, if_neg (by simpa using hk)], rfl⟩
  · exact ⟨fun _ _ => rfl, rfl⟩

/-- The back-pressure of a queue is set. -/
def State.withBp (s : State) (q : Nat) (b : Bool) : State :=
  { s with disp := { s.disp with bp := Tab.set false s.disp.bp q b } }

/-- The back-pressure of a queue and its peak are all that a refresh touches (R241, R251). -/
theorem State.qRefresh_onlyRegs (s : State) (q : Nat) :
    ∃ b, OnlyRegs (s.withBp q b) (s.qRefresh q) [Reg.DSP_QSTAT q] :=
  ⟨_, State.peakF_onlyRegs _ _ 30 16 (s.qDepth q)⟩

/-- The tail of the queue and the record of a job that enters it. -/
def State.queued (s : State) (j q : Nat) : State :=
  { s with disp := { s.disp with queues := Tab.set [] s.disp.queues q (s.dq q ++ [j]) } }.updJob j fun x =>
    { x with place := .queue q, shard := q / 8, enqNs := s.fr % 2 ^ 32, enqAt := s.fr, parkedOnce := false }

theorem State.enqueue_eq (s : State) (j q : Nat) : s.enqueue j q false = (s.queued j q).qRefresh q := rfl

/-- What a state has when a job has entered a queue at its tail. -/
structure Enqueued (s t : State) (j q : Nat) : Prop where
  rest : { t with regs := s.regs, disp := s.disp, herd := s.herd } = s
  regs : ∀ k, k ≠ Reg.DSP_QSTAT q → t.reg k = s.reg k
  queue : t.dq q = s.dq q ++ [j]
  job : t.job j = { s.job j with
    place := .queue q, shard := q / 8, enqNs := s.fr % 2 ^ 32, enqAt := s.fr, parkedOnce := false }
  doms : t.herd.doms = s.herd.doms
  nextJob : t.herd.nextJob = s.herd.nextJob

theorem State.enqueue_enqueued (s : State) (j q : Nat) : Enqueued s (s.enqueue j q false) j q := by
  obtain ⟨b, hreg, hrest⟩ := (s.queued j q).qRefresh_onlyRegs q
  rw [State.enqueue_eq]
  generalize (s.queued j q).qRefresh q = t at hreg hrest
  have hherd : t.herd = (s.queued j q).herd := (congrArg State.herd hrest :)
  have hdisp : t.disp = ((s.queued j q).withBp q b).disp := (congrArg State.disp hrest :)
  constructor
  · exact (congrArg (fun u : State => { u with regs := s.regs, disp := s.disp, herd := s.herd }) hrest :)
  · exact fun k hk => hreg k (by simpa using hk)
  · rw [State.dq, hdisp]
    exact (Tab.get_set _ _ _ _ _).trans (if_pos rfl)
  · rw [State.job, hherd]
    exact (Tab.get_set _ _ _ _ _).trans (if_pos rfl)
  · rw [hherd]; rfl
  · rw [hherd]; rfl

/-- The hole timer of a domain may start anew; its sequence numbers stand (R265). -/
theorem State.startTimer_eq (s : State) (d : Nat) :
    ∃ x : Domain, x.next = (s.od d).next ∧ (s.startTimer d = s.setOd d x ∨ s.startTimer d = s) := by
  rw [State.startTimer]
  split
  · exact ⟨s.od d, rfl, .inr rfl⟩
  · exact ⟨_, by exact rfl, .inl rfl⟩

/-- A domain whose timer is started. -/
structure TimerOnly (s t : State) (d : Nat) : Prop where
  rest : { t with herd := { t.herd with doms := s.herd.doms } } = s
  next : (t.od d).next = (s.od d).next
  others : ∀ i, i ≠ d → t.od i = s.od i

theorem State.startTimer_only (s : State) (d : Nat) : TimerOnly s (s.startTimer d) d := by
  obtain ⟨x, hnext, hset | hsame⟩ := s.startTimer_eq d
  · rw [hset]
    exact ⟨rfl, by rw [State.od_setOd, if_pos rfl, hnext], fun i hi => by rw [State.od_setOd, if_neg hi]⟩
  · rw [hsame]
    exact ⟨rfl, rfl, fun _ _ => rfl⟩

/-! ### JOB_CREATE (R256, R270) -/

/-- The job of a frame is entered, its domain counts it, and so does its epoch. -/
def State.jobEntered (s : State) (f : IFrame) (h : Nat) : State :=
  let u := { s.setJob s.herd.nextJob (s.frameJob f h) with
    pace := if (s.frameJob f h).tclass then s.pace else { s.pace with made := s.pace.made + 1 } }
  let u := { u with herd := { u.herd with nextJob := s.herd.nextJob + 1 } }
  (u.setOd f.od { s.od f.od with next := (s.od f.od).next + 1 }).setFld (epochCnt f.epoch) 17 0
    (s.fld (epochCnt f.epoch) 17 0 + 1)

theorem State.createJob_eq (s : State) (f : IFrame) (h : Nat) : s.createJob f h =
    ((s.jobEntered f h).enqueue s.herd.nextJob (s.frameQueue f) false).startTimer f.od := rfl

/-- `u` with the registers, the Dispatcher, the Herder and Pace of `s`. -/
def State.withRegsDispHerdPace (s u : State) : State :=
  { u with regs := s.regs, disp := s.disp, herd := s.herd, pace := s.pace }

theorem State.jobEntered_rest (s : State) (f : IFrame) (h : Nat) : s.withRegsDispHerdPace (s.jobEntered f h) = s := by
  have hregs : ∀ (u : State) (off hi lo x : Nat), s.withRegsDispHerdPace (u.setFld off hi lo x) =
      s.withRegsDispHerdPace u := fun _ _ _ _ _ => rfl
  have hod : ∀ (u : State) (d : Nat) (x : Domain), s.withRegsDispHerdPace (u.setOd d x) = s.withRegsDispHerdPace u :=
    fun _ _ _ => rfl
  have hherd : ∀ (u : State) (x : Herd), s.withRegsDispHerdPace { u with herd := x } = s.withRegsDispHerdPace u :=
    fun _ _ => rfl
  have hpace : ∀ (u : State) (x : Pace), s.withRegsDispHerdPace { u with pace := x } = s.withRegsDispHerdPace u :=
    fun _ _ => rfl
  rw [State.jobEntered, hregs, hod, hherd, hpace, State.setJob, hherd]
  rfl

/-- What a state has when the job of frame `f`, in the cells from `h`, has been created. -/
structure Created (s t : State) (f : IFrame) (h : Nat) : Prop where
  nextJob : t.herd.nextJob = s.herd.nextJob + 1
  queue : t.dq (s.frameQueue f) = s.dq (s.frameQueue f) ++ [s.herd.nextJob]
  next : (t.od f.od).next = (s.od f.od).next + 1
  others : ∀ d, d ≠ f.od → t.od d = s.od d
  job : t.job s.herd.nextJob = { s.frameJob f h with
    place := .queue (s.frameQueue f), shard := s.frameQueue f / 8, enqNs := s.fr % 2 ^ 32, enqAt := s.fr }
  epoch : t.fld (epochCnt f.epoch) 17 0 = (s.fld (epochCnt f.epoch) 17 0 + 1) % 2 ^ 18
  rest : s.withRegsDispHerdPace t = s

theorem State.createJob_created (s : State) (f : IFrame) (h : Nat) : Created s (s.createJob f h) f h := by
  have hq := (s.jobEntered f h).enqueue_enqueued s.herd.nextJob (s.frameQueue f)
  have ht := ((s.jobEntered f h).enqueue s.herd.nextJob (s.frameQueue f) false).startTimer_only f.od
  rw [State.createJob_eq]
  generalize (s.jobEntered f h).enqueue s.herd.nextJob (s.frameQueue f) false = v at hq ht
  generalize v.startTimer f.od = t at ht
  have hlt := s.frameQueue_lt f
  have hod : ∀ d, v.od d = (s.jobEntered f h).od d := fun d => by rw [State.od, State.od, hq.doms]
  constructor
  · rw [(congrArg (fun u : State => u.herd.nextJob) ht.rest :), hq.nextJob]
    rfl
  · rw [State.dq, (congrArg State.disp ht.rest :)]
    exact hq.queue
  · rw [ht.next, hod]
    exact congrArg Domain.next ((State.od_setOd _ _ _ _).trans (if_pos rfl))
  · intro d hd
    rw [ht.others d hd, hod]
    exact (State.od_setOd _ _ _ _).trans (if_neg hd)
  · rw [State.job, (congrArg (fun u : State => u.herd.jobs) ht.rest :)]
    refine hq.job.trans ?_
    have hjob : (s.jobEntered f h).job s.herd.nextJob = s.frameJob f h := (State.job_setJob _ _ _ _).trans (if_pos rfl)
    rw [hjob]
    rfl
  · have hne : epochCnt f.epoch ≠ Reg.DSP_QSTAT (s.frameQueue f) := by
      unfold epochCnt Reg.HERD_EPOCH_CNT Reg.DSP_QSTAT
      omega
    have hreg : t.reg (epochCnt f.epoch) = (s.jobEntered f h).reg (epochCnt f.epoch) :=
      (State.reg_congr (congrArg State.chip ht.rest) (congrArg State.regs ht.rest) _).trans
        (hq.regs _ hne)
    have hset : t.reg (epochCnt f.epoch) =
        setF (s.reg (epochCnt f.epoch)) 17 0 (s.fld (epochCnt f.epoch) 17 0 + 1) := by
      rw [hreg, State.jobEntered, State.reg_setFld, if_pos rfl]
      rfl
    rw [State.fld, hset, getF_setF_same _ _ (by decide) (by decide)]
  · have hv := congrArg (State.withRegsDispHerdPace s) ht.rest
    have hu := congrArg (State.withRegsDispHerdPace s) hq.rest
    exact hv.trans (hu.trans (s.jobEntered_rest f h))

namespace Created

variable {s t : State} {f : IFrame} {h : Nat} (hc : Created s t f h)
include hc

theorem mem : t.mem = s.mem := (congrArg State.mem hc.rest :)
theorem ports : t.ports = s.ports := (congrArg State.ports hc.rest :)
theorem ctxs : t.ctxs = s.ctxs := (congrArg State.ctxs hc.rest :)
theorem engs : t.engs = s.engs := (congrArg State.engs hc.rest :)

end Created

end Sys2Proof.Machine

namespace Sys2Proof.Machine
open Sys2Proof

/-! ### The frame leaves its FIFO (R242, R256) -/

/-- From `s` to `t` the head of one FIFO of a port has left it: the rest of the FIFO, and its PFC. -/
structure Popped (s t : State) (port c : Nat) : Prop where
  fifo : t.fifo port c = (s.fifo port c).tail
  rest : { t with ports := s.ports, pins := s.pins } = s

theorem State.fifoPop_popped {s : State} {port : Nat} (hp : port < 128) (c : Nat) : Popped s (s.fifoPop port c) port c := by
  rw [State.fifoPop, if_pos hp]
  constructor
  · rw [State.pfcTest_fifo, State.fifo_setFifo, if_pos rfl]
  · exact congrArg (fun u : State => { u with ports := s.ports, pins := s.pins })
      (State.pfcTest_rest (s.setFifo port c (s.fifo port c).tail) port c)

namespace Popped

variable {s t : State} {port c : Nat} (h : Popped s t port c)
include h

theorem disp : t.disp = s.disp := (congrArg State.disp h.rest :)
theorem herd : t.herd = s.herd := (congrArg State.herd h.rest :)
theorem mem : t.mem = s.mem := (congrArg State.mem h.rest :)
theorem ctxs : t.ctxs = s.ctxs := (congrArg State.ctxs h.rest :)
theorem engs : t.engs = s.engs := (congrArg State.engs h.rest :)
theorem reg (k : Nat) : t.reg k = s.reg k :=
  State.reg_congr (congrArg State.chip h.rest) (congrArg State.regs h.rest) k

end Popped

/-! ### What FRAME_ADMIT does with the head of a FIFO -/

/-- Neither the queue of a frame nor throttling holds it (R66, R240). -/
def State.MayAdmit (s : State) (f : IFrame) : Prop :=
  s.queueAdmits (s.frameQueue f) = true ∧ ((s.classMap f.epoch f.cls).2 = true ∨ s.throttleRoom = true)

theorem State.mayAdmit_iff (s : State) (f : IFrame) : s.MayAdmit f ↔
    ¬ (!s.queueAdmits (s.frameQueue f) || (!(s.classMap f.epoch f.cls).2 && !s.throttleRoom)) = true := by
  rw [State.MayAdmit]
  cases s.queueAdmits (s.frameQueue f) <;> cases (s.classMap f.epoch f.cls).2 <;> cases s.throttleRoom <;> decide

section

variable {s : State} {port c : Nat} {f : IFrame} {rest : List IFrame} (hf : s.fifo port c = f :: rest)
include hf

/-- A full window holds the frame (R257). -/
theorem State.admitOne_full (hw : s.window f.od = 8192) : s.admitOne port c = s.winStall port c f rest := by
  rw [State.admitOne, hf]
  exact if_pos hw

/-- The queue or throttling holds the frame (R66, R240). -/
theorem State.admitOne_held (hw : s.window f.od ≠ 8192)
    (hmay : ¬ s.MayAdmit f) :
    s.admitOne port c = s := by
  rw [State.admitOne, hf]
  dsimp only
  rw [if_neg hw, if_pos (not_not.mp fun h => hmay ((s.mayAdmit_iff f).mpr h))]

/-- An admitted frame asks its pool for cells (R240, R313). -/
theorem State.admitOne_asks (hw : s.window f.od ≠ 8192)
    (hmay : s.MayAdmit f) :
    s.admitOne port c =
      let a := s.knAlloc f.pool (unitsOf f.bytes.length)
      match a.1 with
      | none => (a.2.dropped .cells port).fifoPop port c
      | some h => ((a.2.putFrame h f.bytes).createJob f h).fifoPop port c := by
  rw [State.admitOne, hf]
  dsimp only
  rw [if_neg hw, if_neg ((s.mayAdmit_iff f).mp hmay)]
  rcases s.knAlloc f.pool (unitsOf f.bytes.length) with ⟨_ | _, _⟩ <;> rfl

/-- An admitted frame whose pool has no cells is dropped; only its counters and its FIFO show it (R313). -/
theorem State.admitOne_noCells (hp : port < 128) (hw : s.window f.od ≠ 8192)
    (hmay : s.MayAdmit f)
    (hno : (s.knAlloc f.pool (unitsOf f.bytes.length)).1 = none) :
    ∃ u : State, Popped u (s.admitOne port c) port c ∧ u.fifo port c = f :: rest ∧
      u.reg (Reg.KN_EMPTY_CNT f.pool) = W (satInc 32 (s.reg (Reg.KN_EMPTY_CNT f.pool)).toNat) ∧
      { u with regs := s.regs, ports := s.ports } = s := by
  rw [State.admitOne_asks hf hw hmay]
  dsimp only
  rw [hno, State.knAlloc_none hno]
  refine ⟨_, State.fifoPop_popped hp c, hf, ?_, rfl⟩
  exact (State.reg_bump s _ _).trans (if_pos rfl)

/-- An admitted frame with cells becomes a job (R256). -/
theorem State.admitOne_job (hp : port < 128) (hw : s.window f.od ≠ 8192)
    (hmay : s.MayAdmit f)
    {h : Nat} (hsome : (s.knAlloc f.pool (unitsOf f.bytes.length)).1 = some h) :
    ∃ u v : State, InCells s u ∧ Created u v f h ∧ Popped v (s.admitOne port c) port c := by
  rw [State.admitOne_asks hf hw hmay]
  dsimp only
  rw [hsome]
  exact ⟨_, _, (AllocOnly.knAlloc s _ _).inCells h f.bytes, State.createJob_created _ f h, State.fifoPop_popped hp c⟩

end

/-- The count of jobs of an epoch is none of the Kennel's registers. -/
theorem epochCnt_lt (e : Nat) : epochCnt e < 0x800000 := by
  unfold epochCnt Reg.HERD_EPOCH_CNT
  omega

/-- Settles O38: what admission does in each of its four outcomes; the job made is the one of the state after the cells
were taken, which agrees with the state before in all that the job and its queue are made from. -/
theorem admittedFramesBecomeJobs : Obligations.AdmittedFramesBecomeJobs := by
  unfold Obligations.AdmittedFramesBecomeJobs
  intro s port c f rest hrun hp hf
  dsimp only
  have hexec : exec (.frameAdmit port c) s = .next (s.admitOne port c) := if_pos hrun
  rw [hexec]
  refine ⟨fun hw hmay h hsome => ?_, fun hw hmay hno => ?_, fun hw hmay => ?_, fun hw => ?_⟩
  · obtain ⟨u, v, hu, hv, ht⟩ := State.admitOne_job hf hp hw hmay hsome
    generalize s.admitOne port c = t at ht
    have hnext : u.herd.nextJob = s.herd.nextJob := by rw [hu.herd]
    have hfr : u.fr = s.fr := hu.fr
    have hq := hu.frameQueue f
    have hod : ∀ d, t.od d = v.od d := fun d => by rw [State.od, State.od, ht.herd]
    have hmem : t.mem = u.mem := ht.mem.trans hv.mem
    refine ⟨t, rfl, ?_, ?_, ?_, ?_, ?_, ?_, ?_, ?_, ?_, ?_⟩
    · rw [ht.fifo, State.fifo, hv.ports, hu.ports]
      exact congrArg List.tail hf
    · rw [ht.herd, hv.nextJob, hnext]
    · rw [State.dq, ht.disp, ← hq]
      refine hv.queue.trans ?_
      rw [State.dq, State.dq, hu.disp, hnext]
    · rw [hod, hv.next, hu.od]
    · exact fun d hd => by rw [hod, hv.others d hd, hu.od]
    · rw [State.job, ht.herd, ← hnext]
      refine hv.job.trans ?_
      rw [hu.frameJob, hq, hfr]
    · rw [State.fld, ht.reg]
      refine hv.epoch.trans ?_
      rw [State.fld, State.fld, hu.regs _ (epochCnt_lt _)]
    · rw [ht.ctxs, hv.ctxs, hu.ctxs]
    · rw [ht.engs, hv.engs, hu.engs]
    · rw [hmem, hu.mem]
  · obtain ⟨u, ht, hfifo, hreg, hrest⟩ := State.admitOne_noCells hf hp hw hmay hno
    generalize s.admitOne port c = t at ht
    refine ⟨t, rfl, ?_, ?_, ?_, ?_, ?_⟩
    · rw [ht.fifo, hfifo]
      rfl
    · exact ht.herd.trans (congrArg State.herd hrest :)
    · exact ht.disp.trans (congrArg State.disp hrest :)
    · rw [ht.reg, hreg]
    · exact ht.mem.trans (congrArg State.mem hrest :)
  · rw [State.admitOne_held hf hw hmay]
  · rw [State.admitOne_full hf hw]
    refine ⟨fun hst => ?_, fun hst => ?_⟩
    · rw [State.winStall, if_pos hst]
    · rw [State.winStall, if_neg (by simp [hst])]
      refine ⟨_, rfl, ?_, ?_, rfl⟩
      · exact (State.fifo_setFifo _ _ _ _ _ _).trans (if_pos rfl)
      · exact (State.reg_bump _ _ _).trans (if_pos rfl)

end Sys2Proof.Machine

namespace Sys2Proof.Machine
open Sys2Proof

/-! ### The chosen context and the held ones (R98, R123, R157) -/

/-- The context that issues is ready (R157). -/
theorem State.choice_ready {s : State} {e c rp : Nat} (h : s.choice e = some (c, rp)) : (s.ctx c).ready = true := by
  rw [State.choice] at h
  dsimp only at h
  split at h
  · next r hr =>
    cases h
    obtain ⟨k, -, hk⟩ := Option.bind_eq_some_iff.mp hr
    split at hk
    · next hready => cases hk; exact hready
    · cases hk
  · obtain ⟨i, hi, hc⟩ := Option.map_eq_some_iff.mp h
    cases hc
    have := List.find?_some hi
    exact (Bool.and_eq_true_iff.mp this).1

theorem State.heldBack_nodup (s : State) (e : Nat) : (s.heldBack e).Nodup := by
  rw [State.heldBack]
  dsimp only
  split
  · exact List.nodup_nil
  · exact List.nodup_dedup _

theorem State.heldBack_held {s : State} {e n : Nat} (h : n ∈ s.heldBack e) : (s.ctx n).held = true := by
  rw [State.heldBack] at h
  dsimp only at h
  split at h
  · cases h
  · exact (List.mem_filter.mp (List.mem_dedup.mp h)).2

/-- A context that issues spends no hold. -/
theorem State.choice_notHeld {s : State} {e c rp : Nat} (h : s.choice e = some (c, rp)) : c ∉ s.heldBack e := by
  intro hc
  have hready := State.choice_ready h
  have hheld := State.heldBack_held hc
  simp only [Ctx.ready, Ctx.held, Bool.and_eq_true, beq_iff_eq, decide_eq_true_eq] at hready hheld
  omega

/-! ### The slot advances and the held contexts spend an opportunity -/

/-- Context `n` has spent one issue opportunity of its hold. -/
def State.spendHold (s : State) (n : Nat) : State := s.updCtx n fun x => { x with hold := x.hold - 1 }

theorem State.spendHolds_rest : ∀ (l : List Nat) (s : State), { l.foldl State.spendHold s with ctxs := s.ctxs } = s
  | [], _ => rfl
  | a :: l, s => congrArg (fun u : State => { u with ctxs := s.ctxs }) (State.spendHolds_rest l (s.spendHold a))

theorem State.ctx_spendHolds : ∀ {l : List Nat} (_ : l.Nodup) (s : State) (n : Nat),
    (l.foldl State.spendHold s).ctx n = if n ∈ l then { s.ctx n with hold := (s.ctx n).hold - 1 } else s.ctx n
  | [], _, s, n => by simp
  | a :: l, hl, s, n => by
    obtain ⟨ha, hl⟩ := List.nodup_cons.mp hl
    rw [List.foldl_cons, State.ctx_spendHolds hl, State.spendHold, State.ctx_updCtx]
    by_cases hn : n = a
    · subst hn
      rw [if_neg ha, if_pos rfl, if_pos List.mem_cons_self]
    · rw [if_neg hn]
      simp only [List.mem_cons, hn, false_or]

/-- Engine `e` as `f` makes it, with its slot advanced (R155). -/
def State.nextSlot (s : State) (e : Nat) (f : Eng → Eng) : State :=
  (s.updEng e f).updEng e fun g => { g with slot := (g.slot + 1) % s.wheelLen (packOfEng e) }

theorem State.nextSlot_rest (s : State) (e : Nat) (f : Eng → Eng) : { s.nextSlot e f with engs := s.engs } = s := by
  have hrest : ∀ (u : State) (g : Eng → Eng), { u.updEng e g with engs := s.engs } = { u with engs := s.engs } :=
    fun _ _ => rfl
  rw [State.nextSlot, hrest, hrest]

theorem State.eng_nextSlot (s : State) (e n : Nat) (f : Eng → Eng) : (s.nextSlot e f).eng n =
    if n = e then { f (s.eng e) with slot := ((f (s.eng e)).slot + 1) % s.wheelLen (packOfEng e) } else s.eng n := by
  rw [State.nextSlot, State.eng_updEng]
  split
  · rw [State.eng_updEng, if_pos rfl]
  · next h => rw [State.eng_updEng, if_neg h]

/-- The slot of engine `e` has advanced, and the holds of this turn are spent. -/
def State.advance (s : State) (e : Nat) (f : Eng → Eng) : State :=
  (s.heldBack e).foldl State.spendHold (s.nextSlot e f)

/-- Context `n` after a turn of engine `e` in which it does not issue (R98, R123). -/
def State.spent (s : State) (e n : Nat) : Ctx :=
  if n ∈ s.heldBack e then { s.ctx n with hold := (s.ctx n).hold - 1 } else s.ctx n

/-- What a state has once the wheel of engine `e` has advanced: the engine, but for its slot, is `g`. -/
structure Advanced (s t : State) (e : Nat) (g : Eng) : Prop where
  rest : { t with engs := s.engs, ctxs := s.ctxs } = s
  others : ∀ n, n ≠ e → t.eng n = s.eng n
  eng : t.eng e = { g with slot := (g.slot + 1) % s.wheelLen (packOfEng e) }
  ctx : ∀ n, t.ctx n = s.spent e n

theorem State.advance_advanced (s : State) (e : Nat) (f : Eng → Eng) : Advanced s (s.advance e f) e (f (s.eng e)) := by
  have hslot := s.nextSlot_rest e f
  have heng := fun n => s.eng_nextSlot e n f
  have hctx := State.ctx_spendHolds (s.heldBack_nodup e) (s.nextSlot e f)
  have hrest := State.spendHolds_rest (s.heldBack e) (s.nextSlot e f)
  rw [← State.advance] at hctx hrest
  generalize s.nextSlot e f = u at hslot heng hctx hrest
  generalize s.advance e f = t at hctx hrest
  have hengs : t.engs = u.engs := (congrArg State.engs hrest :)
  have hteng : ∀ n, t.eng n = u.eng n := fun n => by rw [State.eng, State.eng, hengs]
  have huctx : ∀ n, u.ctx n = s.ctx n := fun n => (congrArg (fun v : State => v.ctx n) hslot :)
  constructor
  · rw [← hslot, ← hrest]
  · exact fun n hn => by rw [hteng, heng, if_neg hn]
  · rw [hteng, heng, if_pos rfl]
  · exact fun n => by rw [hctx, huctx, State.spent]

/-- The engine that has issued: its rotation pointer and its count of turns of class (R157, R244). -/
def Eng.issued (g : Eng) (rp : Nat) (tclass : Bool) : Eng :=
  if tclass then { g with rp := rp, turnsT := g.turnsT + 1, watch := 0, bubbles := 0 }
  else { g with rp := rp, turnsE := g.turnsE + 1, watch := 0, bubbles := 0 }

theorem State.stepWaits_self {s : State} {e : Nat} (h : ∀ c ∈ s.liveOf e, (s.ctx c).stepWait = false) :
    s.stepWaits e = s := by
  rw [State.stepWaits]
  refine List.foldlRecOn (motive := (· = s)) _ _ rfl ?_
  rintro _ rfl c hc
  simp [h c hc]

section

variable {s : State} {e : Nat} (hstep : ∀ c ∈ s.liveOf e, (s.ctx c).stepWait = false)
include hstep

theorem State.turn_issue {c rp : Nat} (hc : s.choice e = some (c, rp)) :
    s.turn e = ((s.advance e (·.issued rp (s.ctx c).tclass)).sampleTurn e).fetch c := by
  rw [State.turn, State.stepWaits_self hstep]
  dsimp only
  rw [hc]
  rfl

theorem State.turn_bubble (hc : s.choice e = none) :
    s.turn e = (s.advance e fun g => { g with turnsB := g.turnsB + 1 }).watchTurn e := by
  rw [State.turn, State.stepWaits_self hstep]
  dsimp only
  rw [hc]
  rfl

end

/-! ### A bubble (R165) -/

theorem State.stuck_congr {s t : State} (hl : ∀ n, (t.ctx n).live = (s.ctx n).live)
    (hw : ∀ n, (t.ctx n).wait = (s.ctx n).wait) (e : Nat) : t.stuck e = s.stuck e := by
  have hlive : t.liveOf e = s.liveOf e := by simp only [State.liveOf, hl]
  simp only [State.stuck, hlive, Ctx.counted, hw]

theorem Advanced.stuck {s t : State} {e : Nat} {g : Eng} (h : Advanced s t e g) : t.stuck e = s.stuck e := by
  refine State.stuck_congr (fun n => ?_) (fun n => ?_) e <;> rw [h.ctx, State.spent] <;> split <;> rfl

theorem State.watchTurn_free {s : State} {e : Nat} (h : s.stuck e = false) :
    s.watchTurn e = s.updEng e fun g => { g with watch := 0, bubbles := 0 } := by
  rw [State.watchTurn]
  exact if_pos (by simp [h])

/-! ### The fetch (R92, R122, R126) -/

theorem State.eccRead_clean {s : State} (h : s.hub.flips = []) (mem inst addr n : Nat) :
    s.eccRead mem inst addr n = (false, s) := by
  rw [State.eccRead, h]
  rfl

/-- The turns of an instruction depend on its context, the memories and the job (R122, R124). -/
theorem State.turnsOf_congr {s t : State} {c : Nat} (hctx : t.ctx c = s.ctx c) (hmem : t.mem = s.mem)
    (hherd : t.herd = s.herd) (op : EOp) (o : Operands) : t.turnsOf c op o = s.turnsOf c op o := by
  have hg : t.greg c 14 = s.greg c 14 := by rw [State.greg, State.greg, if_pos (by omega), if_pos (by omega), hctx]
  have hread : ∀ a, t.dread c a 4 = s.dread c a 4 := fun a => by
    simp only [State.dread, State.jobOf, State.job, State.mwRead, hctx, hmem, hherd]
  simp only [State.turnsOf, hg, hread]

/-- The instruction of context `c` is latched (R122). -/
def State.latch (s : State) (i : Issue) : State :=
  (s.updCtx i.ctx fun y => { y with multi := 0 }).updEng (engOf i.ctx) fun g => { g with issue := some i }

/-- A turn of context `c` is the last one of its instruction (R122). -/
abbrev State.LastTurn (s : State) (c : Nat) (op : EOp) (o : Operands) : Prop :=
  (s.ctx c).multi = 1 ∨ ((s.ctx c).multi = 0 ∧ s.turnsOf c op o ≤ 1)

/-- A decoded instruction of a store without errors is latched in its last turn, and its turns count down before. -/
theorem State.fetch_decoded {s : State} {c : Nat} {op : EOp} {o : Operands} {len : Nat} (hflips : s.hub.flips = [])
    (hdec : decodeBytes (s.codeAt (packOf c) (s.ctx c).pc.toNat) = some (op, o, len)) :
    s.fetch c =
      if s.LastTurn c op o then s.latch ⟨c, op, o, len⟩
      else s.updCtx c fun y =>
        { y with multi := if 1 < y.multi then y.multi - 1 else s.turnsOf c op o - 1 } := by
  rw [State.fetch]
  dsimp only
  rw [hdec]
  dsimp only
  by_cases h1 : 1 < (s.ctx c).multi
  · rw [if_pos h1, if_neg (by omega), State.updCtx, State.updCtx, if_pos h1]
  · rw [if_neg h1]
    by_cases h2 : (s.ctx c).multi = 1
    · rw [if_pos h2, if_pos (.inl h2)]
      rfl
    · rw [if_neg h2, State.eccRead_clean hflips]
      dsimp only
      by_cases h3 : 1 < s.turnsOf c op o
      · rw [if_pos h3, if_neg (by omega), State.updCtx, State.updCtx, if_neg h1]
      · rw [if_neg h3, if_pos (.inr ⟨by omega, by omega⟩)]
        rfl

end Sys2Proof.Machine

namespace Sys2Proof.Machine
open Sys2Proof

/-! ### The sampler (R44) -/

theorem State.sampleTurn_rest (s : State) (e : Nat) : { s.sampleTurn e with pace := s.pace } = s := by
  rw [State.sampleTurn]
  dsimp only
  split <;> rfl

theorem State.sampleTurn_pace (s : State) (e : Nat) :
    { (s.sampleTurn e).pace with samples := s.pace.samples } = s.pace := by
  rw [State.sampleTurn]
  dsimp only
  split <;> rfl

theorem State.sampleTurn_samples (s : State) (e p : Nat) : Tab.get 0 (s.sampleTurn e).pace.samples p =
    if p = packOfEng e ∧ Tab.get 0 s.pace.sampler p = e % 16 then Tab.get 0 s.pace.samples p + 1
    else Tab.get 0 s.pace.samples p := by
  rw [State.sampleTurn]
  dsimp only
  by_cases hs : Tab.get 0 s.pace.sampler (packOfEng e) = e % 16
  · rw [if_pos hs]
    dsimp only
    rw [Tab.get_set]
    by_cases hp : p = packOfEng e
    · subst hp
      rw [if_pos rfl, if_pos ⟨rfl, hs⟩]
    · rw [if_neg hp, if_neg fun h => hp h.1]
  · rw [if_neg hs, if_neg]
    rintro ⟨rfl, h⟩
    exact hs h

/-! ### The turn of a chosen context -/

/-- What a state has once the turn is counted and sampled, just before the fetch. -/
structure Counted (s t : State) (e : Nat) (g : Eng) : Prop where
  rest : { t with engs := s.engs, ctxs := s.ctxs, pace := s.pace } = s
  pace : { t.pace with samples := s.pace.samples } = s.pace
  samples : ∀ p, Tab.get 0 t.pace.samples p =
    if p = packOfEng e ∧ Tab.get 0 s.pace.sampler p = e % 16 then Tab.get 0 s.pace.samples p + 1
    else Tab.get 0 s.pace.samples p
  others : ∀ n, n ≠ e → t.eng n = s.eng n
  eng : t.eng e = { g with slot := (g.slot + 1) % s.wheelLen (packOfEng e) }
  ctx : ∀ n, t.ctx n = s.spent e n

theorem Advanced.sampled {s t : State} {e : Nat} {g : Eng} (h : Advanced s t e g) :
    Counted s (t.sampleTurn e) e g := by
  have hrest := t.sampleTurn_rest e
  have hpace := t.sampleTurn_pace e
  have hsamples := t.sampleTurn_samples e
  generalize t.sampleTurn e = u at hrest hpace hsamples
  have hp : t.pace = s.pace := (congrArg State.pace h.rest :)
  have heng : ∀ n, u.eng n = t.eng n := fun n => (congrArg (fun v : State => v.eng n) hrest :)
  have hctx : ∀ n, u.ctx n = t.ctx n := fun n => (congrArg (fun v : State => v.ctx n) hrest :)
  constructor
  · rw [← h.rest, ← hrest]
  · rw [← hp, hpace]
  · intro p
    rw [hsamples, hp]
  · exact fun n hn => (heng n).trans (h.others n hn)
  · exact (heng e).trans h.eng
  · exact fun n => (hctx n).trans (h.ctx n)

/-- What a fetch of instruction `i` does where the stores have no errors: it is latched in its last turn, and its turns
count down before. -/
structure Fetches (s t : State) (i : Issue) (last : Prop) [Decidable last] : Prop where
  rest : { t with engs := s.engs, ctxs := s.ctxs } = s
  eng : ∀ n, t.eng n = if n = engOf i.ctx ∧ last then { s.eng n with issue := some i } else s.eng n
  others : ∀ n, n ≠ i.ctx → t.ctx n = s.ctx n
  ctx : t.ctx i.ctx = { s.ctx i.ctx with
    multi := if last then 0 else if 1 < (s.ctx i.ctx).multi then (s.ctx i.ctx).multi - 1
      else s.turnsOf i.ctx i.op i.ops - 1 }

theorem State.latch_rest (s : State) (i : Issue) : { s.latch i with engs := s.engs, ctxs := s.ctxs } = s := by
  have heng : ∀ (u : State) (e : Nat) (f : Eng → Eng), { u.updEng e f with engs := s.engs, ctxs := s.ctxs } =
      { u with engs := s.engs, ctxs := s.ctxs } := fun _ _ _ => rfl
  rw [State.latch, heng]
  rfl

theorem State.fetch_fetches {s : State} {c : Nat} {op : EOp} {o : Operands} {len : Nat} (hflips : s.hub.flips = [])
    (hdec : decodeBytes (s.codeAt (packOf c) (s.ctx c).pc.toNat) = some (op, o, len)) :
    Fetches s (s.fetch c) ⟨c, op, o, len⟩ (s.LastTurn c op o) := by
  rw [State.fetch_decoded hflips hdec]
  by_cases hlast : s.LastTurn c op o
  · rw [if_pos hlast]
    constructor
    · exact s.latch_rest _
    · intro n
      rw [State.latch, State.eng_updEng]
      by_cases hn : n = engOf c
      · rw [if_pos hn, if_pos ⟨hn, hlast⟩, hn]
        rfl
      · rw [if_neg hn, if_neg (fun h => hn h.1)]
        rfl
    · intro n hn
      rw [State.latch, State.ctx_updEng, State.ctx_updCtx, if_neg hn]
    · rw [State.latch, State.ctx_updEng, State.ctx_updCtx, if_pos rfl, if_pos hlast]
  · rw [if_neg hlast]
    constructor
    · rfl
    · intro n
      rw [State.eng_updCtx, if_neg (fun h => hlast h.2)]
    · intro n hn
      rw [State.ctx_updCtx, if_neg hn]
    · rw [State.ctx_updCtx, if_pos rfl, if_neg hlast]

/-! ### The two outcomes of a turn -/

section

variable {s : State} {e : Nat} (hwheel : s.wheelRuns e = true) (hissue : (s.eng e).issue = none)
  (hdue : (s.eng e).due = []) (hstep : ∀ c ∈ s.liveOf e, (s.ctx c).stepWait = false)
include hwheel hissue hdue

theorem State.wheelTurn_exec : exec (.wheelTurn e) s = .next (s.turn e) := by
  change execWheelTurn e s = _
  rw [execWheelTurn, hissue, hdue, if_neg (by simp), if_neg (by simp), if_pos hwheel]

include hstep

/-- A bubble (R157, R158, R165): the slot advances and the watch starts anew. -/
theorem State.wheelTurn_bubble (hc : s.choice e = none) (hstuck : s.stuck e = false) :
    ∃ t, exec (.wheelTurn e) s = .next t ∧ { t with engs := s.engs, ctxs := s.ctxs } = s ∧
      (∀ n, n ≠ e → t.eng n = s.eng n) ∧
      (∀ n, t.ctx n = s.spent e n) ∧
      t.eng e = { s.eng e with
        slot := ((s.eng e).slot + 1) % s.wheelLen (packOfEng e), turnsB := (s.eng e).turnsB + 1, watch := 0
        bubbles := 0 } := by
  rw [State.wheelTurn_exec hwheel hissue hdue, State.turn_bubble hstep hc]
  have h := s.advance_advanced e fun g => { g with turnsB := g.turnsB + 1 }
  generalize s.advance e _ = t at h
  rw [State.watchTurn_free (h.stuck.trans hstuck)]
  refine ⟨_, rfl, h.rest, fun n hn => ?_, h.ctx, ?_⟩
  · rw [State.eng_updEng, if_neg hn, h.others n hn]
  · rw [State.eng_updEng, if_pos rfl, h.eng]

/-- The turn of a chosen context (R157, R158): what is counted, and what is latched. -/
theorem State.wheelTurn_issue (hflips : s.hub.flips = []) {c rp len : Nat} {op : EOp} {o : Operands}
    (hc : s.choice e = some (c, rp))
    (hdec : decodeBytes (s.codeAt (packOf c) (s.ctx c).pc.toNat) = some (op, o, len)) :
    ∃ u t, exec (.wheelTurn e) s = .next t ∧ Counted s u e ((s.eng e).issued rp (s.ctx c).tclass) ∧
      u.turnsOf c op o = s.turnsOf c op o ∧ u.ctx c = s.ctx c ∧
      Fetches u t ⟨c, op, o, len⟩ (s.LastTurn c op o) := by
  rw [State.wheelTurn_exec hwheel hissue hdue, State.turn_issue hstep hc]
  have h := (s.advance_advanced e (·.issued rp (s.ctx c).tclass)).sampled
  generalize (s.advance e _).sampleTurn e = u at h
  have hctx : u.ctx c = s.ctx c := by rw [h.ctx, State.spent, if_neg (State.choice_notHeld hc)]
  have hmem : u.mem = s.mem := (congrArg State.mem h.rest :)
  have hherd : u.herd = s.herd := (congrArg State.herd h.rest :)
  have hhub : u.hub = s.hub := (congrArg State.hub h.rest :)
  have hturns := State.turnsOf_congr hctx hmem hherd op o
  refine ⟨u, _, rfl, h, hturns, hctx, ?_⟩
  have hf := State.fetch_fetches (s := u) (c := c) (op := op) (o := o) (len := len) (by rw [hhub, hflips])
    (by rw [State.codeAt, hmem, hctx]; exact hdec)
  simpa only [State.LastTurn, hctx, hturns] using hf

end

end Sys2Proof.Machine

namespace Sys2Proof.Machine
open Sys2Proof

/-! ### What the end of a context leaves alone (R148) -/

theorem Ctx.setEv_live (x : Ctx) (m : Word) : (x.setEv m).live = x.live := by
  rw [Ctx.setEv]
  split <;> rfl

theorem Ctx.setEv_job (x : Ctx) (m : Word) : (x.setEv m).job = x.job := by
  rw [Ctx.setEv]
  split <;> rfl

/-- From `s` to `t` contexts may have ended: the memories stand, and a context that lives lived before, for the same
job. -/
structure Withdraws (s t : State) : Prop where
  mem : t.mem = s.mem
  ctx : ∀ n, (t.ctx n).live = true → (s.ctx n).live = true ∧ (t.ctx n).job = (s.ctx n).job

namespace Withdraws

variable {s t u : State}

theorem refl (s : State) : Withdraws s s := ⟨rfl, fun _ h => ⟨h, rfl⟩⟩

theorem trans (h : Withdraws s t) (h' : Withdraws t u) : Withdraws s u := by
  refine ⟨h'.mem.trans h.mem, fun n hn => ?_⟩
  obtain ⟨hlive, hjob⟩ := h'.ctx n hn
  obtain ⟨hlive', hjob'⟩ := h.ctx n hlive
  exact ⟨hlive', hjob.trans hjob'⟩

/-- What touches neither memories nor contexts ends none. -/
theorem of_eq (hmem : t.mem = s.mem) (hctxs : t.ctxs = s.ctxs) : Withdraws s t :=
  by
  refine ⟨hmem, fun n hn => ?_⟩
  have hctx : t.ctx n = s.ctx n := by rw [State.ctx, State.ctx, hctxs]
  rw [hctx] at hn ⊢
  exact ⟨hn, rfl⟩

theorem updCtx (s : State) (c : Nat) {f : Ctx → Ctx} (hlive : ∀ x, (f x).live = x.live) (hjob : ∀ x, (f x).job = x.job) :
    Withdraws s (s.updCtx c f) := by
  refine ⟨rfl, fun n hn => ?_⟩
  rw [State.ctx_updCtx] at hn ⊢
  split at hn
  · next h => rw [if_pos h, h, ← hlive]; exact ⟨hn, hjob _⟩
  · next h => rw [if_neg h]; exact ⟨hn, rfl⟩

theorem setIdle (s : State) (c g : Nat) : Withdraws s (s.setCtx c { Ctx.idle with gen := g }) := by
  refine ⟨rfl, fun n hn => ?_⟩
  rw [State.ctx_setCtx] at hn ⊢
  split at hn
  · cases hn
  · next h => rw [if_neg h]; exact ⟨hn, rfl⟩

theorem foldl {α : Type} {f : State → α → State} (hf : ∀ t a, Withdraws t (f t a)) : ∀ (l : List α) (s : State),
    Withdraws s (l.foldl f s)
  | [], s => refl s
  | a :: l, s => (hf s a).trans (foldl hf l (f s a))

theorem setLeash (s : State) (l : Leash) : Withdraws s { s with leash := l } := of_eq rfl rfl

/-! Values that land (R101, R114, R163) -/

theorem setEv (s : State) (c : Nat) (m : Word) : Withdraws s (s.updCtx c fun x => x.setEv m) :=
  updCtx s c (fun x => x.setEv_live m) fun x => x.setEv_job m

theorem setS (s : State) (c j : Nat) (v : Word) : Withdraws s (s.setS c j v) := by
  rw [State.setS]
  refine trans (t := s.updEng (engOf c) fun e => { e with s := Tab.set 0 e.s j v }) (of_eq rfl rfl)
    (foldl (fun t k => ?_) _ _)
  split
  · exact refl t
  · exact setEv t k _

theorem setR (s : State) (c r : Nat) (v : Word) : Withdraws s (s.setR c r v) := by
  rw [State.setR]
  split
  · exact updCtx s c (fun _ => rfl) fun _ => rfl
  · exact setS s c _ v

theorem land (s : State) (c r : Nat) (v : Word) : Withdraws s (s.land c r v) := by
  rw [State.land]
  split
  · exact updCtx s c (fun _ => rfl) fun _ => rfl
  · exact setR s c r v

theorem deliver (s : State) (c dst bytes : Nat) (v : Word) : Withdraws s (s.deliver c dst bytes v) := by
  rw [State.deliver]
  split
  · exact updCtx s c (fun _ => rfl) fun _ => rfl
  · have hwait := updCtx s c (f := fun x => { x with wait := .none }) (fun _ => rfl) fun _ => rfl
    exact hwait.trans (land _ _ _ _)

/-! The control channel of a link (R444, R457) -/

theorem setFabLink (s : State) (q : Nat) (l : FabLink) : Withdraws s (s.setFabLink q l) := of_eq rfl rfl

theorem pin (s : State) (p : PinEvent) : Withdraws s (s.pin p) := of_eq rfl rfl

theorem ctlPump (s : State) (q : Nat) : Withdraws s (s.ctlPump q) := by
  rw [State.ctlPump]
  dsimp only
  split
  · exact (setFabLink s q _).trans (foldl (fun t _ => pin t _) _ _)
  · exact refl s

theorem fabStatus (s : State) (d : Nat) (v : Word) : Withdraws s (s.fabStatus d v) := by
  rw [State.fabStatus, State.fabControl]
  split
  · split
    · exact (setFabLink s _ _).trans (ctlPump _ _)
    · exact refl s
  · exact refl s

/-! The Leash (R201, R205, R207, R208) -/

theorem setLock (s : State) (i : Nat) (l : Lock) : Withdraws s (s.setLock i l) := of_eq rfl rfl

theorem raise (s : State) (src : Nat) : Withdraws s (s.raise src) :=
  of_eq (congrArg State.mem (s.raise_rest src) :) (congrArg State.ctxs (s.raise_rest src) :)

theorem leashReply (s : State) (id : Nat) (v : Word) : Withdraws s (s.leashReply id v) := by
  rw [State.leashReply]
  split
  · split
    · exact deliver _ _ _ _ _
    · exact refl s
  · split
    · exact fabStatus _ _ _
    · exact setLeash s _

theorem leashPass (s : State) (i : Nat) (v : Word) : Withdraws s (s.leashPass i v) := by
  rw [State.leashPass]
  split
  · exact setLock s i _
  · exact (setLock s i _).trans (leashReply _ _ _)

theorem leashBreakOne (s : State) (i : Nat) : Withdraws s (s.leashBreakOne i) := by
  rw [State.leashBreakOne]
  have hcount : Withdraws s ((s.bump Reg.LEASH_BROKEN_CNT).raise Ev.LEASH_BROKEN) :=
    trans (t := s.bump Reg.LEASH_BROKEN_CNT) (of_eq rfl rfl) (raise _ _)
  split
  · exact hcount.trans (setLock _ i _)
  · exact hcount.trans (leashPass _ _ _)

theorem leashLeave (s : State) (id : Nat) : Withdraws s (s.leashLeave id) := by
  refine foldl (fun t p => ?_) _ s
  split
  · exact setLock t _ _
  · exact refl t

theorem leashBreak (s : State) (id : Nat) : Withdraws s (s.leashBreak id) := by
  refine (leashLeave s id).trans (foldl (fun t p => ?_) _ _)
  split
  · exact leashBreakOne _ _
  · exact refl t

theorem mwLeave (s : State) (c : Nat) : Withdraws s (s.mwLeave c) := foldl (fun t _ => setLeash t _) _ s

theorem leaveQueues (s : State) (cs : List Nat) : Withdraws s (s.leaveQueues cs) :=
  foldl (fun t c => (mwLeave t c).trans (leashLeave _ _)) cs s

/-! Parents and children (R136, R153, R162) -/

theorem orphan (s : State) (c : Nat) : Withdraws s (s.orphan c) := by
  refine foldl (fun t k => ?_) _ s
  split
  · exact updCtx t k (fun _ => rfl) fun _ => rfl
  · exact refl t

theorem tellParent (s : State) (p : Option Nat) (k : Nat) : Withdraws s (s.tellParent p k) := by
  cases p with
  | none => exact refl s
  | some p =>
    rw [State.tellParent]
    exact updCtx s p (fun x => x.setEv_live _) fun x => x.setEv_job _

/-! ### A context without a job ends (R148) -/

/-- A context without a job becomes free; no other one is started, and the memories stand. -/
theorem freeCtx (s : State) (c : Nat) (k : EndKind) (hjob : (s.ctx c).live = true → (s.ctx c).job = none) :
    Withdraws s (s.freeCtx c k) ∧ ((s.freeCtx c k).ctx c).live = false := by
  rw [State.freeCtx]
  dsimp only
  split
  · next hlive =>
    rw [hjob hlive]
    dsimp only
    have hunlinked := ((orphan s c).trans (mwLeave _ c)).trans (leashBreak _ (ownerId c))
    generalize ((s.orphan c).mwLeave c).leashBreak (ownerId c) = u at hunlinked
    have hidle := setIdle u c ((s.ctx c).gen + 1)
    have hdead : ((u.setCtx c { Ctx.idle with gen := (s.ctx c).gen + 1 }).ctx c).live = false := by
      rw [State.ctx_setCtx, if_pos rfl]
      rfl
    generalize u.setCtx c _ = v at hidle hdead
    have htold := tellParent v (s.ctx c).parent (numOf c)
    generalize v.tellParent _ _ = w at htold
    have hdead' : (w.ctx c).live = false := by
      by_contra h
      rw [(htold.ctx c (by simpa using h)).1] at hdead
      cases hdead
    have hall := hunlinked.trans (hidle.trans htold)
    split
    · exact ⟨hall.trans (of_eq rfl rfl), hdead'⟩
    · exact ⟨hall.trans (of_eq rfl rfl), hdead'⟩
  · next hlive => exact ⟨refl s, by simpa using hlive⟩

/-- Contexts without a job that end together are all free. -/
theorem freeAll (k : EndKind) : ∀ (l : List Nat) (s : State) (_ : ∀ c ∈ l, (s.ctx c).live = true → (s.ctx c).job = none),
    Withdraws s (l.foldl (fun t c => t.freeCtx c k) s) ∧
      ∀ c ∈ l, ((l.foldl (fun t c => t.freeCtx c k) s).ctx c).live = false
  | [], s, _ => ⟨refl s, by simp⟩
  | a :: l, s, h => by
    obtain ⟨ha, hdead⟩ := freeCtx s a k (h a List.mem_cons_self)
    obtain ⟨hl, hrest⟩ := freeAll k l (s.freeCtx a k) fun c hc hlive => by
      obtain ⟨hlive', hjob⟩ := ha.ctx c hlive
      rw [hjob]
      exact h c (List.mem_cons_of_mem a hc) hlive'
    rw [List.foldl_cons]
    refine ⟨ha.trans hl, fun c hc => ?_⟩
    obtain rfl | hc := List.mem_cons.mp hc
    · by_contra hne
      rw [(hl.ctx c (by simpa using hne)).1] at hdead
      cases hdead
    · exact hrest c hc

end Withdraws

end Sys2Proof.Machine

namespace Sys2Proof.Machine
open Sys2Proof

/-! ### The watch declares a deadlock (R165, R166) -/

/-- The deadlock event of a present pack has a source. -/
theorem evPresent_deadlock {c : Chip} {p : Nat} (h : p < c.packs) : evPresent c (Ev.DEADLOCK p) = true := by
  have := c.packs_le
  rw [evPresent]
  repeat rw [if_neg (by unfold Ev.DEADLOCK; omega)]
  rw [if_pos (by unfold Ev.DEADLOCK; omega), decide_eq_true_eq]
  unfold Ev.DEADLOCK
  omega

/-- The deadlock of engine `e` is counted, shown and raised, and its watch starts anew. -/
def State.declare (s : State) (e : Nat) : State :=
  let r := Reg.ENG_DL_STATUS (e / 16) (e % 16)
  (((s.bumpF r 15 0).setFld r 23 16 (s.liveMask e)).raise (Ev.DEADLOCK (packOfEng e))).updEng e fun g =>
    { g with watch := 0, bubbles := 0 }

theorem State.deadlock_eq (s : State) (e : Nat) : s.deadlock e =
    if (s.declare e).flag (Reg.ENG_DL_CFG (e / 16) (e % 16)) 24 then
      (s.liveOf e).foldl (fun t c => t.freeCtx c .squash) ((s.declare e).leaveQueues (s.liveOf e))
    else ((s.liveOf e).foldl State.freeze (s.declare e)).raise Ev.DBG_HALT := rfl

/-- What a state has once a deadlock of engine `e` is declared. -/
structure Declared (s t : State) (e : Nat) : Prop where
  rest : { t with regs := s.regs, engs := s.engs, hub := s.hub, pins := s.pins } = s
  watch : (t.eng e).watch = 0
  squash : t.flag (Reg.ENG_DL_CFG (e / 16) (e % 16)) 24 = s.flag (Reg.ENG_DL_CFG (e / 16) (e % 16)) 24
  raised : Raised t (Ev.DEADLOCK (packOfEng e))

theorem State.declare_declared {s : State} {e : Nat} (hp : packOfEng e < s.chip.packs) : Declared s (s.declare e) e := by
  have hpacks := s.chip.packs_le
  have hcount : OnlyRegs s ((s.bumpF (Reg.ENG_DL_STATUS (e / 16) (e % 16)) 15 0).setFld
      (Reg.ENG_DL_STATUS (e / 16) (e % 16)) 23 16 (s.liveMask e)) [Reg.ENG_DL_STATUS (e / 16) (e % 16)] :=
    ⟨fun k hk => by
      rw [State.reg_setFld, if_neg (by simpa using hk), State.bumpF, State.reg_setFld, if_neg (by simpa using hk)], rfl⟩
  rw [State.declare]
  generalize (s.bumpF (Reg.ENG_DL_STATUS (e / 16) (e % 16)) 15 0).setFld _ 23 16 (s.liveMask e) = u at hcount
  obtain ⟨hreg, hrest⟩ := hcount
  have hchip : u.chip = s.chip := (congrArg State.chip hrest :)
  have hraise := u.raise_rest (Ev.DEADLOCK (packOfEng e))
  have hraised : Raised (u.raise (Ev.DEADLOCK (packOfEng e))) (Ev.DEADLOCK (packOfEng e)) :=
    State.raised_raise (evPresent_deadlock (by rw [hchip]; exact hp))
  have hcfg : (u.raise (Ev.DEADLOCK (packOfEng e))).reg (Reg.ENG_DL_CFG (e / 16) (e % 16)) =
      s.reg (Reg.ENG_DL_CFG (e / 16) (e % 16)) := by
    rw [State.raise_reg _ (by unfold Reg.ENG_DL_CFG evReg Reg.EV_STATUS Ev.DEADLOCK; unfold packOfEng at *; omega),
      hreg _ (by unfold Reg.ENG_DL_CFG Reg.ENG_DL_STATUS; simp only [List.mem_singleton]; omega)]
  generalize u.raise (Ev.DEADLOCK (packOfEng e)) = v at hraise hraised hcfg
  constructor
  · exact (congrArg (fun w : State => { w with regs := s.regs, engs := s.engs, hub := s.hub, pins := s.pins }) hraise).trans
      (congrArg (fun w : State => { w with engs := s.engs, hub := s.hub, pins := s.pins }) hrest)
  · rw [State.eng_updEng, if_pos rfl]
  · exact congrArg (bitOf · 24) hcfg
  · exact hraised

/-! ### Freezing (R166) -/

theorem State.freezes_rest : ∀ (l : List Nat) (s : State), { l.foldl State.freeze s with ctxs := s.ctxs } = s
  | [], _ => rfl
  | a :: l, s => congrArg (fun u : State => { u with ctxs := s.ctxs }) (State.freezes_rest l (s.freeze a))

theorem State.frozen_freezes : ∀ (l : List Nat) (s : State) (c : Nat),
    ((l.foldl State.freeze s).ctx c).frozen = ((s.ctx c).frozen || l.contains c)
  | [], s, c => by simp
  | a :: l, s, c => by
    rw [List.foldl_cons, State.frozen_freezes l, State.freeze, State.ctx_updCtx, List.contains_cons]
    by_cases h : c = a
    · subst h
      simp
    · rw [if_neg h, beq_eq_false_iff_ne.mpr h, Bool.false_or]

/-! ### Both outcomes of the watch -/

section

variable {s : State} {e : Nat} (hdue : s.deadlockDue e = true)
include hdue

theorem State.deadlockDetect_exec : exec (.deadlockDetect e) s = .next (s.deadlock e) := if_pos hdue

theorem State.deadlockDue_present : packOfEng e < s.chip.packs := by
  simp only [State.deadlockDue, State.wheelRuns, Bool.and_eq_true, decide_eq_true_eq] at hdue
  tauto

/-- With SQUASH off the contexts are frozen, and the event shows (R166). -/
theorem State.deadlock_freezes (hoff : s.flag (Reg.ENG_DL_CFG (e / 16) (e % 16)) 24 = false) :
    (∀ c, ((s.deadlock e).ctx c).frozen = ((s.ctx c).frozen || (s.liveOf e).contains c)) ∧
      ((s.deadlock e).eng e).watch = 0 ∧ (s.deadlock e).mem = s.mem ∧ (s.deadlock e).herd = s.herd ∧
      Raised (s.deadlock e) (Ev.DEADLOCK (packOfEng e)) := by
  have hp := State.deadlockDue_present hdue
  have hd := State.declare_declared hp
  rw [State.deadlock_eq, hd.squash, hoff, if_neg (by decide)]
  generalize s.declare e = u at hd
  have hrest := State.freezes_rest (s.liveOf e) u
  have hfrozen := State.frozen_freezes (s.liveOf e) u
  generalize (s.liveOf e).foldl State.freeze u = v at hrest hfrozen
  have hraise := v.raise_rest Ev.DBG_HALT
  have hreg : (v.raise Ev.DBG_HALT).reg (evReg (Ev.DEADLOCK (packOfEng e))) = v.reg (evReg (Ev.DEADLOCK (packOfEng e))) :=
    v.raise_reg (by unfold evReg Reg.EV_STATUS Ev.DEADLOCK Ev.DBG_HALT; omega)
  generalize v.raise Ev.DBG_HALT = w at hraise hreg
  have hwu : { w with regs := u.regs, hub := u.hub, pins := u.pins, ctxs := u.ctxs } = u := by
    rw [← hrest, ← hraise]
  have hctx : ∀ c, w.ctx c = v.ctx c := fun c => (congrArg (fun x : State => x.ctx c) hraise :)
  have huctx : ∀ c, u.ctx c = s.ctx c := fun c => (congrArg (fun x : State => x.ctx c) hd.rest :)
  refine ⟨fun c => ?_, ?_, ?_, ?_, ?_⟩
  · rw [hctx, hfrozen, huctx]
  · exact (congrArg (fun x : State => (x.eng e).watch) hwu :).trans hd.watch
  · exact (congrArg State.mem hwu :).trans (congrArg State.mem hd.rest :)
  · exact (congrArg State.herd hwu :).trans (congrArg State.herd hd.rest :)
  · have hvreg : v.reg (evReg (Ev.DEADLOCK (packOfEng e))) = u.reg (evReg (Ev.DEADLOCK (packOfEng e))) :=
      (congrArg (fun x : State => x.reg (evReg (Ev.DEADLOCK (packOfEng e)))) hrest :)
    exact (congrArg (bitOf · _) (hreg.trans hvreg)).trans hd.raised

/-- With SQUASH on, contexts without a job end (R166). -/
theorem State.deadlock_squashes (hon : s.flag (Reg.ENG_DL_CFG (e / 16) (e % 16)) 24 = true)
    (hjob : ∀ c ∈ s.liveOf e, (s.ctx c).job = none) :
    (∀ c ∈ s.liveOf e, ((s.deadlock e).ctx c).live = false) ∧ (s.deadlock e).mem = s.mem := by
  have hd := State.declare_declared (State.deadlockDue_present hdue)
  rw [State.deadlock_eq, hd.squash, if_pos hon]
  have hdeclare : Withdraws s (s.declare e) := .of_eq (congrArg State.mem hd.rest :) (congrArg State.ctxs hd.rest :)
  have hleft := hdeclare.trans (.leaveQueues (s.declare e) (s.liveOf e))
  obtain ⟨hfree, hdead⟩ := Withdraws.freeAll .squash (s.liveOf e) ((s.declare e).leaveQueues (s.liveOf e)) fun c hc hlive =>
    (hleft.ctx c hlive).2.trans (hjob c hc)
  exact ⟨hdead, (hleft.trans hfree).mem⟩

end

end Sys2Proof.Machine

namespace Sys2Proof.Machine
open Sys2Proof

/-- An engine that has issued counts the turn by its class. -/
theorem Eng.issued_eq (g : Eng) (rp : Nat) (tc : Bool) : g.issued rp tc =
    { g with
      rp := rp, watch := 0, bubbles := 0, turnsT := if tc then g.turnsT + 1 else g.turnsT
      turnsE := if tc then g.turnsE else g.turnsE + 1 } := by
  cases tc <;> rfl

/-- Settles O16: a turn advances the slot and the holds, then samples and fetches, or is a bubble; the watch declares the
deadlock, then freezes the contexts or frees them. -/
theorem wheelTurnsAndDeadlock : Obligations.WheelTurnsAndDeadlock := by
  unfold Obligations.WheelTurnsAndDeadlock
  refine ⟨fun s e hwheel hissue hdue hflips hstep => ⟨fun c rp op o len hc hce hdec => ?_, fun hc hstuck => ?_⟩,
    fun s e hdue _ => ⟨fun hoff => ?_, fun hon hjob => ?_⟩⟩
  · obtain ⟨u, t, hexec, hu, hturns, hctx, ht⟩ := State.wheelTurn_issue hwheel hissue hdue hstep hflips hc hdec
    have hpace : t.pace = u.pace := (congrArg State.pace ht.rest :)
    refine ⟨t, hexec, ?_, ?_, fun n hn => ?_, ?_, fun n hn => ?_, ?_, fun p => ?_⟩
    · rw [← hu.rest, ← ht.rest]
    · rw [hpace, hu.pace]
    · rw [ht.eng, if_neg (fun h => hn (h.1.trans hce)), hu.others n hn]
    · rw [ht.eng, hu.eng, Eng.issued_eq]
      by_cases hlast : s.LastTurn c op o
      · rw [if_pos ⟨hce.symm, hlast⟩, if_pos hlast]
      · rw [if_neg (fun h => hlast h.2), if_neg hlast, ← hissue]
    · exact (ht.others n hn).trans (hu.ctx n)
    · rw [ht.ctx, hctx, hturns]
    · rw [hpace, hu.samples]
  · exact State.wheelTurn_bubble hwheel hissue hdue hstep hc hstuck
  · obtain ⟨hfrozen, hwatch, hmem, hherd, hraised⟩ := State.deadlock_freezes hdue hoff
    refine ⟨_, State.deadlockDetect_exec hdue, hfrozen, hwatch, hmem, hherd, ?_⟩
    have hword : Ev.DEADLOCK (packOfEng e) / 32 = 2 + packOfEng e / 32 := by unfold Ev.DEADLOCK; omega
    have hbit : Ev.DEADLOCK (packOfEng e) % 32 = packOfEng e % 32 := by unfold Ev.DEADLOCK; omega
    rw [Raised, State.flag, hword, hbit] at hraised
    rw [← bitOf_eq_getLsbD, hraised]
  · exact ⟨_, State.deadlockDetect_exec hdue, State.deadlock_squashes hdue hon hjob⟩

end Sys2Proof.Machine

namespace Sys2Proof.Machine
open Sys2Proof

/-! ### What a body reads of the state in which its instruction issues -/

section
variable (s : State) (e c : Nat)

@[simp] theorem State.ctx_clearIssue (k : Nat) : (s.clearIssue e).ctx k = s.ctx k := rfl

@[simp] theorem State.reg_clearIssue (k : Nat) : (s.clearIssue e).reg k = s.reg k := rfl

@[simp] theorem State.flag_clearIssue (off b : Nat) : (s.clearIssue e).flag off b = s.flag off b := rfl

@[simp] theorem State.mem_clearIssue : (s.clearIssue e).mem = s.mem := rfl

@[simp] theorem State.hub_clearIssue : (s.clearIssue e).hub = s.hub := rfl

@[simp] theorem State.greg_clearIssue (r : Nat) : (s.clearIssue e).greg c r = s.greg c r := by
  have hs : ((s.clearIssue e).eng (engOf c)).s = (s.eng (engOf c)).s := by
    rw [State.clearIssue, State.eng_updEng]
    split
    · next h => rw [h]
    · rfl
  rw [State.greg, State.greg, hs, State.ctx_clearIssue]

@[simp] theorem State.opnd_clearIssue (o : Operands) (n : BitVec 4) : (s.clearIssue e).opnd c o n = s.opnd c o n := by
  simp [State.opnd]

@[simp] theorem State.dest_clearIssue (o : Operands) (n : BitVec 4) : (s.clearIssue e).dest c o n = s.dest c o n := by
  simp [State.dest]

@[simp] theorem State.exposed_clearIssue : (s.clearIssue e).exposed c = s.exposed c := rfl

@[simp] theorem State.ea_clearIssue (o : Operands) : (s.clearIssue e).ea c o = s.ea c o := by
  simp [State.ea]

end

/-- The context of an instruction that issues is live. -/
theorem State.live_of_issued {s : State} {op : EOp} {c : Nat} {o : Operands} {len : Nat}
    (h : s.issued op c o = some len) : (s.ctx c).live = true := by
  unfold State.issued at h
  split at h
  · split at h
    · next hi => exact hi.2.2.2.2
    · cases h
  · cases h

/-- An engine has one instruction latched. -/
theorem State.issued_op {s : State} {op op' : EOp} {c : Nat} {o o' : Operands} {len : Nat}
    (h : s.issued op c o = some len) (hne : op' ≠ op) : s.issued op' c o' = none := by
  unfold State.issued at h ⊢
  split at h
  · next i hi =>
    split at h
    · next hh => rw [if_neg (fun hc => hne (hc.2.2.1.symm.trans hh.2.2.1))]
    · cases h
  · cases h

/-! ### Writes of several S registers (R163) -/

theorem and_eq_zero_of_or_and {x b k : Word} (h : (x ||| b) &&& k = 0) : x &&& k = 0 := by
  refine BitVec.eq_of_getLsbD_eq fun i hi => ?_
  have := congrArg (fun v : Word => v.getLsbD i) h
  simp only [BitVec.getLsbD_and, BitVec.getLsbD_or] at this ⊢
  cases hx : x.getLsbD i <;> simp_all

/-- Two settings of EV_FLAGS in one. -/
theorem Ctx.setEv_setEv (x : Ctx) (a b : Word) : (x.setEv a).setEv b = x.setEv (a ||| b) := by
  by_cases hl : x.live = true
  · simp only [Ctx.setEv, hl, if_true, ← BitVec.or_assoc]
    congr 1
    cases x.wait with
    | waitev k =>
      by_cases hk : (x.evFlags ||| a) &&& k = 0
      · simp only [if_pos hk]
      · have hk' : (x.evFlags ||| a ||| b) &&& k ≠ 0 := fun h => hk (and_eq_zero_of_or_and h)
        simp only [if_neg hk, if_neg hk']
    | _ => rfl
  · simp [Ctx.setEv, hl]

/-- The registers written after one more write. -/
def putReg (r : Nat) (v : Word) (w : Nat → Option Word) : Nat → Option Word := fun k => if k = r then some v else w k

theorem putReg_none (r : Nat) (v : Word) : putReg r v (fun _ => none) = wrOne r v := rfl

/-- The SWR flags, bit by bit. -/
theorem getLsbD_swr_fold (w : Nat → Option Word) (i : Nat) : ∀ (l : List Nat) (a : Word),
    (l.foldl (fun (a : Word) j => if (w (16 + j)).isSome then a ||| W (2 ^ (8 + j)) else a) a).getLsbD i =
      (a.getLsbD i || l.any fun j => (w (16 + j)).isSome && (W (2 ^ (8 + j))).getLsbD i)
  | [], a => by simp
  | j :: l, a => by
    rw [List.foldl_cons, getLsbD_swr_fold w i l, List.any_cons, ← Bool.or_assoc]
    cases (w (16 + j)).isSome <;> simp

/-- One more register written raises its SWR flag beside the others. -/
theorem Effect.swr_putReg (e : Effect) {r : Nat} (v : Word) (hr : r < 24) :
    ({ e with wr := putReg r v e.wr } : Effect).swr = if r < 16 then e.swr else e.swr ||| W (2 ^ (8 + (r - 16))) := by
  refine BitVec.eq_of_getLsbD_eq fun i _ => ?_
  rw [Effect.swr, getLsbD_swr_fold]
  by_cases h : r < 16
  · rw [if_pos h, Effect.swr, getLsbD_swr_fold]
    congr 1
    refine congrArg (fun f => List.any _ f) (funext fun j => ?_)
    simp only [putReg]
    rw [if_neg (by omega)]
  · obtain ⟨n, rfl⟩ : ∃ n, r = 16 + n := ⟨r - 16, by omega⟩
    rw [if_neg h, BitVec.getLsbD_or, Effect.swr, getLsbD_swr_fold, Nat.add_sub_cancel_left, Bool.eq_iff_iff]
    simp only [Bool.or_eq_true, List.any_eq_true, List.mem_range, Bool.and_eq_true, putReg, Nat.add_left_cancel_iff]
    constructor
    · rintro (h0 | ⟨j, hj, hs, hb⟩)
      · exact .inl (.inl h0)
      · by_cases hjn : j = n
        · exact .inr (hjn ▸ hb)
        · rw [if_neg hjn] at hs
          exact .inl (.inr ⟨j, hj, hs, hb⟩)
    · rintro ((h0 | ⟨j, hj, hs, hb⟩) | hb)
      · exact .inl h0
      · refine .inr ⟨j, hj, ?_, hb⟩
        split
        · rfl
        · exact hs
      · exact .inr ⟨n, by omega, by simp, hb⟩

/-! ### What a body writes, one act after another -/

section
variable {s u : State} {c : Nat} {e : Effect}

/-- A G register is written (R84). -/
theorem Wrote.setG (h : Wrote s u c e) {r : Nat} (hr : r < 16) (v : Word) :
    Wrote s (u.setG c r v) c { e with wr := putReg r v e.wr } := by
  have hself : (u.setG c r v).ctx c = { u.ctx c with g := Tab.set 0 (u.ctx c).g r v } := by
    rw [State.setG, State.ctx_updCtx, if_pos rfl]
  have hother : ∀ k, k ≠ c → (u.setG c r v).ctx k = u.ctx k := fun k hk => by
    rw [State.setG, State.ctx_updCtx, if_neg hk]
  have hrest := h.rest
  constructor
  case rest => exact hrest
  case engines => exact h.engines
  case engine => exact h.engine
  case issue => exact h.issue
  case regs =>
    intro k
    have hk := h.regs k
    unfold State.greg at hk ⊢
    rw [hself]
    by_cases hlt : k < 16
    · simp only [hlt, if_true, Tab.get_set, putReg] at hk ⊢
      by_cases hkr : k = r
      · simp [hkr]
      · simpa [hkr] using hk
    · simp only [hlt, if_false, putReg, if_neg (show k ≠ r by omega)] at hk ⊢
      exact hk
  case contexts =>
    intro k hk
    rw [hother k hk, Effect.swr_putReg _ _ (by omega), if_pos hr]
    exact h.contexts k hk
  case mlo => rw [hself]; exact h.mlo
  case mhi => rw [hself]; exact h.mhi
  case delayed => rw [hself]; exact h.delayed
  case flags => rw [hself]; exact h.flags
  case pc => rw [hself]; exact h.pc
  case live => rw [hself]; exact h.live
  case stepping => rw [hself]; exact h.stepping
  case own =>
    have ho := h.own
    rw [hself]
    conv_lhs => rw [ho]

/-- An S register is written, and the siblings get its SWR flag (R163). -/
theorem Wrote.setS (h : Wrote s u c e) {j : Nat} (hj : j < 8) (v : Word) :
    Wrote s (u.setS c j v) c { e with wr := putReg (16 + j) v e.wr } := by
  have hself : (u.setS c j v).ctx c = u.ctx c := by rw [State.setS_ctx, if_neg (by simp)]
  constructor
  case rest => rw [State.setS_rest]; exact h.rest
  case engines => intro k hk; rw [State.setS_eng, if_neg hk]; exact h.engines k hk
  case engine => rw [State.setS_eng, if_pos rfl]; exact h.engine
  case issue => rw [State.setS_eng, if_pos rfl]; exact h.issue
  case regs =>
    intro k
    have hk := h.regs k
    unfold State.greg at hk ⊢
    rw [hself, State.setS_eng, if_pos rfl]
    by_cases hlt : k < 16
    · simp only [hlt, if_true, putReg, if_neg (show k ≠ 16 + j by omega)] at hk ⊢
      exact hk
    · simp only [hlt, if_false, Tab.get_set, putReg] at hk ⊢
      by_cases hkj : k = 16 + j
      · simp [hkj]
      · simpa [hkj, show k - 16 ≠ j by omega] using hk
  case contexts =>
    intro k hk
    have hbit : W (2 ^ (8 + j)) ≠ 0 := by
      have : ∀ j < 8, W (2 ^ (8 + j)) ≠ 0 := by decide
      exact this j hj
    have hne : e.swr ||| W (2 ^ (8 + j)) ≠ 0 := fun h0 => hbit (BitVec.or_eq_zero_iff.1 h0).2
    have hk' := h.contexts k hk
    have hswr := Effect.swr_putReg e v (show 16 + j < 24 by omega)
    rw [if_neg (by omega), Nat.add_sub_cancel_left] at hswr
    rw [State.setS_ctx, hswr]
    by_cases hsib : k ∈ siblings c
    · rw [if_pos ⟨hsib, hk⟩, if_pos ⟨hsib, hne⟩, hk']
      by_cases h0 : e.swr = 0
      · rw [if_neg (by simp [h0]), h0]
        exact congrArg _ BitVec.zero_or.symm
      · rw [if_pos ⟨hsib, h0⟩, Ctx.setEv_setEv]
    · rw [if_neg (by simp [hsib]), if_neg (by simp [hsib]), hk', if_neg (by simp [hsib])]
  case mlo => rw [hself]; exact h.mlo
  case mhi => rw [hself]; exact h.mhi
  case delayed => rw [hself]; exact h.delayed
  case flags => rw [hself]; exact h.flags
  case pc => rw [hself]; exact h.pc
  case live => rw [hself]; exact h.live
  case stepping => rw [hself]; exact h.stepping
  case own => rw [hself]; exact h.own

/-- One more register is written, after others (R84, R107). -/
theorem Wrote.putReg (h : Wrote s u c e) {r : Nat} (hr : r < 24) (v : Word) :
    Wrote s (u.setR c r v) c { e with wr := putReg r v e.wr } := by
  rw [State.setR]
  split
  · next hlt => exact h.setG hlt v
  · next hlt =>
    obtain ⟨j, rfl⟩ : ∃ j, r = 16 + j := ⟨r - 16, by omega⟩
    rw [Nat.add_sub_cancel_left]
    exact h.setS (by omega) v

/-- A result is delayed (R111 to R113). -/
theorem Wrote.delay (h : Wrote s u c e) (p : Pend) :
    Wrote s (u.updCtx c fun x => { x with pend := x.pend ++ [p] }) c { e with delayed := e.delayed ++ [p] } := by
  generalize hu : (u.updCtx c fun x => { x with pend := x.pend ++ [p] }) = u'
  have hself : u'.ctx c = { u.ctx c with pend := (u.ctx c).pend ++ [p] } := by rw [← hu, State.ctx_updCtx, if_pos rfl]
  have hother : ∀ k, k ≠ c → u'.ctx k = u.ctx k := fun k hk => by rw [← hu, State.ctx_updCtx, if_neg hk]
  have heng : ∀ k, u'.eng k = u.eng k := fun k => by rw [← hu]; rfl
  constructor
  case rest => rw [← hu]; exact h.rest
  case engines => intro k hk; rw [heng]; exact h.engines k hk
  case engine => rw [heng]; exact h.engine
  case issue => rw [heng]; exact h.issue
  case regs => intro k; rw [← h.regs k, State.greg, State.greg, hself, heng]
  case contexts => intro k hk; rw [hother k hk]; exact h.contexts k hk
  case mlo => rw [hself]; exact h.mlo
  case mhi => rw [hself]; exact h.mhi
  case delayed => rw [hself]; show _ ++ _ = _; rw [h.delayed, List.append_assoc]
  case flags => rw [hself]; exact h.flags
  case pc => rw [hself]; exact h.pc
  case live => rw [hself]; exact h.live
  case stepping => rw [hself]; exact h.stepping
  case own =>
    have ho := h.own
    rw [hself]
    conv_lhs => rw [ho]

/-- A load result lands: at once, or one instruction late under exposed timing (R111, R113). -/
theorem Wrote.land (h : Wrote s u c e) {r : Nat} (hr : r < 24) (v : Word) :
    Wrote s (u.land c r v) c (if u.exposed c = true ∧ r < 16 then { e with delayed := e.delayed ++ [⟨.g r, v, 0, 1⟩] }
      else { e with wr := Machine.putReg r v e.wr }) := by
  rw [State.land]
  by_cases hl : u.exposed c = true ∧ r < 16
  · rw [if_pos (by simpa using hl), if_pos hl]
    exact h.delay _
  · rw [if_neg (by simpa using hl), if_neg hl]
    exact h.putReg hr v

/-- What is outside contexts and engines changes by `f`. -/
theorem Wrote.outside (h : Wrote s u c e) {u' : State} {f : State → State}
    (hrest : { u' with ctxs := s.ctxs, engs := s.engs } = f s) (hctxs : u'.ctxs = u.ctxs) (hengs : u'.engs = u.engs) :
    Wrote s u' c { e with st := f } := by
  have hctx : ∀ k, u'.ctx k = u.ctx k := fun k => by rw [State.ctx, State.ctx, hctxs]
  have heng : ∀ k, u'.eng k = u.eng k := fun k => by rw [State.eng, State.eng, hengs]
  constructor
  case rest => exact hrest
  case engines => intro k hk; rw [heng]; exact h.engines k hk
  case engine => rw [heng]; exact h.engine
  case issue => rw [heng]; exact h.issue
  case regs => intro k; rw [← h.regs k, State.greg, State.greg, hctx, heng]
  case contexts => intro k hk; rw [hctx]; exact h.contexts k hk
  case mlo => rw [hctx]; exact h.mlo
  case mhi => rw [hctx]; exact h.mhi
  case delayed => rw [hctx]; exact h.delayed
  case flags => rw [hctx]; exact h.flags
  case pc => rw [hctx]; exact h.pc
  case live => rw [hctx]; exact h.live
  case stepping => rw [hctx]; exact h.stepping
  case own => rw [hctx]; exact h.own

/-- Registers are as before where nothing outside contexts and engines has changed. -/
theorem Wrote.reg (h : Wrote s u c e) (hst : e.st = id) (k : Nat) : u.reg k = s.reg k := by
  have hrest := h.rest
  rw [hst] at hrest
  exact State.reg_congr (congrArg State.chip hrest :) (congrArg State.regs hrest :) k

/-- Where the program counter goes is still to come. -/
theorem Wrote.goTo (h : Wrote s u c e) (a : Option (BitVec 16)) : Wrote s u c { e with pc := a } :=
  ⟨h.rest, h.engines, h.engine, h.issue, h.regs, h.contexts, h.mlo, h.mhi, h.delayed, h.flags, h.pc, h.live, h.stepping,
    h.own⟩

end

/-- The context of the instruction is written as a whole: its fields, its product, its flags; no register. -/
theorem wrote_setCtx (s : State) (c : Nat) {y : Ctx} {e : Effect} (hst : e.st = id) (hwr : e.wr = fun _ => none)
    (hdel : e.delayed = []) (hkept : (y.g, y.pend, y.pc, y.live, y.stepping) =
      ((s.ctx c).g, (s.ctx c).pend, (s.ctx c).pc, (s.ctx c).live, (s.ctx c).stepping))
    (hprod : (y.mlo, y.mhi) = e.product.getD ((e.own (s.ctx c)).mlo, (e.own (s.ctx c)).mhi))
    (hflags : (y.z, y.cf, y.n, y.v) =
      e.flags.getD ((e.own (s.ctx c)).z, (e.own (s.ctx c)).cf, (e.own (s.ctx c)).n, (e.own (s.ctx c)).v))
    (hown : y = { e.own (s.ctx c) with
      g := y.g, mlo := y.mlo, mhi := y.mhi, pend := y.pend, z := y.z, cf := y.cf, n := y.n, v := y.v, pc := y.pc,
      waitLen := y.waitLen, stepping := y.stepping }) :
    Wrote s ((s.clearIssue (engOf c)).setCtx c y) c e := by
  simp only [Prod.mk.injEq] at hkept
  obtain ⟨hg, hpend, hpc, hlive, hstep⟩ := hkept
  have h0 := wrote_clearIssue s c
  have hself : ((s.clearIssue (engOf c)).setCtx c y).ctx c = y := by rw [State.ctx_setCtx, if_pos rfl]
  have hswr : e.swr = 0 := by simp [Effect.swr, hwr]
  constructor
  case rest => rw [hst]; exact h0.rest
  case engines => exact h0.engines
  case engine => exact h0.engine
  case issue => exact h0.issue
  case regs =>
    intro k
    rw [hwr, Option.getD_none, ← State.greg_clearIssue s (engOf c), State.greg, State.greg, hself, hg]
    rfl
  case contexts =>
    intro k hk
    rw [State.ctx_setCtx, if_neg hk, if_neg (by simp [hswr])]
    rfl
  case mlo => rw [hself, ← hprod]
  case mhi => rw [hself, ← hprod]
  case delayed => rw [hself, hpend, hdel, List.append_nil]
  case flags => rw [hself]; exact hflags
  case pc => rw [hself, hpc]
  case live => rw [hself, hlive]
  case stepping => rw [hself, hstep]
  case own => rw [hself]; exact hown

/-- Fields of the context of the instruction are set, none of those that every instruction may change. -/
theorem wrote_own (s : State) (c : Nat) {f : Ctx → Ctx} (hkept : ((f (s.ctx c)).g, (f (s.ctx c)).pend, (f (s.ctx c)).pc,
      (f (s.ctx c)).live, (f (s.ctx c)).stepping) =
      ((s.ctx c).g, (s.ctx c).pend, (s.ctx c).pc, (s.ctx c).live, (s.ctx c).stepping)) :
    Wrote s ((s.clearIssue (engOf c)).updCtx c f) c { own := f } :=
  wrote_setCtx s c rfl rfl rfl hkept rfl rfl rfl

end Sys2Proof.Machine

namespace Sys2Proof.Machine
open Sys2Proof

/-! ### How an instruction ends -/

section
variable {s u : State} {op : EOp} {c : Nat} {o : Operands} {len : Nat} {body : Nat → Operands → State → Eff} {e : Effect}

/-- An instruction that goes on with the next one. -/
theorem State.runIssue_seq (h : s.issued op c o = some len) (hb : body c o (s.clearIssue (engOf c)) = Eff.ok u)
    (hw : Wrote s u c e) (hpc : e.pc = none) : ∃ t, s.runIssue op c o body = .next t ∧ Ran s t c len e :=
  State.runIssue_ran h hb hw (.inl ⟨rfl, hpc⟩)

/-- An instruction that goes on elsewhere. -/
theorem State.runIssue_to {a : BitVec 16} (h : s.issued op c o = some len)
    (hb : body c o (s.clearIssue (engOf c)) = ⟨u, .to a, false⟩) (hw : Wrote s u c e) (hpc : e.pc = some a) :
    ∃ t, s.runIssue op c o body = .next t ∧ Ran s t c len e :=
  State.runIssue_ran h hb hw (.inr ⟨a, rfl, hpc⟩)

/-- `Ran` looks at a state through its contexts, its engines and the rest. -/
theorem Ran.congr {t t' : State} (h : Ran s t c len e)
    (hrest : { t' with ctxs := s.ctxs, engs := s.engs } = { t with ctxs := s.ctxs, engs := s.engs })
    (heng : ∀ k, t'.eng k = t.eng k) (hctx : ∀ k, t'.ctx k = t.ctx k) : Ran s t' c len e := by
  constructor
  case rest => rw [hrest]; exact h.rest
  case engines => intro k hk; rw [heng]; exact h.engines k hk
  case engine => rw [heng]; exact h.engine
  case issue => rw [heng]; exact h.issue
  case regs => intro r; rw [← h.regs r, State.greg, State.greg, hctx, heng]
  case contexts => intro k hk; rw [hctx]; exact h.contexts k hk
  case product => rw [hctx]; exact h.product
  case delayed => rw [hctx]; exact h.delayed
  case flags => rw [hctx]; exact h.flags
  case pc => rw [hctx]; exact h.pc
  case length => rw [hctx]; exact h.length
  case halted => rw [hctx]; exact h.halted
  case stepping => rw [hctx]; exact h.stepping
  case own => rw [hctx]; exact h.own

/-- The context sees RSV_HIT set. -/
theorem Wrote.rsvHit (h : Wrote s u c e) (hown : e.own = id) :
    Wrote s (u.updCtx c fun x => { x with rsvHit := true }) c { e with own := fun x => { x with rsvHit := true } } := by
  generalize hu : (u.updCtx c fun x => { x with rsvHit := true }) = u'
  have hself : u'.ctx c = { u.ctx c with rsvHit := true } := by rw [← hu, State.ctx_updCtx, if_pos rfl]
  have hother : ∀ k, k ≠ c → u'.ctx k = u.ctx k := fun k hk => by rw [← hu, State.ctx_updCtx, if_neg hk]
  have heng : ∀ k, u'.eng k = u.eng k := fun k => by rw [← hu]; rfl
  constructor
  case rest => rw [← hu]; exact h.rest
  case engines => intro k hk; rw [heng]; exact h.engines k hk
  case engine => rw [heng]; exact h.engine
  case issue => rw [heng]; exact h.issue
  case regs => intro k; rw [← h.regs k, State.greg, State.greg, hself, heng]
  case contexts => intro k hk; rw [hother k hk]; exact h.contexts k hk
  case mlo => have := h.mlo; rw [hown] at this; rw [hself]; exact this
  case mhi => have := h.mhi; rw [hown] at this; rw [hself]; exact this
  case delayed => rw [hself]; exact h.delayed
  case flags => have := h.flags; rw [hown] at this; rw [hself]; exact this
  case pc => rw [hself]; exact h.pc
  case live => rw [hself]; exact h.live
  case stepping => rw [hself]; exact h.stepping
  case own =>
    have ho := h.own
    rw [hown] at ho
    rw [hself]
    conv_lhs => rw [ho]
    rfl

/-- Delayed results do not touch RSV_HIT. -/
theorem Ctx.tickPend_rsvHit (x : Ctx) (n : Nat) (b : Bool) :
    { x with rsvHit := b }.tickPend n = { x.tickPend n with rsvHit := b } := by
  have hland : ∀ (l : List Pend) (x : Ctx), l.foldl Ctx.landOne { x with rsvHit := b } =
      { l.foldl Ctx.landOne x with rsvHit := b } := by
    intro l
    induction l with
    | nil => intro x; rfl
    | cons p l ih =>
      intro x
      rw [List.foldl_cons, List.foldl_cons, ← ih]
      congr 1
      unfold Ctx.landOne
      split <;> rfl
  simp only [Ctx.tickPend, hland]

/-- The context of a STEP halts; no other changes. -/
theorem State.ctx_stepEnd (s : State) (c k : Nat) : (s.stepEnd c).ctx k =
    if k = c ∧ ((s.ctx c).live && (s.ctx c).stepping) = true then { s.ctx c with stepping := false, halted := true }
    else s.ctx k := by
  unfold State.stepEnd
  by_cases hs : ((s.ctx c).live && (s.ctx c).stepping) = true <;> by_cases hk : k = c <;> simp [hs, hk]

/-- The end of an instruction that goes on and touched a reserved address, without a trap. -/
theorem Eff.finish_rsv {u : State} {c : Nat} (hoff : u.flag (Reg.PACK_CFG (packOf c)) 8 = false) (len old : Nat) :
    (Eff.mk u .seq true).finish c len old =
      (u.updCtx c fun x => { x.tickPend old with rsvHit := (x.tickPend old).rsvHit || true, waitLen := len }).updCtx c
        fun x => { x with pc := (u.ctx c).pc + BitVec.ofNat 16 len } := by
  have hoff' : (u.updCtx c fun x =>
      { x.tickPend old with rsvHit := (x.tickPend old).rsvHit || true, waitLen := len }).flag
        (Reg.PACK_CFG (packOf c)) 8 = false := hoff
  simp only [Eff.finish, hoff', Bool.and_false, Bool.false_eq_true, if_false]

/-- An access of a reserved address under RSV_TRAP = 0 sets RSV_HIT beside its other effects (R97). -/
theorem State.runIssue_rsv (h : s.issued op c o = some len)
    (hb : body c o (s.clearIssue (engOf c)) = ⟨u, .seq, true⟩) (hw : Wrote s u c e) (hown : e.own = id) (hst : e.st = id)
    (hpc : e.pc = none) (hoff : s.flag (Reg.PACK_CFG (packOf c)) 8 = false) :
    ∃ t, s.runIssue op c o body = .next t ∧ Ran s t c len { e with own := fun x => { x with rsvHit := true } } := by
  have hoff' : u.flag (Reg.PACK_CFG (packOf c)) 8 = false := by
    rw [State.flag, hw.reg hst]
    exact hoff
  have hran := ran_of_wrote (nx := .seq) (len := len) (State.live_of_issued h) (hw.rsvHit hown) (.inl ⟨rfl, hpc⟩)
  have hsame : Ran s (((Eff.mk u .seq true).finish c len (s.ctx c).pend.length).stepEnd c) c len
      { e with own := fun x => { x with rsvHit := true } } := by
    rw [Eff.finish_rsv hoff']
    refine hran.congr ?_ (fun k => ?_) fun k => ?_
    · rw [State.stepEnd_rest, State.stepEnd_rest]; rfl
    · rw [State.stepEnd_eng, State.stepEnd_eng]; rfl
    · simp only [Eff.finish, State.ctx_stepEnd, State.ctx_updCtx, Ctx.tickPend_rsvHit, Bool.false_and,
        Bool.false_eq_true, if_false, if_true, Bool.or_false, Bool.or_true]
      by_cases hk : k = c
      · simp only [hk, true_and, if_true]
      · simp only [hk, false_and, if_false]
  refine ⟨_, ?_, hsame.setHold op o (s.accessCost c op o)⟩
  simp only [State.runIssue, h, hb]
  rfl
end
end Sys2Proof.Machine

namespace Sys2Proof.Machine
open Sys2Proof

/-! ### Values at the operation width (R84, R105) -/

theorem bits_cases (o : Operands) : o.bits = 8 ∨ o.bits = 16 ∨ o.bits = 32 := by
  unfold Operands.bits
  cases o.w <;> cases o.h <;> simp

theorem State.dest_lt (s : State) (c : Nat) (o : Operands) (n : BitVec 4) : s.dest c o n < 2 ^ o.bits :=
  Nat.mod_lt _ (Nat.two_pow_pos _)

/-- Reversing the low `w` bits, by the lowest of them. -/
theorem revBits_succ (w n : Nat) : revBits (w + 1) n = revBits w n * 2 + n / 2 ^ w % 2 := by
  rw [revBits, List.range_succ, List.foldl_append]
  rfl

theorem testBit_revBits (n : Nat) : ∀ w j, (revBits w n).testBit j = (decide (j < w) && n.testBit (w - 1 - j))
  | 0, j => by simp [revBits]
  | w + 1, j => by
    rw [revBits_succ, Nat.add_comm, Nat.mul_comm]
    have hlt : n / 2 ^ w % 2 < 2 ^ 1 := Nat.mod_lt _ (by decide)
    rw [Nat.add_comm, show 2 * revBits w n = 2 ^ 1 * revBits w n from rfl, Nat.testBit_two_pow_mul_add _ hlt]
    cases j with
    | zero => simp [Nat.testBit_eq_decide_div_mod_eq]
    | succ j =>
      rw [if_neg (by omega), Nat.add_sub_cancel, testBit_revBits n w j, show w + 1 - 1 - (j + 1) = w - 1 - j by omega]
      simp

theorem revBits_lt (w n : Nat) : revBits w n < 2 ^ w :=
  Nat.lt_pow_two_of_testBit _ fun j hj => by simp [testBit_revBits, show ¬ j < w by omega]

theorem State.opnd_lt (s : State) (c : Nat) (o : Operands) (n : BitVec 4) : s.opnd c o n < 2 ^ o.bits := by
  rw [State.opnd]
  split
  · exact revBits_lt _ _
  · exact Nat.mod_lt _ (Nat.two_pow_pos _)

/-! ### Exact results and what the ALU keeps of them (R84, R127) -/

theorem narrow_natCast (w n : Nat) : narrow w (n : Int) = n % 2 ^ w := by
  rw [narrow, ← Int.natCast_emod, Int.toNat_natCast]

theorem narrow_of_lt {w n : Nat} (h : n < 2 ^ w) : narrow w (n : Int) = n := by
  rw [narrow_natCast, Nat.mod_eq_of_lt h]

/-- A difference at the width, computed without going below 0. -/
theorem narrow_sub {w b k : Nat} (a : Nat) (hb : b < 2 ^ w) (hk : k ≤ 1) :
    narrow w ((a : Int) - b - k) = (a + 2 * 2 ^ w - b - k) % 2 ^ w := by
  have hpos := Nat.two_pow_pos w
  have hle : b + k ≤ a + 2 * 2 ^ w := by omega
  have : ((a + 2 * 2 ^ w - b - k : Nat) : Int) = (a : Int) - b - k + 2 * ((2 ^ w : Nat) : Int) := by
    omega
  rw [← narrow_natCast, this, narrow, narrow, Int.add_mul_emod_self_right]

theorem overflows_eq (w : Nat) (y : Int) : overflows w y =
    !(decide (-((2 ^ (w - 1) : Nat) : Int) ≤ y) && decide (y < ((2 ^ (w - 1) : Nat) : Int))) := by
  rw [overflows, Bool.eq_iff_iff]
  simp only [decide_eq_true_eq, Bool.not_eq_true', Bool.and_eq_false_iff, decide_eq_false_iff_not, not_le, not_lt]

theorem overflows_zero (w : Nat) : overflows w 0 = false := by
  have := Nat.two_pow_pos (w - 1)
  rw [overflows, decide_eq_false_iff_not]
  omega

theorem signed_zero (w : Nat) : signed w 0 = 0 := if_pos (Nat.two_pow_pos _)

/-- The result and the flags that belong to an exact result `x`, a carry and a signed result `y`. -/
def Alu.exact (w : Nat) (x : Int) (cf : Bool) (y : Int) : Alu := Alu.of w (narrow w x) cf (overflows w y)

theorem aluEffect_eq (w : Nat) (d : Option Nat) (x : Int) (cf : Bool) (y : Int) :
    aluEffect w d x cf y =
      { wr := fun r => if d = some r then some (W (Alu.exact w x cf y).res) else none
        flags := some ((Alu.exact w x cf y).z, (Alu.exact w x cf y).cf, (Alu.exact w x cf y).n, (Alu.exact w x cf y).v) } := by
  rw [aluEffect, Alu.exact, Alu.of, overflows_eq]

/-- One register written, in the words of `aluEffect`. -/
theorem wrOne_eq (r : Nat) (v : Word) : wrOne r v = fun k => if some r = some k then some v else none :=
  funext fun k => by simp only [wrOne, Option.some.injEq, eq_comm]

section
variable {w a b k : Nat}

theorem opAdd_exact (k : Nat) : opAdd w a b k = Alu.exact w ((a : Int) + b) (decide (2 ^ w ≤ a + b)) (signed w a + signed w b) := by
  rw [opAdd, Alu.add, Alu.exact, ← Nat.cast_add, narrow_natCast]
  simp

theorem opAdc_exact : opAdc w a b k =
    Alu.exact w ((a : Int) + b + k) (decide (2 ^ w ≤ a + b + k)) (signed w a + signed w b + k) := by
  rw [opAdc, Alu.add, Alu.exact, ← Nat.cast_add, ← Nat.cast_add, narrow_natCast]

theorem opSub_exact (hb : b < 2 ^ w) (k : Nat) :
    opSub w a b k = Alu.exact w ((a : Int) - b) (decide (a < b)) (signed w a - signed w b) := by
  have := narrow_sub a hb (Nat.zero_le 1)
  rw [Nat.cast_zero, sub_zero] at this
  rw [opSub, Alu.sub, Alu.exact, this]
  simp

theorem opSbc_exact (hb : b < 2 ^ w) (hk : k ≤ 1) :
    opSbc w a b k = Alu.exact w ((a : Int) - b - k) (decide (a < b + k)) (signed w a - signed w b - k) := by
  rw [opSbc, Alu.sub, Alu.exact, narrow_sub a hb hk]

theorem Alu.logic_exact {r : Nat} (h : r < 2 ^ w) : Alu.logic w r = Alu.exact w (r : Int) false 0 := by
  rw [Alu.logic, Alu.exact, narrow_of_lt h, overflows_zero]

theorem opAnd_exact (ha : a < 2 ^ w) (k : Nat) : opAnd w a b k = Alu.exact w ((a &&& b : Nat) : Int) false 0 :=
  Alu.logic_exact (Nat.and_le_left.trans_lt ha)

theorem opOr_exact (ha : a < 2 ^ w) (hb : b < 2 ^ w) (k : Nat) :
    opOr w a b k = Alu.exact w ((a ||| b : Nat) : Int) false 0 := Alu.logic_exact (Nat.or_lt_two_pow ha hb)

theorem opXor_exact (ha : a < 2 ^ w) (hb : b < 2 ^ w) (k : Nat) :
    opXor w a b k = Alu.exact w ((a ^^^ b : Nat) : Int) false 0 := Alu.logic_exact (Nat.xor_lt_two_pow ha hb)

theorem opNot_exact (hb : b < 2 ^ w) (a k : Nat) : opNot w a b k = Alu.exact w (-1 - (b : Int)) false 0 := by
  have hres : narrow w (-1 - (b : Int)) = 2 ^ w - 1 - b := by
    have h := narrow_sub (w := w) (b := b) (k := 1) 0 hb le_rfl
    rw [show ((0 : Nat) : Int) - b - (1 : Nat) = -1 - (b : Int) by push_cast; ring] at h
    rw [h, show 0 + 2 * 2 ^ w - b - 1 = 2 ^ w - 1 - b + 2 ^ w by omega, Nat.add_mod_right, Nat.mod_eq_of_lt (by omega)]
  rw [opNot, Alu.logic, Alu.exact, hres, overflows_zero]

theorem opNeg_exact (hb : b < 2 ^ w) (a k : Nat) :
    opNeg w a b k = Alu.exact w (0 - (b : Int)) (decide (b ≠ 0)) (0 - signed w b) := by
  have hres := narrow_sub 0 hb (Nat.zero_le 1)
  simp only [Nat.cast_zero, sub_zero] at hres
  rw [opNeg, Alu.sub, Alu.exact, hres, signed_zero]
  simp [Nat.pos_iff_ne_zero]

end

/-! ### The three shapes of an ALU instruction -/

section
variable {s : State} {op : EOp} {c : Nat} {o : Operands} {len : Nat}

/-- A result with its flags goes to `d`, or only the flags are set (R84, R127). -/
theorem State.runIssue_alu {body : Nat → Operands → State → Eff} {a : Alu} {wr : Bool} {x y : Int} {cf : Bool}
    (h : s.issued op c o = some len)
    (hb : body c o (s.clearIssue (engOf c)) =
      Eff.ok ((if wr then (s.clearIssue (engOf c)).setR c (regNo o o.d) (W a.res) else s.clearIssue (engOf c)).setFlags c a))
    (ha : a = Alu.exact o.bits x cf y) :
    ∃ t, s.runIssue op c o body = .next t ∧
      Ran s t c len (aluEffect o.bits (if wr then some (regNo o o.d) else none) x cf y) := by
  subst ha
  refine State.runIssue_seq h hb ?_ (by rw [aluEffect])
  rw [aluEffect_eq]
  cases wr with
  | true =>
    rw [if_pos rfl, if_pos rfl, ← wrOne_eq]
    exact ((wrote_clearIssue s c).setR rfl _ (regNo_lt o o.d) _).setFlags _
  | false => exact (wrote_clearIssue s c).setFlags _

/-- A plain value goes to `d` (R127, R134). -/
theorem State.runIssue_put {body : Nat → Operands → State → Eff} {v : Word} (h : s.issued op c o = some len)
    (hb : body c o (s.clearIssue (engOf c)) = Eff.ok ((s.clearIssue (engOf c)).setR c (regNo o o.d) v)) :
    ∃ t, s.runIssue op c o body = .next t ∧ Ran s t c len { wr := wrOne (regNo o o.d) v } :=
  State.runIssue_seq h hb ((wrote_clearIssue s c).setR rfl _ (regNo_lt o o.d) _) rfl

/-- A two-register form (R127). -/
theorem State.runIssue_aluRegs {f : Nat → Nat → Nat → Nat → Alu} (wr : Bool) {x y : Int} {cf : Bool}
    (ha : f o.bits (s.dest c o o.d) (s.opnd c o o.s) (s.ctx c).cf.toNat = Alu.exact o.bits x cf y)
    (h : s.issued op c o = some len) :
    ∃ t, s.runIssue op c o (aluRegs f wr) = .next t ∧
      Ran s t c len (aluEffect o.bits (if wr then some (regNo o o.d) else none) x cf y) :=
  State.runIssue_alu h (by simp only [aluRegs, State.dest_clearIssue, State.opnd_clearIssue]; rfl) ha

/-- An immediate form (R109, R127). -/
theorem State.runIssue_aluImm {f : Nat → Nat → Nat → Nat → Alu} (wr : Bool) {x y : Int} {cf : Bool}
    (ha : f o.bits (s.dest c o o.d) o.immW (s.ctx c).cf.toNat = Alu.exact o.bits x cf y)
    (h : s.issued op c o = some len) :
    ∃ t, s.runIssue op c o (aluImm f wr) = .next t ∧
      Ran s t c len (aluEffect o.bits (if wr then some (regNo o o.d) else none) x cf y) :=
  State.runIssue_alu h (by simp only [aluImm, State.dest_clearIssue]; rfl) ha

end

/-- Settles O2: each operation keeps the exact result narrowed to the width, with the flags of that result. -/
theorem arithmeticAndLogicAtTheWidth : Obligations.ArithmeticAndLogicAtTheWidth := by
  unfold Obligations.ArithmeticAndLogicAtTheWidth
  constructor
  · intro s c o len
    have ha := s.dest_lt c o o.d
    have hb := s.opnd_lt c o o.s
    exact ⟨State.runIssue_aluRegs true (opAdd_exact _), State.runIssue_aluRegs true opAdc_exact,
      State.runIssue_aluRegs true (opSub_exact hb _), State.runIssue_aluRegs true (opSbc_exact hb (Bool.toNat_le _)),
      State.runIssue_aluRegs true (opAnd_exact ha _), State.runIssue_aluRegs true (opOr_exact ha hb _),
      State.runIssue_aluRegs true (opXor_exact ha hb _), State.runIssue_aluRegs true (opNot_exact hb _ _),
      State.runIssue_aluRegs true (opNeg_exact hb _ _), State.runIssue_aluRegs false (opSub_exact hb _),
      State.runIssue_aluRegs false (opAnd_exact ha _),
      fun h => State.runIssue_put h (by rw [bodyMov, State.opnd_clearIssue])⟩
  · intro s c o len
    have ha := s.dest_lt c o o.d
    have hb : o.immW < 2 ^ o.bits := Nat.mod_lt _ (Nat.two_pow_pos _)
    exact ⟨State.runIssue_aluImm true (opAdd_exact _), State.runIssue_aluImm true (opSub_exact hb _),
      State.runIssue_aluImm true (opAnd_exact ha _), State.runIssue_aluImm true (opOr_exact ha hb _),
      State.runIssue_aluImm true (opXor_exact ha hb _), State.runIssue_aluImm false (opSub_exact hb _),
      fun h => State.runIssue_put h rfl⟩

end Sys2Proof.Machine

namespace Sys2Proof.Machine
open Sys2Proof

/-! ### Counting and reordering bits (R134) -/

theorem popCount_eq (n : Nat) : ∀ w, popCount w n = ((List.range w).filter fun j => n.testBit j).length
  | 0 => rfl
  | w + 1 => by
    have hstep : popCount (w + 1) n = popCount w n + n / 2 ^ w % 2 := by
      rw [popCount, List.range_succ, List.foldl_append]
      rfl
    rw [hstep, popCount_eq n w, List.range_succ, List.filter_append, List.length_append]
    cases hb : n.testBit w
    · have : n / 2 ^ w % 2 = 0 := by
        rw [Nat.testBit_eq_decide_div_mod_eq, decide_eq_false_iff_not] at hb
        omega
      simp [hb, this]
    · have : n / 2 ^ w % 2 = 1 := by simpa [Nat.testBit_eq_decide_div_mod_eq] using hb
      simp [hb, this]

theorem popCount_lt (o : Operands) (n : Nat) : popCount o.bits n < 2 ^ o.bits := by
  have hle : popCount o.bits n ≤ o.bits := by
    rw [popCount_eq]
    exact (List.length_filter_le _ _).trans_eq List.length_range
  exact hle.trans_lt Nat.lt_two_pow_self

theorem testBit_swapBytes (n : Nat) : ∀ k j,
    (swapBytes k n).testBit j = (decide (j < 8 * k) && n.testBit (8 * k - 8 - j / 8 * 8 + j % 8))
  | 0, j => by simp [swapBytes]
  | k + 1, j => by
    have hstep : swapBytes (k + 1) n = 2 ^ 8 * swapBytes k n + n / 2 ^ (8 * k) % 2 ^ 8 := by
      rw [swapBytes, List.range_succ, List.foldl_append, Nat.pow_mul, Nat.mul_comm (2 ^ 8)]
      rfl
    rw [hstep, Nat.testBit_two_pow_mul_add _ (Nat.mod_lt _ (by decide))]
    by_cases hj : j < 8
    · rw [if_pos hj, Nat.testBit_mod_two_pow, Nat.testBit_div_two_pow,
        show 8 * (k + 1) - 8 - j / 8 * 8 + j % 8 = j + 8 * k by omega]
      simp [hj, show j < 8 * (k + 1) by omega]
    · rw [if_neg hj, testBit_swapBytes n k]
      by_cases hk : j < 8 * (k + 1)
      · rw [show 8 * (k + 1) - 8 - j / 8 * 8 + j % 8 = 8 * k - 8 - (j - 8) / 8 * 8 + (j - 8) % 8 by omega]
        simp [hk, show j - 8 < 8 * k by omega]
      · simp [hk, show ¬ j - 8 < 8 * k by omega]

theorem testBit_swapAt (o : Operands) (n j : Nat) :
    (swapAt o.bits n).testBit j = (decide (j < o.bits) && n.testBit (o.bits - 8 - j / 8 * 8 + j % 8)) := by
  have hw : 8 * (o.bits / 8) = o.bits := by rcases bits_cases o with h | h | h <;> rw [h]
  rw [swapAt, testBit_swapBytes, hw]

/-- A number with no bit from `w` on. -/
theorem lt_two_pow_of_bits {r w : Nat} {f : Nat → Bool} (h : ∀ j, r.testBit j = (decide (j < w) && f j)) : r < 2 ^ w :=
  Nat.lt_pow_two_of_testBit _ fun j hj => by simp [h, show ¬ j < w by omega]

/-! ### Lanes of the C registers (R133) -/

theorem getLsbD_lane (v : BitVec 128) (l : Nat) {i : Nat} (hi : i < 32) : (lane v l).getLsbD i = v.getLsbD (32 * l + i) := by
  rw [lane, BitVec.getLsbD_ofNat, Nat.testBit_div_two_pow, BitVec.testBit_toNat, Nat.add_comm i]
  simp [hi]

theorem getLsbD_setLane (v : BitVec 128) (l : Nat) (x : Word) {i : Nat} (hi : i < 128) :
    (setLane v l x).getLsbD i = if 32 * l ≤ i ∧ i < 32 * l + 32 then x.getLsbD (i - 32 * l) else v.getLsbD i := by
  have hx : x.toNat = x.toNat % 2 ^ 32 := (Nat.mod_eq_of_lt x.isLt).symm
  rw [setLane, BitVec.getLsbD_ofNat, hx, testBit_replace, BitVec.testBit_toNat, BitVec.testBit_toNat]
  simp [hi]

/-- The lanes of a register with one lane replaced. -/
theorem lane_setLane (v : BitVec 128) (l : Nat) (x : Word) {j : Nat} (hj : j < 4) :
    lane (setLane v l x) j = if j = l then x else lane v j := by
  refine BitVec.eq_of_getLsbD_eq fun i hi => ?_
  rw [getLsbD_lane _ _ hi, getLsbD_setLane _ _ _ (by omega)]
  by_cases h : j = l
  · rw [if_pos (by omega), if_pos h, show 32 * j + i - 32 * l = i by omega]
  · rw [if_neg (by omega), if_neg h, getLsbD_lane _ _ hi]

theorem leNat_append (l m : List Byte) : leNat (l ++ m) = leNat l + 256 ^ l.length * leNat m := by
  induction l with
  | nil => simp [leNat]
  | cons b l ih =>
    rw [List.cons_append, leNat, leNat, ih, List.length_cons, Nat.pow_succ]
    ring

theorem leNat_leBytes (v : Nat) : ∀ n, leNat (leBytes n v) = v % 256 ^ n
  | 0 => by simp [leBytes, leNat, Nat.mod_one]
  | n + 1 => by
    have hlast : leNat [B8 (v / 256 ^ n)] = v / 256 ^ n % 256 := by simp [leNat, B8]
    rw [leBytes, List.range_succ, List.map_append, leNat_append, ← leBytes, leNat_leBytes v n, length_leBytes,
      List.map_singleton, hlast, Nat.pow_succ, Nat.mod_mul]

/-- The word at place `j` of words put together, least significant first. -/
theorem words_at (f : Nat → Word) : ∀ n j, j < n →
    leNat ((List.range n).flatMap fun i => leBytes 4 (f i).toNat) / 2 ^ (32 * j) % 2 ^ 32 = (f j).toNat
  | n + 1, j, hj => by
    have hword : leNat (leBytes 4 (f n).toNat) = (f n).toNat := by
      rw [leNat_leBytes]; exact Nat.mod_eq_of_lt (f n).isLt
    have hlen : ((List.range n).flatMap fun i => leBytes 4 (f i).toNat).length = 4 * n := by
      simp [length_leBytes, Nat.mul_comm]
    have hlt := leNat_lt ((List.range n).flatMap fun i => leBytes 4 (f i).toNat)
    rw [List.range_succ, List.flatMap_append, leNat_append, hlen]
    simp only [List.flatMap_cons, List.flatMap_nil, List.append_nil, hword]
    rw [hlen] at hlt
    have hp : 256 ^ (4 * n) = 2 ^ (32 * n) := by
      rw [show 256 = 2 ^ 8 by rfl, ← Nat.pow_mul]; congr 1; omega
    rw [hp] at hlt ⊢
    by_cases h : j = n
    · subst h
      rw [Nat.add_mul_div_left _ _ (Nat.two_pow_pos _), Nat.div_eq_of_lt hlt, Nat.zero_add]
      exact Nat.mod_eq_of_lt (f j).isLt
    · obtain ⟨d, rfl⟩ : ∃ d, n = j + 1 + d := ⟨n - j - 1, by omega⟩
      rw [show 32 * (j + 1 + d) = 32 * j + (32 + 32 * d) by omega, Nat.pow_add, Nat.mul_assoc,
        Nat.add_mul_div_left _ _ (Nat.two_pow_pos _), Nat.pow_add 2 32, Nat.mul_assoc, Nat.add_mul_mod_self_left]
      exact words_at f _ j (by omega)

/-- The lanes of a register filled from four words. -/
theorem lane_words (f : Nat → Word) {j : Nat} (hj : j < 4) :
    lane (BitVec.ofNat 128 (leNat ((List.range 4).flatMap fun i => leBytes 4 (f i).toNat))) j = f j := by
  have hlt := leNat_lt ((List.range 4).flatMap fun i => leBytes 4 (f i).toNat)
  rw [show ((List.range 4).flatMap fun i => leBytes 4 (f i).toNat).length = 16 from rfl] at hlt
  refine BitVec.eq_of_toNat_eq ?_
  rw [lane, BitVec.toNat_ofNat, BitVec.toNat_ofNat, Nat.mod_eq_of_lt (show _ < 2 ^ 128 from hlt), words_at f 4 j hj]

/-! ### Instructions on bits and on special registers (R86, R134) -/

section
variable {s : State} {op : EOp} {c : Nat} {o : Operands} {len : Nat}

/-- A result with the flags of a logic result (R134). -/
theorem State.runIssue_logic {body : Nat → Operands → State → Eff} {r : Nat} (h : s.issued op c o = some len)
    (hb : body c o (s.clearIssue (engOf c)) =
      Eff.ok (((s.clearIssue (engOf c)).setR c (regNo o o.d) (W (Alu.logic o.bits r).res)).setFlags c (Alu.logic o.bits r)))
    (hr : r < 2 ^ o.bits) :
    ∃ t, s.runIssue op c o body = .next t ∧
      Ran s t c len (aluEffect o.bits (some (regNo o o.d)) (r : Int) false 0) :=
  State.runIssue_alu (wr := true) h hb (Alu.logic_exact hr)

/-- A result without flags that reorders bits of its operands (R134). -/
theorem State.runIssue_copies {body : Nat → Operands → State → Eff} {r : Nat} {bit : Nat → Bool}
    (h : s.issued op c o = some len)
    (hb : body c o (s.clearIssue (engOf c)) = Eff.ok ((s.clearIssue (engOf c)).setR c (regNo o o.d) (W r)))
    (hbits : ∀ j, r.testBit j = (decide (j < o.bits) && bit j)) :
    ∃ t r, s.runIssue op c o body = .next t ∧ r < 2 ^ o.bits ∧ (∀ j, j < o.bits → r.testBit j = bit j) ∧
      Ran s t c len { wr := wrOne (regNo o o.d) (W r) } := by
  obtain ⟨t, ht, hran⟩ := State.runIssue_put h hb
  exact ⟨t, r, ht, lt_two_pow_of_bits hbits, fun j hj => by simp [hbits, hj], hran⟩

/-- The bits INS leaves (R134). -/
theorem testBit_insert {w p n : Nat} (x : Nat) {d : Nat} (hd : d < 2 ^ w) (hpn : p + n ≤ w) (j : Nat) :
    (d - d / 2 ^ p % 2 ^ n * 2 ^ p + x % 2 ^ n * 2 ^ p).testBit j =
      (decide (j < w) && if p ≤ j ∧ j < p + n then x.testBit (j - p) else d.testBit j) := by
  rw [testBit_replace]
  by_cases hj : j < w
  · simp [hj]
  · have hout : d.testBit j = false := Nat.testBit_lt_two_pow (hd.trans_le (Nat.pow_le_pow_right (by decide) (by omega)))
    rw [if_neg (by omega), hout]
    simp [hj]

/-- MFSP of a special register that there is (R86). -/
theorem State.runIssue_mfsp {v : Word} (h : s.issued .mfsp c o = some len)
    (hv : (s.ctx c).special o.s.toNat = some v) :
    ∃ t, exec (.mfsp c o) s = .next t ∧ Ran s t c len { wr := wrOne (regNo o o.d) v } :=
  State.runIssue_put h (by rw [bodyMfsp, State.ctx_clearIssue, hv])

/-- FLAGS as a word (R85, R86). -/
theorem Ctx.flags_eq (x : Ctx) :
    x.flags = 0#28 ++ BitVec.ofBool x.v ++ BitVec.ofBool x.n ++ BitVec.ofBool x.cf ++ BitVec.ofBool x.z := by
  rw [Ctx.flags]
  cases x.v <;> cases x.n <;> cases x.cf <;> cases x.z <;> rfl

/-- MTSP of a special register that there is (R86). -/
theorem State.runIssue_mtsp {y : Ctx} {e : Effect} (h : s.issued .mtsp c o = some len)
    (hy : (s.ctx c).putSpecial o.d.toNat (s.greg c (regNo o o.s)) = some y)
    (hw : Wrote s ((s.clearIssue (engOf c)).setCtx c y) c e) (hpc : e.pc = none) :
    ∃ t, exec (.mtsp c o) s = .next t ∧ Ran s t c len e :=
  State.runIssue_seq h (by rw [bodyMtsp, State.ctx_clearIssue, State.greg_clearIssue, hy]) hw hpc

/-- What MTC leaves in the lanes of its C register (R133). -/
theorem State.runIssue_mtc (h : s.issued .mtc c o = some len) : ∃ t b, exec (.mtc c o) s = .next t ∧
    (∀ j : Nat, j < 4 → lane b j = if o.cx then (if j = o.x.toNat then s.greg c o.s.toNat
      else lane (Tab.get 0 (s.ctx c).c o.d.toNat) j) else s.greg c (o.s.toNat + j)) ∧
    Ran s t c len { own := fun y => { y with c := Tab.set 0 y.c o.d.toNat b } } := by
  obtain ⟨b, hb⟩ : ∃ b, b = if o.cx then setLane (Tab.get 0 (s.ctx c).c o.d.toNat) o.x.toNat (s.greg c o.s.toNat)
      else BitVec.ofNat 128 (leNat ((List.range 4).flatMap fun i => leBytes 4 (s.greg c (o.s.toNat + i)).toNat)) := ⟨_, rfl⟩
  have hbody : bodyMtc c o (s.clearIssue (engOf c)) =
      Eff.ok ((s.clearIssue (engOf c)).updCtx c fun y => { y with c := Tab.set 0 y.c o.d.toNat b }) := by
    simp only [bodyMtc, State.ctx_clearIssue, State.greg_clearIssue, hb]
  obtain ⟨t, ht, hran⟩ := State.runIssue_seq h hbody (wrote_own s c rfl) rfl
  refine ⟨t, b, ht, fun j hj => ?_, hran⟩
  rw [hb]
  by_cases hx : o.cx = true
  · rw [if_pos hx, if_pos hx, lane_setLane _ _ _ hj]
  · rw [if_neg hx, if_neg hx, lane_words _ hj]

/-- MFC of one lane (R133). -/
theorem State.runIssue_mfcLane (h : s.issued .mfc c o = some len) (hx : o.cx = true) :
    ∃ t, exec (.mfc c o) s = .next t ∧
      Ran s t c len { wr := wrOne o.d.toNat (lane (Tab.get 0 (s.ctx c).c o.s.toNat) o.x.toNat) } :=
  State.runIssue_seq h (by simp only [bodyMfc, hx, if_true]; rfl) ((wrote_clearIssue s c).setG o.d.isLt _) rfl

/-- MFC of four lanes (R133). -/
theorem State.runIssue_mfcAll (h : s.issued .mfc c o = some len) (hx : o.cx = false) (hd : o.d.toNat ≤ 12) :
    ∃ t, exec (.mfc c o) s = .next t ∧ Ran s t c len
      { wr := fun r => if o.d.toNat ≤ r ∧ r < o.d.toNat + 4
          then some (lane (Tab.get 0 (s.ctx c).c o.s.toNat) (r - o.d.toNat)) else none } := by
  generalize hv : Tab.get 0 (s.ctx c).c o.s.toNat = v
  generalize hr : o.d.toNat = r at hd
  have hwr : (fun k => if r ≤ k ∧ k < r + 4 then some (lane v (k - r)) else none) =
      putReg (r + 3) (lane v 3) (putReg (r + 2) (lane v 2) (putReg (r + 1) (lane v 1)
        (putReg (r + 0) (lane v 0) fun _ => none))) := by
    funext k
    by_cases hk : r ≤ k ∧ k < r + 4
    · obtain ⟨i, rfl⟩ : ∃ i, k = r + i := ⟨k - r, by omega⟩
      have hi : i < 4 := by omega
      rw [if_pos hk, Nat.add_sub_cancel_left]
      interval_cases i <;> simp [putReg]
    · rw [if_neg hk]
      simp only [putReg]
      rw [if_neg (by omega), if_neg (by omega), if_neg (by omega), if_neg (by omega)]
  rw [hwr]
  refine State.runIssue_seq h (by simp only [bodyMfc, hx, hv, hr, State.ctx_clearIssue]; rfl) ?_ rfl
  exact ((((wrote_clearIssue s c).setG (r := r + 0) (by omega) _).setG (r := r + 1) (by omega) _).setG (r := r + 2)
    (by omega) _).setG (r := r + 3) (by omega) _

/-- CRCB of a CRC of at most 32 bits (R135). -/
theorem State.runIssue_crcb (h : s.issued .crcb c o = some len) (hcfg : (s.ctx c).crcCfg.toNat % 4 ≠ 3) :
    let wc := 8 * 2 ^ ((s.ctx c).crcCfg.toNat % 4)
    ∃ t, exec (.crcb c o) s = .next t ∧ Ran s t c len
      { wr := wrOne (regNo o o.d) (W (crcStep wc ((s.ctx c).polyLo.toNat % 2 ^ wc) (decide (4 ≤ (s.ctx c).crcCfg.toNat))
          ((s.greg c (regNo o o.d)).toNat % 2 ^ wc) (s.opnd c o o.s))) } := by
  intro wc
  have hwidth : wc ∣ 32 ∧ wc ≠ 64 := by
    have hlt : (s.ctx c).crcCfg.toNat % 4 < 3 := by omega
    simp only [wc]
    generalize (s.ctx c).crcCfg.toNat % 4 = k at hlt
    interval_cases k <;> decide
  have hpoly : crcPoly (s.ctx c).polyLo (s.ctx c).polyHi (s.ctx c).crcCfg = (s.ctx c).polyLo.toNat % 2 ^ wc := by
    obtain ⟨m, hm⟩ := Nat.pow_dvd_pow 2 (Nat.le_of_dvd (by decide) hwidth.1)
    rw [crcPoly, crcWidth, hm, Nat.mul_left_comm, Nat.add_mul_mod_self_left]
  refine State.runIssue_put h ?_
  rw [bodyCrcb]
  simp only [State.ctx_clearIssue, State.opnd_clearIssue, State.greg_clearIssue, hpoly]
  rw [if_neg (by rw [crcWidth]; exact hwidth.2)]
  rfl

end

/-- Settles O5: each instruction by what it leaves in its registers, bit by bit or lane by lane. -/
theorem bitSpecialLaneAndCrcInstructions : Obligations.BitSpecialLaneAndCrcInstructions := by
  unfold Obligations.BitSpecialLaneAndCrcInstructions
  constructor
  · intro s c o len
    have hb := s.opnd_lt c o o.s
    refine ⟨fun h => ?_, fun h => ?_, fun h => ?_, fun h => ?_, fun h _ => ?_, fun h hpn => ?_⟩
    · rw [← popCount_eq]
      exact State.runIssue_logic h (by simp only [bitFlags, State.opnd_clearIssue]; rfl)
        ((Nat.mod_le _ _).trans_lt (popCount_lt o _))
    · rw [← popCount_eq]
      exact State.runIssue_logic h (by simp only [bitFlags, State.opnd_clearIssue]) (popCount_lt o _)
    · exact State.runIssue_copies h (by simp only [bitPlain, State.dest_clearIssue]) (testBit_revBits _ _)
    · exact State.runIssue_copies h (by simp only [bitPlain, State.dest_clearIssue]) (testBit_swapAt o _)
    · exact State.runIssue_logic h (by simp only [bodyExt, State.opnd_clearIssue]; rfl)
        (((Nat.mod_le _ _).trans (Nat.div_le_self _ _)).trans_lt hb)
    · exact State.runIssue_copies h (by simp only [bodyIns, State.dest_clearIssue]; rfl)
        (testBit_insert _ (s.dest_lt c o o.d) hpn)
  · intro s c o len
    refine ⟨fun h => ?_, fun h => ?_, State.runIssue_mtc, fun h hd => ?_, fun h hcfg => ?_⟩
    · refine ⟨fun hs => ?_, fun hs => ?_, fun hs => ?_, fun hs => ?_, fun hs => ?_, fun hs => ?_, fun hs => ?_⟩ <;>
        refine State.runIssue_mfsp h ((congrArg (fun n : BitVec 4 => (s.ctx c).special n.toNat) hs).trans ?_)
      · exact congrArg some (BitVec.eq_of_toNat_eq (by simp))
      · exact congrArg some (Ctx.flags_eq _)
      iterate 4 rfl
      · exact congrArg some (BitVec.eq_of_toNat_eq (by simp))
    · have special : ∀ {n : BitVec 4}, o.d = n → (s.ctx c).putSpecial o.d.toNat (s.greg c (regNo o o.s)) =
          (s.ctx c).putSpecial n.toNat (s.greg c (regNo o o.s)) := fun hd => by rw [hd]
      refine ⟨fun hd => ?_, fun hd => ?_, fun hd => ?_, fun hd => ?_, fun hd => ?_, fun hd => ?_⟩
      · refine State.runIssue_mtsp h (special hd) (wrote_setCtx s c rfl rfl rfl rfl rfl ?_ rfl) rfl
        simp only [Ctx.putFlags, bitOf_eq_getLsbD]
        rfl
      iterate 4 exact State.runIssue_mtsp h (special hd) (wrote_setCtx s c rfl rfl rfl rfl rfl rfl rfl) rfl
      · refine State.runIssue_mtsp h (special hd) (wrote_setCtx s c rfl rfl rfl rfl rfl rfl ?_) rfl
        simp
    · by_cases hx : o.cx = true
      · simp only [hx, if_true]
        exact State.runIssue_mfcLane h hx
      · have hx' : o.cx = false := by simpa using hx
        simp only [hx', Bool.false_eq_true, if_false]
        exact State.runIssue_mfcAll h hx' (by simpa [hx] using hd)
    · obtain ⟨t, ht, hran⟩ := State.runIssue_crcb h hcfg
      exact ⟨t, _, ht, hran, rfl⟩

end Sys2Proof.Machine

namespace Sys2Proof.Machine
open Sys2Proof

/-! ### Words in a memory -/

/-- Bytes that hold a number are read as that number. -/
theorem Mem.rdN_of_bytes {m : Mem} : ∀ {n a v : Nat}, (∀ k < n, m.rd (a + k) = B8 (v / 256 ^ k)) → m.rdN a n = v % 256 ^ n
  | 0, _, _, _ => by simp [Mem.rdN, Nat.mod_one]
  | n + 1, a, v, h => by
    have h0 := h 0 (Nat.succ_pos n)
    rw [Nat.add_zero, Nat.pow_zero, Nat.div_one] at h0
    have htail : m.rdN (a + 1) n = v / 256 % 256 ^ n := Mem.rdN_of_bytes fun k hk => by
      rw [Nat.add_assoc, Nat.add_comm 1, h (k + 1) (by omega), Nat.div_div_eq_div_mul, Nat.pow_succ, Nat.mul_comm 256]
    rw [Mem.rdN, h0, htail, Nat.pow_succ, Nat.mul_comm (256 ^ n), Nat.mod_mul, B8, BitVec.toNat_ofNat]

theorem Mem.rdN_wrN (m : Mem) (a n v : Nat) : (m.wrN a n v).rdN a n = v % 256 ^ n :=
  Mem.rdN_of_bytes fun k hk => Mem.rd_wrN_of_in m a n v k hk

theorem Mem.rdN_congr {m m' : Mem} : ∀ {n a : Nat}, (∀ k < n, m'.rd (a + k) = m.rd (a + k)) → m'.rdN a n = m.rdN a n
  | 0, _, _ => rfl
  | n + 1, a, h => by
    have htail : m'.rdN (a + 1) n = m.rdN (a + 1) n := Mem.rdN_congr fun k hk => by
      rw [Nat.add_assoc, Nat.add_comm 1]
      exact h (k + 1) (by omega)
    rw [Mem.rdN, Mem.rdN, htail, show m'.rd a = m.rd a from h 0 (Nat.succ_pos n)]

/-- Words written one after another at addresses relative to `base`. -/
def putWords (base : Nat) (l : List (Nat × Nat)) (m : Mem) : Mem := l.foldl (fun m p => m.wrN (base + p.1) 4 p.2) m

theorem rd_putWords_of_out {base b : Nat} : ∀ (l : List (Nat × Nat)) (m : Mem),
    (∀ p ∈ l, b < base + p.1 ∨ base + p.1 + 4 ≤ b) → (putWords base l m).rd b = m.rd b
  | [], _, _ => rfl
  | p :: l, m, h => by
    rw [putWords, List.foldl_cons, ← putWords, rd_putWords_of_out l _ fun q hq => h q (List.mem_cons_of_mem p hq),
      Mem.rd_wrN_of_out _ _ _ _ _ (h p List.mem_cons_self)]

/-- Words written at rising places read back. -/
theorem rdN_putWords {base : Nat} : ∀ (l : List (Nat × Nat)) (m : Mem), l.Pairwise (fun p q => p.1 + 4 ≤ q.1) →
    ∀ p ∈ l, (putWords base l m).rdN (base + p.1) 4 = p.2 % 2 ^ 32
  | q :: l, m, hl, p, hp => by
    rw [List.pairwise_cons] at hl
    rw [putWords, List.foldl_cons, ← putWords]
    rcases List.mem_cons.1 hp with rfl | hp
    · refine (Mem.rdN_congr fun k hk => rd_putWords_of_out l _ fun q hq => ?_).trans (Mem.rdN_wrN m _ 4 _)
      have := hl.1 q hq
      omega
    · exact rdN_putWords l _ hl.2 p hp

/-! ### Frames of calls (R115, R116) -/

theorem frameRegs_eq (m : Nat) : frameRegs m = (List.range 16).filter fun k => k != 14 && m.testBit k := by
  simp only [frameRegs, Nat.testBit_eq_decide_div_mod_eq]

theorem mem_frameRegs {m k : Nat} : k ∈ frameRegs m ↔ k < 16 ∧ k ≠ 14 ∧ m.testBit k = true := by
  simp [frameRegs_eq]

theorem frameRegs_nodup (m : Nat) : (frameRegs m).Nodup := List.nodup_range.filter _

/-- The mask in the link word: bit 14 never counts. -/
theorem frameRegs_sum {m : Nat} (hm : m < 2 ^ 16) :
    (frameRegs m).foldl (fun a k => a + 2 ^ k) 0 = m % 2 ^ 14 + m / 2 ^ 15 * 2 ^ 15 := by
  have hsum : (frameRegs m).foldl (fun a k => a + 2 ^ k) 0 =
      (List.range 16).foldl (fun a b => a + (b != 14 && m.testBit b).toNat * 2 ^ b) 0 := by
    rw [frameRegs_eq, List.foldl_filter]
    congr 1
    funext a k
    cases (k != 14 && m.testBit k) <;> simp
  have hhigh : m / 2 ^ 15 < 2 ^ 1 := by omega
  refine Nat.eq_of_testBit_eq fun i => ?_
  rw [hsum, (testBit_bitSum (fun b => b != 14 && m.testBit b) 16).2, Nat.add_comm, Nat.mul_comm,
    Nat.testBit_two_pow_mul_add _ ((Nat.mod_lt m (by decide)).trans (by decide : 2 ^ 14 < 2 ^ 15)),
    Nat.testBit_mod_two_pow, Nat.testBit_div_two_pow]
  rcases Nat.lt_or_ge i 14 with h | h
  · simp [h, show i < 15 by omega, show i < 16 by omega, show i ≠ 14 by omega]
  · rcases Nat.lt_or_ge i 16 with h' | h'
    · obtain rfl | rfl : i = 14 ∨ i = 15 := by omega
      · simp
      · simp
    · have hout : m.testBit i = false := Nat.testBit_lt_two_pow (hm.trans_le (Nat.pow_le_pow_right (by decide) h'))
      simp [show ¬ i < 15 by omega, show ¬ i < 16 by omega, show i - 15 + 15 = i by omega, hout]

/-- The words of a frame: the link word and the registers, from the lowest place `lo` on. -/
def frameWords (lo link : Nat) (val : Nat → Nat) (rs : List Nat) : List (Nat × Nat) :=
  (lo, link) :: ((List.range rs.length).zip rs).map fun p => (lo + 4 * (p.1 + 1), val p.2)

section
variable {lo link : Nat} {val : Nat → Nat} {rs : List Nat}

theorem mem_zip_range {rs : List Nat} {p : Nat × Nat} : p ∈ (List.range rs.length).zip rs ↔ rs[p.1]? = some p.2 := by
  rw [List.mem_iff_getElem]
  constructor
  · rintro ⟨i, hi, rfl⟩
    rw [List.length_zip, List.length_range, Nat.min_self] at hi
    simp [hi]
  · intro h
    obtain ⟨hi, hp⟩ := List.getElem?_eq_some_iff.1 h
    exact ⟨p.1, by simpa using hi, by simp [hp]⟩

theorem mem_frameWords {p : Nat × Nat} : p ∈ frameWords lo link val rs ↔
    p = (lo, link) ∨ ∃ i r, rs[i]? = some r ∧ p = (lo + 4 * (i + 1), val r) := by
  simp only [frameWords, List.mem_cons, List.mem_map, mem_zip_range, Prod.exists, eq_comm (b := p)]

/-- A frame of `rs` lies between `lo` and `lo + 4 * (rs.length + 1)`. -/
theorem frameWords_bounds {p : Nat × Nat} (h : p ∈ frameWords lo link val rs) :
    lo ≤ p.1 ∧ p.1 + 4 ≤ lo + 4 * (rs.length + 1) := by
  obtain rfl | ⟨i, r, hi, rfl⟩ := mem_frameWords.1 h
  · simp
  · obtain ⟨hlt, -⟩ := List.getElem?_eq_some_iff.1 hi
    constructor <;> dsimp only <;> omega

theorem frameWords_pairwise : (frameWords lo link val rs).Pairwise fun p q => p.1 + 4 ≤ q.1 := by
  rw [frameWords, List.pairwise_cons]
  constructor
  · intro q hq
    obtain ⟨p, -, rfl⟩ := List.mem_map.1 hq
    dsimp only
    omega
  · rw [List.pairwise_map, List.pairwise_iff_getElem]
    intro i j hi hj hij
    simp only [List.getElem_zip, List.getElem_range]
    omega

end

/-- Words stored in local data memory (R93). -/
theorem State.dwrites_local (c : Nat) : ∀ (l : List (Nat × Nat)) (s : State), (∀ p ∈ l, p.1 < 0x8000) →
    l.foldl (fun u p => u.dwrite c p.1 4 p.2) s =
      { s with mem := { s.mem with ldm := putWords (engOf c * 0x8000) l s.mem.ldm } }
  | [], _, _ => rfl
  | p :: l, s, h => by
    have hp : regionOf p.1 = .local_ := if_pos (h p List.mem_cons_self)
    rw [List.foldl_cons, State.dwrites_local c l _ fun q hq => h q (List.mem_cons_of_mem p hq)]
    simp only [State.dwrite, hp]
    rfl

/-- The frame a call pushes in local data memory (R115). -/
theorem State.callTo_local {s : State} {c target mask ret : Nat} (hal : (s.greg c 14).toNat % 4 = 0)
    (htop : (s.greg c 14).toNat ≤ 0x8000)
    (hlim : (s.ctx c).spLim.toNat + 4 * ((frameRegs mask).length + 1) ≤ (s.greg c 14).toNat) :
    let lo := (s.greg c 14).toNat - 4 * ((frameRegs mask).length + 1)
    let link := ret % 65536 * 65536 + (frameRegs mask).foldl (fun a k => a + 2 ^ k) 0
    let words := frameWords lo link (fun r => (s.greg c r).toNat) (frameRegs mask)
    s.callTo c target mask ret =
      ⟨({ s with mem := { s.mem with ldm := putWords (engOf c * 0x8000) words s.mem.ldm } } : State).setG c 14 (W lo),
        .to (BitVec.ofNat 16 target), false⟩ := by
  intro lo link words
  have hlo : ((s.greg c 14).toNat + 2 ^ 32 - 4 * ((frameRegs mask).length + 1)) % 2 ^ 32 = lo := by omega
  have hin : ∀ p ∈ words, p.1 < 0x8000 := fun p hp => by
    have := frameWords_bounds hp
    omega
  have hwords : (lo % 65536, ret % 65536 * 65536 + (frameRegs mask).foldl (fun a k => a + 2 ^ k) 0) :: ((List.range (frameRegs mask).length).zip (frameRegs mask)).map
      (fun p => ((lo + 4 * (p.1 + 1)) % 65536, (s.greg c p.2).toNat)) = words := by
    simp only [words, frameWords]
    congr 1
    · rw [Nat.mod_eq_of_lt (by omega)]
    · refine List.map_congr_left fun p hp => ?_
      obtain ⟨hlt, -⟩ := List.getElem?_eq_some_iff.1 (mem_zip_range.1 hp)
      rw [Nat.mod_eq_of_lt (by omega)]
  have hrsv : (words.any fun p => rsvWrite p.1) = false := by
    rw [List.any_eq_false]
    intro p hp
    have hr : regionOf p.1 = .local_ := if_pos (hin p hp)
    simp [rsvWrite, hr]
  simp only [State.callTo]
  rw [if_neg (by omega), if_neg (by omega)]
  simp only [hlo, hwords, hrsv, State.dwrites_local c words s hin]

/-! ### Several G registers written -/

section
variable {α : Type} (reg : α → Nat) (val : α → Word)

/-- The registers written by a list of writes, in order. -/
def putRegs (l : List α) (w : Nat → Option Word) : Nat → Option Word := l.foldl (fun w a => putReg (reg a) (val a) w) w

theorem putRegs_of_not_mem {r : Nat} : ∀ (l : List α) (w : Nat → Option Word), (∀ a ∈ l, r ≠ reg a) →
    putRegs reg val l w r = w r
  | [], _, _ => rfl
  | a :: l, w, h => by
    rw [putRegs, List.foldl_cons, ← putRegs, putRegs_of_not_mem l _ fun b hb => h b (List.mem_cons_of_mem a hb), putReg,
      if_neg (h a List.mem_cons_self)]

theorem putRegs_of_mem : ∀ {l : List α} (w : Nat → Option Word), l.Pairwise (fun a b => reg a ≠ reg b) → ∀ a ∈ l,
    putRegs reg val l w (reg a) = some (val a)
  | b :: l, w, hl, a, ha => by
    rw [List.pairwise_cons] at hl
    rw [putRegs, List.foldl_cons, ← putRegs]
    rcases List.mem_cons.1 ha with rfl | ha
    · rw [putRegs_of_not_mem _ _ l _ hl.1, putReg, if_pos rfl]
    · exact putRegs_of_mem _ hl.2 a ha

theorem Wrote.putRegs {s : State} {c : Nat} : ∀ (l : List α) {u : State} {e : Effect}, Wrote s u c e →
    (∀ a ∈ l, reg a < 16) →
    Wrote s (l.foldl (fun v a => v.setG c (reg a) (val a)) u) c { e with wr := putRegs reg val l e.wr }
  | [], _, _, h, _ => h
  | a :: l, _, _, h, hl => Wrote.putRegs l (h.setG (hl a List.mem_cons_self) (val a))
      fun b hb => hl b (List.mem_cons_of_mem a hb)

end

/-! ### Branches, calls and returns -/

section
variable {s : State} {op : EOp} {c : Nat} {o : Operands} {len : Nat}

/-- A jump changes the program counter alone (R131). -/
theorem State.runIssue_jump {body : Nat → Operands → State → Eff} {a : BitVec 16} (h : s.issued op c o = some len)
    (hb : body c o (s.clearIssue (engOf c)) = ⟨s.clearIssue (engOf c), .to a, false⟩) :
    ∃ t, s.runIssue op c o body = .next t ∧ Ran s t c len { pc := some a } :=
  State.runIssue_to h hb ((wrote_clearIssue s c).goTo (some a)) rfl

/-- The branch conditions (R130). -/
theorem Ctx.cond_table (x : Ctx) : ∀ p ∈ [(0x0, x.z), (0x1, !x.z), (0x2, x.cf), (0x3, !x.cf), (0x4, x.n), (0x5, !x.n),
    (0x6, x.v), (0x7, !x.v), (0x8, !x.cf && !x.z), (0x9, x.cf || x.z), (0xA, x.n == x.v), (0xB, x.n != x.v),
    (0xC, !x.z && x.n == x.v), (0xD, x.z || x.n != x.v), (0xE, true)], x.cond p.1 = p.2 := by
  simp only [List.forall_mem_cons]
  exact ⟨rfl, rfl, rfl, rfl, rfl, rfl, rfl, rfl, rfl, rfl, rfl, rfl, rfl, rfl, rfl, fun _ h => nomatch h⟩

/-- A branch by its condition (R130). -/
theorem State.runIssue_bcc {b : Bool} (h : s.issued .bcc c o = some len) (hb : (s.ctx c).cond o.s.toNat = b) :
    ∃ t, exec (.bcc c o) s = .next t ∧ Ran s t c len { pc := if b then some (o.imm.setWidth 16) else none } := by
  cases b with
  | true => exact State.runIssue_jump h (by simp only [bodyBcc, State.ctx_clearIssue, hb]; rfl)
  | false => exact State.runIssue_seq h (by simp only [bodyBcc, State.ctx_clearIssue, hb]; rfl) (wrote_clearIssue s c) rfl

/-- A call whose frame lies in local data memory (R115). -/
theorem State.runIssue_call {body : Nat → Operands → State → Eff} {target ret : Nat} {mask : BitVec 16}
    (h : s.issued op c o = some len)
    (hb : body c o (s.clearIssue (engOf c)) = (s.clearIssue (engOf c)).callTo c target mask.toNat ret)
    (hal : (s.greg c 14).toNat % 4 = 0) (htop : (s.greg c 14).toNat ≤ 0x8000)
    (hlim : (s.ctx c).spLim.toNat + 4 * ((frameRegs mask.toNat).length + 1) ≤ (s.greg c 14).toNat) :
    let sp := (s.greg c 14).toNat
    let base := engOf c * 0x8000
    let rs := frameRegs mask.toNat
    let lo := sp - 4 * (rs.length + 1)
    ∃ t m, s.runIssue op c o body = .next t ∧
      Ran s t c len { wr := wrOne 14 (W lo), pc := some (BitVec.ofNat 16 target),
                      st := fun q => { q with mem := { q.mem with ldm := m } } } ∧
      m.rdN (base + lo) 4 = ret % 65536 * 65536 + mask.toNat % 2 ^ 14 + mask.toNat / 2 ^ 15 * 2 ^ 15 ∧
      (∀ i r, rs[i]? = some r → m.rdN (base + lo + 4 * (i + 1)) 4 = (s.greg c r).toNat) ∧
      ∀ b, b < base + lo ∨ base + sp ≤ b → m.rd b = s.mem.ldm.rd b := by
  intro sp base rs lo
  have hcall := State.callTo_local (s := s.clearIssue (engOf c)) (target := target) (ret := ret)
    (by simpa using hal) (by simpa using htop) (by simpa using hlim)
  simp only [State.greg_clearIssue, State.mem_clearIssue, frameRegs_sum mask.isLt, ← Nat.add_assoc] at hcall
  generalize hwords : frameWords ((s.greg c 14).toNat - 4 * ((frameRegs mask.toNat).length + 1)) _ _ _ = words at hcall
  have hin : ∀ p ∈ words, lo ≤ p.1 ∧ p.1 + 4 ≤ lo + 4 * (rs.length + 1) := fun p hp =>
    frameWords_bounds (hwords.symm ▸ hp)
  have hread : ∀ p ∈ words, (putWords base words s.mem.ldm).rdN (base + p.1) 4 = p.2 % 2 ^ 32 :=
    rdN_putWords words _ (hwords ▸ frameWords_pairwise)
  have hw : Wrote s (({ s.clearIssue (engOf c) with
      mem := { (s.clearIssue (engOf c)).mem with ldm := putWords base words s.mem.ldm } } : State).setG c 14 (W lo)) c
      { wr := wrOne 14 (W lo), pc := some (BitVec.ofNat 16 target),
        st := fun q => { q with mem := { q.mem with ldm := putWords base words s.mem.ldm } } } := by
    have hw := (wrote_clearIssue s c).outside (f := fun q => { q with
      mem := { q.mem with ldm := putWords base words s.mem.ldm } }) (u' := { s.clearIssue (engOf c) with
      mem := { (s.clearIssue (engOf c)).mem with ldm := putWords base words s.mem.ldm } }) rfl rfl rfl
    exact (hw.setG (r := 14) (by decide) (W lo)).goTo _
  obtain ⟨t, ht, hran⟩ := State.runIssue_to h (hb.trans hcall) hw rfl
  refine ⟨t, _, ht, hran, ?_, fun i r hi => ?_, fun b hout => ?_⟩
  · have hlink := hread _ (hwords ▸ mem_frameWords.2 (.inl rfl))
    refine hlink.trans (Nat.mod_eq_of_lt ?_)
    have := mask.isLt
    dsimp only
    omega
  · have hreg := hread _ (hwords ▸ mem_frameWords.2 (.inr ⟨i, r, hi, rfl⟩))
    rw [← Nat.add_assoc] at hreg
    exact hreg.trans (Nat.mod_eq_of_lt (s.greg c r).isLt)
  · refine rd_putWords_of_out words _ fun p hp => ?_
    have := hin p hp
    have hlo : lo + 4 * (rs.length + 1) = sp := Nat.sub_add_cancel ((Nat.le_add_left _ _).trans hlim)
    omega

/-- A frame word read from local data memory that meets no bit error (R116). -/
theorem State.frameRead_local {s : State} (hflips : s.hub.flips = []) (c : Nat) {a : Nat} (ha : a < 0x8000) :
    s.frameRead c a = (false, s.mem.ldm.rdN (engOf c * 0x8000 + a) 4, s) := by
  have hr : regionOf a = .local_ := if_pos ha
  rw [State.frameRead]
  simp only [Nat.mod_eq_of_lt (show a < 65536 by omega), State.dcheck, State.dread, hr, State.eccRead_clean hflips]

/-- A RET whose frame lies in local data memory and meets no bit error (R116). -/
theorem State.retBody_local {s : State} {c : Nat} (hflips : s.hub.flips = []) (hal : (s.greg c 14).toNat % 4 = 0)
    {rs : List Nat} (hrs : rs = frameRegs (s.mem.ldm.rdN (engOf c * 0x8000 + (s.greg c 14).toNat) 4 % 65536))
    (htop : (s.greg c 14).toNat + 4 * (rs.length + 1) ≤ 0x8000) :
    s.retBody c =
      ⟨(((List.range rs.length).zip rs).foldl (fun v p => v.setG c p.2
          (W (s.mem.ldm.rdN (engOf c * 0x8000 + ((s.greg c 14).toNat + 4 * (p.1 + 1))) 4))) s).setG c 14
            (W ((s.greg c 14).toNat + 4 * (rs.length + 1))),
        .to (BitVec.ofNat 16 (s.mem.ldm.rdN (engOf c * 0x8000 + (s.greg c 14).toNat) 4 / 65536)), false⟩ := by
  have hplace : ∀ i < rs.length, (s.greg c 14).toNat + 4 * (i + 1) < 0x8000 := fun i hi => by omega
  have hlocal : ∀ a < 0x8000, rsvRead (a % 65536) = false := fun a ha => by
    have hr : regionOf a = .local_ := if_pos ha
    rw [Nat.mod_eq_of_lt (by omega), rsvRead, hr]
    rfl
  have hclean : ∀ l : List Nat, (∀ i ∈ l, i < rs.length) → l.foldl (fun (p : Bool × State) i =>
      if p.1 then p else ((p.2.frameRead c ((s.greg c 14).toNat + 4 * (i + 1))).1,
        (p.2.frameRead c ((s.greg c 14).toNat + 4 * (i + 1))).2.2)) (false, s) = (false, s) := by
    intro l
    induction l with
    | nil => intro _; rfl
    | cons i l ih =>
      intro hl
      simp only [List.foldl_cons, Bool.false_eq_true, if_false,
        State.frameRead_local hflips c (hplace i (hl i List.mem_cons_self))]
      exact ih fun k hk => hl k (List.mem_cons_of_mem i hk)
  have hrsv : ((List.range rs.length).any fun i => rsvRead (((s.greg c 14).toNat + 4 * (i + 1)) % 65536)) = false :=
    List.any_eq_false.2 fun i hi => by simp [hlocal _ (hplace i (List.mem_range.1 hi))]
  have hwords : ((List.range rs.length).zip rs).foldl (fun v p => v.setG c p.2
        (W (s.dread c (((s.greg c 14).toNat + 4 * (p.1 + 1)) % 65536) 4))) s =
      ((List.range rs.length).zip rs).foldl (fun v p => v.setG c p.2
        (W (s.mem.ldm.rdN (engOf c * 0x8000 + ((s.greg c 14).toNat + 4 * (p.1 + 1))) 4))) s := by
    refine List.foldl_ext _ _ _ fun v p hp => ?_
    obtain ⟨hi, -⟩ := List.getElem?_eq_some_iff.1 (mem_zip_range.1 hp)
    have hr : regionOf ((s.greg c 14).toNat + 4 * (p.1 + 1)) = .local_ := if_pos (hplace _ hi)
    rw [Nat.mod_eq_of_lt (by have := hplace _ hi; omega)]
    simp only [State.dread, hr]
  simp only [State.retBody]
  rw [if_neg (by omega)]
  simp only [State.frameRead_local hflips c (show (s.greg c 14).toNat < 0x8000 by omega), ← hrs,
    hclean _ fun i hi => List.mem_range.1 hi, hrsv, hwords, hlocal _ (show (s.greg c 14).toNat < 0x8000 by omega),
    Bool.false_eq_true, if_false, Bool.or_false]

/-- What a RET reads back (R116). -/
theorem State.runIssue_ret (h : s.issued .ret c o = some len) (hflips : s.hub.flips = [])
    (hal : (s.greg c 14).toNat % 4 = 0) {rs : List Nat}
    (hrs : rs = frameRegs (s.mem.ldm.rdN (engOf c * 0x8000 + (s.greg c 14).toNat) 4 % 65536))
    (htop : (s.greg c 14).toNat + 4 * (rs.length + 1) ≤ 0x8000) :
    let sp := (s.greg c 14).toNat
    let base := engOf c * 0x8000
    ∃ t, exec (.ret c o) s = .next t ∧ ∃ w : Nat → Option Word,
      Ran s t c len { wr := w, pc := some (BitVec.ofNat 16 (s.mem.ldm.rdN (base + sp) 4 / 65536)) } ∧
      w 14 = some (W (sp + 4 * (rs.length + 1))) ∧
      (∀ i r, rs[i]? = some r → w r = some (W (s.mem.ldm.rdN (base + sp + 4 * (i + 1)) 4))) ∧
      ∀ r, r ≠ 14 → r ∉ rs → w r = none := by
  intro sp base
  have hbody := State.retBody_local (s := s.clearIssue (engOf c)) (c := c) (by simpa using hflips) (by simpa using hal)
    (by simpa using hrs) (by simpa using htop)
  simp only [State.greg_clearIssue, State.mem_clearIssue] at hbody
  have hmem : ∀ r ∈ rs, r < 16 ∧ r ≠ 14 := fun r hr => by
    rw [hrs, mem_frameRegs] at hr
    exact ⟨hr.1, hr.2.1⟩
  have hzip : ∀ p ∈ (List.range rs.length).zip rs, p.2 ∈ rs := fun p hp => List.mem_of_getElem? (mem_zip_range.1 hp)
  have hdistinct : ((List.range rs.length).zip rs).Pairwise fun p q => p.2 ≠ q.2 := by
    rw [← List.pairwise_map (f := Prod.snd) (R := (· ≠ ·)), List.map_snd_zip (by simp)]
    exact hrs ▸ frameRegs_nodup _
  have hw := (((wrote_clearIssue s c).putRegs Prod.snd
    (fun p => W (s.mem.ldm.rdN (base + (sp + 4 * (p.1 + 1))) 4)) ((List.range rs.length).zip rs)
      fun p hp => (hmem _ (hzip p hp)).1).setG (r := 14) (by decide) (W (sp + 4 * (rs.length + 1)))).goTo
        (some (BitVec.ofNat 16 (s.mem.ldm.rdN (base + sp) 4 / 65536)))
  obtain ⟨t, ht, hran⟩ := State.runIssue_to (body := bodyRet) h hbody hw rfl
  refine ⟨t, ht, _, hran, by simp [putReg], fun i r hi => ?_, fun r h14 hr => ?_⟩
  · have hne := (hmem r (List.mem_of_getElem? hi)).2
    simp only [putReg]
    rw [if_neg hne, Nat.add_assoc]
    exact putRegs_of_mem Prod.snd _ _ hdistinct (i, r) (mem_zip_range.2 hi)
  · simp only [putReg]
    rw [if_neg h14]
    exact putRegs_of_not_mem Prod.snd _ _ _ fun p hp heq => hr (heq ▸ hzip p hp)

end

/-- Settles O6: a jump sets the program counter alone, a call writes its frame and G14, a return reads them back. -/
theorem branchesJumpsAndCalls : Obligations.BranchesJumpsAndCalls := by
  unfold Obligations.BranchesJumpsAndCalls
  have ofNat_toNat : ∀ v : Word, BitVec.ofNat 16 v.toNat = v.setWidth 16 := fun v => BitVec.eq_of_toNat_eq (by simp)
  constructor
  · intro s c o len
    refine ⟨fun h => ?_, fun h => ?_, fun h => ?_, fun h p hp hs => ?_⟩
    · exact State.runIssue_seq (body := fun _ _ s => Eff.ok s) h rfl (wrote_clearIssue s c) rfl
    · exact State.runIssue_jump h (by rw [bodyJmp, ofNat_toNat])
    · exact State.runIssue_jump h (by rw [bodyJmpr, State.greg_clearIssue, ofNat_toNat])
    · refine State.runIssue_bcc h ?_
      rw [hs]
      exact (s.ctx c).cond_table p hp
  · intro s c o len
    simp only [← frameRegs_eq]
    refine ⟨fun h hal htop hlim => ?_, fun h hal htop hlim => ?_, fun h hal htop hflips => ?_⟩
    · rw [← ofNat_toNat]
      exact State.runIssue_call h rfl hal htop hlim
    · rw [← ofNat_toNat]
      exact State.runIssue_call h (by rw [bodyCallr, State.greg_clearIssue]; rfl) hal htop hlim
    · exact State.runIssue_ret h hflips hal rfl htop

end Sys2Proof.Machine

namespace Sys2Proof.Machine
open Sys2Proof

/-! ### Traps (R144, R146) -/

/-- A context that enters the trap handler at `pc` with cause `k`: the values on their way have landed (R146). -/
def Ctx.enterHandler (x : Ctx) (k : Nat) (resume pc : BitVec 16) : Ctx :=
  { x.landAll with
    trapCause := BitVec.ofNat 4 k, trapPc := x.pc, resume := resume, wait := .none, trapNest := true, pc := pc }

theorem Ctx.enterHandler_rest (x : Ctx) (k : Nat) (resume pc : BitVec 16) : x.enterHandler k resume pc = { x with
    g := (x.enterHandler k resume pc).g, mlo := (x.enterHandler k resume pc).mlo, mhi := (x.enterHandler k resume pc).mhi,
    pend := [], wait := .none, trapCause := BitVec.ofNat 4 k, trapNest := true, trapPc := x.pc, resume := resume,
    pc := pc } := by
  rw [Ctx.enterHandler, Ctx.landAll, Ctx.landFold_rest]

/-- A trap of an instruction that enters the handler (R146). -/
theorem State.trap_ready {s : State} {c : Nat} (hr : TrapReady s c) (k : Nat) (resume : BitVec 16) :
    s.trap c k resume =
      s.setCtx c ((s.ctx c).enterHandler k resume ((s.reg (Reg.PACK_TRAP (packOf c))).setWidth 16)) := by
  obtain ⟨hvalid, hnest⟩ := hr
  have hland : (s.ctx c).landAll = { s.ctx c with
      g := (s.ctx c).landAll.g, mlo := (s.ctx c).landAll.mlo, mhi := (s.ctx c).landAll.mhi, pend := [] } := by
    rw [Ctx.landAll, Ctx.landFold_rest]
  have hpc : BitVec.ofNat 16 (s.reg (Reg.PACK_TRAP (packOf c))).toNat =
      (s.reg (Reg.PACK_TRAP (packOf c))).setWidth 16 := BitVec.eq_of_toNat_eq (by simp)
  have hgo : (bitOf (s.reg (Reg.PACK_TRAP (packOf c))) 31 && !(s.ctx c).landAll.trapNest) = true := by
    have hn : (s.ctx c).landAll.trapNest = false := by rw [hland]; exact hnest
    rw [hn]
    simpa [State.flag] using hvalid
  have hpc' : (s.ctx c).landAll.pc = (s.ctx c).pc := by rw [hland]
  simp only [State.trap]
  rw [if_pos hgo, hpc, hpc', Ctx.enterHandler]

section
variable {s : State} {op : EOp} {c : Nat} {o : Operands} {len : Nat}

/-! The end of an issue that leaves its context at `y` and no other trace -/

/-- The state after an issue whose only effect is context `c`'s new value `y`. -/
def State.issueEnd (s : State) (op : EOp) (c : Nat) (o : Operands) (y : Ctx) : State :=
  (((s.clearIssue (engOf c)).setCtx c y).stepEnd c).setHold c op o (s.accessCost c op o)

theorem State.ctx_issueEnd_of_ne {y : Ctx} {j : Nat} (hj : j ≠ c) : (s.issueEnd op c o y).ctx j = s.ctx j := by
  obtain ⟨_, _, _, hk⟩ := (((s.clearIssue (engOf c)).setCtx c y).stepEnd c).setHold_ctx c op o (s.accessCost c op o) j
  rw [State.issueEnd, hk, if_neg hj, State.ctx_stepEnd, if_neg (fun h => hj h.1), State.ctx_setCtx, if_neg hj]
  rfl

theorem State.ctx_issueEnd {y : Ctx} (hlive : y.live = true) : (s.issueEnd op c o y).ctx c = { y with
    stepping := false, halted := y.halted || y.stepping, hold := ((s.issueEnd op c o y).ctx c).hold,
    holds := ((s.issueEnd op c o y).ctx c).holds, mulAge := ((s.issueEnd op c o y).ctx c).mulAge } := by
  obtain ⟨_, _, _, hk⟩ := (((s.clearIssue (engOf c)).setCtx c y).stepEnd c).setHold_ctx c op o (s.accessCost c op o) c
  rw [if_pos rfl, State.ctx_stepEnd, State.ctx_setCtx, if_pos rfl] at hk
  rw [State.issueEnd, hk]
  by_cases hs : y.stepping = true
  · simp [hlive, hs]
  · simp only [Bool.not_eq_true] at hs
    simp [hs]

theorem State.eng_issueEnd (y : Ctx) (e : Nat) :
    (s.issueEnd op c o y).eng e = if e = engOf c then { s.eng e with issue := none } else s.eng e := by
  have hhold := congrArg State.engs ((((s.clearIssue (engOf c)).setCtx c y).stepEnd c).setHold_rest c op o
    (s.accessCost c op o) s.ctxs)
  have hstep : (((s.clearIssue (engOf c)).setCtx c y).stepEnd c).engs = (s.clearIssue (engOf c)).engs := by
    unfold State.stepEnd; dsimp only; split <;> rfl
  have hengs : (s.issueEnd op c o y).engs = (s.clearIssue (engOf c)).engs := hhold.trans hstep
  rw [State.eng, hengs, ← State.eng, State.clearIssue, State.eng_updEng]
  by_cases he : e = engOf c <;> simp [he]

theorem State.issueEnd_rest (y : Ctx) : { s.issueEnd op c o y with ctxs := s.ctxs, engs := s.engs } = s := by
  have hhold := (((s.clearIssue (engOf c)).setCtx c y).stepEnd c).setHold_rest c op o (s.accessCost c op o) s.ctxs
  have hstep := congrArg (fun x : State => { x with engs := s.engs }) hhold
  exact hstep.trans ((State.stepEnd_rest _ c s.ctxs s.engs).trans rfl)

/-- The context of a trap stands at the handler once the issue has ended. -/
theorem State.issueEnd_trapped {k : Nat} {resume : BitVec 16} (hlive : (s.ctx c).live = true) :
    Trapped s (s.issueEnd op c o
      ((s.ctx c).enterHandler k resume ((s.reg (Reg.PACK_TRAP (packOf c))).setWidth 16))) c k resume := by
  have hy := (s.ctx c).enterHandler_rest k resume ((s.reg (Reg.PACK_TRAP (packOf c))).setWidth 16)
  have hself := State.ctx_issueEnd (s := s) (op := op) (c := c) (o := o)
    (y := (s.ctx c).enterHandler k resume ((s.reg (Reg.PACK_TRAP (packOf c))).setWidth 16)) (by rw [hy]; exact hlive)
  constructor
  case rest => exact State.issueEnd_rest _
  case engines => exact State.eng_issueEnd _
  case contexts => exact fun j hj => State.ctx_issueEnd_of_ne hj
  case regs =>
    intro r hr
    rw [State.greg, if_pos hr, hself, State.greg, if_pos hr]
    exact Ctx.landFold_g _ _ _
  case product =>
    rw [hself]
    exact Ctx.landFold_product _ _
  case own =>
    generalize (s.issueEnd op c o _).ctx c = z at hself
    rw [hself, hy]

/-- An instruction that traps into the handler without an effect of its own (R144, R146). -/
theorem State.runIssue_trap {body : Nat → Operands → State → Eff} {k : Nat} {resume : BitVec 16} (hr : TrapReady s c)
    (h : s.issued op c o = some len)
    (hb : body c o (s.clearIssue (engOf c)) = ⟨s.clearIssue (engOf c), .trap k, false⟩)
    (hres : (if resumesAtSelf k then (s.ctx c).pc else (s.ctx c).pc + BitVec.ofNat 16 len) = resume) :
    ∃ t, s.runIssue op c o body = .next t ∧ Trapped s t c k resume := by
  have hfin : (body c o (s.clearIssue (engOf c))).finish c len (s.ctx c).pend.length = (s.clearIssue (engOf c)).setCtx c
      ((s.ctx c).enterHandler k resume ((s.reg (Reg.PACK_TRAP (packOf c))).setWidth 16)) := by
    rw [hb]
    simp only [Eff.finish, State.trapHere, State.ctx_clearIssue, hres]
    exact State.trap_ready (s := s.clearIssue (engOf c)) hr k resume
  refine ⟨_, ?_, State.issueEnd_trapped (op := op) (o := o) (State.live_of_issued h)⟩
  simp only [State.runIssue, h, State.ctx_clearIssue, hfin, State.issueEnd]

/-- A load at a misaligned address traps (R94). -/
theorem State.bodyLd_misaligned (h : (s.ea c o).1 % o.size ≠ 0) : bodyLd c o s = ⟨s, .trap 2, false⟩ := by
  simp only [bodyLd]
  rw [if_pos h]

/-- A store at a misaligned address traps (R94). -/
theorem State.bodySt_misaligned (h : (s.ea c o).1 % o.size ≠ 0) : bodySt c o s = ⟨s, .trap 2, false⟩ := by
  simp only [bodySt]
  rw [if_pos h]

/-- A call with G14 misaligned traps (R115). -/
theorem State.callTo_misaligned (h : (s.greg c 14).toNat % 4 ≠ 0) (target mask ret : Nat) :
    s.callTo c target mask ret = ⟨s, .trap 2, false⟩ := by
  simp only [State.callTo]
  rw [if_pos h]

/-- A call whose frame would pass below the stack limit traps (R115). -/
theorem State.callTo_overflow {mask : Nat} (hal : (s.greg c 14).toNat % 4 = 0)
    (h : (s.greg c 14).toNat < (s.ctx c).spLim.toNat + 4 * ((frameRegs mask).length + 1)) (target ret : Nat) :
    s.callTo c target mask ret = ⟨s, .trap 3, false⟩ := by
  simp only [State.callTo]
  rw [if_neg (by omega), if_pos (by omega)]

/-- A return with G14 misaligned traps (R116). -/
theorem State.retBody_misaligned (h : (s.greg c 14).toNat % 4 ≠ 0) : s.retBody c = ⟨s, .trap 2, false⟩ := by
  simp only [State.retBody]
  rw [if_pos h]

/-- A misaligned access traps at itself (R94, R144). -/
theorem State.runIssue_misaligned {body : Nat → Operands → State → Eff} (hr : TrapReady s c)
    (h : s.issued op c o = some len)
    (hb : body c o (s.clearIssue (engOf c)) = ⟨s.clearIssue (engOf c), .trap 2, false⟩) :
    ∃ t, s.runIssue op c o body = .next t ∧ Trapped s t c 2 (s.ctx c).pc := State.runIssue_trap hr h hb rfl

/-! ### BRK under a session, TRET in a handler (R147, R533) -/

/-- Events look at nothing of contexts and engines. -/
theorem State.raise_ctxs (s : State) (src : Nat) (a : Tab Ctx) (b : Tab Eng) :
    ({ s with ctxs := a, engs := b } : State).raise src = { s.raise src with ctxs := a, engs := b } := by
  have hdue : ∀ (s : State) v, ({ s with ctxs := a, engs := b } : State).dueMsg v =
      { s.dueMsg v with ctxs := a, engs := b } := by
    intro s v
    have hsend : ({ s with ctxs := a, engs := b } : State).canSend v = s.canSend v := rfl
    rw [State.dueMsg, State.dueMsg, hsend]
    split
    · rfl
    · split <;> rfl
  have hfld : ∀ (s : State) off hi lo x, ({ s with ctxs := a, engs := b } : State).setFld off hi lo x =
      { s.setFld off hi lo x with ctxs := a, engs := b } := fun _ _ _ _ _ => rfl
  have hpend : ∀ (s : State) v, ({ s with ctxs := a, engs := b } : State).vecPending v = s.vecPending v := fun _ _ => rfl
  have hroute : ∀ off hi lo, ({ s with ctxs := a, engs := b } : State).fld off hi lo = s.fld off hi lo := fun _ _ _ => rfl
  simp only [State.raise, hfld, hpend, hroute, hdue]
  split
  · split <;> rfl
  · rfl

/-- A present source that is raised has its EV_STATUS bit set (R520). -/
theorem State.raise_bit {src : Nat} (h : evPresent s.chip src = true) :
    ((s.raise src).reg (evReg src)).getLsbD (src % 32) = true := by
  rw [(State.raise_of_present h).reg, State.reg_setFld, if_pos rfl, ← bitOf_eq_getLsbD,
    bitOf_setF_same _ _ (Nat.mod_lt _ (by decide))]
  rfl

/-- After an instruction that raises an event the registers are those the event leaves. -/
theorem Ran.reg_of_raise {t : State} {e : Effect} {src : Nat} (h : Ran s t c len e) (hst : e.st s = s.raise src) (k : Nat) :
    t.reg k = (s.raise src).reg k := by
  have hrest := h.rest.trans hst
  exact State.reg_congr (congrArg State.chip hrest :) (congrArg State.regs hrest :) k

/-- An event is raised (R520). -/
theorem Wrote.raise {u : State} {e : Effect} (h : Wrote s u c e) (hst : e.st = id) (src : Nat) :
    Wrote s (u.raise src) c { e with st := fun q => q.raise src } := by
  have hrest := h.rest
  rw [hst] at hrest
  refine h.outside (f := fun q => q.raise src) ?_ (congrArg State.ctxs (u.raise_rest src) :)
    (congrArg State.engs (u.raise_rest src) :)
  rw [← State.raise_ctxs, hrest]
  rfl

end

/-- Settles O7: what traps has no effect but the trap; BRK and TRET end as any instruction does. -/
theorem trapsBreakpointsAndReturns : Obligations.TrapsBreakpointsAndReturns := by
  unfold Obligations.TrapsBreakpointsAndReturns
  constructor
  · intro s c o len hr
    simp only [← frameRegs_eq]
    refine ⟨fun h hoff => ?_, fun h => ?_, fun h ha => ?_, fun h ha => ?_, fun h ha => ?_, fun h ha => ?_, fun h ha => ?_,
      fun h hal hlt => ?_, fun h hal hlt => ?_⟩
    · exact State.runIssue_trap hr h (by rw [bodyBrk, State.flag_clearIssue, hoff]; rfl) rfl
    · exact State.runIssue_trap hr h (by simp only [bodyTret, State.ctx_clearIssue, hr.2]; rfl) rfl
    · exact State.runIssue_misaligned hr h (State.bodyLd_misaligned (by simpa using ha))
    · exact State.runIssue_misaligned hr h (State.bodySt_misaligned (by simpa using ha))
    · exact State.runIssue_misaligned hr h (State.callTo_misaligned (by simpa using ha) _ _ _)
    · exact State.runIssue_misaligned hr h (State.callTo_misaligned (by simpa using ha) _ _ _)
    · exact State.runIssue_misaligned hr h (State.retBody_misaligned (by simpa using ha))
    · exact State.runIssue_trap hr h (State.callTo_overflow (by simpa using hal) (by simpa using hlt) _ _) rfl
    · exact State.runIssue_trap hr h (State.callTo_overflow (by simpa using hal) (by simpa using hlt) _ _) rfl
  · intro s c o len
    refine ⟨fun h hon => ?_, fun h hnest => ?_⟩
    · obtain ⟨t, ht, hran⟩ := State.runIssue_seq (body := bodyBrk) h (by rw [bodyBrk, State.flag_clearIssue, hon]; rfl)
        ((wrote_own s c (f := fun x => { x with halted := true, atBrk := true }) rfl).raise rfl _) rfl
      refine ⟨t, ht, hran, ?_⟩
      rw [State.flag, hran.reg_of_raise (src := Ev.DBG_HALT) rfl, bitOf_eq_getLsbD]
      exact State.raise_bit (src := Ev.DBG_HALT) rfl
    · exact State.runIssue_to (body := bodyTret) h (by simp only [bodyTret, State.ctx_clearIssue, hnest]; rfl)
        ((wrote_own s c (f := fun x => { x with trapNest := false }) rfl).goTo _) rfl

end Sys2Proof.Machine

namespace Sys2Proof.Machine
open Sys2Proof

/-! ### Reads without a bit error (R529) -/

/-- A read of the data space that meets no bit error (R529). -/
theorem State.dcheck_clean {s : State} (h : s.hub.flips = []) (c a n : Nat) : s.dcheck c a n = (false, s) := by
  simp only [State.dcheck, State.eccRead_clean h]
  cases regionOf a <;> rfl

/-! ### Loads (R108, R111, R113) -/

theorem loadEffect_none (late : Bool) (d : Nat) (v : Word) : loadEffect late d v none =
    if late = true ∧ d < 16 then { delayed := [⟨.g d, v, 0, 1⟩] } else { wr := wrOne d v } := by
  by_cases h : late = true ∧ d < 16
  · simp [loadEffect, h]
  · rw [if_neg h]
    simp only [loadEffect, h, not_false_eq_true, and_true, if_false]
    rfl

theorem loadEffect_some (late : Bool) {d : Nat} (v : Word) {b : Nat × Nat} (hne : b.1 ≠ d) :
    loadEffect late d v (some b) =
      if late = true ∧ d < 16 then { wr := wrOne b.1 (W b.2), delayed := [⟨.g d, v, 0, 1⟩] }
      else { wr := putReg d v (wrOne b.1 (W b.2)) } := by
  by_cases h : late = true ∧ d < 16
  · simp only [loadEffect, h, if_true, and_self, not_true_eq_false, and_false, if_false]
    rfl
  · rw [if_neg h]
    simp only [loadEffect, h, not_false_eq_true, and_true, if_false]
    congr 1
    funext r
    by_cases hr : r = d
    · simp [putReg, hr, Ne.symm hne]
    · simp [putReg, wrOne, hr]

section
variable {s u : State} {op : EOp} {c : Nat} {o : Operands} {len : Nat}

/-- A load into register `r` beside fields of the context that are set. -/
theorem Wrote.load {f : Ctx → Ctx} (h : Wrote s u c { own := f }) {r : Nat} (hr : r < 24) (v : Word) :
    Wrote s (u.land c r v) c { loadEffect (s.exposed c) r v none with own := f } := by
  have hexp : u.exposed c = s.exposed c := by rw [State.exposed, State.flag, h.reg rfl]; rfl
  have hw := h.land hr v
  rw [hexp] at hw
  rw [loadEffect_none]
  split
  · next hl => rw [if_pos hl] at hw; exact hw
  · next hl => rw [if_neg hl] at hw; exact hw

/-- The base register takes its value after mode 4 or 5 (R108). -/
theorem Wrote.base {e : Effect} (h : Wrote s u c e) (hwr : e.wr = fun _ => none) (o : Operands) :
    Wrote s (u.putBase c o (s.ea c o).2) c
      { e with wr := fun r => (baseAfter s c o).bind fun b => if r = b.1 then some (W b.2) else none } := by
  rw [baseAfter]
  cases (s.ea c o).2 with
  | none => cases e; cases hwr; exact h
  | some v => exact h.setR hwr _ (regNo_lt o o.s) _

theorem regNo_injective (o : Operands) {a b : BitVec 4} (h : a ≠ b) : regNo o a ≠ regNo o b := by
  have hne : a.toNat ≠ b.toNat := fun heq => h (BitVec.eq_of_toNat_eq heq)
  unfold regNo
  split <;> split <;> simp_all <;> omega

/-- Only modes 4 and 5 change the base (R108). -/
theorem State.ea_base_none {s : State} (c : Nat) {o : Operands} (h : o.m.toNat < 4) : (s.ea c o).2 = none := by
  have hm : o.m.toNat = 0 ∨ o.m.toNat = 1 ∨ o.m.toNat = 2 ∨ o.m.toNat = 3 := by omega
  rcases hm with hm | hm | hm | hm <;> simp only [State.ea, hm]

/-- The base changes, then the load lands in another register (R108, R111). -/
theorem wrote_baseLoad (s : State) (c : Nat) {o : Operands} (hd : o.m.toNat < 4 ∨ o.d ≠ o.s) (v : Word) :
    Wrote s (((s.clearIssue (engOf c)).putBase c o (s.ea c o).2).land c (regNo o o.d) v) c
      (loadEffect (s.exposed c) (regNo o o.d) v (baseAfter s c o)) := by
  have hb := (wrote_clearIssue s c).base rfl o
  have hload := hb.land (regNo_lt o o.d) v
  have hexp : ((s.clearIssue (engOf c)).putBase c o (s.ea c o).2).exposed c = s.exposed c := by
    rw [State.exposed, State.flag, hb.reg rfl]
    rfl
  rw [hexp] at hload
  rw [baseAfter] at hload ⊢
  cases hbase : (s.ea c o).2 with
  | none =>
    rw [hbase] at hload
    rw [Option.map_none, loadEffect_none]
    split
    · next hl => rw [if_pos hl] at hload; exact hload
    · next hl => rw [if_neg hl] at hload; exact hload
  | some b =>
    have hne : o.s ≠ o.d := by
      rcases hd with hm | hd
      · rw [State.ea_base_none c hm] at hbase; cases hbase
      · exact hd.symm
    rw [hbase] at hload
    rw [Option.map_some, loadEffect_some _ _ (regNo_injective o hne)]
    split
    · next hl => rw [if_pos hl] at hload; exact hload
    · next hl => rw [if_neg hl] at hload; exact hload

/-- A load that meets no bit error and takes no word lock (R93, R132). -/
theorem State.bodyLd_clean {s : State} (hflips : s.hub.flips = []) {c : Nat} {o : Operands}
    (hal : (s.ea c o).1 % o.size = 0) (hlock : isMwLock o (s.ea c o).1 = false) :
    bodyLd c o (s.clearIssue (engOf c)) =
      ⟨((s.clearIssue (engOf c)).putBase c o (s.ea c o).2).land c (regNo o o.d) (W (s.dread c (s.ea c o).1 o.size)), .seq,
        rsvRead (s.ea c o).1⟩ := by
  simp only [bodyLd, State.ea_clearIssue, State.dcheck_clean (s := s.clearIssue (engOf c)) hflips, hlock]
  rw [if_neg (by simpa using hal)]
  rfl

end

/-- Settles O8: a load reads the data space, moves its base and lands; a reserved address answers 0 with RSV_HIT. -/
theorem loadsReadTheDataSpace : Obligations.LoadsReadTheDataSpace := by
  unfold Obligations.LoadsReadTheDataSpace
  intro s c o len hflips
  refine ⟨fun h hal hd hlock hreg => ?_, fun h hal hm hreg hoff => ?_, fun h _ => ?_⟩
  · have hrsv : rsvRead (s.ea c o).1 = false := by simpa [rsvRead] using hreg
    exact State.runIssue_seq (body := bodyLd) h (by rw [State.bodyLd_clean hflips hal hlock, hrsv]; rfl)
      (wrote_baseLoad s c hd _) rfl
  · have hlock : isMwLock o (s.ea c o).1 = false := by simp [isMwLock, hreg]
    have hrsv : rsvRead (s.ea c o).1 = true := by simpa [rsvRead] using hreg
    have hzero : s.dread c (s.ea c o).1 o.size = 0 := by simp only [State.dread, hreg]
    have hw := wrote_baseLoad s c (.inl hm) 0
    rw [baseAfter, State.ea_base_none c hm, Option.map_none] at hw
    refine State.runIssue_rsv (body := bodyLd) h ?_ hw rfl rfl rfl hoff
    rw [State.bodyLd_clean hflips hal hlock, hrsv, hzero, State.ea_base_none c hm]
    rfl
  · refine State.runIssue_seq (body := bodyLdi) h ?_ ((wrote_clearIssue s c).load (f := id) (regNo_lt o o.d) _) rfl
    simp only [bodyLdi, State.ea_clearIssue, State.eccRead_clean (s := s.clearIssue (engOf c)) hflips]
    rfl

end Sys2Proof.Machine

namespace Sys2Proof.Machine
open Sys2Proof

/-! ### Stores (R93, R97, R108, R132) -/

theorem Mem.stored_wrN (m : Mem) (a n v : Nat) : Stored m (m.wrN a n v) a n v :=
  ⟨fun k hk => Mem.rd_wrN_of_in m a n v k hk, fun b hb => Mem.rd_wrN_of_out m a n v b hb⟩

/-- A word without waiters is granted to no one (R212). -/
theorem State.mwGrant_quiet {s : State} {m w : Nat} (h : ∀ p ∈ Tab.get [] s.leash.mwq m, p.1 ≠ w) : s.mwGrant m w = s := by
  have hnone : (Tab.get [] s.leash.mwq m).find? (fun p => p.1 == w) = none :=
    List.find?_eq_none.2 fun p hp => by simpa using h p hp
  rw [State.mwGrant]
  split
  · simp only [hnone]
  · rfl

/-- An aligned write of at most a word, to a word without waiters (R211, R212). -/
theorem State.mwWrite_quiet {s : State} {m a n : Nat} (v : Nat) (hn : n = 1 ∨ n = 2 ∨ n = 4) (hal : a % n = 0)
    (h : ∀ p ∈ Tab.get [] s.leash.mwq m, p.1 ≠ a / 4 * 4) : s.mwWrite m a n v = s.mwPut m a n v := by
  have hone : (a % 4 + n + 3) / 4 = 1 := by rcases hn with rfl | rfl | rfl <;> omega
  have hq : (s.mwPut m a n v).leash = s.leash := by rw [State.mwPut]; split <;> rfl
  simp only [State.mwWrite, hone, List.range_one, List.foldl_cons, List.foldl_nil, Nat.mul_zero, Nat.add_zero]
  exact State.mwGrant_quiet (by rw [hq]; exact h)

theorem size_cases (o : Operands) : o.size = 1 ∨ o.size = 2 ∨ o.size = 4 := by
  unfold Operands.size
  cases o.w <;> cases o.h <;> simp

/-- An aligned access is aligned in its page (R95). -/
theorem aligned_in_page {n a P b : Nat} (hn : n = 1 ∨ n = 2 ∨ n = 4) (hal : a % n = 0) (p : Nat) (hP : 4 ∣ P)
    (hb : 4 ∣ b) : (p * P + (a - b)) % n = 0 := by
  have h4 : n ∣ 4 := by rcases hn with rfl | rfl | rfl <;> decide
  exact Nat.mod_eq_zero_of_dvd (((h4.trans hP).mul_left p).add
    (Nat.dvd_sub (Nat.dvd_of_mod_eq_zero hal) (h4.trans hb)))

/-- An aligned store to a word of pack shared memory without waiters (R93, R95, R212). -/
theorem State.dwrite_psm {s : State} {c a n : Nat} (v : Nat) (hreg : regionOf a = .psm) (hp : packOf c < 32)
    (hn : n = 1 ∨ n = 2 ∨ n = 4) (hal : a % n = 0)
    (hq : ∀ p ∈ Tab.get [] s.leash.mwq (packOf c), p.1 ≠ psmAddr (s.ctx c) a / 4 * 4) :
    s.dwrite c a n v = { s with mem := { s.mem with
      psm := s.mem.psm.wrN (packOf c * 0x40000 + (s.ctx c).psmPage.toNat * 0x4000 + (a - 0x8000)) n v } } := by
  have hal' : psmAddr (s.ctx c) a % n = 0 := aligned_in_page hn hal _ (by norm_num) (by norm_num)
  simp only [State.dwrite, hreg, State.mwWrite_quiet v hn hal' hq, State.mwPut, mwBase, hp, if_true, Nat.add_assoc]
  rfl

/-- An aligned store to a word of common SRAM without waiters (R93, R95, R212). -/
theorem State.dwrite_csm {s : State} {c a n : Nat} (v : Nat) (hreg : regionOf a = .csm)
    (hn : n = 1 ∨ n = 2 ∨ n = 4) (hal : a % n = 0)
    (hq : ∀ p ∈ Tab.get [] s.leash.mwq 32, p.1 ≠ csmAddr (s.ctx c) a / 4 * 4) :
    s.dwrite c a n v = { s with mem := { s.mem with
      csm := s.mem.csm.wrN ((s.ctx c).csmPage.toNat * 0x2000 + (a - 0xC000)) n v } } := by
  have hal' : csmAddr (s.ctx c) a % n = 0 := aligned_in_page hn hal _ (by norm_num) (by norm_num)
  simp only [State.dwrite, hreg, State.mwWrite_quiet v hn hal' hq, State.mwPut]
  rfl

section
variable {s : State} {c : Nat} {o : Operands} {len : Nat}

/-- The base register a store leaves (R108). -/
def storeBase (s : State) (c : Nat) (o : Operands) : Nat → Option Word :=
  fun r => (baseAfter s c o).bind fun b => if r = b.1 then some (W b.2) else none

/-- An aligned store (R132): the value is the register as it was before the base changed. -/
theorem State.bodySt_eq (hal : (s.ea c o).1 % o.size = 0) : bodySt c o (s.clearIssue (engOf c)) =
    ⟨((s.clearIssue (engOf c)).dwrite c (s.ea c o).1 o.size (s.dest c o o.d)).putBase c o (s.ea c o).2, .seq,
      rsvWrite (s.ea c o).1⟩ := by
  simp only [bodySt, State.ea_clearIssue, State.dest_clearIssue]
  rw [if_neg (by simpa using hal)]

/-- A store that acts as `f` does, on neither contexts nor engines. -/
theorem State.runIssue_st {f : State → State} (h : s.issued .st c o = some len)
    (hal : (s.ea c o).1 % o.size = 0) (hrsv : rsvWrite (s.ea c o).1 = false)
    (hf : ∀ t a b, f { t with ctxs := a, engs := b } = { f t with ctxs := a, engs := b })
    (hwr : (s.clearIssue (engOf c)).dwrite c (s.ea c o).1 o.size (s.dest c o o.d) = f (s.clearIssue (engOf c))) :
    ∃ t, exec (.st c o) s = .next t ∧ Ran s t c len { wr := storeBase s c o, st := f } := by
  have hsame := hf (s.clearIssue (engOf c)) s.ctxs (s.clearIssue (engOf c)).engs
  refine State.runIssue_seq (body := bodySt) h (by rw [State.bodySt_eq hal, hwr, hrsv]; rfl) ?_ rfl
  exact ((wrote_clearIssue s c).outside (hf (s.clearIssue (engOf c)) s.ctxs s.engs).symm (congrArg State.ctxs hsame :)
    (congrArg State.engs hsame :)).base rfl o

/-- A store that is ignored sets RSV_HIT (R97). -/
theorem State.runIssue_stIgnored (h : s.issued .st c o = some len) (hal : (s.ea c o).1 % o.size = 0)
    (hreg : regionOf (s.ea c o).1 = .desc ∨ regionOf (s.ea c o).1 = .reserved)
    (hoff : s.flag (Reg.PACK_CFG (packOf c)) 8 = false) :
    ∃ t, exec (.st c o) s = .next t ∧
      Ran s t c len { wr := storeBase s c o, own := fun y => { y with rsvHit := true } } := by
  have hrsv : rsvWrite (s.ea c o).1 = true := by rcases hreg with hr | hr <;> simp [rsvWrite, hr]
  have hwr : (s.clearIssue (engOf c)).dwrite c (s.ea c o).1 o.size (s.dest c o o.d) = s.clearIssue (engOf c) := by
    rcases hreg with hr | hr <;> simp only [State.dwrite, hr]
  exact State.runIssue_rsv (body := bodySt) h (by rw [State.bodySt_eq hal, hwr, hrsv])
    ((wrote_clearIssue s c).base rfl o) rfl rfl rfl hoff

end

/-- Settles O9: each region has its own place for the bytes; a word without waiters brings no grant. -/
theorem storesWriteTheirBytes : Obligations.StoresWriteTheirBytes := by
  unfold Obligations.StoresWriteTheirBytes
  intro s c o len h
  dsimp only
  intro hal
  refine ⟨fun hreg => ?_, fun hreg => ?_, fun hreg j hj => ?_, fun hreg hp hq => ?_, fun hreg hq => ?_, fun hreg hoff => ?_⟩
  case refine_6 => exact State.runIssue_stIgnored h hal hreg hoff
  all_goals have hrsv : rsvWrite (s.ea c o).1 = false := by simp [rsvWrite, hreg]
  · obtain ⟨t, ht, hran⟩ := State.runIssue_st (f := fun q => { q with mem := { q.mem with
      ldm := s.mem.ldm.wrN (engOf c * 0x8000 + (s.ea c o).1) o.size (s.dest c o o.d) } }) h hal hrsv
      (fun _ _ _ => rfl) (by simp only [State.dwrite, hreg]; rfl)
    exact ⟨t, _, ht, Mem.stored_wrN _ _ _ _, hran⟩
  · obtain ⟨t, ht, hran⟩ := State.runIssue_st (f := fun q => { q with mem := { q.mem with
      scratch := s.mem.scratch.wrN (c * 256 + ((s.ea c o).1 - 0xF000)) o.size (s.dest c o o.d) } }) h hal hrsv
      (fun _ _ _ => rfl) (by simp only [State.dwrite, hreg]; rfl)
    exact ⟨t, _, ht, Mem.stored_wrN _ _ _ _, hran⟩
  · obtain ⟨t, ht, hran⟩ := State.runIssue_st (f := fun q => q.setJob j { q.job j with
      hdr := (s.job j).hdr.wrN ((s.ea c o).1 - 0xE000) o.size (s.dest c o o.d) }) h hal hrsv
      (fun _ _ _ => rfl) (by simp only [State.dwrite, hreg, State.ctx_clearIssue, hj]; rfl)
    exact ⟨t, _, ht, Mem.stored_wrN _ _ _ _, hran⟩
  · obtain ⟨t, ht, hran⟩ := State.runIssue_st (f := fun q => { q with mem := { q.mem with
      psm := s.mem.psm.wrN (packOf c * 0x40000 + (s.ctx c).psmPage.toNat * 0x4000 + ((s.ea c o).1 - 0x8000)) o.size
        (s.dest c o o.d) } }) h hal hrsv
      (fun _ _ _ => rfl) (State.dwrite_psm (s := s.clearIssue (engOf c)) _ hreg hp (size_cases o) hal hq)
    exact ⟨t, _, ht, Mem.stored_wrN _ _ _ _, hran⟩
  · obtain ⟨t, ht, hran⟩ := State.runIssue_st (f := fun q => { q with mem := { q.mem with
      csm := s.mem.csm.wrN ((s.ctx c).csmPage.toNat * 0x2000 + ((s.ea c o).1 - 0xC000)) o.size (s.dest c o o.d) } })
      h hal hrsv (fun _ _ _ => rfl) (State.dwrite_csm (s := s.clearIssue (engOf c)) _ hreg (size_cases o) hal hq)
    exact ⟨t, _, ht, Mem.stored_wrN _ _ _ _, hran⟩

end Sys2Proof.Machine

namespace Sys2Proof.Machine
open Sys2Proof

/-! ### Ports read (R100 to R102) -/

/-- The ports that answer a register, a result or 0 at once. -/
theorem State.ioRead_table (s : State) (c : Nat) : let x := s.ctx c
    ∀ p ∈ [(0x0000, W (0x1000 + c)), (0x0001, x.status), (0x0002, x.psmPage.setWidth 32),
      (0x0003, x.csmPage.setWidth 32), (0x0004, x.spLim.setWidth 32), (0x0005, s.forkInfo c), (0x0006, x.evFlags),
      (0x0007, x.trapInfo), (0x0100, x.arg0), (0x0101, x.arg1), (0x0110, 0), (0x0111, 0), (0x0112, 0), (0x0113, 0),
      (0x0114, 0), (0x01F0, x.hlpStatus), (0x0200, x.emitDst), (0x0201, x.emitHdr), (0x0202, x.emitTail),
      (0x0207, 0), (0x0210, 0), (0x0211, 0), (0x0212, 0), (0x0340, x.knResult), (0x0341, x.knLinkSel.setWidth 32),
      (0x0342, W (s.cellNext x.knLinkSel.toNat)), (0x2000, 0), (0x2081, (x.tbCap.fr >>> 32).setWidth 32),
      (0x2082, x.domSel.setWidth 32), (0x2083, W x.tbCap.time.ns), (0x2084, x.tbCap.time.secLo),
      (0x2085, x.tbCap.time.secHi)], s.ioRead c p.1 = (.value p.2, s) := by
  intro x
  simp only [List.forall_mem_cons]
  refine ⟨rfl, rfl, ?_, ?_, ?_, rfl, rfl, rfl, rfl, rfl, rfl, rfl, rfl, rfl, rfl, rfl, rfl, rfl, rfl, rfl, rfl, rfl, rfl, rfl,
    ?_, rfl, rfl, ?_, ?_, rfl, rfl, rfl, fun _ h => nomatch h⟩
  case refine_5 =>
    refine congrArg (fun v => (IoAns.value v, s)) (BitVec.eq_of_toNat_eq ?_)
    simp [x, Nat.shiftRight_eq_div_pow]
  all_goals exact congrArg (fun v => (IoAns.value v, s)) (BitVec.ofNat_toNat ..)

/-- The ports of the Kennel's pools answer 0 (R318). -/
theorem State.ioRead_pools (s : State) (c : Nat) {p : Nat} (hlo : 0x0300 ≤ p) (hhi : p < 0x0340) :
    s.ioRead c p = (.value 0, s) := by
  simp only [State.ioRead]
  rw [if_neg (by omega), if_pos ⟨hlo, hhi⟩]

/-- Ports that no table of ports names (R97, R100). -/
def noPort (p : Nat) : Prop := (0x0008 ≤ p ∧ p < 0x0100) ∨ (0x0213 ≤ p ∧ p < 0x0300) ∨ 0x3000 ≤ p

theorem State.ioRead_reserved (s : State) (c : Nat) {p : Nat} (h : noPort p) : s.ioRead c p = (.reserved, s) := by
  unfold noPort at h
  simp only [State.ioRead]
  rw [if_neg (by omega), if_neg (by omega)]
  split
  case h_34 => rfl
  all_goals omega

theorem State.ioWrite_reserved (s : State) (c : Nat) {p : Nat} (h : noPort p) (v : Word) :
    s.ioWrite c p v = ⟨s, .seq, true⟩ := by
  unfold noPort at h
  simp only [State.ioWrite]
  rw [if_neg (by omega), if_neg (by omega), if_neg (by omega)]
  split
  case h_34 => rfl
  all_goals omega

/-! ### IN, INR, OUT and OUTR (R132) -/

section
variable {s : State} {c : Nat} {o : Operands} {len : Nat}

/-- A port read that answers at once. -/
theorem State.runIssue_in {op : EOp} {p : Nat} {v : Word} {f : Ctx → Ctx} {u : State} (h : s.issued op c o = some len)
    (hport : (s.clearIssue (engOf c)).portOf op c o = p)
    (hread : (s.clearIssue (engOf c)).ioRead c p = (.value v, u)) (hu : Wrote s u c { own := f }) :
    ∃ t, s.runIssue op c o (bodyIn op) = .next t ∧ Ran s t c len
      { loadEffect (s.exposed c) (regNo o o.d) (W (v.toNat % 2 ^ o.bits)) none with own := f } :=
  State.runIssue_seq h (by simp only [bodyIn, hport, hread]) (hu.load (regNo_lt o o.d) _) rfl

/-- A read of a reserved port answers 0 and sets RSV_HIT (R97, R100). -/
theorem State.runIssue_inReserved {op : EOp} {p : Nat} (h : s.issued op c o = some len)
    (hport : (s.clearIssue (engOf c)).portOf op c o = p) (hp : noPort p)
    (hoff : s.flag (Reg.PACK_CFG (packOf c)) 8 = false) :
    ∃ t, s.runIssue op c o (bodyIn op) = .next t ∧ Ran s t c len
      { loadEffect (s.exposed c) (regNo o o.d) 0 none with own := fun y => { y with rsvHit := true } } :=
  State.runIssue_rsv h (by simp only [bodyIn, hport, State.ioRead_reserved _ c hp])
    ((wrote_clearIssue s c).load (f := id) (regNo_lt o o.d) 0) rfl rfl rfl hoff

@[simp] theorem State.portOf_inp (s : State) (c : Nat) (o : Operands) : s.portOf .inp c o = o.imm.toNat % 65536 := rfl

@[simp] theorem State.portOf_outp (s : State) (c : Nat) (o : Operands) : s.portOf .outp c o = o.imm.toNat % 65536 := rfl

theorem State.portOf_clearIssue (s : State) (op : EOp) (c e : Nat) (o : Operands) :
    (s.clearIssue e).portOf op c o = s.portOf op c o := by
  cases op <;> simp only [State.portOf, State.greg_clearIssue]

/-- The word an OUT writes, as the body sees it. -/
theorem State.outWord_clearIssue (s : State) (c e : Nat) (o : Operands) :
    (s.clearIssue e).outWord c o = W (s.opnd c o o.s) := by rw [State.outWord, State.opnd_clearIssue]

/-- OUT and OUTR to a port have the same effect `e`. -/
def OutsDo (s : State) (c : Nat) (o : Operands) (len port : Nat) (e : Effect) : Prop :=
  (s.issued .outp c o = some len → o.imm.toNat % 65536 = port →
    ∃ t, exec (.outp c o) s = .next t ∧ Ran s t c len e) ∧
  (s.issued .outr c o = some len → (s.greg c (regNo o o.d)).toNat % 65536 = port →
    ∃ t, exec (.outr c o) s = .next t ∧ Ran s t c len e)

/-- A port write as OUT and OUTR make it. -/
theorem bodyOut_eq {op : EOp} {port : Nat} (hport : s.portOf op c o = port) :
    bodyOut op c o (s.clearIssue (engOf c)) = (s.clearIssue (engOf c)).ioWrite c port (W (s.opnd c o o.s)) := by
  rw [bodyOut, State.portOf_clearIssue, hport, State.outWord_clearIssue]

/-- A port write that goes on. -/
theorem outsDo_of_write {port : Nat} {u : State} {e : Effect}
    (hwr : (s.clearIssue (engOf c)).ioWrite c port (W (s.opnd c o o.s)) = Eff.ok u) (hu : Wrote s u c e)
    (hpc : e.pc = none) : OutsDo s c o len port e :=
  ⟨fun h hport => State.runIssue_seq (body := bodyOut .outp) h ((bodyOut_eq (op := .outp) hport).trans hwr) hu hpc,
    fun h hport => State.runIssue_seq (body := bodyOut .outr) h ((bodyOut_eq (op := .outr) hport).trans hwr) hu hpc⟩

/-- A port write that sets fields of the context. -/
theorem outsDo_own {port : Nat} {f : Ctx → Ctx}
    (hwr : (s.clearIssue (engOf c)).ioWrite c port (W (s.opnd c o o.s)) = Eff.ok ((s.clearIssue (engOf c)).updCtx c f))
    (hkept : ((f (s.ctx c)).g, (f (s.ctx c)).pend, (f (s.ctx c)).pc, (f (s.ctx c)).live, (f (s.ctx c)).stepping) =
      ((s.ctx c).g, (s.ctx c).pend, (s.ctx c).pc, (s.ctx c).live, (s.ctx c).stepping)) :
    OutsDo s c o len port { own := f } :=
  outsDo_of_write hwr (wrote_own s c hkept) rfl

/-- A port that only can be read ignores a write (R102). -/
theorem outsDo_readOnly : ∀ port ∈ [0x0000, 0x0005, 0x0007, 0x01F0, 0x0340, 0x0342, 0x2080, 0x2081, 0x2083, 0x2084, 0x2085],
    OutsDo s c o len port {} := by
  have hign : ∀ port ∈ [0x0000, 0x0005, 0x0007, 0x01F0, 0x0340, 0x0342, 0x2080, 0x2081, 0x2083, 0x2084, 0x2085],
      (s.clearIssue (engOf c)).ioWrite c port (W (s.opnd c o o.s)) = Eff.ok (s.clearIssue (engOf c)) := by
    simp only [List.forall_mem_cons]
    exact ⟨rfl, rfl, rfl, rfl, rfl, rfl, rfl, rfl, rfl, rfl, rfl, fun _ h => nomatch h⟩
  exact fun port hp => outsDo_of_write (hign port hp) (wrote_clearIssue s c) rfl

/-- A write to a reserved port sets RSV_HIT (R97, R100). -/
theorem outsDo_reserved {port : Nat} (hp : noPort port) (hoff : s.flag (Reg.PACK_CFG (packOf c)) 8 = false) :
    OutsDo s c o len port { own := fun x => { x with rsvHit := true } } :=
  ⟨fun h hport => State.runIssue_rsv (body := bodyOut .outp) h
      ((bodyOut_eq (op := .outp) hport).trans (State.ioWrite_reserved _ c hp _)) (wrote_clearIssue s c) rfl rfl rfl hoff,
    fun h hport => State.runIssue_rsv (body := bodyOut .outr) h
      ((bodyOut_eq (op := .outr) hport).trans (State.ioWrite_reserved _ c hp _)) (wrote_clearIssue s c) rfl rfl rfl hoff⟩

/-- A row on an OUT is that OUT (R132). -/
theorem State.runOut_of_outOf {port : Nat} {e : Effect} {row : Nat → Word → Bool} (h : OutOf s c o len port)
    (hrow : row port (s.outWord c o) = true) (hdo : OutsDo s c o len port e) :
    ∃ t, s.runOut c o row = .next t ∧ Ran s t c len e := by
  rcases h with ⟨h, hport⟩ | ⟨h, hport⟩
  · have hgo : ((s.issued .outp c o).isSome && row (s.portOf .outp c o) (s.outWord c o)) = true := by
      rw [h, State.portOf_outp, hport, hrow]
      rfl
    rw [State.runOut, if_pos hgo]
    exact hdo.1 h hport
  · have hno : s.issued .outp c o = none := State.issued_op h (by decide)
    have hgo : ((s.issued .outr c o).isSome && row (s.portOf .outr c o) (s.outWord c o)) = true := by
      rw [h, show s.portOf .outr c o = port from hport, hrow]
      rfl
    rw [State.runOut, hno, if_neg (by simp), if_pos hgo]
    exact hdo.2 h hport

/-- A row on an IN is that IN (R132). -/
theorem State.runIn_of_inOf {port : Nat} {v : Word} {f : Ctx → Ctx} {u : State} {row : Nat → Bool}
    (h : InOf s c o len port) (hrow : row port = true)
    (hread : (s.clearIssue (engOf c)).ioRead c port = (.value v, u)) (hu : Wrote s u c { own := f }) :
    ∃ t, s.runIn c o row = .next t ∧ Ran s t c len
      { loadEffect (s.exposed c) (regNo o o.d) (W (v.toNat % 2 ^ o.bits)) none with own := f } := by
  rcases h with ⟨h, hport⟩ | ⟨h, hport⟩
  · have hgo : ((s.issued .inp c o).isSome && row (s.portOf .inp c o)) = true := by
      rw [h, State.portOf_inp, hport, hrow]
      rfl
    rw [State.runIn, if_pos hgo]
    exact State.runIssue_in h hport hread hu
  · have hno : s.issued .inp c o = none := State.issued_op h (by decide)
    have hgo : ((s.issued .inr c o).isSome && row (s.portOf .inr c o)) = true := by
      rw [h, show s.portOf .inr c o = port from hport, hrow]
      rfl
    rw [State.runIn, hno, if_neg (by simp), if_pos hgo]
    exact State.runIssue_in h ((State.portOf_clearIssue ..).trans hport) hread hu

/-- An OUT to the event port raises a software source (R523). -/
theorem State.evRaise_exec (h : OutOf s c o len 0x2000) :
    let v := W (s.opnd c o o.s)
    ∃ t, exec (.evRaise c o) s = .next t ∧ Ran s t c len { st := fun q => q.raise (992 + v.toNat % 32) } ∧
      (t.reg (Reg.EV_STATUS 31)).getLsbD (v.toNat % 32) = true := by
  intro v
  have hfld : getF v 4 0 = v.toNat % 32 := by
    rw [getF, Nat.pow_zero, Nat.div_one]
    rfl
  have hwr : (s.clearIssue (engOf c)).ioWrite c 0x2000 v =
      Eff.ok ((s.clearIssue (engOf c)).raise (992 + v.toNat % 32)) := by
    rw [← hfld]
    rfl
  obtain ⟨t, ht, hran⟩ := State.runOut_of_outOf (row := fun p _ => p == 0x2000) h rfl
    (outsDo_of_write hwr ((wrote_clearIssue s c).raise rfl _) rfl)
  refine ⟨t, ht, hran, ?_⟩
  have hn : v.toNat % 32 < 32 := Nat.mod_lt _ (by decide)
  have hbit := State.raise_bit (s := s) (evPresent_sw s.chip hn)
  rw [evReg, show (Ev.SW (v.toNat % 32)) / 32 = 31 by rw [Ev.SW]; omega,
    show (Ev.SW (v.toNat % 32)) % 32 = v.toNat % 32 by rw [Ev.SW]; omega] at hbit
  rw [hran.reg_of_raise (src := Ev.SW (v.toNat % 32)) rfl]
  exact hbit

/-- An IN of TBR_FR_LO captures the free-running count and the time of the selected domain (R409). -/
theorem State.tbrFrLoRead_exec (h : InOf s c o len 0x2080) :
    ∃ t, exec (.tbrFrLoRead c o) s = .next t ∧ Ran s t c len
      { loadEffect (s.exposed c) (regNo o o.d) (W (s.fr % 2 ^ 32 % 2 ^ o.bits)) none with
        own := fun x => { x with tbCap := { fr := BitVec.ofNat 64 s.fr, time := s.domTime x.domSel.toNat } } } := by
  have hval : (W s.fr).toNat = s.fr % 2 ^ 32 := BitVec.toNat_ofNat ..
  rw [← hval]
  exact State.runIn_of_inOf (row := fun p => p == 0x2080) (u := (s.clearIssue (engOf c)).updCtx c fun x =>
    { x with tbCap := { fr := BitVec.ofNat 64 s.fr, time := s.domTime x.domSel.toNat } }) h rfl rfl (wrote_own s c rfl)

end

/-- Settles O10: a port read lands as a load does; a port write sets a field of the context, is ignored, or raises an
event. -/
theorem portReadsAndWrites : Obligations.PortReadsAndWrites := by
  unfold Obligations.PortReadsAndWrites
  constructor
  · intro s c o len
    have inr_port : ∀ {p}, (s.greg c (regNo o o.s)).toNat % 65536 = p → (s.clearIssue (engOf c)).portOf .inr c o = p :=
      fun hport => (State.portOf_clearIssue ..).trans hport
    refine ⟨fun p hp => ?_, fun p hlo hhi => ?_, fun p _ hp hoff => ?_⟩
    · have hread := (s.clearIssue (engOf c)).ioRead_table c p hp
      exact ⟨fun h hport => State.runIssue_in (f := id) h hport hread (wrote_clearIssue s c),
        fun h hport => State.runIssue_in (f := id) h (inr_port hport) hread (wrote_clearIssue s c)⟩
    · have hread := (s.clearIssue (engOf c)).ioRead_pools c hlo hhi
      exact ⟨fun h hport => State.runIssue_in (f := id) h hport hread (wrote_clearIssue s c),
        fun h hport => State.runIssue_in (f := id) h (inr_port hport) hread (wrote_clearIssue s c)⟩
    · exact ⟨fun h hport => State.runIssue_inReserved h hport hp hoff,
        fun h hport => State.runIssue_inReserved h (inr_port hport) hp hoff⟩
  · intro s c o len
    refine ⟨outsDo_own ?_ rfl, outsDo_own ?_ rfl, outsDo_own ?_ rfl, outsDo_own ?_ rfl, outsDo_own rfl rfl,
      outsDo_own rfl rfl, outsDo_own rfl rfl, outsDo_own rfl rfl, outsDo_own rfl rfl, outsDo_own rfl rfl,
      outsDo_own ?_ rfl, outsDo_own ?_ rfl, outsDo_readOnly, fun port _ hp hoff => outsDo_reserved hp hoff,
      State.evRaise_exec, State.tbrFrLoRead_exec⟩
    · rw [← bitOf_eq_getLsbD]; rfl
    all_goals rw [← BitVec.ofNat_toNat]; rfl

end Sys2Proof.Machine

namespace Sys2Proof.Machine
open Sys2Proof

/-! ### The start state of a context (R89, R91) -/

theorem Tab.get_filter_key {α : Type} (d : α) (keep : Nat → Bool) (k : Nat) : ∀ t : Tab α,
    Tab.get d (t.filter fun p => keep p.1) k = if keep k then Tab.get d t k else d
  | [] => by simp
  | (i, v) :: t => by
    have ih := Tab.get_filter_key d keep k t
    by_cases hi : keep i = true
    · rw [List.filter_cons_of_pos (by exact hi), Tab.get, Tab.get, ih]
      by_cases hik : i = k
      · rw [if_pos hik, if_pos hik, if_pos (hik ▸ hi)]
      · rw [if_neg hik, if_neg hik]
    · rw [List.filter_cons_of_neg (by exact hi), ih, Tab.get]
      by_cases hik : i = k
      · rw [if_neg (hik ▸ hi), if_neg (hik ▸ hi)]
      · rw [if_neg hik]

/-- A cleared range reads 0. -/
theorem Mem.rd_clearRange (m : Mem) (a n b : Nat) :
    Mem.rd (clearRange m a n) b = if a ≤ b ∧ b < a + n then 0 else m.rd b := by
  have h := Tab.get_filter_key (0 : Byte) (fun i => decide (i < a) || decide (a + n ≤ i)) b m
  rw [Mem.rd, clearRange, h, ← Mem.rd]
  by_cases hb : a ≤ b ∧ b < a + n
  · rw [if_pos hb, if_neg]
    simp
    omega
  · rw [if_neg hb, if_pos]
    simp
    omega

/-- What an allocation takes is one of the free contexts (R149). -/
theorem pickCtx_mem {free : List Nat} {own : Nat → Bool} {crit : Nat} {t : Bool} {k : Nat}
    (h : pickCtx free own crit t = some k) : k ∈ free := by
  rw [pickCtx] at h
  split at h
  · exact List.mem_of_find?_eq_some h
  · split at h
    · next hf => cases h; exact List.mem_of_find?_eq_some hf
    · split at h
      · exact List.mem_of_find?_eq_some h
      · cases h

theorem State.allocNum_lt {s : State} {e k : Nat} {t : Bool} (h : s.allocNum e t = some k) : k < 8 := by
  have hk := pickCtx_mem h
  rw [State.freeNums, List.mem_filter, List.mem_range] at hk
  exact hk.1

/-- The initial stack pointer of context number `k` of a pack (R89, R117). -/
def State.stackTop (s : State) (p k : Nat) : Word :=
  W (getF (s.reg (Reg.PACK_STACK p)) 15 0 + 2 ^ 32 - k * getF (s.reg (Reg.PACK_STACK p)) 31 16)

/-- The stack limit as an address (R89). -/
theorem stackLimit_eq (sp : Word) {n : Nat} (hn : n < 2 ^ 16) :
    BitVec.ofNat 16 (sp.toNat + 2 ^ 32 - n) = (sp - W n).setWidth 16 := by
  refine BitVec.eq_of_toNat_eq ?_
  have := sp.isLt
  simp only [BitVec.toNat_ofNat, BitVec.toNat_setWidth, BitVec.toNat_sub]
  omega

/-- A context that starts: the fields given, a new generation, its stack (R89). -/
def State.started (s : State) (c : Nat) (x : Ctx) : Ctx :=
  { x with
    live := true, gen := (s.ctx c).gen + 1, g := Tab.set 0 x.g 14 (s.stackTop (packOf c) (numOf c)),
    spLim := (s.stackTop (packOf c) (numOf c) - W (getF (s.reg (Reg.PACK_STACK (packOf c))) 31 16)).setWidth 16 }

/-- A start writes one context and clears its scratch (R89, R91). -/
theorem State.startCtx_eq (s : State) (c : Nat) (x : Ctx) : s.startCtx c x =
    { s.setCtx c (s.started c x) with mem := { s.mem with scratch := clearRange s.mem.scratch (c * 256) 256 } } := by
  rw [State.started, ← stackLimit_eq _ (getF_lt _ _ _)]
  rfl

theorem State.ctx_startCtx (s : State) (c n : Nat) (x : Ctx) :
    (s.startCtx c x).ctx n = if n = c then s.started c x else s.ctx n := by
  rw [State.startCtx_eq, ← State.ctx_setCtx]
  rfl

/-! ### JOB_START (R89, R151, R152) -/

section
variable {s : State} {e i k : Nat} {f : FetchSlot}

/-- The state in which the job of a slot starts: the slot is empty, the start is counted, the job runs. -/
def State.leftSlot (s : State) (e i : Nat) (f : FetchSlot) : State :=
  ((s.setSlot e i none).setReg (Reg.ENG_STARTS (e / 16) (e % 16)) (s.reg (Reg.ENG_STARTS (e / 16) (e % 16)) + 1)).updJob
    f.job fun y => { y with place := .running, dpatch := [] }

/-- The fields a job gives its first context (R89). -/
def Job.firstCtx (x : Job) (j : Nat) (entry : Word) : Ctx :=
  { Ctx.idle with
    pc := entry.setWidth 16, g := Tab.set 0 [] 0 (if x.restart then W x.dtag.toNat else 0), tclass := x.tclass,
    epoch := x.epoch, job := some j }

/-- A start changes one register. -/
theorem State.leftSlot_reg (s : State) (e i : Nat) (f : FetchSlot) (off : Nat) : (s.leftSlot e i f).reg off =
    if off = Reg.ENG_STARTS (e / 16) (e % 16) then s.reg (Reg.ENG_STARTS (e / 16) (e % 16)) + 1 else s.reg off :=
  State.reg_setReg ..

theorem packOf_ctx (hk : k < 8) : packOf (e * 8 + k) = e / 16 := by
  rw [packOf]
  omega

theorem numOf_ctx (hk : k < 8) : numOf (e * 8 + k) = k := by
  rw [numOf]
  omega

/-- A job whose entry is valid starts in the context that the allocation takes. -/
theorem State.startJob_eq (hf : s.slot e i = some f) (hs : s.startable e i = true) (ha : s.startAfter e i = false)
    (hk : s.allocNum e (s.job f.job).tclass = some k) (hcls : (s.job f.job).epoch * 8 + (s.job f.job).cls < 16)
    (hv : (s.reg (Reg.PACK_ENTRY (packOfEng e) ((s.job f.job).epoch * 8 + (s.job f.job).cls))).getLsbD 31 = true) :
    s.startJob e i = (s.leftSlot e i f).startCtx (e * 8 + k) ((s.job f.job).firstCtx f.job
      (s.reg (Reg.PACK_ENTRY (packOfEng e) ((s.job f.job).epoch * 8 + (s.job f.job).cls)))) := by
  have hentry : ((s.setSlot e i none).setReg (Reg.ENG_STARTS (e / 16) (e % 16))
      (s.reg (Reg.ENG_STARTS (e / 16) (e % 16)) + 1)).reg
        (Reg.PACK_ENTRY (packOfEng e) ((s.job f.job).epoch * 8 + (s.job f.job).cls)) =
      s.reg (Reg.PACK_ENTRY (packOfEng e) ((s.job f.job).epoch * 8 + (s.job f.job).cls)) := by
    rw [State.reg_setReg, if_neg]
    · rfl
    · rw [packOfEng, Reg.PACK_ENTRY, Reg.ENG_STARTS]
      omega
  simp only [State.startJob, hf, hs, ha, hk, hentry, bitOf_eq_getLsbD, hv, Bool.not_false, Bool.and_self, if_true,
    Job.firstCtx, State.leftSlot, BitVec.ofNat_toNat]

end

/-- Settles O17: the job leaves its slot and its first context has the start state of R89. -/
theorem jobStartSetsUpTheContext : Obligations.JobStartSetsUpTheContext := by
  unfold Obligations.JobStartSetsUpTheContext
  intro s e i k f hrun hi he hf hmid hdue hs ha hk
  dsimp only
  intro hep hcls hv
  have hk8 := State.allocNum_lt hk
  have hexec : exec (.jobStart e i) s = .next (s.startJob e i) :=
    if_pos (by rw [hrun, hmid, hdue]; simp [hi])
  rw [hexec, State.startJob_eq hf hs ha hk (by omega) hv]
  have hstack : (s.leftSlot e i f).reg (Reg.PACK_STACK (packOf (e * 8 + k))) = s.reg (Reg.PACK_STACK (packOf (e * 8 + k))) := by
    rw [State.leftSlot_reg, if_neg]
    rw [packOf_ctx hk8, Reg.PACK_STACK, Reg.ENG_STARTS]
    omega
  have htop : (s.leftSlot e i f).stackTop (packOf (e * 8 + k)) (numOf (e * 8 + k)) = s.stackTop (packOf (e * 8 + k)) k := by
    rw [State.stackTop, State.stackTop, hstack, numOf_ctx hk8]
  generalize hx : (s.job f.job).firstCtx f.job _ = x
  have hself := (s.leftSlot e i f).ctx_startCtx (e * 8 + k) (e * 8 + k) x
  rw [if_pos rfl, State.started, htop, hstack] at hself
  generalize ht : (s.leftSlot e i f).startCtx (e * 8 + k) x = t at hself
  have hreg : ∀ off, t.reg off = (s.leftSlot e i f).reg off := fun off => by rw [← ht]; rfl
  refine ⟨t, rfl, ?_, ?_, ?_, ?_, fun r hr => ?_, fun n hn => ?_, fun b => ?_⟩
  · have heng : t.eng e = (s.leftSlot e i f).eng e := by rw [← ht]; rfl
    have hleft : (s.leftSlot e i f).eng e = (s.setSlot e i none).eng e := rfl
    obtain rfl | rfl : i = 0 ∨ i = 1 := by omega
    · simp [State.slot, heng, hleft, State.setSlot]
    · simp [State.slot, heng, hleft, State.setSlot]
  · rw [hreg, State.leftSlot_reg, if_pos rfl]
  · have hjob : t.job f.job = (s.leftSlot e i f).job f.job := by rw [← ht]; rfl
    rw [hjob]
    exact (State.job_setJob ..).trans (if_pos rfl)
  · generalize t.ctx (e * 8 + k) = y at hself
    rw [hself, ← hx]
    rfl
  · rw [State.greg, if_pos hr, hself, ← hx]
    simp only [Job.firstCtx, Tab.get_set, Tab.get_nil]
    by_cases h14 : r = 14
    · rw [if_pos h14, if_pos h14]; rfl
    · rw [if_neg h14, if_neg h14]
      by_cases h0 : r = 0
      · simp [h0]
      · simp [h0]
  · rw [← ht, State.ctx_startCtx, if_neg hn]
    rfl
  · have hmem : t.mem.scratch = clearRange s.mem.scratch ((e * 8 + k) * 256) 256 := by rw [← ht]; rfl
    rw [hmem, Mem.rd_clearRange]

end Sys2Proof.Machine

namespace Sys2Proof.Machine
open Sys2Proof

/-! ### What the end of a context leaves of its engine (R148, R207) -/

/-- An engine that may have lost its issued instruction, but nothing else that a reset looks at. -/
structure Eng.Kept (a b : Eng) : Prop where
  due : b.due = a.due
  fs0 : b.fs0 = a.fs0
  fs1 : b.fs1 = a.fs1
  rstBusy : b.rstBusy = a.rstBusy
  issue : a.issue = none → b.issue = none

theorem Eng.Kept.refl (a : Eng) : Eng.Kept a a := ⟨rfl, rfl, rfl, rfl, id⟩

theorem Eng.Kept.trans {a b c : Eng} (h : Eng.Kept a b) (h' : Eng.Kept b c) : Eng.Kept a c :=
  ⟨h'.due.trans h.due, h'.fs0.trans h.fs0, h'.fs1.trans h.fs1, h'.rstBusy.trans h.rstBusy, h'.issue ∘ h.issue⟩

/-- From `s` to `t` the jobs, the registers of the packs and what a reset looks at in an engine stand. -/
structure KeepsEngines (s t : State) : Prop where
  herd : t.herd = s.herd
  reg : ∀ k, 0x1000000 ≤ k → t.reg k = s.reg k
  eng : ∀ n, Eng.Kept (s.eng n) (t.eng n)

namespace KeepsEngines

variable {s t u : State}

theorem refl (s : State) : KeepsEngines s s := ⟨rfl, fun _ _ => rfl, fun _ => .refl _⟩

theorem trans (h : KeepsEngines s t) (h' : KeepsEngines t u) : KeepsEngines s u :=
  ⟨h'.herd.trans h.herd, fun k hk => (h'.reg k hk).trans (h.reg k hk), fun n => (h.eng n).trans (h'.eng n)⟩

theorem of_engs (hherd : t.herd = s.herd) (hreg : ∀ k, 0x1000000 ≤ k → t.reg k = s.reg k) (hengs : t.engs = s.engs) :
    KeepsEngines s t :=
  ⟨hherd, hreg, fun n => by rw [State.eng, State.eng, hengs]; exact .refl _⟩

theorem foldl {α : Type} {f : State → α → State} (hf : ∀ t a, KeepsEngines t (f t a)) : ∀ (l : List α) (s : State),
    KeepsEngines s (l.foldl f s)
  | [], s => refl s
  | a :: l, s => (hf s a).trans (foldl hf l (f s a))

theorem updEng (s : State) (e : Nat) {f : Eng → Eng} (hf : ∀ g, Eng.Kept g (f g)) : KeepsEngines s (s.updEng e f) := by
  refine ⟨rfl, fun _ _ => rfl, fun n => ?_⟩
  rw [State.eng_updEng]
  split
  · next h => rw [h]; exact hf _
  · exact .refl _

theorem updCtx (s : State) (c : Nat) (f : Ctx → Ctx) : KeepsEngines s (s.updCtx c f) := of_engs rfl (fun _ _ => rfl) rfl

theorem setCtx (s : State) (c : Nat) (x : Ctx) : KeepsEngines s (s.setCtx c x) := of_engs rfl (fun _ _ => rfl) rfl

theorem setLeash (s : State) (l : Leash) : KeepsEngines s { s with leash := l } := of_engs rfl (fun _ _ => rfl) rfl

theorem setLock (s : State) (i : Nat) (l : Lock) : KeepsEngines s (s.setLock i l) := of_engs rfl (fun _ _ => rfl) rfl

theorem setFabLink (s : State) (q : Nat) (l : FabLink) : KeepsEngines s (s.setFabLink q l) :=
  of_engs rfl (fun _ _ => rfl) rfl

theorem pin (s : State) (p : PinEvent) : KeepsEngines s (s.pin p) := of_engs rfl (fun _ _ => rfl) rfl

/-! Values that land (R101, R114, R163) -/

theorem setS (s : State) (c j : Nat) (v : Word) : KeepsEngines s (s.setS c j v) := by
  rw [State.setS]
  refine trans (t := s.updEng (engOf c) fun e => { e with s := Tab.set 0 e.s j v })
    (updEng s _ fun _ => ⟨rfl, rfl, rfl, rfl, id⟩) (foldl (fun t k => ?_) _ _)
  split
  · exact refl t
  · exact updCtx t k _

theorem land (s : State) (c r : Nat) (v : Word) : KeepsEngines s (s.land c r v) := by
  rw [State.land]
  split
  · exact updCtx s c _
  · rw [State.setR]
    split
    · exact updCtx s c _
    · exact setS s c _ v

theorem deliver (s : State) (c dst bytes : Nat) (v : Word) : KeepsEngines s (s.deliver c dst bytes v) := by
  rw [State.deliver]
  split
  · exact updCtx s c _
  · exact (updCtx s c _).trans (land _ _ _ _)

/-! The control channel of a link (R444, R457) -/

theorem ctlPump (s : State) (q : Nat) : KeepsEngines s (s.ctlPump q) := by
  rw [State.ctlPump]
  dsimp only
  split
  · exact (setFabLink s q _).trans (foldl (fun t _ => pin t _) _ _)
  · exact refl s

theorem fabStatus (s : State) (d : Nat) (v : Word) : KeepsEngines s (s.fabStatus d v) := by
  rw [State.fabStatus, State.fabControl]
  split
  · split
    · exact (setFabLink s _ _).trans (ctlPump _ _)
    · exact refl s
  · exact refl s

/-! The Leash (R201, R205, R207, R208) -/

/-- LEASH_BROKEN is counted and raised in registers that no pack has. -/
theorem countBroken (s : State) : KeepsEngines s ((s.bump Reg.LEASH_BROKEN_CNT).raise Ev.LEASH_BROKEN) := by
  have hrest := (s.bump Reg.LEASH_BROKEN_CNT).raise_rest Ev.LEASH_BROKEN
  refine of_engs (congrArg State.herd hrest :) (fun k hk => ?_) (congrArg State.engs hrest :)
  have hcnt : k ≠ Reg.LEASH_BROKEN_CNT := by unfold Reg.LEASH_BROKEN_CNT; omega
  rw [State.raise_reg _ (by unfold evReg Ev.LEASH_BROKEN Reg.EV_STATUS; omega), State.reg_bump, if_neg hcnt]

theorem leashReply (s : State) (id : Nat) (v : Word) : KeepsEngines s (s.leashReply id v) := by
  rw [State.leashReply]
  split
  · split
    · exact deliver _ _ _ _ _
    · exact refl s
  · split
    · exact fabStatus _ _ _
    · exact setLeash s _

theorem leashBreakOne (s : State) (i : Nat) : KeepsEngines s (s.leashBreakOne i) := by
  rw [State.leashBreakOne, State.leashPass]
  split
  · exact (countBroken s).trans (setLock _ i _)
  · split
    · exact (countBroken s).trans (setLock _ i _)
    · exact ((countBroken s).trans (setLock _ i _)).trans (leashReply _ _ _)

theorem leashLeave (s : State) (id : Nat) : KeepsEngines s (s.leashLeave id) := by
  refine foldl (fun t p => ?_) _ s
  split
  · exact setLock t _ _
  · exact refl t

theorem leashBreak (s : State) (id : Nat) : KeepsEngines s (s.leashBreak id) := by
  refine (leashLeave s id).trans (foldl (fun t p => ?_) _ _)
  split
  · exact leashBreakOne _ _
  · exact refl t

theorem mwLeave (s : State) (c : Nat) : KeepsEngines s (s.mwLeave c) := foldl (fun t _ => setLeash t _) _ s

theorem leaveQueues (s : State) (cs : List Nat) : KeepsEngines s (s.leaveQueues cs) :=
  foldl (fun t c => (mwLeave t c).trans (leashLeave _ _)) cs s

/-! Parents and children (R136, R153, R162) -/

theorem orphan (s : State) (c : Nat) : KeepsEngines s (s.orphan c) := by
  refine foldl (fun t k => ?_) _ s
  split
  · exact updCtx t k _
  · exact refl t

theorem tellParent (s : State) (p : Option Nat) (k : Nat) : KeepsEngines s (s.tellParent p k) := by
  cases p with
  | none => exact refl s
  | some p =>
    rw [State.tellParent]
    exact updCtx s p _

/-- The end of a context withdraws at most its own instruction from the engine. -/
theorem freeCtx (s : State) (c : Nat) (k : EndKind) (hjob : (s.ctx c).live = true → (s.ctx c).job = none) :
    KeepsEngines s (s.freeCtx c k) := by
  rw [State.freeCtx]
  dsimp only
  split
  · next hlive =>
    rw [hjob hlive]
    dsimp only
    have hunlinked := ((orphan s c).trans (mwLeave _ c)).trans (leashBreak _ (ownerId c))
    have hall := (hunlinked.trans (setCtx _ c { Ctx.idle with gen := (s.ctx c).gen + 1 })).trans
      (tellParent _ (s.ctx c).parent (numOf c))
    have hwithdrawn := hall.trans (updEng _ (engOf c) (f := fun e =>
      { e with issue := match e.issue with
          | some i => if i.ctx = c then none else some i
          | none => none }) fun g => ⟨rfl, rfl, rfl, rfl, fun h => by rw [h]⟩)
    split
    · exact hwithdrawn
    · exact hwithdrawn.trans (updEng _ _ fun _ => ⟨rfl, rfl, rfl, rfl, id⟩)
  · exact refl s

theorem freeAll (k : EndKind) : ∀ (l : List Nat) (s : State) (_ : ∀ c ∈ l, (s.ctx c).live = true → (s.ctx c).job = none),
    KeepsEngines s (l.foldl (fun t c => t.freeCtx c k) s)
  | [], s, _ => refl s
  | a :: l, s, h => by
    have hfree := (Withdraws.freeCtx s a k (h a List.mem_cons_self)).1
    refine (freeCtx s a k (h a List.mem_cons_self)).trans (freeAll k l _ fun c hc hlive => ?_)
    obtain ⟨hlive', hjob⟩ := hfree.ctx c hlive
    rw [hjob]
    exact h c (List.mem_cons_of_mem a hc) hlive'

end KeepsEngines

/-! ### The reset of engines (R121, R174) -/

/-- An engine whose wheel starts anew at slot 0 (R40, R155). -/
def Eng.restarted (g : Eng) : Eng := { g with issue := none, slot := 0, rp := 0, watch := 0, bubbles := 0 }

theorem Eng.kept_restarted (g : Eng) : Eng.Kept g g.restarted := ⟨rfl, rfl, rfl, rfl, fun _ => rfl⟩

/-- The wheels of a list of engines start anew. -/
def State.restart (s : State) (es : List Nat) : State := es.foldl (fun t e => t.updEng e Eng.restarted) s

theorem State.eng_restart (n : Nat) : ∀ (es : List Nat) (s : State),
    (s.restart es).eng n = if n ∈ es then (s.eng n).restarted else s.eng n
  | [], s => by simp [State.restart]
  | e :: es, s => by
    have ih := State.eng_restart n es (s.updEng e Eng.restarted)
    rw [State.restart, List.foldl_cons, ← State.restart, ih, State.eng_updEng]
    by_cases hn : n = e <;> by_cases hes : n ∈ es <;> simp [hn, hes, Eng.restarted]

theorem State.restart_rest (es : List Nat) (s : State) : { s.restart es with engs := s.engs } = s :=
  List.foldlRecOn es _ (motive := fun t : State => { t with engs := s.engs } = s) rfl fun _ h _ _ => h

/-- No job stands in an empty Fetch slot. -/
theorem State.recallSlot_none {s : State} {e i : Nat} (h : s.slot e i = none) : s.recallSlot e i = s := by
  rw [State.recallSlot, h]

/-- Both Fetch slots of an engine are empty. -/
def Eng.noFetch (g : Eng) : Prop := g.fs0 = none ∧ g.fs1 = none

theorem Eng.Kept.noFetch {a b : Eng} (h : Eng.Kept a b) (ha : a.noFetch) : b.noFetch :=
  ⟨h.fs0.trans ha.1, h.fs1.trans ha.2⟩

theorem State.recall_of_noFetch {s : State} {e : Nat} (h : (s.eng e).noFetch) :
    (s.recallSlot e 0).recallSlot e 1 = s := by
  have h0 : s.slot e 0 = none := h.1
  have h1 : s.slot e 1 = none := h.2
  rw [State.recallSlot_none h0, State.recallSlot_none h1]

/-- The restart of engines whose Fetch slots are empty recalls no job. -/
theorem State.restart_eq : ∀ (es : List Nat) (s : State) (_ : ∀ e ∈ es, (s.eng e).noFetch),
    es.foldl (fun t e => ((t.updEng e Eng.restarted).recallSlot e 0).recallSlot e 1) s = s.restart es
  | [], _, _ => rfl
  | e :: es, s, h => by
    have hkept : KeepsEngines s (s.updEng e Eng.restarted) := .updEng s e Eng.kept_restarted
    have hnone : ∀ n ∈ e :: es, ((s.updEng e Eng.restarted).eng n).noFetch := fun n hn => (hkept.eng n).noFetch (h n hn)
    have hrest := State.restart_eq es (s.updEng e Eng.restarted) fun n hn => hnone n (List.mem_cons_of_mem e hn)
    rw [List.foldl_cons, State.recall_of_noFetch (hnone e List.mem_cons_self), hrest]
    rfl

/-- What a reset of engines leaves: their contexts are free and their wheels stand at slot 0. -/
structure EnginesReset (s t : State) (es : List Nat) : Prop where
  keeps : KeepsEngines s t
  withdraws : Withdraws s t
  dead : ∀ c, engOf c ∈ es → (t.ctx c).live = false
  slot : ∀ e ∈ es, (t.eng e).slot = 0
  issue : ∀ e ∈ es, (t.eng e).issue = none

theorem State.mem_liveOf8 {s : State} {e c : Nat} : c ∈ State.engReset.liveOf8 s e ↔ engOf c = e ∧ (s.ctx c).live = true := by
  simp only [State.engReset.liveOf8, List.mem_filter, List.mem_map, List.mem_range, engOf]
  refine and_congr_left' ⟨?_, fun h => ⟨c % 8, by omega, by omega⟩⟩
  rintro ⟨k, hk, rfl⟩
  omega

/-- A reset ends the contexts together, then restarts the wheels and recalls the jobs of the Fetch slots (R201). -/
theorem State.engReset_eq (s : State) (es : List Nat) : s.engReset es =
    es.foldl (fun t e => ((t.updEng e Eng.restarted).recallSlot e 0).recallSlot e 1)
      ((es.flatMap (State.engReset.liveOf8 s)).foldl (fun t c => t.freeCtx c .reset)
        (s.leaveQueues (es.flatMap (State.engReset.liveOf8 s)))) := rfl

/-- A reset of engines that hold no job frees their contexts and restarts their wheels. -/
theorem State.engReset_done {s : State} {es : List Nat} (hjob : ∀ c, engOf c ∈ es → (s.ctx c).job = none)
    (hfs : ∀ e ∈ es, (s.eng e).noFetch) : EnginesReset s (s.engReset es) es := by
  have hmem : ∀ c, c ∈ es.flatMap (State.engReset.liveOf8 s) ↔ engOf c ∈ es ∧ (s.ctx c).live = true := by
    simp [State.mem_liveOf8]
  rw [State.engReset_eq]
  generalize es.flatMap (State.engReset.liveOf8 s) = cs at hmem
  have hleft := Withdraws.leaveQueues s cs
  have hjobs : ∀ c ∈ cs, ((s.leaveQueues cs).ctx c).live = true → ((s.leaveQueues cs).ctx c).job = none :=
    fun c hc hlive => (hleft.ctx c hlive).2.trans (hjob c ((hmem c).mp hc).1)
  obtain ⟨hfreed, hdead⟩ := Withdraws.freeAll .reset cs _ hjobs
  have hkept := (KeepsEngines.leaveQueues s cs).trans (KeepsEngines.freeAll .reset cs _ hjobs)
  have hwith := hleft.trans hfreed
  generalize cs.foldl (fun t c => t.freeCtx c .reset) (s.leaveQueues cs) = u at *
  rw [State.restart_eq es u fun e he => (hkept.eng e).noFetch (hfs e he)]
  have hrest := u.restart_rest es
  have hctx : ∀ c, (u.restart es).ctx c = u.ctx c := fun c => by
    rw [State.ctx, State.ctx, (congrArg State.ctxs hrest :)]
  refine ⟨hkept.trans ⟨(congrArg State.herd hrest :), fun k _ => ?_, fun n => ?_⟩,
    hwith.trans (.of_eq (congrArg State.mem hrest :) (congrArg State.ctxs hrest :)), fun c hc => ?_, fun e he => ?_,
    fun e he => ?_⟩
  · exact State.reg_congr (congrArg State.chip hrest :) (congrArg State.regs hrest :) k
  · rw [State.eng_restart]
    split
    · exact Eng.kept_restarted _
    · exact .refl _
  · rw [hctx]
    by_contra hlive
    have hlive : (u.ctx c).live = true := by simpa using hlive
    rw [hdead c ((hmem c).mpr ⟨hc, (hwith.ctx c hlive).1⟩)] at hlive
    cases hlive
  · rw [State.eng_restart, if_pos he]
    rfl
  · rw [State.eng_restart, if_pos he]
    rfl

end Sys2Proof.Machine

namespace Sys2Proof.Machine
open Sys2Proof

/-! ### The reset and wake registers of the packs (R121, R173, R174) -/

def packRstRow : RegDesc := ⟨.PACK_RST, 0x105000C, [(32, 0x80000)], .pack, 0x0, [⟨0, 1, .w1s⟩, ⟨1, 1, .ro⟩]⟩
def engRstRow : RegDesc :=
  ⟨.ENG_RST, 0x106001C, [(32, 0x80000), (16, 0x1000)], .pack, 0x0, [⟨0, 1, .w1s⟩, ⟨1, 1, .ro⟩]⟩
def engWakeRow : RegDesc := ⟨.ENG_WAKE, 0x1060018, [(32, 0x80000), (16, 0x1000)], .pack, 0x0, [⟨0, 3, .wo⟩]⟩

/-- The row is an array of `n` blocks, `st` bytes apart, whose first block holds `[lo, hi)`. -/
def RegDesc.holds (r : RegDesc) (n st lo hi : Nat) : Bool :=
  decide (r.dims.head? = some (n, st) ∧ r.base ≤ lo ∧ hi ≤ r.base + st)

/-- Block `i` of an array of blocks holds the elements of its first block, `st * i` bytes on. -/
theorem splitDims_stride {n st i d : Nat} (ds : List (Nat × Nat)) (hi : i < n) (hd : d < st) :
    splitDims ((n, st) :: ds) (d + st * i) = (splitDims ds d).map (i :: ·) := by
  have hdiv : (d + st * i) / st = i := by
    rw [Nat.add_mul_div_left _ _ (by omega), Nat.div_eq_of_lt hd, Nat.zero_add]
  rw [splitDims, hdiv, if_pos hi, Nat.add_mul_mod_self_left, Nat.mod_eq_of_lt hd]

/-- Arrays of blocks with one stride lie alike in every block. -/
theorem findRegIn_stride {n st i lo hi off : Nat} {r : RegDesc} {ix : List Nat} (hi' : i < n) (hlo : lo ≤ off)
    (hhi : off < hi) (t : List RegDesc) : ∀ l : List RegDesc, (∀ q ∈ l, q.holds n st lo hi = true) →
    findRegIn off l = some (r, 0 :: ix) → findRegIn (off + st * i) (l ++ t) = some (r, i :: ix)
  | [], _, hf => by simp [findRegIn] at hf
  | q :: l, hq, hf => by
    have hhead := hq q List.mem_cons_self
    simp only [RegDesc.holds, List.head?_eq_some_iff, decide_eq_true_eq] at hhead
    obtain ⟨⟨ds, hds⟩, hbase, hend⟩ := hhead
    have hsub : off + st * i - q.base = off - q.base + st * i := by omega
    have hfirst := splitDims_stride (n := n) (st := st) (i := 0) (d := off - q.base) ds (by omega) (by omega)
    rw [Nat.mul_zero, Nat.add_zero] at hfirst
    rw [findRegIn, if_pos (by omega), hds, hfirst] at hf
    rw [List.cons_append, findRegIn, if_pos (by omega), hds, hsub, splitDims_stride ds hi' (by omega)]
    cases hsplit : splitDims ds (off - q.base) with
    | some js => simp_all
    | none =>
      rw [hsplit] at hf
      exact findRegIn_stride hi' hlo hhi t l (fun a ha => hq a (List.mem_cons_of_mem q ha)) hf

/-- The register map from the first row of the packs on. -/
def packRows : List RegDesc := regTable.drop 255

/-- An element of a register of pack `p`, from the same element of pack 0; `j` rows of the packs suffice to find it. -/
theorem findReg_of_pack {lo hi off p : Nat} {r : RegDesc} {ix : List Nat} (j : Nat)
    (hrows : ∀ q ∈ packRows.take j, q.holds 32 0x80000 lo hi = true) (hlo : lo ≤ off) (hhi : off < hi)
    (hbase : 0x1050000 ≤ off) (hend : off < 0x1070000) (hp : p < 32)
    (hf : findRegIn off (packRows.take j) = some (r, 0 :: ix)) : findReg (off + 0x80000 * p) = some (r, p :: ix) := by
  have hmiss : ∀ q ∈ regTable.take 255, q.misses 0x1050000 0x2000000 = true := by decide +kernel
  have hsplit : regTable = regTable.take 255 ++ packRows := (List.take_append_drop 255 regTable).symm
  rw [findReg, hsplit, findRegIn_append_of_misses (by omega) (by omega) _ _ hmiss, ← List.take_append_drop j packRows]
  exact findRegIn_stride hp hlo hhi _ _ hrows hf

theorem findReg_packRst {p : Nat} (hp : p < 32) : findReg (Reg.PACK_RST p) = some (packRstRow, [p]) :=
  findReg_of_pack 4 (lo := 0x105000C) (hi := 0x1050010) (by decide +kernel) le_rfl (by decide) (by decide) (by decide) hp
    (by decide +kernel)

theorem findReg_engRst {p k : Nat} (hp : p < 32) (hk : k < 16) :
    findReg (Reg.ENG_RST p k) = some (engRstRow, [p, k]) := by
  have hfirst : ∀ k < 16, findRegIn (0x106001C + 0x1000 * k) (packRows.take 14) = some (engRstRow, [0, k]) := by
    decide +kernel
  have hoff : Reg.ENG_RST p k = 0x106001C + 0x1000 * k + 0x80000 * p := by unfold Reg.ENG_RST; omega
  rw [hoff]
  exact findReg_of_pack 14 (lo := 0x106001C) (hi := 0x1070000) (by decide +kernel) (by omega) (by omega) (by omega)
    (by omega) hp (hfirst k hk)

theorem findReg_engWake {p k : Nat} (hp : p < 32) (hk : k < 16) :
    findReg (Reg.ENG_WAKE p k) = some (engWakeRow, [p, k]) := by
  have hfirst : ∀ k < 16, findRegIn (0x1060018 + 0x1000 * k) (packRows.take 13) = some (engWakeRow, [0, k]) := by
    decide +kernel
  have hoff : Reg.ENG_WAKE p k = 0x1060018 + 0x1000 * k + 0x80000 * p := by unfold Reg.ENG_WAKE; omega
  rw [hoff]
  exact findReg_of_pack 13 (lo := 0x1060018) (hi := 0x1070000) (by decide +kernel) (by omega) (by omega) (by omega)
    (by omega) hp (hfirst k hk)

/-- A write of a master that nothing holds back, to a register of a present pack, reaches it (R33, R34). -/
theorem State.busWrite_of_pack {s : State} {m : Master} {off p : Nat} {r : RegDesc} {ix : List Nat} (v : Word)
    (h : CanWrite s m off) (hp : p < s.chip.packs) (hal : off % 4 = 0) (hmet : off < 0x2000000)
    (hf : findReg off = some (r, p :: ix)) (hid : r.id ≠ .SYS_OWN) (htag : r.tag = .pack) :
    s.busWrite m off v = s.regBusPut m off r (p :: ix) v := by
  obtain ⟨hbus, hhost⟩ := h
  have hpresent : s.present r (p :: ix) = true := by rw [State.present, htag]; exact decide_eq_true hp
  have hunit : s.unitAbsent r (p :: ix) = false := by rw [State.unitAbsent, htag, hpresent]; rfl
  have hwin : metWindow off = false := decide_eq_false (by omega)
  have hbar : s.hostBarred m r off = false := by
    by_cases hm : m = .host
    · by_cases hfw : s.fwOwn = true
      · simp [State.hostBarred, hid, (hhost hm).2 hfw]
      · simp [State.hostBarred, hid, hfw]
    · simp [State.hostBarred, hm]
  simp [State.busWrite, State.regBusWrite, hbus, hal, hwin, hf, hunit, hbar, hpresent]

section

variable {s : State} {m : Master} {v : Word} {p k : Nat}

theorem State.exec_packRst (hp : p < s.chip.packs) (h : CanWrite s m (Reg.PACK_RST p)) :
    exec (.packRst m p v) s = .next (s.wrPackRst p v).2 := by
  have hp32 : p < 32 := hp.trans_le s.chip.packs_le
  change (.next (s.ixWrite 32 p m (Reg.PACK_RST p) v) : Out) = _
  rw [State.ixWrite, if_pos hp32, State.busWrite_of_pack v h hp (by unfold Reg.PACK_RST; omega)
    (by unfold Reg.PACK_RST; omega) (findReg_packRst hp32) (by decide) rfl]
  rfl

theorem State.exec_engRst (hp : p < s.chip.packs) (hk : k < 16) (h : CanWrite s m (Reg.ENG_RST p k)) :
    exec (.engRst m (p * 16 + k) v) s = .next (s.wrEngRst (p * 16 + k) v).2 := by
  have hp32 : p < 32 := hp.trans_le s.chip.packs_le
  have hdiv : (p * 16 + k) / 16 = p := by omega
  have hmod : (p * 16 + k) % 16 = k := by omega
  change (.next (s.ixWrite 512 _ m (Reg.ENG_RST ((p * 16 + k) / 16) ((p * 16 + k) % 16)) v) : Out) = _
  rw [hdiv, hmod, State.ixWrite, if_pos (by omega), State.busWrite_of_pack v h hp (by unfold Reg.ENG_RST; omega)
    (by unfold Reg.ENG_RST; omega) (findReg_engRst hp32 hk) (by decide) rfl]
  rfl

theorem State.exec_engWake (hp : p < s.chip.packs) (hk : k < 16) (h : CanWrite s m (Reg.ENG_WAKE p k)) :
    exec (.engWake m (p * 16 + k) v) s = .next (s.engWake (p * 16 + k) (getF v 2 0)) := by
  have hp32 : p < 32 := hp.trans_le s.chip.packs_le
  have hdiv : (p * 16 + k) / 16 = p := by omega
  have hmod : (p * 16 + k) % 16 = k := by omega
  change (.next (s.ixWrite 512 _ m (Reg.ENG_WAKE ((p * 16 + k) / 16) ((p * 16 + k) % 16)) v) : Out) = _
  rw [hdiv, hmod, State.ixWrite, if_pos (by omega), State.busWrite_of_pack v h hp (by unfold Reg.ENG_WAKE; omega)
    (by unfold Reg.ENG_WAKE; omega) (findReg_engWake hp32 hk) (by decide) rfl]
  rfl

end

/-! ### A reset at once, or at the next turn boundary (R121, R174) -/

theorem mem_packEngs {p e : Nat} : e ∈ packEngs p ↔ e / 16 = p := by
  simp only [packEngs, List.mem_map, List.mem_range]
  refine ⟨?_, fun h => ⟨e % 16, by omega, by omega⟩⟩
  rintro ⟨k, hk, rfl⟩
  omega

/-- Engines between two turns are reset at once. -/
theorem State.rstGo_of_idle {s : State} {es : List Nat} (h : ∀ e ∈ es, (s.eng e).issue = none) :
    s.rstGo es = s.engReset es := by
  have hmid : ∀ e ∈ es, s.midTurn e = false := fun e he => by rw [State.midTurn, h e he]; rfl
  have hnone : es.filter s.midTurn = [] := List.filter_eq_nil_iff.mpr fun e he => by simp [hmid e he]
  have hall : (es.filter fun e => !s.midTurn e) = es := List.filter_eq_self.mpr fun e he => by simp [hmid e he]
  have hgo : s.rstGo es = ((es.filter s.midTurn).foldl (fun t e => t.defer e .reset) s).engReset
    (es.filter fun e => !((es.filter s.midTurn).foldl (fun t e => t.defer e .reset) s).midTurn e) := rfl
  rw [hgo, hnone, List.foldl_nil, hall]

/-- An engine in the middle of a turn is reset at the end of it. -/
theorem State.rstGo_of_midTurn {s : State} {e : Nat} (h : (s.eng e).issue ≠ none) :
    s.rstGo [e] = s.defer e .reset := by
  have hmid : s.midTurn e = true := Option.isSome_iff_ne_none.mpr h
  have hmid' : (s.defer e .reset).midTurn e = true := by
    rw [State.midTurn, State.defer, State.eng_updEng, if_pos rfl]
    exact hmid
  have hgo : s.rstGo [e] = (([e].filter s.midTurn).foldl (fun t e => t.defer e .reset) s).engReset
    ([e].filter fun n => !(([e].filter s.midTurn).foldl (fun t e => t.defer e .reset) s).midTurn n) := rfl
  rw [hgo, List.filter_cons_of_pos hmid, List.filter_nil, List.foldl_cons, List.foldl_nil,
    List.filter_cons_of_neg (by simp [hmid']), List.filter_nil]
  rfl

/-- A turn boundary at which only a reset is due is that reset. -/
theorem State.exec_wheelTurn_reset {s : State} {e : Nat} (hissue : (s.eng e).issue = none)
    (hdue : (s.eng e).due = [.reset]) :
    exec (.wheelTurn e) s = .next ((s.updEng e fun g => { g with due := [] }).engReset [e]) := by
  change execWheelTurn e s = _
  rw [execWheelTurn, hissue, hdue, State.atBoundary, hdue]
  rfl

/-- A reset of pack `p` whose engines stand between two turns frees their contexts and shows BUSY (R121). -/
theorem State.wrPackRst_done {s : State} {p : Nat} {v : Word} (hv : v.getLsbD 0 = true)
    (hbusy : s.flag (Reg.PACK_RST p) 1 = false) (hjob : ∀ c, c / 128 = p → (s.ctx c).job = none)
    (hidle : ∀ n, n / 16 = p → (s.eng n).issue = none) (hfs : ∀ n, n / 16 = p → (s.eng n).noFetch) :
    EnginesReset (s.setFld (Reg.PACK_RST p) 1 1 1) (s.wrPackRst p v).2 (packEngs p) := by
  have hengs : ∀ n, (s.setFld (Reg.PACK_RST p) 1 1 1).eng n = s.eng n := fun _ => rfl
  have hreset := State.engReset_done (s := s.setFld (Reg.PACK_RST p) 1 1 1) (es := packEngs p)
    (fun c hc => hjob c (by rw [mem_packEngs, engOf] at hc; omega)) fun e he => hfs e (mem_packEngs.mp he)
  have hwrite : (s.wrPackRst p v).2 = (s.setFld (Reg.PACK_RST p) 1 1 1).rstGo (packEngs p) := by
    simp [State.wrPackRst, (bitOf_eq_getLsbD v 0).trans hv, hbusy]
  rwa [hwrite, State.rstGo_of_idle fun e he => (hengs e).symm ▸ hidle e (mem_packEngs.mp he)]

theorem State.wrEngRst_go {s : State} {e : Nat} {v : Word} (hv : v.getLsbD 0 = true)
    (hbusy : (s.eng e).rstBusy = false) :
    (s.wrEngRst e v).2 = (s.updEng e fun g => { g with rstBusy := true }).rstGo [e] := by
  simp [State.wrEngRst, (bitOf_eq_getLsbD v 0).trans hv, hbusy]

/-- The reset of one engine that holds no job (R174), from a state that differs in this engine only. -/
theorem State.engReset_one {s : State} {e : Nat} {f : Eng → Eng} (hjob : ∀ c, c / 8 = e → (s.ctx c).job = none)
    (hfs : (f (s.eng e)).noFetch) : EnginesReset (s.updEng e f) ((s.updEng e f).engReset [e]) [e] := by
  refine State.engReset_done (fun c hc => hjob c (List.mem_singleton.mp hc)) fun n hn => ?_
  rw [List.mem_singleton.mp hn, State.eng_updEng, if_pos rfl]
  exact hfs

/-! ### ENG_WAKE (R173) -/

theorem Ctx.setEv_ext {x : Ctx} (h : x.live = true) : (x.setEv 0x10000).evFlags.getLsbD 16 = true := by
  rw [Ctx.setEv, if_pos h]
  simp

theorem State.engWake_eq {s : State} {e : Nat} {v : Word} (h : (s.ctx (e * 8 + v.toNat % 8)).live = true) :
    s.engWake e (getF v 2 0) = (s.updEng e fun g => { g with watch := 0, bubbles := 0 }).updCtx
      (e * 8 + v.toNat % 8) fun x => x.setEv 0x10000 := by
  have hk : getF v 2 0 % 8 = v.toNat % 8 := by simp [getF]
  rw [State.engWake, hk, if_pos (by exact h)]

/-- Settles O24. A reset at once ends the contexts together and restarts the wheels; within a turn it joins the acts due
at the boundary. -/
theorem engineAndPackResets : Obligations.EngineAndPackResets := by
  unfold Obligations.EngineAndPackResets
  intro s m v p k hp hk
  refine ⟨fun hw hv hbusy hjob hidle hfs => ?_, fun hdue => ?_, fun hw hv hbusy hissue => ?_,
    fun hissue hdue hjob h0 h1 => ?_, fun hw hv hbusy hissue hjob h0 h1 => ?_, fun hdue => ?_, fun hw hlive => ?_⟩
  · have hreset := State.wrPackRst_done hv hbusy hjob hidle hfs
    refine ⟨_, State.exec_packRst hp hw, ?_, fun c hc => ?_, hreset.withdraws.mem, hreset.keeps.herd⟩
    · rw [State.flag, hreset.keeps.reg _ (by unfold Reg.PACK_RST; omega), State.reg_setFld, if_pos rfl,
        bitOf_setF_same _ _ (by decide)]
      rfl
    · exact hreset.dead c (mem_packEngs.mpr (by rw [engOf]; omega))
  · have hall : ((packEngs p).all fun e => (s.eng e).due.isEmpty) = true :=
      List.all_eq_true.mpr fun e he => by rw [hdue e (mem_packEngs.mp he)]; rfl
    refine ⟨s.setFld (Reg.PACK_RST p) 1 1 0, if_pos hall, ?_, rfl⟩
    rw [State.flag, State.reg_setFld, if_pos rfl, bitOf_setF_same _ _ (by decide)]
    rfl
  · have hexec := State.exec_engRst (v := v) hp hk hw
    rw [State.wrEngRst_go hv hbusy, State.rstGo_of_midTurn (by rw [State.eng_updEng, if_pos rfl]; exact hissue)] at hexec
    refine ⟨_, hexec, fun n hn => ?_, rfl, ?_⟩
    · rw [State.defer, State.eng_updEng, if_neg hn, State.eng_updEng, if_neg hn]
    · rw [State.defer, State.eng_updEng, if_pos rfl, State.eng_updEng, if_pos rfl]
  · have hreset := State.engReset_one (f := fun g => { g with due := [] }) hjob ⟨h0, h1⟩
    have he := List.mem_singleton_self (p * 16 + k)
    refine ⟨_, State.exec_wheelTurn_reset hissue hdue, ?_, hreset.slot _ he,
      fun c hc => hreset.dead c (List.mem_singleton.mpr hc), hreset.withdraws.mem, hreset.keeps.herd⟩
    rw [(hreset.keeps.eng _).due, State.eng_updEng, if_pos rfl]
  · have hreset := State.engReset_one (f := fun g => { g with rstBusy := true }) hjob ⟨h0, h1⟩
    have he := List.mem_singleton_self (p * 16 + k)
    have hexec := State.exec_engRst (v := v) hp hk hw
    rw [State.wrEngRst_go hv hbusy, State.rstGo_of_idle fun n hn => by
      rw [List.mem_singleton.mp hn, State.eng_updEng, if_pos rfl]; exact hissue] at hexec
    refine ⟨_, hexec, ?_, hreset.issue _ he, hreset.slot _ he,
      fun c hc => hreset.dead c (List.mem_singleton.mpr hc), hreset.withdraws.mem, hreset.keeps.herd⟩
    rw [(hreset.keeps.eng _).rstBusy, State.eng_updEng, if_pos rfl]
  · refine ⟨_, if_pos (by rw [hdue]; rfl), ?_, fun n hn => ?_, rfl⟩
    · rw [State.eng_updEng, if_pos rfl]
    · rw [State.eng_updEng, if_neg hn]
  · have hexec := State.exec_engWake (v := v) hp hk hw
    rw [State.engWake_eq hlive] at hexec
    refine ⟨_, hexec, ?_, ?_, fun c hc => ?_, rfl⟩
    · rw [State.ctx_updCtx, if_pos rfl]
      exact Ctx.setEv_ext hlive
    · rw [State.updCtx, State.eng_setCtx, State.eng_updEng, if_pos rfl]
    · rw [State.ctx_updCtx, if_neg hc, State.ctx_updEng]

end Sys2Proof.Machine

namespace Sys2Proof.Machine
open Sys2Proof

/-! ### Bits of shifted and rotated numbers (R128) -/

theorem testBit_shl (w a k j : Nat) :
    (a * 2 ^ k % 2 ^ w).testBit j = (decide (j < w) && (decide (k ≤ j) && a.testBit (j - k))) := by
  rw [Nat.testBit_mod_two_pow, Nat.testBit_mul_two_pow]

/-- No bit of a number of `w` bits stands at or beyond `w`. -/
theorem testBit_of_ge {w a j : Nat} (ha : a < 2 ^ w) (hj : w ≤ j) : a.testBit j = false :=
  Nat.testBit_lt_two_pow (ha.trans_le (Nat.pow_le_pow_right (by decide) hj))

theorem testBit_shr {w a : Nat} (ha : a < 2 ^ w) (k j : Nat) :
    (a / 2 ^ k).testBit j = (decide (j < w) && a.testBit (j + k)) := by
  rw [Nat.testBit_div_two_pow]
  by_cases hj : j < w
  · simp [hj]
  · rw [testBit_of_ge ha (by omega), Bool.and_false]

/-- The sign bit. -/
theorem testBit_sign {w a : Nat} (ha : a < 2 ^ w) (hw : 0 < w) : a.testBit (w - 1) = decide (2 ^ (w - 1) ≤ a) := by
  by_cases h : 2 ^ (w - 1) ≤ a
  · simpa [h] using Nat.testBit_of_two_pow_le_and_two_pow_add_one_gt h (by rwa [Nat.sub_add_cancel hw])
  · simpa [h] using Nat.testBit_lt_two_pow (by omega)

theorem div_two_pow_lt {w k a : Nat} (ha : a < 2 ^ w) (hk : k ≤ w) : a / 2 ^ k < 2 ^ (w - k) := by
  rw [Nat.div_lt_iff_lt_mul (Nat.two_pow_pos k), ← Nat.pow_add, Nat.sub_add_cancel hk]
  exact ha

theorem testBit_sar {w a k : Nat} (ha : a < 2 ^ w) (hk : k < w) (j : Nat) :
    (a / 2 ^ k + if 2 ^ (w - 1) ≤ a then 2 ^ w - 2 ^ (w - k) else 0).testBit j =
      (decide (j < w) && a.testBit (min (j + k) (w - 1))) := by
  have hlow := div_two_pow_lt ha hk.le
  have hsign := testBit_sign ha (by omega)
  split
  · next htop =>
    have hfill : 2 ^ w - 2 ^ (w - k) = 2 ^ (w - k) * (2 ^ k - 1) := by
      rw [Nat.mul_sub_one, ← Nat.pow_add, Nat.sub_add_cancel hk.le]
    rw [hfill, Nat.add_comm, Nat.testBit_two_pow_mul_add _ hlow, Nat.testBit_two_pow_sub_one]
    by_cases hj : j < w - k
    · rw [if_pos hj, testBit_shr ha, min_eq_left (by omega)]
    · rw [if_neg hj, min_eq_right (by omega), hsign]
      simp only [htop, decide_true, Bool.and_true, decide_eq_decide]
      omega
  · next htop =>
    rw [Nat.add_zero, testBit_shr ha]
    by_cases hj : j < w - k
    · rw [min_eq_left (by omega)]
    · rw [testBit_of_ge ha (by omega), min_eq_right (by omega), hsign]
      simp [htop]

/-- A rotation to the left by `m` places. -/
theorem testBit_rotate {w a m : Nat} (ha : a < 2 ^ w) (hm : m ≤ w) (j : Nat) :
    (a * 2 ^ m % 2 ^ w + a / 2 ^ (w - m)).testBit j = (decide (j < w) && a.testBit ((j + w - m) % w)) := by
  have hlow := div_two_pow_lt ha (Nat.sub_le w m)
  rw [Nat.sub_sub_self hm] at hlow
  have hhigh : a * 2 ^ m % 2 ^ w = 2 ^ m * (a % 2 ^ (w - m)) := by
    conv_lhs => rw [← Nat.sub_add_cancel hm, Nat.pow_add, Nat.mul_mod_mul_right, Nat.mul_comm]
  rw [hhigh, Nat.testBit_two_pow_mul_add _ hlow, Nat.testBit_mod_two_pow]
  by_cases hj : j < m
  · rw [if_pos hj, Nat.testBit_div_two_pow, Nat.mod_eq_of_lt (by omega), show j + w - m = j + (w - m) by omega]
    simp [show j < w by omega]
  · rw [if_neg hj]
    by_cases hjw : j < w
    · rw [show j + w - m = j - m + w by omega, Nat.add_mod_right, Nat.mod_eq_of_lt (by omega)]
      simp [hjw, show j - m < w - m by omega]
    · simp [hjw, show ¬ j - m < w - m by omega]

theorem testBit_rol {w a k : Nat} (ha : a < 2 ^ w) (hk : k < w) (j : Nat) :
    (Alu.rol w a k).res.testBit j = (decide (j < w) && a.testBit ((j + w - k) % w)) := by
  have h0 : (Alu.rol w a k).res = a * 2 ^ k % 2 ^ w + a / 2 ^ (w - k) := by
    simp only [Alu.rol, Alu.of]
    split
    · next h => subst h; simp [Nat.mod_eq_of_lt ha, Nat.div_eq_of_lt ha]
    · rfl
  rw [h0, testBit_rotate ha hk.le]

theorem testBit_ror {w a k : Nat} (ha : a < 2 ^ w) (hk : k < w) (j : Nat) :
    (Alu.ror w a k).res.testBit j = (decide (j < w) && a.testBit ((j + k) % w)) := by
  have h0 : (Alu.ror w a k).res = a * 2 ^ (w - k) % 2 ^ w + a / 2 ^ (w - (w - k)) := by
    simp only [Alu.ror, Alu.of, Nat.sub_sub_self hk.le]
    split
    · next h => subst h; simp
    · exact Nat.add_comm _ _
  rw [h0, testBit_rotate ha (Nat.sub_le w k), show j + w - (w - k) = j + k by omega]

/-- What a shift by `k` leaves: its bits, the carry out of the last place moved, and V clear (R84, R128). -/
structure Shifted (w k : Nat) (bit : Nat → Bool) (out : Bool) (r : Alu) : Prop where
  bits : ∀ j, r.res.testBit j = (decide (j < w) && bit j)
  flags : r = Alu.of w r.res (decide (0 < k) && out) false

section
variable {w a k : Nat}

/-- The carry of a shift, as the bit it comes from. -/
theorem decide_shifted_out (k a n : Nat) : decide (0 < k ∧ a / 2 ^ n % 2 = 1) = (decide (0 < k) && a.testBit n) := by
  rw [Bool.decide_and, Nat.testBit_eq_decide_div_mod_eq]

theorem shl_shifted (w a k : Nat) :
    Shifted w k (fun j => decide (k ≤ j) && a.testBit (j - k)) (a.testBit (w - k)) (Alu.shl w a k) :=
  ⟨testBit_shl w a k, by rw [← decide_shifted_out]; rfl⟩

theorem shr_shifted (ha : a < 2 ^ w) (k : Nat) :
    Shifted w k (fun j => a.testBit (j + k)) (a.testBit (k - 1)) (Alu.shr w a k) :=
  ⟨testBit_shr ha k, by rw [← decide_shifted_out]; rfl⟩

theorem sar_shifted (ha : a < 2 ^ w) (hk : k < w) :
    Shifted w k (fun j => a.testBit (min (j + k) (w - 1))) (a.testBit (k - 1)) (Alu.sar w a k) :=
  ⟨testBit_sar ha hk, by rw [← decide_shifted_out]; rfl⟩

theorem ror_shifted (ha : a < 2 ^ w) (hk : k < w) :
    Shifted w k (fun j => a.testBit ((j + k) % w)) (a.testBit (k - 1)) (Alu.ror w a k) :=
  ⟨testBit_ror ha hk, by rw [← decide_shifted_out]; rfl⟩

theorem rol_shifted (ha : a < 2 ^ w) (hk : k < w) :
    Shifted w k (fun j => a.testBit ((j + w - k) % w)) (a.testBit (w - k)) (Alu.rol w a k) := by
  refine ⟨testBit_rol ha hk, ?_⟩
  have hlow : 0 < k → (a * 2 ^ k % 2 ^ w + a / 2 ^ (w - k)).testBit 0 = a.testBit (w - k) := fun h0 => by
    rw [testBit_rotate ha hk.le, Nat.zero_add, Nat.mod_eq_of_lt (by omega)]
    simp [show 0 < w by omega]
  have hcarry : decide (0 < k ∧ (a * 2 ^ k % 2 ^ w + a / 2 ^ (w - k)) % 2 = 1) =
      (decide (0 < k) && a.testBit (w - k)) := by
    rw [Bool.decide_and, ← Nat.testBit_zero]
    by_cases h0 : 0 < k
    · rw [hlow h0]
    · simp [h0]
  rw [← hcarry]
  rfl

end

/-! ### The two shapes of a shift (R128) -/

section
variable {s : State} {op : EOp} {c : Nat} {o : Operands} {len : Nat}

/-- A result with the flags of a shift goes to `d`. -/
theorem State.runIssue_shift {body : Nat → Operands → State → Eff} {r : Alu} {k : Nat} {bit : Nat → Bool} {out : Bool}
    (hr : Shifted o.bits k bit out r)
    (hb : body c o (s.clearIssue (engOf c)) =
      Eff.ok (((s.clearIssue (engOf c)).setR c (regNo o o.d) (W r.res)).setFlags c r))
    (h : s.issued op c o = some len) :
    ∃ t n, s.runIssue op c o body = .next t ∧ n < 2 ^ o.bits ∧ (∀ j, j < o.bits → n.testBit j = bit j) ∧
      Ran s t c len (aluEffect o.bits (some (regNo o o.d)) (n : Nat) (decide (0 < k) && out) 0) := by
  have hlt : r.res < 2 ^ o.bits := lt_two_pow_of_bits hr.bits
  have hexact : r = Alu.exact o.bits (r.res : Int) (decide (0 < k) && out) 0 := by
    rw [Alu.exact, narrow_of_lt hlt, overflows_zero]
    exact hr.flags
  obtain ⟨t, ht, hran⟩ := State.runIssue_alu (wr := true) h hb hexact
  exact ⟨t, r.res, ht, hlt, fun j hj => by rw [hr.bits]; simp [hj], hran⟩

/-- A shift by a register. -/
theorem State.runIssue_shiftRegs {f : Nat → Nat → Nat → Alu} {bit : Nat → Bool} {out : Bool}
    (hr : Shifted o.bits (s.dest c o o.s % o.bits) bit out (f o.bits (s.dest c o o.d) (s.dest c o o.s % o.bits)))
    (h : s.issued op c o = some len) :
    ∃ t n, s.runIssue op c o (shiftRegs f) = .next t ∧ n < 2 ^ o.bits ∧ (∀ j, j < o.bits → n.testBit j = bit j) ∧
      Ran s t c len (aluEffect o.bits (some (regNo o o.d)) (n : Nat)
        (decide (0 < s.dest c o o.s % o.bits) && out) 0) :=
  State.runIssue_shift hr (by simp only [shiftRegs, State.dest_clearIssue]) h

/-- A shift by an immediate. -/
theorem State.runIssue_shiftImm {f : Nat → Nat → Nat → Alu} {bit : Nat → Bool} {out : Bool}
    (hr : Shifted o.bits (o.immW % o.bits) bit out (f o.bits (s.dest c o o.d) (o.immW % o.bits)))
    (h : s.issued op c o = some len) :
    ∃ t n, s.runIssue op c o (shiftImm f) = .next t ∧ n < 2 ^ o.bits ∧ (∀ j, j < o.bits → n.testBit j = bit j) ∧
      Ran s t c len (aluEffect o.bits (some (regNo o o.d)) (n : Nat) (decide (0 < o.immW % o.bits) && out) 0) :=
  State.runIssue_shift hr (by simp only [shiftImm, State.dest_clearIssue]) h

end

/-- Settles O3: each shift by the bits it leaves and the carry it takes. -/
theorem shiftsAndRotatesMoveEveryBit : Obligations.ShiftsAndRotatesMoveEveryBit := by
  unfold Obligations.ShiftsAndRotatesMoveEveryBit
  intro s c o len
  have ha := s.dest_lt c o o.d
  have hw : 0 < o.bits := by rcases bits_cases o with h | h | h <;> rw [h] <;> decide
  have hk : s.dest c o o.s % o.bits < o.bits := Nat.mod_lt _ hw
  have hn : o.immW % o.bits < o.bits := Nat.mod_lt _ hw
  exact ⟨State.runIssue_shiftRegs (shl_shifted _ _ _), State.runIssue_shiftRegs (shr_shifted ha _),
    State.runIssue_shiftRegs (sar_shifted ha hk), State.runIssue_shiftRegs (rol_shifted ha hk),
    State.runIssue_shiftRegs (ror_shifted ha hk), State.runIssue_shiftImm (shl_shifted _ _ _),
    State.runIssue_shiftImm (shr_shifted ha _), State.runIssue_shiftImm (sar_shifted ha hn)⟩

end Sys2Proof.Machine

namespace Sys2Proof.Machine
open Sys2Proof

/-! ### Products (R112, R129) -/

/-- MLO and MHI are the two halves of the exact product, signed or not. -/
theorem product_eq (w a b : Nat) (sgn : Bool) {p : Int}
    (hp : p = if sgn then signed w a * signed w b else (a : Int) * b) :
    product w a b sgn = (W (narrow 32 p), W (narrow 64 p / 2 ^ 32)) := by
  have hlow : narrow 32 p = narrow 64 p % 2 ^ 32 := by
    have := Int.emod_nonneg p (b := ((2 ^ 64 : Nat) : Int)) (by decide)
    simp only [narrow]
    omega
  rw [hlow, hp]
  rfl

section
variable {s : State} {op : EOp} {c : Nat} {o : Operands} {len : Nat}

/-- A product lands at once, or is delayed under exposed timing (R112). -/
theorem wrote_landProduct (s : State) (c : Nat) (lo hi : Word) :
    Wrote s ((s.clearIssue (engOf c)).landProduct c lo hi) c
      (if s.exposed c then { delayed := [⟨.product, lo, hi, 2⟩] } else { product := some (lo, hi) }) := by
  rw [State.landProduct, State.exposed_clearIssue]
  split
  · exact (wrote_clearIssue s c).delay _
  · exact wrote_setCtx s c rfl rfl rfl rfl rfl rfl rfl

/-- MUL and MULS (R129). -/
theorem State.runIssue_mul {sgn : Bool} {p : Int}
    (hp : p = if sgn then signed o.bits (s.dest c o o.d) * signed o.bits (s.opnd c o o.s)
      else (s.dest c o o.d : Int) * s.opnd c o o.s) (h : s.issued op c o = some len) :
    ∃ t, s.runIssue op c o (bodyMul sgn) = .next t ∧ Ran s t c len
      (if s.exposed c then { delayed := [⟨.product, W (narrow 32 p), W (narrow 64 p / 2 ^ 32), 2⟩] }
        else { product := some (W (narrow 32 p), W (narrow 64 p / 2 ^ 32)) }) := by
  have hbody : bodyMul sgn c o (s.clearIssue (engOf c)) =
      Eff.ok ((s.clearIssue (engOf c)).landProduct c (W (narrow 32 p)) (W (narrow 64 p / 2 ^ 32))) := by
    simp only [bodyMul, State.dest_clearIssue, State.opnd_clearIssue, product_eq _ _ _ _ hp]
  refine State.runIssue_seq h hbody (wrote_landProduct s c _ _) ?_
  split <;> rfl

end

/-- Settles O4: a product is written, or delayed by two instructions, and nothing else. -/
theorem productsGoToMhiMlo : Obligations.ProductsGoToMhiMlo := by
  unfold Obligations.ProductsGoToMhiMlo
  intro s c o len
  exact ⟨State.runIssue_mul rfl, State.runIssue_mul rfl⟩

end Sys2Proof.Machine

namespace Sys2Proof.Machine
open Sys2Proof

/-! ### A FORK while a start is due (R149, R152) -/

/-- FORK G1, G2 at address 0x200. -/
def forkAt200 : Operands :=
  { h := false, w := true, sh := false, cx := false, br := false, acq := false, rel := false, d := 1, s := 2, x := 0,
    m := 0, imm := 0x200, mask := 0 }

/-- Job 4 has entered Fetch slot 0 of engine 1 and can start, when context 9 of that engine has issued a FORK. -/
def forkBesideStart : State :=
  ((State.reset.setJob 4 { place := .slot 1 0, od := 7, len := 64 }).setCtx 9
    { live := true, pc := 0x100, g := [(2, 3)] }).setEng 1
    { Eng.idle with
      issue := some ⟨9, .fork, forkAt200, 2⟩, fs0 := some { (default : FetchSlot) with job := 4, entered := true } }

/-- The lowest free number goes to the start, which comes first: the FORK takes the next one. -/
theorem forkBesideStart_numbers : forkBesideStart.startable 1 0 = true ∧ forkBesideStart.allocNum 1 false = some 0 ∧
    forkBesideStart.forkNum 1 false = some 2 := by decide +kernel

/-- What an instruction that the wheel has latched answers. -/
theorem State.runIssue_next {s : State} {op : EOp} {c : Nat} {o : Operands} {len : Nat}
    {body : Nat → Operands → State → Eff} (h : s.issued op c o = some len) : s.runIssue op c o body =
      .next ((((body c o (s.clearIssue (engOf c))).finish c len (s.ctx c).pend.length).stepEnd c).setHold c op o
        (s.accessCost c op o)) := by
  rw [State.runIssue, h]
  rfl

/-- Refutes O11: the clause on FORK names the number that an allocation takes now, but a start that is due comes first
(R152), and no premise says that none is. In `forkBesideStart` number 0 is left to job 4, the FORK takes number 2, and
context 8 stays free. -/
theorem not_contextInstructions : ¬ Obligations.ContextInstructions := by
  unfold Obligations.ContextInstructions
  intro h
  have hissued : forkBesideStart.issued .fork 9 forkAt200 = some 2 := by decide +kernel
  obtain ⟨-, hfork, -⟩ := h forkBesideStart 9 forkAt200 2
  obtain ⟨t, ht, hchild, -⟩ := hfork hissued 0 forkBesideStart_numbers.2.1
  have hlive : (t.ctx 8).live = true := (hchild (by decide)).1
  have hend := Host.Outcome.next.inj ((State.runIssue_next (body := bodyFork) hissued).symm.trans ht)
  rw [← hend] at hlive
  exact absurd hlive (by decide +kernel)

end Sys2Proof.Machine

namespace Sys2Proof.Machine
open Sys2Proof

/-! ### A table after a write of one entry -/

section
variable {α : Type}

/-- A search that never stops at number `k` does not see that entry erased. -/
theorem Tab.find?_erase {k : Nat} {p : Nat × α → Bool} (hp : ∀ v, p (k, v) = false) :
    ∀ t : Tab α, (Tab.erase t k).find? p = t.find? p
  | [] => rfl
  | (i, v) :: t => by
    have ih := Tab.find?_erase hp t
    rw [Tab.erase]
    split
    · next h => rw [ih, h, List.find?_cons_of_neg (by simp [hp])]
    · rw [List.find?_cons, List.find?_cons, ih]

/-- A search that never stops at number `k` does not see that entry made. -/
theorem Tab.find?_insert {k : Nat} {p : Nat × α → Bool} (hp : ∀ v, p (k, v) = false) (u : α) :
    ∀ t : Tab α, (Tab.insert t k u).find? p = t.find? p
  | [] => by rw [Tab.insert, List.find?_cons_of_neg (by simp [hp])]
  | (i, v) :: t => by
    have ih := Tab.find?_insert hp u t
    rw [Tab.insert]
    split
    · rw [List.find?_cons_of_neg (by simp [hp])]
    · split
      · next h => rw [List.find?_cons_of_neg (by simp [hp]), h, List.find?_cons_of_neg (by simp [hp])]
      · rw [List.find?_cons, List.find?_cons, ih]

/-- A search that never stops at number `k` does not see that entry written. -/
theorem Tab.find?_set [DecidableEq α] (d : α) (t : Tab α) {k : Nat} (u : α) {p : Nat × α → Bool}
    (hp : ∀ v, p (k, v) = false) : (Tab.set d t k u).find? p = t.find? p := by
  rw [Tab.set]
  split
  · exact Tab.find?_erase hp t
  · exact Tab.find?_insert hp u t

theorem Tab.mem_of_mem_erase {k : Nat} {q : Nat × α} : ∀ {t : Tab α}, q ∈ Tab.erase t k → q ∈ t
  | (i, v) :: t, h => by
    rw [Tab.erase] at h
    split at h
    · exact List.mem_cons_of_mem _ (Tab.mem_of_mem_erase h)
    · rcases List.mem_cons.1 h with h | h
      · exact h ▸ List.mem_cons_self
      · exact List.mem_cons_of_mem _ (Tab.mem_of_mem_erase h)

theorem Tab.mem_of_mem_insert {k : Nat} {u : α} {q : Nat × α} :
    ∀ {t : Tab α}, q ∈ Tab.insert t k u → q = (k, u) ∨ q ∈ t
  | [], h => .inl (List.mem_singleton.1 h)
  | (i, v) :: t, h => by
    rw [Tab.insert] at h
    split at h
    · exact List.mem_cons.1 h
    · split at h
      · exact (List.mem_cons.1 h).imp_right (List.mem_cons_of_mem _)
      · rcases List.mem_cons.1 h with h | h
        · exact .inr (h ▸ List.mem_cons_self)
        · exact (Tab.mem_of_mem_insert h).imp_right (List.mem_cons_of_mem _)

/-- The entries of a table after a write are the one written and those it had. -/
theorem Tab.mem_of_mem_set [DecidableEq α] {d : α} {t : Tab α} {k : Nat} {u : α} {q : Nat × α}
    (h : q ∈ Tab.set d t k u) : q = (k, u) ∨ q ∈ t := by
  rw [Tab.set] at h
  split at h
  · exact .inr (Tab.mem_of_mem_erase h)
  · exact Tab.mem_of_mem_insert h

end

/-! ### A domain in which the Herder waits (R259 to R261) -/

/-- The Herder makes no move in domain `d`: job `j` waits behind a head that runs, and only ordered outputs of `j` stand
in the store. -/
structure HerdStill (s : State) (d j : Nat) : Prop where
  outs : ∀ p ∈ s.herd.outs, p.2.place = .store → p.2.job = some j ∧ p.2.early = false
  behind : s.isHead j = false
  ordered : (s.job j).passed = false
  head : ∃ h, s.headJob d = some h ∧ h ≠ j ∧ (s.job h).hole = false ∧ (s.job h).retired = false ∧
    (s.job h).released = false ∧ (s.job h).aborted = false

theorem HerdIdle.still {s : State} {d j : Nat} (h : HerdIdle s d j) (hp : (s.job j).passed = false) :
    HerdStill s d j := by
  obtain ⟨houts, hbehind, hhead⟩ := h
  exact ⟨fun p hmem hplace => absurd hplace (houts p hmem), hbehind, hp, hhead⟩

namespace HerdStill

variable {s t : State} {d j : Nat}

/-- The Herder looks at jobs, outputs and heads alone. -/
theorem of_eq (h : HerdStill s d j) (hjobs : t.herd.jobs = s.herd.jobs) (houts : t.herd.outs = s.herd.outs)
    (hdoms : t.herd.doms = s.herd.doms) : HerdStill t d j := by
  have hjob : t.job = s.job := by funext k; rw [State.job, State.job, hjobs]
  have hod : t.od = s.od := by funext k; rw [State.od, State.od, hdoms]
  have hisHead : t.isHead = s.isHead := by funext k; simp only [State.isHead, hjob, hod]
  have hheadJob : t.headJob d = s.headJob d := by simp only [State.headJob, hjobs, hisHead]
  refine ⟨?_, ?_, ?_, ?_⟩
  · rw [houts]; exact h.outs
  · rw [hisHead]; exact h.behind
  · rw [hjob]; exact h.ordered
  · rw [hheadJob, hjob]; exact h.head

theorem of_herd (h : HerdStill s d j) (hherd : t.herd = s.herd) : HerdStill t d j :=
  h.of_eq (by rw [hherd]) (by rw [hherd]) (by rw [hherd])

/-- The record of job `j` may change, but for its place in the order. -/
theorem setJob (h : HerdStill s d j) {x : Job} (hod : x.od = (s.job j).od) (hseq : x.seq = (s.job j).seq)
    (hpassed : x.passed = (s.job j).passed) : HerdStill (s.setJob j x) d j := by
  have hisHead : (s.setJob j x).isHead = s.isHead := by
    funext n
    simp only [State.isHead, State.job_setJob, State.od_setJob]
    by_cases hn : n = j
    · rw [if_pos hn, hn, hod, hseq, hpassed]
    · rw [if_neg hn]
  have hheadJob : (s.setJob j x).headJob d = s.headJob d := by
    rw [State.headJob, hisHead]
    exact congrArg _ (Tab.find?_set Job.none s.herd.jobs x fun v => by simp [h.behind])
  obtain ⟨n, hn, hne, hruns⟩ := h.head
  refine ⟨h.outs, ?_, ?_, n, ?_, hne, ?_⟩
  · rw [hisHead]; exact h.behind
  · rw [State.job_setJob, if_pos rfl, hpassed]; exact h.ordered
  · rw [hheadJob]; exact hn
  · rw [State.job_setJob, if_neg hne]; exact hruns

/-- Job `j` may commit an ordered output. -/
theorem setOut (h : HerdStill s d j) {o : Output} (k : Nat) (hjob : o.job = some j) (hearly : o.early = false) :
    HerdStill (s.setOut k o) d j := by
  refine ⟨fun p hp hplace => ?_, h.behind, h.ordered, h.head⟩
  rcases Tab.mem_of_mem_set hp with rfl | hp
  · exact ⟨hjob, hearly⟩
  · exact h.outs p hp hplace

/-- No output goes (R261, R263). -/
theorem dueOut (h : HerdStill s d j) : s.dueOut d = none := by
  have hleft : (s.herd.outs.filter fun p => s.leftBehind d p.2) = [] := by
    refine List.filter_eq_nil_iff.2 fun p hp hb => ?_
    simp only [State.leftBehind, Bool.and_eq_true, beq_iff_eq] at hb
    obtain ⟨⟨hplace, -⟩, hjob⟩ := hb
    rw [(h.outs p hp hplace).1, Option.any_some, h.ordered, Bool.and_false] at hjob
    cases hjob
  have hdue : s.herd.outs.find? (s.outDue d false) = none := by
    refine List.find?_eq_none.2 fun p hp hb => ?_
    simp only [State.outDue, Bool.and_eq_true, beq_iff_eq] at hb
    obtain ⟨hplace, hjob⟩ := hb
    obtain ⟨hj, hearly⟩ := h.outs p hp hplace
    simp [hj, hearly, h.behind] at hjob
  rw [State.dueOut, hleft]
  exact hdue

/-- The Herder finds nothing to do (R260). -/
theorem herdRun (h : HerdStill s d j) : s.herdRun d = s := by
  obtain ⟨n, hn, -, hhole, hretired, hreleased, haborted⟩ := h.head
  have hmove : s.herdMove d = none := by
    simp [State.herdMove, h.dueOut, hn, hhole, hretired, hreleased, haborted]
  rw [State.herdRun, State.herdLoop, hmove]

end HerdStill

end Sys2Proof.Machine

namespace Sys2Proof.Machine
open Sys2Proof

/-! ### A port write by OUT or OUTR (R132) -/

section
variable {s u : State} {op : EOp} {c : Nat} {o : Operands} {len port : Nat}

/-- A row on an OUT or OUTR runs that instruction, and its body is the write to the port. -/
theorem OutOf.runOut (h : OutOf s c o len port) {row : Nat → Word → Bool} (hrow : row port (s.outWord c o) = true) :
    ∃ op, s.issued op c o = some len ∧ s.runOut c o row = s.runIssue op c o (bodyOut op) ∧
      bodyOut op c o (s.clearIssue (engOf c)) = (s.clearIssue (engOf c)).ioWrite c port (W (s.opnd c o o.s)) := by
  rcases h with ⟨h, hport⟩ | ⟨h, hport⟩
  · refine ⟨.outp, h, ?_, bodyOut_eq (op := .outp) hport⟩
    rw [State.runOut, if_pos]
    rw [h, State.portOf_outp, hport, hrow]
    rfl
  · have hno : s.issued .outp c o = none := State.issued_op h (by decide)
    refine ⟨.outr, h, ?_, bodyOut_eq (op := .outr) hport⟩
    rw [State.runOut, hno, if_neg (by simp), if_pos]
    rw [h, show s.portOf .outr c o = port from hport, hrow]
    rfl

/-- A body that goes on leaves its state to the end of an instruction without an effect of its own. -/
theorem State.runIssue_after {body : Nat → Operands → State → Eff} (h : s.issued op c o = some len)
    (hb : body c o (s.clearIssue (engOf c)) = Eff.ok u) (hctx : u.ctx c = s.ctx c)
    (hissue : (u.eng (engOf c)).issue = none) :
    ∃ t, s.runIssue op c o body = .next t ∧ Ran u t c len {} := by
  have hw : Wrote u u c {} := by
    obtain ⟨-, -, -, -, hregs, hcontexts, hmlo, hmhi, hdelayed, hflags, hpc, hlive, hstepping, hown⟩ :=
      wrote_clearIssue u c
    exact ⟨rfl, fun _ _ => rfl, rfl, hissue, fun r => by rw [← hregs r, State.greg_clearIssue], hcontexts, hmlo, hmhi,
      hdelayed, hflags, hpc, hlive, hstepping, hown⟩
  have hlive : (u.ctx c).live = true := hctx ▸ State.live_of_issued h
  have hran := (ran_of_wrote (len := len) (nx := .seq) hlive hw (.inl ⟨rfl, rfl⟩)).setHold op o (s.accessCost c op o)
  rw [hctx] at hran
  refine ⟨_, ?_, hran⟩
  simp only [State.runIssue, h, hb, State.ctx_clearIssue]
  rfl

/-- An instruction whose context has ended leaves nothing to do after it (R113, R534). -/
theorem State.runIssue_ended {body : Nat → Operands → State → Eff} (h : s.issued op c o = some len)
    (hb : body c o (s.clearIssue (engOf c)) = ⟨u, .stay, false⟩) (hdead : (u.ctx c).live = false) :
    s.runIssue op c o body = .next u := by
  have hstep : u.stepEnd c = u := by simp [State.stepEnd, hdead]
  have hhold : ∀ n, u.setHold c op o n = u := fun n => by simp [State.setHold, hdead]
  simp only [State.runIssue, h, hb, Eff.finish, hstep, hhold]

end

@[simp] theorem State.job_clearIssue (s : State) (e j : Nat) : (s.clearIssue e).job j = s.job j := rfl

/-- What an instruction did outside contexts and engines, in other words. -/
theorem Ran.withSt {s t : State} {c len : Nat} {e : Effect} (h : Ran s t c len e) {f : State → State}
    (hf : e.st s = f s) : Ran s t c len { e with st := f } :=
  ⟨h.rest.trans hf, h.engines, h.engine, h.issue, h.regs, h.contexts, h.product, h.delayed, h.flags, h.pc, h.length,
    h.halted, h.stepping, h.own⟩

/-! ### A commit that takes a store entry (R138, R275) -/

/-- A field that shares no bit with the peak raised reads as before. -/
theorem State.fld_peakF_disjoint (s : State) (off x : Nat) {hi lo hi' lo' : Nat} (h : lo ≤ hi) (hh : hi < 32)
    (hd : hi' < lo ∨ hi < lo') : (s.peakF off hi lo x).fld off hi' lo' = s.fld off hi' lo' := by
  rw [State.peakF]
  split
  · rw [State.fld, State.reg_setFld, if_pos rfl, getF_setF_disjoint _ _ h hh hd, State.fld]
  · rfl

/-- The state in which output `o` has joined the outputs that wait in the store. -/
def State.joinOut (s : State) (o : Output) : State :=
  { s with herd := { s.herd with
      outs := Tab.set Output.none s.herd.outs s.herd.nextOut { o with place := .store, counted := true }
      nextOut := s.herd.nextOut + 1 } }

/-- The state in which output `o` of job `j` has joined the outputs and taken a store entry. -/
def State.storeOut (s : State) (j : Nat) (o : Output) : State :=
  (((s.joinOut o).setFld Reg.HERD_STORE 15 0 (s.storeFree - 1)).peakF Reg.HERD_STORE 31 16
    (32769 - s.storeFree)).updJob j fun z => { z with emitted := true }

/-- From `s` to `t` output `o` of job `j` has been committed into the store. -/
structure Committed (s t : State) (j : Nat) (o : Output) : Prop where
  out : t.out s.herd.nextOut = { o with place := .store, counted := true }
  nextOut : t.herd.nextOut = s.herd.nextOut + 1
  job : t.job j = { s.job j with commits := (s.job j).commits + 1, emitted := true }
  storeFree : t.storeFree = s.storeFree - 1
  mem : t.mem = s.mem

/-- A commit looks neither at contexts nor at engines, before or after. -/
theorem Committed.congr {s s' u t : State} {j : Nat} {o : Output} (h : Committed s' u j o)
    {a a' : Tab Ctx} {b b' : Tab Eng} (hs : s' = { s with ctxs := a, engs := b })
    (ht : { t with ctxs := a', engs := b' } = { u with ctxs := a', engs := b' }) : Committed s t j o := by
  subst hs
  have hherd : t.herd = u.herd := (congrArg State.herd ht :)
  have hjob : t.job j = u.job j := by rw [State.job, State.job, hherd]
  have hout : t.out s.herd.nextOut = u.out s.herd.nextOut := by rw [State.out, State.out, hherd]
  exact ⟨hout.trans h.out, (congrArg Herd.nextOut hherd).trans h.nextOut, hjob.trans h.job,
    (congrArg State.storeFree ht :).trans h.storeFree, (congrArg State.mem ht :).trans h.mem⟩

/-- The entry taken is no longer free. -/
theorem State.storeFree_storeOut (s : State) (j : Nat) (o : Output) : (s.storeOut j o).storeFree = s.storeFree - 1 := by
  have hlt : s.storeFree < 2 ^ 16 := getF_lt _ _ _
  rw [State.storeOut, State.storeFree, State.updJob, State.fld, State.reg_setJob, ← State.fld,
    State.fld_peakF_disjoint _ _ _ (by decide) (by decide) (.inl (by decide)), State.fld, State.reg_setFld, if_pos rfl,
    getF_setF_same _ _ (by decide) (by decide), Nat.mod_eq_of_lt (by omega)]

theorem State.storeOut_rest (s : State) (j : Nat) (o : Output) :
    { s.storeOut j o with regs := s.regs, herd := s.herd } = s :=
  congrArg (fun u : State => { u with regs := s.regs, herd := s.herd })
    (State.peakF_onlyRegs ((s.joinOut o).setFld Reg.HERD_STORE 15 0 (s.storeFree - 1)) Reg.HERD_STORE 31 16
      (32769 - s.storeFree)).2

theorem State.storeOut_herd (s : State) (j : Nat) (o : Output) : (s.storeOut j o).herd =
    { s.herd with
      outs := Tab.set Output.none s.herd.outs s.herd.nextOut { o with place := .store, counted := true }
      nextOut := s.herd.nextOut + 1
      jobs := Tab.set Job.none s.herd.jobs j { s.job j with emitted := true } } := by
  rw [State.storeOut, State.peakF]
  split <;> rfl

/-- Job `j` waits behind a running head, and what context `c` has staged is output `o`: it has a destination, a length
that is allowed, and a free store entry (R138, R139, R264). -/
structure CommitFits (s : State) (c j p : Nat) (fab : List Byte) (far : Bool) : Prop where
  still : HerdStill s (s.job j).od j
  ordered : (s.job j).released = false
  dest : s.emitDest (s.job j) (s.ctx c).emitDst = if far then .hop p fab else .port p fab
  commits : (s.job j).commits < 16
  room : 0 < s.storeFree
  pos : 0 < (s.buildOut c j p fab far).len
  len : (s.buildOut c j p fab far).len ≤ 9596

section
variable {s : State} {c j p : Nat} {fab : List Byte} {far : Bool}

/-- A commit that fits takes a store entry, and the Herder finds nothing to do. -/
theorem CommitFits.committed (h : CommitFits s c j p fab far) :
    Committed s (s.commit c j) j (s.buildOut c j p fab far) ∧ (s.commit c j).ctxs = s.ctxs ∧
      (s.commit c j).engs = s.engs := by
  obtain ⟨hstill, hordered, hdest, -, -, hpos, hlen⟩ := h
  generalize hu : (s.updJob j fun z => { z with commits := z.commits + 1 }) = u
  have hstillu : HerdStill u (s.job j).od j := hu ▸ hstill.setJob rfl rfl rfl
  have hdestu : u.emitDest (s.job j) (s.ctx c).emitDst = if far then .hop p fab else .port p fab := hu ▸ hdest
  have hbuild : u.buildOut c j p fab far = s.buildOut c j p fab far := by
    rw [← hu]
    simp only [State.buildOut, State.updJob, State.job_setJob, if_true]
    rfl
  have hcommit : s.commit c j = (u.storeOut j (s.buildOut c j p fab far)).herdRun (s.job j).od := by
    have hlong : (s.buildOut c j p fab far).tooLong u = false := by simp [Output.tooLong, hlen]
    cases far <;>
      simp only [State.commit, hu, hdestu, hbuild, hlong, hpos.ne', hordered, hstillu.behind, if_true, if_false,
        Bool.false_eq_true, Bool.not_false, Bool.and_self] <;>
      rfl
  have hstore : HerdStill (u.storeOut j (s.buildOut c j p fab far)) (s.job j).od j := by
    have hout : HerdStill (u.setOut u.herd.nextOut
        { s.buildOut c j p fab far with place := .store, counted := true }) (s.job j).od j :=
      hstillu.setOut _ rfl rfl
    have hjob := hout.setJob (x := { u.job j with emitted := true }) rfl rfl rfl
    exact hjob.of_eq (by rw [State.storeOut_herd]; rfl) (by rw [State.storeOut_herd]; rfl)
      (by rw [State.storeOut_herd]; rfl)
  rw [hcommit, hstore.herdRun]
  have hrest := u.storeOut_rest j (s.buildOut c j p fab far)
  have hherd := u.storeOut_herd j (s.buildOut c j p fab far)
  have hnext : u.herd.nextOut = s.herd.nextOut := hu ▸ rfl
  refine ⟨⟨?_, ?_, ?_, ?_, ?_⟩, ?_, ?_⟩
  · rw [State.out, hherd, ← hnext]
    simp only [Tab.get_set, if_true]
  · rw [hherd, ← hnext]
  · rw [State.job, hherd, ← hu]
    simp [State.updJob]
  · rw [State.storeFree_storeOut, ← hu]; rfl
  · exact (congrArg State.mem hrest).trans (hu ▸ rfl)
  · exact (congrArg State.ctxs hrest).trans (hu ▸ rfl)
  · exact (congrArg State.engs hrest).trans (hu ▸ rfl)

/-- While an entry is free the store holds no commit back (R264). -/
theorem CommitFits.storeHolds (h : CommitFits s c j p fab far) : s.storeHolds c j = false := by
  simp [State.storeHolds, h.room.ne']

variable {o : Operands} {len : Nat}

/-- EMIT_GO without LAST commits, and its instruction ends as any other (R138). -/
theorem CommitFits.emitGo (h : CommitFits s c j p fab far) (hjob : (s.ctx c).job = some j)
    (hretired : (s.job j).retired = false) (hhdr : getF (s.ctx c).emitHdr 7 0 + getF (s.ctx c).emitHdr 16 8 ≤ 256)
    (hout : OutOf s c o len 0x207) (hlast : (W (s.opnd c o o.s)).getLsbD 0 = false) :
    ∃ t, exec (.emitGo c o) s = .next t ∧ Committed s t j (s.buildOut c j p fab far) ∧
      Ran s t c len { st := fun q => { t with ctxs := q.ctxs, engs := q.engs } } := by
  obtain ⟨op, hi, hrun, hbody⟩ := hout.runOut (row := fun p _ => p == 0x207) rfl
  have hfits : CommitFits (s.clearIssue (engOf c)) c j p fab far :=
    ⟨h.still.of_herd rfl, h.ordered, h.dest, h.commits, h.room, h.pos, h.len⟩
  obtain ⟨hcommitted, hctxs, hengs⟩ := hfits.committed
  generalize hu : (s.clearIssue (engOf c)).commit c j = u at hcommitted hctxs hengs
  have hgo : (s.clearIssue (engOf c)).emitGo c (W (s.opnd c o o.s)) = Eff.ok u := by
    have hbit : bitOf (W (s.opnd c o o.s)) 0 = false := (bitOf_eq_getLsbD _ _).trans hlast
    simp [State.emitGo, hjob, hretired, hhdr.not_gt, h.commits.not_ge, hfits.storeHolds, hbit, State.commitLast, hu]
  obtain ⟨t, ht, hran⟩ := State.runIssue_seq hi (hbody.trans hgo)
    ((wrote_clearIssue s c).outside (f := fun q => { u with ctxs := q.ctxs, engs := q.engs }) rfl hctxs hengs) rfl
  have hrest : { t with ctxs := s.ctxs, engs := s.engs } = { u with ctxs := s.ctxs, engs := s.engs } := hran.rest
  exact ⟨t, hrun.trans ht, hcommitted.congr rfl hrest, hran.withSt hrest.symm⟩

/-- A held commit that finds room is the commit it was, and its context goes on (R264). -/
theorem CommitFits.heldCommit (h : CommitFits s c j p fab far) (hjob : (s.ctx c).job = some j)
    (hrun : s.running = true) (hwait : (s.ctx c).wait = .store false) :
    ∃ t, exec (.heldCommit c) s = .next t ∧ Committed s t j (s.buildOut c j p fab far) ∧
      t.ctx c = { s.ctx c with wait := .none } := by
  generalize hv : (s.updCtx c fun z => { z with wait := .none }) = v
  have hctx : v.ctx c = { s.ctx c with wait := .none } := by rw [← hv, State.ctx_updCtx, if_pos rfl]
  have hbuild : v.buildOut c j p fab far = s.buildOut c j p fab far := by
    simp only [State.buildOut, hctx]
    rw [← hv]
    rfl
  have hfits : CommitFits v c j p fab far :=
    ⟨hv ▸ h.still.of_herd rfl, hv ▸ h.ordered, by rw [hctx, ← hv]; exact h.dest, hv ▸ h.commits, hv ▸ h.room,
      hbuild.symm ▸ h.pos, hbuild.symm ▸ h.len⟩
  obtain ⟨hcommitted, hctxs, -⟩ := hfits.committed
  have hgo : s.heldCommit c = v.commit c j := by
    simp [State.heldCommit, hwait, hjob, h.storeHolds, hv, hfits.commits.not_ge, State.commitLast]
  refine ⟨_, (if_pos hrun).trans (congrArg _ hgo), ?_, ?_⟩
  · rw [hbuild] at hcommitted
    exact hcommitted.congr (a := v.ctxs) (a' := v.ctxs) (b := s.engs) (b' := s.engs) (hv ▸ rfl) rfl
  · rw [State.ctx, hctxs]; exact hctx

end

/-! ### RELEASE (R263) -/

section
variable {s : State} {c : Nat} {o : Operands} {len j : Nat}

/-- RELEASE of a job that waits behind its head is recorded and counted, and no output goes. -/
theorem State.release_exec (hjob : (s.ctx c).job = some j) (hstill : HerdStill s (s.job j).od j)
    (hretired : (s.job j).retired = false) (hreleased : (s.job j).released = false) (h : OutOf s c o len 0x212) :
    ∃ t, exec (.release c o) s = .next t ∧ Ran s t c len
      { st := fun q => (q.setJob j { s.job j with released := true }).bump Reg.HERD_RELEASES } := by
  obtain ⟨op, hi, hrun, hbody⟩ := h.runOut (row := fun p _ => p == 0x212) rfl
  have hmoved : HerdStill (((s.clearIssue (engOf c)).setJob j { s.job j with released := true }).bump Reg.HERD_RELEASES)
      (s.job j).od j :=
    ((hstill.of_herd (t := s.clearIssue (engOf c)) rfl).setJob (x := { s.job j with released := true }) rfl rfl
      rfl).of_herd rfl
  have hgo : (s.clearIssue (engOf c)).release c =
      Eff.ok (((s.clearIssue (engOf c)).setJob j { s.job j with released := true }).bump Reg.HERD_RELEASES) := by
    rw [State.release, State.ctx_clearIssue, hjob]
    dsimp only
    rw [if_neg (by simp [hretired]), if_neg (by simp [hreleased])]
    exact congrArg Eff.ok hmoved.herdRun
  obtain ⟨t, ht, hran⟩ := State.runIssue_seq hi (hbody.trans hgo) ((wrote_clearIssue s c).outside
    (f := fun q => (q.setJob j { s.job j with released := true }).bump Reg.HERD_RELEASES) rfl rfl rfl) rfl
  exact ⟨t, hrun.trans ht, hran⟩

end

/-! ### What follows for a job that has retired (R141, R270) -/

section
variable {s : State} {j : Nat}

theorem State.logFirst_herd (s : State) (off vb ob : Nat) (v : Word) : (s.logFirst off vb ob v).herd = s.herd := by
  rw [State.logFirst]
  split <;> rfl

theorem State.raise_herd (s : State) (src : Nat) : (s.raise src).herd = s.herd :=
  (congrArg State.herd (s.raise_rest src) :)

theorem State.knBad_herd (s : State) (h p cause : Nat) (dev : Bool) : (s.knBad h p cause dev).herd = s.herd :=
  (State.raise_herd _ _).trans (State.logFirst_herd ..)

theorem State.knFreeOne_herd (s : State) (h p : Nat) (dev : Bool) : (s.knFreeOne h p dev).2.herd = s.herd := by
  rw [State.knFreeOne]
  split
  · exact State.knBad_herd ..
  · split
    · exact State.knBad_herd ..
    · rfl

theorem State.knFreeChain_herd (p : Nat) (dev : Bool) :
    ∀ (n h : Nat) (s : State), (s.knFreeChain p dev n h).herd = s.herd
  | 0, _, _ => rfl
  | n + 1, h, s => by
    rw [State.knFreeChain]
    dsimp only
    split
    · exact (State.knFreeChain_herd p dev n _ _).trans (State.knFreeOne_herd ..)
    · exact State.knFreeOne_herd ..

/-- A free touches no job. -/
theorem State.knFree_herd (s : State) (h p : Nat) (chain dev : Bool) : (s.knFree h p chain dev).herd = s.herd := by
  rw [State.knFree]
  split
  · exact State.knFreeChain_herd ..
  · exact State.knFreeOne_herd ..

theorem State.queueReply_herd (s : State) (h : Nat) (r : Reply) : (s.queueReply h r).herd = s.herd := by
  rw [State.queueReply]
  split <;> rfl

theorem State.notifyAll_herd (s : State) (reason : Nat) : (s.notifyAll reason).herd = s.herd :=
  List.foldlRecOn (motive := fun t : State => t.herd = s.herd) _ _ rfl fun _ h _ _ => (State.queueReply_herd ..).trans h

/-- The report of a drained epoch touches no job. -/
theorem State.epochReport_herd (s : State) (e : Nat) : (s.epochReport e).herd = s.herd := by
  rw [State.epochReport]
  split
  · exact (State.notifyAll_herd ..).trans (State.raise_herd ..)
  · rfl

/-- A job whose outputs are all gone gives back its cells and leaves its epoch when it retires; behind its head it keeps
its record. -/
structure Leaves (s t : State) (d j : Nat) : Prop where
  still : HerdStill t d j
  job : t.job j = { s.job j with freed := true, left := true }

theorem HerdStill.settle_leaves {d : Nat} (h : HerdStill s d j) (hretired : (s.job j).retired = true)
    (hfreed : (s.job j).freed = false) (hleft : (s.job j).left = false) (houts : ∀ p ∈ s.herd.outs, p.2.job ≠ some j) :
    Leaves s (s.settle j) d j := by
  have hfinished : (s.job j).finished = true := by rw [Job.finished, hretired]; rfl
  have htail : s.tailLeft j = false := List.any_eq_false.2 fun p hp => by simp [houts p hp]
  have hcells : s.freeCells j =
      (s.knFree (s.job j).cell (s.job j).pool true true).updJob j fun y => { y with freed := true } := by
    simp [State.freeCells, hfinished, hfreed, htail]
  have hkn := s.knFree_herd (s.job j).cell (s.job j).pool true true
  generalize s.knFree (s.job j).cell (s.job j).pool true true = u at hcells hkn
  have hjobu : u.job j = s.job j := by rw [State.job, State.job, hkn]
  generalize hv : (u.updJob j fun y => { y with freed := true }) = v at hcells
  have hstillv : HerdStill v d j := hv ▸ (h.of_herd hkn).setJob rfl rfl rfl
  have hjobv : v.job j = { s.job j with freed := true } := by
    rw [← hv, State.updJob, State.job_setJob, if_pos rfl, hjobu]
  have houtsv : v.herd.outs = s.herd.outs := by rw [← hv, ← hkn]; rfl
  have hwaits : v.outWaits j = false := List.any_eq_false.2 fun p hp => by simp [houts p (houtsv ▸ hp)]
  have hepoch : (v.leaveEpoch j).herd = (v.setJob j { v.job j with left := true }).herd := by
    have hgo : (v.job j).finished && !(v.job j).left && !v.outWaits j := by
      simp only [hjobv, hwaits, hleft, Bool.not_false, Bool.and_true]
      exact hfinished
    simp only [State.leaveEpoch, hgo, if_true, State.epochReport_herd]
    rfl
  have hstillw : HerdStill (v.leaveEpoch j) d j :=
    (hstillv.setJob (x := { v.job j with left := true }) rfl rfl rfl).of_herd hepoch
  have hjobw : (v.leaveEpoch j).job j = { s.job j with freed := true, left := true } := by
    rw [State.job, hepoch, ← State.job, State.job_setJob, if_pos rfl, hjobv]
  have hsettle : s.settle j = v.leaveEpoch j := by
    rw [State.settle, hcells, State.reap, hstillw.ordered]
    rfl
  rw [hsettle]
  exact ⟨hstillw, hjobw⟩

/-! ### DROP (R140) -/

/-- A job none of whose contexts holds a commit retires without a trap (R264). -/
theorem State.retire_of_not_held {e : Nat} (hheld : ∀ k ∈ s.jobCtxs j, ∀ last, (s.ctx k).wait ≠ .store last) :
    s.retire j e = s.retireCore j e := by
  rw [State.retire]
  refine (congrArg (List.foldl _ _) (List.filter_eq_nil_iff.2 fun k hk => ?_)).trans rfl
  split
  · next last hw => exact absurd hw (hheld k hk last)
  · simp

/-- A job without an output, none of whose contexts holds a commit, retires as a drop of its engine. -/
theorem State.retire_drops {e : Nat} (hstill : HerdStill s (s.job j).od j) (hretired : (s.job j).retired = false)
    (hemitted : (s.job j).emitted = false) (hfreed : (s.job j).freed = false) (hleft : (s.job j).left = false)
    (houts : ∀ p ∈ s.herd.outs, p.2.job ≠ some j) (hheld : ∀ k ∈ s.jobCtxs j, ∀ last, (s.ctx k).wait ≠ .store last) :
    (s.retire j e).job j = { s.job j with retired := true, freed := true, left := true } ∧
      (s.retire j e).engs = (s.updEng e fun g => { g with drops := satInc 32 g.drops }).engs ∧
      (s.retire j e).ctxs = s.ctxs ∧ (s.retire j e).mem = s.mem := by
  generalize hu : ((s.setJob j { s.job j with retired := true }).updEng e fun g =>
    { g with drops := satInc 32 g.drops }) = u
  have hstillu : HerdStill u (s.job j).od j :=
    hu ▸ (hstill.setJob (x := { s.job j with retired := true }) rfl rfl rfl).of_herd rfl
  have hjobu : u.job j = { s.job j with retired := true } := by
    rw [← hu]
    exact (State.job_setJob ..).trans (if_pos rfl)
  have hleaves : Leaves u (u.settle j) (s.job j).od j :=
    hstillu.settle_leaves (by rw [hjobu]) (by rw [hjobu, hfreed]) (by rw [hjobu, hleft]) (hu ▸ houts)
  have hretire : s.retire j e = u.settle j := by
    rw [State.retire_of_not_held hheld, State.retireCore]
    dsimp only
    rw [if_neg (by simp [hretired]), if_neg (by simp [hemitted])]
    exact (congrArg (fun v : State => (v.settle j).herdRun (s.job j).od) hu).trans hleaves.still.herdRun
  rw [hretire]
  have hsettles := SettlesOnly.settle u j
  refine ⟨?_, ?_, ?_, ?_⟩
  · rw [hleaves.job, hjobu]
  · rw [(congrArg State.engs hsettles.rest :), ← hu]
    rfl
  · rw [hsettles.ctxs, ← hu]
    rfl
  · rw [hsettles.mem, ← hu]
    rfl

variable {c : Nat} {o : Operands} {len : Nat}

/-- DROP of a job that waits behind its head, without an output. -/
theorem State.drop_exec (hjob : (s.ctx c).job = some j) (hstill : HerdStill s (s.job j).od j)
    (hretired : (s.job j).retired = false) (hemitted : (s.job j).emitted = false) (hfreed : (s.job j).freed = false)
    (hleft : (s.job j).left = false) (houts : ∀ p ∈ s.herd.outs, p.2.job ≠ some j)
    (hheld : ∀ k ∈ s.jobCtxs j, ∀ last, (s.ctx k).wait ≠ .store last) (h : OutOf s c o len 0x210) :
    ∃ t, exec (.drop c o) s = .next t ∧ t.job j = { s.job j with retired := true, freed := true, left := true } ∧
      (t.eng (engOf c)).drops = satInc 32 (s.eng (engOf c)).drops ∧
      (t.ctx c).pc = (s.ctx c).pc + BitVec.ofNat 16 len ∧ t.mem = s.mem := by
  obtain ⟨op, hi, hrun, hbody⟩ := h.runOut (row := fun p _ => p == 0x210) rfl
  obtain ⟨hj, hengs, hctxs, hmem⟩ := State.retire_drops (s := s.clearIssue (engOf c)) (e := engOf c)
    (hstill.of_herd rfl) hretired hemitted hfreed hleft houts hheld
  generalize hu : (s.clearIssue (engOf c)).retire j (engOf c) = u at hj hengs hctxs hmem
  have hgo : (s.clearIssue (engOf c)).drop c = Eff.ok u := by simp [State.drop, hjob, hretired, hu]
  have hctx : u.ctx c = s.ctx c := by
    rw [State.ctx, hctxs]
    rfl
  have heng : u.eng (engOf c) = { s.eng (engOf c) with issue := none, drops := satInc 32 (s.eng (engOf c)).drops } := by
    rw [State.eng, hengs, ← State.eng, State.eng_updEng, if_pos rfl, State.clearIssue, State.eng_updEng, if_pos rfl]
  obtain ⟨t, ht, hran⟩ := State.runIssue_after hi (hbody.trans hgo) hctx (by rw [heng])
  refine ⟨t, hrun.trans ht, ?_, ?_, ?_, ?_⟩
  · rw [← State.job_clearIssue s (engOf c), ← hj, State.job, State.job, (congrArg State.herd hran.rest :)]
    rfl
  · rw [(congrArg Eng.drops hran.engine :), heng]
  · rw [hran.pc, hctx]
    rfl
  · rw [(congrArg State.mem hran.rest :)]
    exact hmem

end

end Sys2Proof.Machine

namespace Sys2Proof.Machine
open Sys2Proof

/-! ### The end of a context leaves the Dispatcher alone (R148, R201, R207) -/

theorem State.raise_disp (s : State) (src : Nat) : (s.raise src).disp = s.disp :=
  (congrArg State.disp (s.raise_rest src) :)

theorem State.setS_disp (s : State) (c j : Nat) (v : Word) : (s.setS c j v).disp = s.disp :=
  (congrArg State.disp (s.setS_rest c j v s.ctxs s.engs) :)

theorem State.land_disp (s : State) (c r : Nat) (v : Word) : (s.land c r v).disp = s.disp := by
  rw [State.land, State.setR]
  split
  · rfl
  · split
    · rfl
    · exact State.setS_disp ..

theorem State.deliver_disp (s : State) (c dst bytes : Nat) (v : Word) : (s.deliver c dst bytes v).disp = s.disp := by
  rw [State.deliver]
  split
  · rfl
  · exact State.land_disp ..

theorem State.ctlPump_disp (s : State) (q : Nat) : (s.ctlPump q).disp = s.disp := by
  rw [State.ctlPump]
  dsimp only
  split
  · exact List.foldlRecOn (motive := fun t : State => t.disp = s.disp) _ _ rfl fun _ h _ _ => h
  · rfl

theorem State.fabStatus_disp (s : State) (d : Nat) (v : Word) : (s.fabStatus d v).disp = s.disp := by
  rw [State.fabStatus, State.fabControl]
  split
  · split
    · exact State.ctlPump_disp ..
    · rfl
  · rfl

theorem State.leashReply_disp (s : State) (id : Nat) (v : Word) : (s.leashReply id v).disp = s.disp := by
  rw [State.leashReply]
  split
  · split
    · exact State.deliver_disp ..
    · rfl
  · split
    · exact State.fabStatus_disp ..
    · rfl

theorem State.leashBreakOne_disp (s : State) (i : Nat) : (s.leashBreakOne i).disp = s.disp := by
  have hcount : ((s.bump Reg.LEASH_BROKEN_CNT).raise Ev.LEASH_BROKEN).disp = s.disp := State.raise_disp ..
  rw [State.leashBreakOne, State.leashPass]
  split
  · exact hcount
  · split
    · exact hcount
    · exact (State.leashReply_disp ..).trans hcount

theorem State.leashLeave_disp (s : State) (id : Nat) : (s.leashLeave id).disp = s.disp := by
  refine List.foldlRecOn (motive := fun t : State => t.disp = s.disp) _ _ rfl fun t h p _ => ?_
  split <;> exact h

theorem State.leashBreak_disp (s : State) (id : Nat) : (s.leashBreak id).disp = s.disp := by
  refine List.foldlRecOn (motive := fun t : State => t.disp = s.disp) _ _ (State.leashLeave_disp s id) fun t h p _ => ?_
  split
  · exact (State.leashBreakOne_disp ..).trans h
  · exact h

theorem State.mwLeave_disp (s : State) (c : Nat) : (s.mwLeave c).disp = s.disp :=
  List.foldlRecOn (motive := fun t : State => t.disp = s.disp) _ _ rfl fun _ h _ _ => h

theorem State.orphan_disp (s : State) (c : Nat) : (s.orphan c).disp = s.disp := by
  refine List.foldlRecOn (motive := fun t : State => t.disp = s.disp) _ _ rfl fun t h p _ => ?_
  split <;> exact h

theorem State.tellParent_disp (s : State) (p : Option Nat) (k : Nat) : (s.tellParent p k).disp = s.disp := by
  cases p <;> rfl

/-! ### A context that ends under DELAY (R142, R148) -/

section
variable {s : State} {c j : Nat}

/-- The state in which context `c` is free, before its job follows. -/
def State.endCtx (s : State) (c : Nat) : State :=
  let t := ((s.orphan c).mwLeave c).leashBreak (ownerId c)
  let t := (t.setCtx c { Ctx.idle with gen := (s.ctx c).gen + 1 }).tellParent (s.ctx c).parent (numOf c)
  let t := t.updEng (engOf c) fun e =>
    { e with issue := match e.issue with
        | some i => if i.ctx = c then none else some i
        | none => none }
  if (siblings c).any fun k => (t.ctx k).live then t
  else t.updEng (engOf c) fun e => { e with slot := 0, watch := 0, bubbles := 0 }

/-- From `s` to `t` context `c` has ended: memories, jobs and Dispatcher stand. -/
structure CtxEnded (s t : State) (c : Nat) : Prop where
  dead : (t.ctx c).live = false
  mem : t.mem = s.mem
  herd : t.herd = s.herd
  disp : t.disp = s.disp

theorem State.endCtx_ended (s : State) (c : Nat) : CtxEnded s (s.endCtx c) c := by
  have hunlinked := ((Withdraws.orphan s c).trans (Withdraws.mwLeave _ c)).trans (Withdraws.leashBreak _ (ownerId c))
  have hherd := (((KeepsEngines.orphan s c).trans (KeepsEngines.mwLeave _ c)).trans
    (KeepsEngines.leashBreak _ (ownerId c))).herd
  have hdisp : (((s.orphan c).mwLeave c).leashBreak (ownerId c)).disp = s.disp :=
    (State.leashBreak_disp ..).trans ((State.mwLeave_disp ..).trans (State.orphan_disp ..))
  generalize hu : ((s.orphan c).mwLeave c).leashBreak (ownerId c) = u at hunlinked hherd hdisp
  generalize hv : u.setCtx c { Ctx.idle with gen := (s.ctx c).gen + 1 } = v
  have hdead : (v.ctx c).live = false := by
    rw [← hv, State.ctx_setCtx, if_pos rfl]
    rfl
  have htold := Withdraws.tellParent v (s.ctx c).parent (numOf c)
  generalize hw : v.tellParent (s.ctx c).parent (numOf c) = w at htold
  have hended : CtxEnded s w c := by
    refine ⟨?_, ?_, ?_, ?_⟩
    · by_contra h
      rw [(htold.ctx c (by simpa using h)).1] at hdead
      cases hdead
    · rw [htold.mem, ← hv, ← hunlinked.mem]
      rfl
    · rw [← hw, (KeepsEngines.tellParent v (s.ctx c).parent (numOf c)).herd, ← hv, ← hherd]
      rfl
    · rw [← hw, State.tellParent_disp, ← hv, ← hdisp]
      rfl
  rw [State.endCtx, hu, hv, hw]
  split <;> exact ⟨hended.dead, hended.mem, hended.herd, hended.disp⟩

/-- The end of a live context, and what follows for its job (R148). -/
theorem State.freeCtx_of_job (hlive : (s.ctx c).live = true) (hjob : (s.ctx c).job = some j) (k : EndKind) :
    s.freeCtx c k = if ((s.endCtx c).jobCtxs j).isEmpty then (s.endCtx c).jobReleased j (engOf c) k else s.endCtx c := by
  rw [State.freeCtx]
  dsimp only
  rw [if_pos hlive, hjob]
  rfl

/-- Nothing follows for a job that has neither finished nor passed. -/
theorem State.settle_of_open (hfinished : (s.job j).finished = false) (hpassed : (s.job j).passed = false) :
    s.settle j = s := by
  simp [State.settle, State.freeCells, State.leaveEpoch, State.reap, hfinished, hpassed]

/-- A job that DELAY takes from its last context keeps its record but for its place (R142). -/
theorem State.jobReleased_delay (e : Nat) (hfinished : (s.job j).finished = false) (hpassed : (s.job j).passed = false) :
    ∃ p, s.jobReleased j e .delay = s.setJob j { s.job j with place := p } := by
  rw [State.jobReleased]
  by_cases hplace : (s.job j).place = .running
  · refine ⟨.gone, ?_⟩
    rw [State.updJob, if_pos hplace]
    exact State.settle_of_open (by rw [State.job_setJob, if_pos rfl]; exact hfinished)
      (by rw [State.job_setJob, if_pos rfl]; exact hpassed)
  · refine ⟨(s.job j).place, ?_⟩
    rw [State.updJob, if_neg hplace]
    exact State.settle_of_open (by rw [State.job_setJob, if_pos rfl]; exact hfinished)
      (by rw [State.job_setJob, if_pos rfl]; exact hpassed)

/-- A context that ends under DELAY leaves the record of its job but for its place. -/
theorem State.freeCtx_delay (hlive : (s.ctx c).live = true) (hjob : (s.ctx c).job = some j)
    (hfinished : (s.job j).finished = false) (hpassed : (s.job j).passed = false) :
    ((s.freeCtx c .delay).ctx c).live = false ∧ (s.freeCtx c .delay).mem = s.mem ∧
      (s.freeCtx c .delay).disp = s.disp ∧ ∃ p, (s.freeCtx c .delay).job j = { s.job j with place := p } := by
  have hended := s.endCtx_ended c
  have hjobs : (s.endCtx c).job j = s.job j := by rw [State.job, State.job, hended.herd]
  rw [State.freeCtx_of_job hlive hjob]
  generalize s.endCtx c = t at hended hjobs
  split
  · obtain ⟨p, hp⟩ := t.jobReleased_delay (j := j) (engOf c) (by rw [hjobs]; exact hfinished)
      (by rw [hjobs]; exact hpassed)
    rw [hp]
    exact ⟨hended.dead, hended.mem, hended.disp, p, by rw [State.job_setJob, if_pos rfl, hjobs]⟩
  · exact ⟨hended.dead, hended.mem, hended.disp, _, hjobs⟩

variable {o : Operands} {len : Nat}

/-- DELAY of a job by its only context, with room in the delay lists (R142, R235). -/
theorem State.delay_exec (hjob : (s.ctx c).job = some j) (hlive : (s.ctx c).live = true)
    (hretired : (s.job j).retired = false) (hpassed : (s.job j).passed = false) (hhole : (s.job j).hole = false)
    (hcommits : (s.job j).commits = 0) (honly : s.jobCtxs j = [c]) (hticks : 0 < getF (W (s.opnd c o o.s)) 23 0)
    (hroom : s.dlyUsed < 16384) (h : OutOf s c o len 0x211) :
    ∃ t, exec (.delay c o) s = .next t ∧ (t.ctx c).live = false ∧
      t.job j = { s.job j with
        place := .delay (s.job j).shard, expiry := s.disp.tick + getF (W (s.opnd c o o.s)) 23 0, listed := true, hdr := [],
        dtag := B8 (getF (W (s.opnd c o o.s)) 31 24), dcount := satInc 8 (s.job j).dcount, restart := true } ∧
      t.mem = s.mem := by
  obtain ⟨op, hi, hrun, hbody⟩ := h.runOut (row := fun p _ => p == 0x211) rfl
  have hfinished : (s.job j).finished = false := by rw [Job.finished, hretired, hhole]; rfl
  obtain ⟨hdead, hmem, hdisp, p, hplace⟩ :=
    State.freeCtx_delay (s := s.clearIssue (engOf c)) (c := c) hlive hjob hfinished hpassed
  generalize hv : W (s.opnd c o o.s) = v at hticks hbody
  generalize hu : (s.clearIssue (engOf c)).freeCtx c .delay = u at hdead hmem hdisp hplace
  generalize hw : (u.updJob j fun z => { z with
    dtag := B8 (getF v 31 24), dcount := satInc 8 z.dcount, restart := true, hdr := [] }) = w
  have hgo : (s.clearIssue (engOf c)).delay c v =
      ⟨w.delayInsert j (s.job j).shard (w.disp.tick + getF v 23 0) true, .stay, false⟩ := by
    have hone : (s.clearIssue (engOf c)).jobCtxs j = [c] := honly
    have hused : ¬ 16384 ≤ (s.clearIssue (engOf c)).dlyUsed := hroom.not_ge
    rw [State.delay, State.ctx_clearIssue, hjob]
    simp only [State.job_clearIssue, hretired, hcommits, hone, hused, hticks.ne', hu, hw, List.length_singleton, lt_irrefl,
      ne_eq, not_true_eq_false, decide_false, Bool.or_self, Bool.and_false, Bool.false_eq_true, if_false]
  have hdeadw : (w.ctx c).live = false := hw ▸ hdead
  have hmemw : w.mem = s.mem := hw ▸ hmem
  have hdispw : w.disp = s.disp := hw ▸ hdisp
  have hjobw : w.job j = { s.job j with
      place := p, dtag := B8 (getF v 31 24), dcount := satInc 8 (s.job j).dcount, restart := true, hdr := [] } := by
    rw [← hw, State.updJob, State.job_setJob, if_pos rfl, hplace]
    rfl
  refine ⟨_, hrun.trans (State.runIssue_ended hi (hbody.trans hgo) hdeadw), hdeadw, ?_, hmemw⟩
  rw [State.delayInsert]
  refine (State.job_setJob ..).trans ((if_pos rfl).trans ?_)
  rw [← hdispw]
  exact congrArg (fun z : Job => { z with
    place := .delay (s.job j).shard, expiry := w.disp.tick + getF v 23 0, listed := true }) hjobw

/-! ### Misuse of the job channel (R143) -/

/-- A port write that is misuse traps, and TRET continues behind it (R143, R144). -/
theorem OutOf.misuse {port : Nat} {row : Nat → Word → Bool} (h : OutOf s c o len port)
    (hrow : row port (s.outWord c o) = true) (hready : TrapReady s c)
    (hwrite : (s.clearIssue (engOf c)).ioWrite c port (W (s.opnd c o o.s)) = ⟨s.clearIssue (engOf c), .trap 6, false⟩) :
    ∃ t, s.runOut c o row = .next t ∧ Trapped s t c 6 ((s.ctx c).pc + BitVec.ofNat 16 len) := by
  obtain ⟨op, hi, hrun, hbody⟩ := h.runOut hrow
  rw [hrun]
  exact State.runIssue_trap hready hi (hbody.trans hwrite) rfl

/-- Each write to the job channel of a job that has retired is misuse (R143). -/
theorem State.channel_misuse (hjob : (s.ctx c).job = some j) (hretired : (s.job j).retired = true)
    (hready : TrapReady s c) :
    ∀ p ∈ [(0x207, Instr.emitGo c o), (0x210, .drop c o), (0x211, .delay c o), (0x212, .release c o)],
      OutOf s c o len p.1 → ∃ t, exec p.2 s = .next t ∧ Trapped s t c 6 ((s.ctx c).pc + BitVec.ofNat 16 len) := by
  generalize hu : s.clearIssue (engOf c) = u
  have hjobu : (u.ctx c).job = some j := hu ▸ hjob
  have hretiredu : (u.job j).retired = true := hu ▸ hretired
  have hgo : ∀ v, u.emitGo c v = ⟨u, .trap 6, false⟩ := fun v => by simp [State.emitGo, hjobu, hretiredu]
  have hdrop : u.drop c = ⟨u, .trap 6, false⟩ := by simp [State.drop, hjobu, hretiredu]
  have hdelay : ∀ v, u.delay c v = ⟨u, .trap 6, false⟩ := fun v => by simp [State.delay, hjobu, hretiredu]
  have hrelease : u.release c = ⟨u, .trap 6, false⟩ := by simp [State.release, hjobu, hretiredu]
  subst hu
  simp only [List.forall_mem_cons]
  exact ⟨fun h => h.misuse (row := fun p _ => p == 0x207) rfl hready (hgo _),
    fun h => h.misuse (row := fun p _ => p == 0x210) rfl hready hdrop,
    fun h => h.misuse (row := fun p _ => p == 0x211) rfl hready (hdelay _),
    fun h => h.misuse (row := fun p _ => p == 0x212) rfl hready hrelease, fun _ h => nomatch h⟩

end

/-- Settles O12: a job that waits behind a running head commits into the store, is dropped, delayed or released, and the
Herder makes no move; a job that has retired traps. -/
theorem jobChannelAndItsMisuse : Obligations.JobChannelAndItsMisuse := by
  unfold Obligations.JobChannelAndItsMisuse
  refine ⟨?_, fun s c o len j hjob hretired hready => State.channel_misuse hjob hretired hready⟩
  intro s c o len j hjob hlive
  dsimp only
  intro hidle hretired hpassed hreleased hhole
  have hstill := hidle.still hpassed
  refine ⟨fun p fab far hdest hhdr hcommits hroom hpos hlen => ?_,
    fun h houts hemitted hfreed hleft hheld =>
      State.drop_exec hjob hstill hretired hemitted hfreed hleft houts hheld h,
    fun h hcommits honly hticks hroom =>
      State.delay_exec hjob hlive hretired hpassed hhole hcommits honly hticks hroom h,
    State.release_exec hjob hstill hretired hreleased⟩
  have hfits : CommitFits s c j p fab far := ⟨hstill, hreleased, hdest, hcommits, hroom, hpos, hlen⟩
  refine ⟨fun h hlast => ?_, fun hrun hwait => ?_⟩
  · obtain ⟨t, ht, hdone, hran⟩ := hfits.emitGo hjob hretired hhdr h hlast
    exact ⟨t, ht, ⟨hdone.out, hdone.nextOut, hdone.job, hdone.storeFree, hdone.mem⟩, hran⟩
  · obtain ⟨t, ht, hdone, hctx⟩ := hfits.heldCommit hjob hrun hwait
    exact ⟨t, ht, ⟨hdone.out, hdone.nextOut, hdone.job, hdone.storeFree, hdone.mem⟩, hctx⟩

end Sys2Proof.Machine

namespace Sys2Proof.Machine
open Sys2Proof

/-! ### An older far READ beside a near one (R192, R193, R298) -/

/-- OUT G2 to the LOOKUP port. -/
def outToLookup : Operands :=
  { h := false, w := true, sh := false, cx := false, br := false, acq := false, rel := false, d := 1, s := 2, x := 0,
    m := 0, imm := 0x113, mask := 0 }

/-- A READ of table 1 that waits for a unit. -/
def waitingRead : HlpCmd := { (default : HlpCmd) with kind := .lookup, word := 0x1000000, stage := .waiting }

/-- Table 0 lies in table SRAM and table 1 in DRAM, both READY in epoch 0. Context 9 has issued a READ of table 0, while an
older READ of table 1 waits in its pack and both LOOKUP units are free. -/
def readBesideFarRead : State :=
  (({ State.reset with
      regs := [(Reg.TBL_GEOM 0, some 0x08080400), (Reg.TBL_CTRL 0, some 9), (Reg.TBL_GEOM 1, some 0x08080402),
        (Reg.TBL_CTRL 1, some 9), (Reg.DDR_CTRL 0, some 0x405)]
      help := { cmds := [waitingRead], next := 1 } }).setCtx 9 { live := true, pc := 0x100 }).setEng 1
    { Eng.idle with issue := some ⟨9, .outp, outToLookup, 2⟩ }

/-- The READ of table 0 meets the premises: its word passes the check, it is elastic, and its table is not in DRAM. -/
theorem readBesideFarRead_premises : OutOf readBesideFarRead 9 outToLookup 2 0x113 ∧
    W (readBesideFarRead.opnd 9 outToLookup outToLookup.s) = 0 ∧ (readBesideFarRead.ctx 9).hlpBusy = false ∧
    (readBesideFarRead.ctx 9).tclass = false ∧ readBesideFarRead.hlpCheck 9 .lookup 0 = 0 ∧
    readBesideFarRead.tFar (getF 0 29 24) = false := by
  unfold OutOf
  decide +kernel

/-- The far lines that are on their way after a command. -/
def Out.fetches : Out → List Fetch
  | .next t => t.look.fetch
  | _ => []

/-- The unit takes the older READ first, and that one fetches its lines from DRAM. -/
theorem readBesideFarRead_fetches :
    (Out.fetches (exec (.lookupRead 9 outToLookup) readBesideFarRead)).map (·.line) = [0, 1] := by
  decide +kernel

/-- Refutes O13: its clause that an elastic command on nothing in DRAM leaves registers, events, DRAM and tables as they
were has no premise that none waits. In `readBesideFarRead` the free unit starts the older READ of a table in DRAM first
(R192), which leaves its lines on their way. -/
theorem not_helperCommandsRunAndLand : ¬ Obligations.HelperCommandsRunAndLand := by
  unfold Obligations.HelperCommandsRunAndLand
  rintro ⟨h, -⟩
  obtain ⟨hout, hword, hidle, helastic, hcheck, hnear⟩ := readBesideFarRead_premises
  have hread := (h readBesideFarRead 9 outToLookup 2 (.lookupRead 9 outToLookup, .lookup, 0x113, 0) (by simp) hout
    (by rw [hword]; rfl)).1
  rw [hword] at hread
  obtain ⟨t, k, ht, -, hquiet, -⟩ := hread hidle nofun hcheck
  obtain ⟨-, -, -, -, hlook⟩ := hquiet helastic fun hdram => by
    rcases hdram with ⟨hdma, -⟩ | ⟨-, -, hfar⟩
    · cases hdma
    · exact absurd hfar (Bool.eq_false_iff.1 hnear)
  have hfetches := readBesideFarRead_fetches
  rw [ht, Out.fetches, hlook] at hfetches
  cases hfetches

end Sys2Proof.Machine

namespace Sys2Proof.Machine
open Sys2Proof

/-! ### What work on a table in the table SRAM may touch (R286 to R297) -/

/-- A register that says where a table lies and what its slots are (R278, R279, R309): TBL_GEOM and TBL_BASE_LO, the first
two words of every 32 bytes from 0x700000 on. -/
def GeomReg (k : Nat) : Prop := 0x700000 ≤ k ∧ k % 32 < 8

theorem geomReg_geom (n : Nat) : GeomReg (Reg.TBL_GEOM n) := by
  unfold GeomReg Reg.TBL_GEOM
  omega

theorem geomReg_baseLo (n : Nat) : GeomReg (Reg.TBL_BASE_LO n) := by
  unfold GeomReg Reg.TBL_BASE_LO
  omega

/-- From `s` to `t` slots, counters, events and requests to DRAM have changed: no register that places a table, and nothing
of contexts, commands, updates, locks and far lines. -/
structure TableWork (s t : State) : Prop where
  geom : ∀ k, GeomReg k → t.reg k = s.reg k
  rest : { t with regs := s.regs, hub := s.hub, pins := s.pins, mem := s.mem, dram := s.dram } = s

namespace TableWork

variable {s t u : State} {n : Nat}

theorem refl (s : State) : TableWork s s := ⟨fun _ _ => rfl, rfl⟩

theorem trans (h : TableWork s t) (h' : TableWork t u) : TableWork s u := by
  refine ⟨fun k hk => (h'.geom k hk).trans (h.geom k hk), ?_⟩
  have := h'.rest
  rw [← h.rest, ← this]

/-- The state of a result. -/
theorem of_snd {α : Type} {p : α × State} {v : α} (h : TableWork s p.2) (hp : p = (v, u)) : TableWork s u := by
  subst hp
  exact h

theorem foldl {α : Type} {f : State → α → State} (hf : ∀ u x, TableWork u (f u x)) (l : List α) (s : State) :
    TableWork s (l.foldl f s) :=
  List.foldlRecOn (motive := fun t => TableWork s t) l f (refl s) fun t ht x _ => ht.trans (hf t x)

theorem setReg (s : State) {off : Nat} (v : Word) (h : ¬ GeomReg off) : TableWork s (s.setReg off v) :=
  ⟨fun k hk => by rw [State.reg_setReg, if_neg (by rintro rfl; exact h hk)], rfl⟩

theorem setFld (s : State) {off : Nat} (hi lo x : Nat) (h : ¬ GeomReg off) : TableWork s (s.setFld off hi lo x) :=
  setReg s _ h

theorem bump (s : State) {off : Nat} (h : ¬ GeomReg off) : TableWork s (s.bump off) := setReg s _ h

theorem setHub (s : State) (x : Hub) : TableWork s { s with hub := x } := ⟨fun _ _ => rfl, rfl⟩

theorem setMem (s : State) (m : Mems) : TableWork s { s with mem := m } := ⟨fun _ _ => rfl, rfl⟩

theorem setDram (s : State) (d : Dram) : TableWork s { s with dram := d } := ⟨fun _ _ => rfl, rfl⟩

theorem raise (s : State) (src : Nat) : TableWork s (s.raise src) := by
  cases h : evPresent s.chip src with
  | true =>
    have hlt := evPresent_lt h
    have hreg : ¬ GeomReg (evReg src) := by unfold GeomReg evReg Reg.EV_STATUS; omega
    refine ⟨fun k hk => State.raise_reg s (by rintro rfl; exact hreg hk), ?_⟩
    exact congrArg (fun v : State => { v with mem := s.mem, dram := s.dram }) (s.raise_rest src)
  | false =>
    rw [State.raise_of_absent h]
    exact refl s

theorem logFirst (s : State) {off : Nat} (vb ob : Nat) (v : Word) (h : ¬ GeomReg off) :
    TableWork s (s.logFirst off vb ob v) := by
  rw [State.logFirst]
  split
  · exact setFld s _ _ _ h
  · exact setReg s _ h

/-! Errors of the store (R528, R529) -/

theorem errLog (s : State) (mem cls inst addr : Nat) : TableWork s (s.errLog mem cls inst addr) := by
  rw [State.errLog]
  split
  · exact setHub s _
  · exact setFld s _ _ _ (by unfold GeomReg; decide)

theorem ueError (s : State) (mem inst addr : Nat) : TableWork s (s.ueError mem inst addr) :=
  ((bump s (by unfold GeomReg; decide)).trans (errLog ..)).trans (raise _ _)

theorem ceError (s : State) : TableWork s s.ceError := (bump s (by unfold GeomReg; decide)).trans (raise _ _)

theorem spoil (s : State) (mem inst off : Nat) : TableWork s (s.spoil mem inst off) := setHub s _

theorem eccRead (s : State) (mem inst addr n : Nat) : TableWork s (s.eccRead mem inst addr n).2 := by
  rw [State.eccRead]
  dsimp only
  split
  · exact refl s
  · exact ((setHub s _).trans (foldl (fun u _ => ceError u) _ _)).trans (foldl (fun u _ => ueError u ..) _ _)

theorem eccWrite (s : State) (mem inst addr n : Nat) : TableWork s (s.eccWrite mem inst addr n) := setHub s _

/-! What stays -/

section
variable (h : TableWork s t)
include h

theorem look : t.look = s.look := (congrArg State.look h.rest :)
theorem help : t.help = s.help := (congrArg State.help h.rest :)
theorem ctxs : t.ctxs = s.ctxs := (congrArg State.ctxs h.rest :)

theorem tFar (n : Nat) : t.tFar n = s.tFar n := by
  rw [State.tFar, State.tFar, State.flag, State.flag, h.geom _ (geomReg_geom n)]

theorem far_off (hn : s.tFar n = false) : t.tFar n = false := (h.tFar n).trans hn

end

/-! Slots of a table in the table SRAM (R286, R288, R292) -/

theorem parityError (s : State) (t b k : Nat) : TableWork s (s.parityError t b k) :=
  ((logFirst s _ _ _ (by unfold GeomReg; decide)).trans (bump _ (by unfold GeomReg; decide))).trans (raise _ _)

theorem detect (s : State) (t : Nat) (l : List Slot) : TableWork s (s.detect t l) :=
  foldl (fun u _ => parityError u ..) _ s

theorem countEntry (s : State) (t : Nat) (was now : Bool) : TableWork s (s.countEntry t was now) := by
  have hreg : ¬ GeomReg (Reg.TBL_STAT t) := by unfold GeomReg Reg.TBL_STAT; omega
  rw [State.countEntry]
  split
  · exact setFld s _ _ _ hreg
  · split
    · exact setFld s _ _ _ hreg
    · exact refl s

section
variable (hn : s.tFar n = false)
include hn

theorem tRead (a k : Nat) : TableWork s (s.tRead n a k).2 := by
  have hread := eccRead s 8 0 a k
  rw [State.tRead, if_neg (by simp [hn])]
  split <;> next heq => exact of_snd hread heq

theorem bucket (b : Nat) : TableWork s (s.bucket n b).2 := by
  have hread := tRead hn (s.tAddr n b 0) (4 * s.tSlot n)
  simp only [State.bucket]
  split <;> next heq => exact of_snd hread heq

theorem slotAt (i : Nat) : TableWork s (s.slotAt n i).2 := by
  have hread := tRead hn (s.tAddr n (i / 4) (i % 4)) (s.tSlot n)
  simp only [State.slotAt]
  split <;> next heq => exact of_snd hread heq

theorem tWrite (a : Nat) (b : List Byte) : TableWork s (s.tWrite n a b) := by
  rw [State.tWrite, if_neg (by simp [hn])]
  exact (setMem s _).trans (eccWrite ..)

theorem putSlot (b k : Nat) (valid : Bool) (age : Nat) (key value : List Byte) :
    TableWork s (s.putSlot n b k valid age key value) := tWrite hn _ _

theorem clearSlot (x : Slot) : TableWork s (s.clearSlot n x) := (putSlot hn ..).trans (countEntry ..)

/-! Lookups (R286) -/

theorem findKey (key : List Byte) : TableWork s (s.findKey n key).2 := by
  have hfirst := bucket hn (s.tBucketsOf n key).1
  simp only [State.findKey]
  split
  case h_1 heq => exact of_snd hfirst heq
  case h_2 u heq =>
    have hu := of_snd hfirst heq
    have hsecond := bucket (hu.far_off hn) (s.tBucketsOf n key).2
    split
    case h_1 heq' => exact hu.trans (of_snd hsecond heq')
    case h_2 heq' =>
      split <;> exact (hu.trans (of_snd hsecond heq')).trans (detect ..)

theorem findIndex (i : Nat) : TableWork s (s.findIndex n i).2 := by
  have hslot := slotAt hn i
  rw [State.findIndex]
  split
  case h_1 heq => exact of_snd hslot heq
  case h_2 heq =>
    split
    · exact of_snd hslot heq
    · exact (of_snd hslot heq).trans (detect ..)

theorem lookup (key : List Byte) : TableWork s (s.lookup n key).2 := by
  rw [State.lookup]
  split
  · exact findIndex hn _
  · exact findKey hn _

end

/-! Inserts (R290, R291, R293, R579) -/

theorem victim (s : State) (pol : Word) (cands : List Slot) : TableWork s (s.victim pol cands).2 := by
  rw [State.victim]
  split
  · dsimp only
    split
    · exact setReg s _ (by unfold GeomReg; decide)
    · exact refl s
  · exact refl s
  · exact refl s

theorem pathSearch (eng : Bool) : ∀ (m i b : Nat) (l path : List Slot) {s : State}, s.tFar n = false →
    TableWork s (s.pathSearch n eng m i b l path).2
  | 0, _, _, _, _, s, _ => refl s
  | m + 1, i, b, l, path, s, hn => by
    rw [State.pathSearch]
    split
    · exact refl s
    · next e _ =>
      dsimp only
      have hread := bucket hn
        (if (s.tBucketsOf n e.key).1 = b then (s.tBucketsOf n e.key).2 else (s.tBucketsOf n e.key).1)
      split
      case h_1 heq => exact of_snd hread heq
      case h_2 l' u heq =>
        have hu := (of_snd hread heq).trans (detect u n l')
        split
        · exact hu
        · exact hu.trans (pathSearch eng m _ _ _ _ (hu.far_off hn))

theorem pathMove : ∀ (path : List Slot) (moved : List ((Nat × Nat) × Slot)) (f : Slot) {s : State}, s.tFar n = false →
    TableWork s (s.pathMove n moved path f).2
  | [], _, _, s, _ => refl s
  | e :: rest, moved, f, s, hn => by
    rw [State.pathMove]
    have hput := putSlot hn f.bucket f.slot true (((moved.find? fun p => p.1 == (e.bucket, e.slot)).map (·.2)).getD e).age
      (((moved.find? fun p => p.1 == (e.bucket, e.slot)).map (·.2)).getD e).key
      (((moved.find? fun p => p.1 == (e.bucket, e.slot)).map (·.2)).getD e).value
    exact hput.trans (pathMove rest _ e (hput.far_off hn))

section
variable (hn : s.tFar n = false)
include hn

theorem insertKey (pol : Word) (key value : List Byte) (eng evicts : Bool) :
    TableWork s (s.insertKey n pol key value eng evicts).2 := by
  have hfound := findKey hn key
  rw [State.insertKey]
  split
  case h_1 heq => exact of_snd hfound heq
  case h_2 heq =>
    have hu := of_snd hfound heq
    exact hu.trans (putSlot (hu.far_off hn) ..)
  case h_3 u heq =>
    have hu := of_snd hfound heq
    have placed : ∀ {v : State} (f : Slot), TableWork s v →
        TableWork s ((v.putSlot n f.bucket f.slot true 0 key value).countEntry n false true) := fun f hv =>
      (hv.trans (putSlot (hv.far_off hn) ..)).trans (countEntry ..)
    dsimp only
    split
    · split
      · exact placed _ hu
      · next l0 _ _ l1 _ _ _ _ =>
        have hsearch := fun b l => pathSearch eng (getF pol 8 0) 0 b l [] (hu.far_off hn)
        split
        case h_1 heq' => exact hu.trans (of_snd (hsearch ..) heq')
        case h_2 path f v heq' =>
          have hv := hu.trans (of_snd (hsearch ..) heq')
          exact placed _ (hv.trans (pathMove path [] f (hv.far_off hn)))
        case h_3 v heq' =>
          have hv := hu.trans (of_snd (hsearch ..) heq')
          have hvictim := fun cands => hv.trans (victim v pol cands)
          split
          case h_1 x w heq'' =>
            have hw := of_snd (hvictim _) heq''
            split
            · exact hv
            · have hput := hw.trans (putSlot (hw.far_off hn) x.bucket x.slot true 0 key value)
              have hcount := hput.trans (bump (off := Reg.TBL_EVICT_CNT) _ (by unfold GeomReg; decide))
              exact hcount.trans (raise _ Ev.TBL_EVICT)
          case h_2 heq'' => exact (of_snd (hvictim _) heq'').trans (bump _ (by unfold GeomReg; decide))
    · exact hu

theorem insertIndex (i : Nat) (value : List Byte) (eng : Bool) : TableWork s (s.insertIndex n i value eng).2 := by
  have hslot := slotAt hn i
  rw [State.insertIndex]
  split
  case h_1 heq => exact of_snd hslot heq
  case h_2 x u heq =>
    have hu := (of_snd hslot heq).trans (detect u n [x])
    dsimp only
    split
    · exact hu.trans (bump _ (by unfold GeomReg; decide))
    · exact (hu.trans (putSlot (hu.far_off hn) ..)).trans (countEntry ..)

/-! The updates of the update unit (R187, R288, R294, R297) -/

theorem applyTouch (b k : Nat) (key : List Byte) : TableWork s (s.applyTouch n b k key) := by
  have hread := bucket hn b
  rw [State.applyTouch]
  split
  · split
    case h_1 heq => exact of_snd hread heq
    case h_2 heq =>
      have hu := of_snd hread heq
      split
      · split
        · exact hu.trans (putSlot (hu.far_off hn) ..)
        · exact hu.trans (detect ..)
      · exact hu
  · exact refl s

theorem ageSlot (pol : Word) (x : Slot) : TableWork s (s.ageSlot n pol x) := by
  rw [State.ageSlot]
  split
  · dsimp only
    split
    · exact ((putSlot hn ..).trans (countEntry ..)).trans (bump _ (by unfold GeomReg; decide))
    · exact putSlot hn ..
  · exact refl s

theorem ageSlots (pol : Word) (l : List Slot) : TableWork s (l.foldl (fun v x => v.ageSlot n pol x) s) :=
  List.foldlRecOn (motive := fun t => TableWork s t) l _ (refl s) fun _ ht x _ => ht.trans (ageSlot (ht.far_off hn) pol x)

theorem ageBucket (b : Nat) (pol : Word) : TableWork s (s.ageBucket n b pol) := by
  have hread := bucket hn b
  rw [State.ageBucket]
  split
  · split
    case h_1 heq => exact of_snd hread heq
    case h_2 l u heq =>
      have hu := of_snd hread heq
      have hd := hu.trans (detect u n l)
      split
      · exact hd
      · exact hd.trans (ageSlots (hd.far_off hn) pol l)
  · exact refl s

theorem engUpdate (op : Nat) (pol : Word) (key value : List Byte) : TableWork s (s.engUpdate n op pol key value).2 := by
  have hfound := lookup hn key
  have hinsert : ∀ {u : State}, TableWork s u → TableWork s
      (if s.tDirect n then u.insertIndex n (leNat (key.take 4)) value true else u.insertKey n pol key value true true).2 := by
    intro u hu
    split
    · exact hu.trans (insertIndex (hu.far_off hn) ..)
    · exact hu.trans (insertKey (hu.far_off hn) ..)
  rw [State.engUpdate]
  split
  case h_1 heq => exact of_snd hfound heq
  case h_2 heq =>
    have hu := of_snd hfound heq
    split
    · exact hu
    · split
      · exact hu.trans (bump _ (by unfold GeomReg; decide))
      · exact hu.trans (putSlot (hu.far_off hn) ..)
    · split
      · exact hu
      · exact hu.trans (clearSlot (hu.far_off hn) _)
  case h_3 heq =>
    have hu := of_snd hfound heq
    split
    · exact hu
    · split <;> next heq' => exact of_snd (hinsert (refl s)) heq'

end

/-! Writes of table DMA (R302, R426): they wait as requests, or go to host memory -/

theorem dramUnserved (s : State) (a : Nat) : TableWork s (s.dramUnserved a) :=
  bump s (by unfold GeomReg Reg.DDR_UNSRV_CNT; omega)

theorem setDch (s : State) (i ch : Nat) (x : DramCh) : TableWork s (s.setDch i ch x) := setDram s _

theorem dramEnter (s : State) (i ch : Nat) (r : DramReq) : TableWork s (s.dramEnter i ch r) := by
  have hcount : ∀ b : Bool, TableWork s (if b = true then s else s.bump (Reg.DDR_INORD_CNT i)) := fun b => by
    cases b
    · exact bump s (by unfold GeomReg Reg.DDR_INORD_CNT; omega)
    · exact refl s
  simp only [State.dramEnter]
  split <;> split
  · exact (hcount _).trans (setDch ..)
  · exact (hcount _).trans (setDch ..)
  · exact setDch s ..
  · exact setDch s ..

theorem dramPost (s : State) (port : Nat) (tclass write : Bool) (a n : Nat) (b : List Byte) :
    TableWork s (s.dramSend port tclass write a n .posted b) := by
  simp only [State.dramSend]
  split
  · exact dramUnserved s a
  · split
    · exact (setDram s _).trans (dramEnter ..)
    · exact setDram s _

theorem tdmaWrite (s : State) (dram : Bool) (a : Nat) (b : List Byte) : TableWork s (s.tdmaWrite dram a b) := by
  rw [State.tdmaWrite]
  split
  · exact foldl (fun u _ => dramPost u ..) _ s
  · exact setMem s _

section
variable {x : TRun} (hn : s.tFar x.desc.table = false)
include hn

theorem tdmaOpInsert (pol : Word) : TableWork s (s.tdmaOpInsert x pol).2 := by
  have hinsert : TableWork s
      (if s.tDirect x.desc.table then s.insertIndex x.desc.table (leNat (s.bufKeyOf x)) (s.bufValOf x) false
        else s.insertKey x.desc.table pol (s.bufKeyOf x) (s.bufValOf x) false (s.ebufOk x)).2 := by
    split
    · exact insertIndex hn ..
    · exact insertKey hn ..
  simp only [State.tdmaOpInsert]
  split
  · exact refl s
  · split
    case h_2 heq =>
      have hv := of_snd hinsert heq
      split
      · exact hv.trans (dramUnserved ..)
      · exact hv
    case h_6 heq =>
      have hv := of_snd hinsert heq
      split
      · exact hv
      · exact hv.trans (tdmaWrite ..)
    all_goals next heq => exact of_snd hinsert heq

theorem tdmaOpDelete : TableWork s (s.tdmaOpDelete x).2 := by
  have hfound := lookup hn (s.bufKeyOf x)
  simp only [State.tdmaOpDelete]
  split
  · exact refl s
  · split
    case h_1 heq => exact of_snd hfound heq
    case h_2 heq => exact of_snd hfound heq
    case h_3 heq =>
      have hu := of_snd hfound heq
      exact hu.trans (clearSlot (hu.far_off hn) _)

theorem tdmaOpWrite : TableWork s (s.tdmaOpWrite x).2 := by
  simp only [State.tdmaOpWrite]
  split
  · exact refl s
  · exact (putSlot hn ..).trans (countEntry ..)

theorem tdmaUpdate (pol : Word) : TableWork s (s.tdmaUpdate x pol).2 := by
  rw [State.tdmaUpdate]
  split
  · exact refl s
  · split
    · exact tdmaOpInsert hn pol
    · exact tdmaOpDelete hn
    · exact tdmaOpWrite hn

end

end TableWork
end Sys2Proof.Machine

namespace Sys2Proof.Machine
open Sys2Proof

/-! ### An update of a table in the table SRAM is applied (R180, R288, R289) -/

/-- From `s` to `t` an update has been applied: no update waits or leaves, no context has changed, and of the Lookup
Engine's own state only the operations in progress may have. -/
structure Applied (s t : State) : Prop where
  updates : t.help.updates = s.help.updates
  ctxs : t.ctxs = s.ctxs
  look : { t.look with runs := s.look.runs } = s.look

namespace Applied

variable {s t : State} (h : Applied s t)
include h

theorem need : t.look.need = s.look.need := (congrArg Look.need h.look :)
theorem gone : t.look.gone = s.look.gone := (congrArg Look.gone h.look :)
theorem locks : t.look.locks = s.look.locks := (congrArg Look.locks h.look :)

end Applied

theorem TableWork.applied {s t : State} (h : TableWork s t) : Applied s t :=
  ⟨congrArg Help.updates h.help, h.ctxs, by rw [h.look]⟩

theorem TableWork.updHlp {s t : State} (h : TableWork s t) (id : Nat) (f : HlpCmd → HlpCmd) : Applied s (t.updHlp id f) :=
  ⟨h.applied.updates, h.ctxs, h.applied.look⟩

theorem TableWork.setTrun {s t : State} (h : TableWork s t) (k : Nat) (x : Option TRun) : Applied s (t.setTrun k x) :=
  ⟨h.applied.updates, h.ctxs, by rw [State.setTrun, h.look]⟩

section
variable {s : State}

/-- The update of a command whose table has lost READY (R180). -/
theorem State.applyHelper_notReady {k : HlpCmd} (h : s.tReady (hSel k.word) = false) (pol : Word) :
    s.applyHelper k pol = s.updHlp k.id fun y => { y with stage := .done, err := 4 } := by
  simp only [State.applyHelper, h]
  rfl

/-- The update of a command works on its table and brings the command its result (R187, R289). -/
theorem State.applyHelper_eq {k : HlpCmd} (h : s.tFar (hSel k.word) = false) (pol : Word) :
    ∃ w f, TableWork s w ∧ s.applyHelper k pol = w.updHlp k.id f ∧ ∀ y, (f y).id = y.id ∧ (f y).stage = .done := by
  cases hr : s.tReady (hSel k.word) with
  | false => exact ⟨s, _, .refl s, State.applyHelper_notReady hr pol, fun _ => ⟨rfl, rfl⟩⟩
  | true =>
    simp only [State.applyHelper, hr]
    exact ⟨_, _, TableWork.engUpdate h .., rfl, fun _ => ⟨rfl, rfl⟩⟩

theorem State.updDo_helper {id : Nat} {k : HlpCmd} (hk : s.help.cmds.find? (fun y => y.id == id) = some k) (pol : Word) :
    s.updDo (.helper id pol) = s.applyHelper k pol := by
  simp only [State.updDo, hk]

theorem State.updTable_helper {id : Nat} {k : HlpCmd} (hk : s.help.cmds.find? (fun y => y.id == id) = some k) (pol : Word) :
    s.updTable (.helper id pol) = hSel k.word := by
  simp only [State.updTable, hk]
  rfl

theorem State.updDo_applied {u : Update} (h : s.tFar (s.updTable u) = false) : Applied s (s.updDo u) := by
  cases u with
  | touch t b k key => exact (TableWork.applyTouch h b k key).applied
  | aging t b pol => exact (TableWork.ageBucket h b pol).applied
  | helper id pol =>
    cases hk : s.help.cmds.find? (fun y => y.id == id) with
    | none =>
      simp only [State.updDo, hk]
      exact (TableWork.refl s).applied
    | some k =>
      rw [State.updTable_helper hk] at h
      obtain ⟨w, f, hw, heq, -⟩ := State.applyHelper_eq h pol
      rw [State.updDo_helper hk, heq]
      exact hw.updHlp ..
  | op k pol =>
    cases hx : s.trun k with
    | none =>
      simp only [State.updDo, hx]
      exact (TableWork.refl s).applied
    | some x =>
      simp only [State.updTable, hx] at h
      simp only [State.updDo, hx]
      exact (TableWork.tdmaUpdate h pol).setTrun ..

/-- The operation at `k`, if there is one, is over. -/
def State.RunOver (s : State) (k : Nat) : Prop := ∀ x, s.trun k = some x → ∃ r, x.stage = .done r

/-- The update of an operation ends it (R289). -/
theorem State.updDo_runOver (k : Nat) (pol : Word) : (s.updDo (.op k pol)).RunOver k := by
  intro y hy
  cases hx : s.trun k with
  | none =>
    simp only [State.updDo, hx] at hy
    cases hy
  | some x =>
    simp only [State.updDo, hx, State.trun_setTrun, if_pos] at hy
    cases hy
    exact ⟨_, rfl⟩

/-! ### The update unit (R287, R289, R419) -/

/-- The state in which a reader of far tables runs: it lacks no line as yet. -/
def State.reading (s : State) (own : FarFor) (tclass : Bool) : State :=
  s.withLook { s.look with cur := some (own, tclass), need := [], gone := none }

/-- A reader that has found all its lines is done. -/
theorem State.farRun_done {α : Type} {own : FarFor} {tclass : Bool} {f : State → α × State}
    (hneed : (f (s.reading own tclass)).2.look.need = []) (hgone : (f (s.reading own tclass)).2.look.gone = none) :
    s.farRun own tclass f = (.done (f (s.reading own tclass)).1, (f (s.reading own tclass)).2.farEnd own) := by
  rw [State.reading, State.withLook] at *
  simp only [State.farRun, hneed, hgone]
  rfl

/-- The state in which the update unit applies an update: what `ue` names is found, and the unit reads. -/
def State.atUpdate (s : State) (ue : Option Nat) (u : Update) : State :=
  (ue.elim s (s.spoil 8 0)).reading .update (s.updTclass u)

theorem State.atUpdate_rest (ue : Option Nat) (u : Update) :
    ∃ hub l, s.atUpdate ue u = { s with hub := hub, look := l } ∧ l.runs = s.look.runs ∧ l.locks = s.look.locks ∧
      l.need = [] ∧ l.gone = none ∧ (ue = none → hub = s.hub) := by
  cases ue with
  | none => exact ⟨_, _, rfl, rfl, rfl, rfl, rfl, fun _ => rfl⟩
  | some off => exact ⟨_, _, rfl, rfl, rfl, rfl, rfl, nofun⟩

theorem State.updTable_atUpdate (ue : Option Nat) (u : Update) : (s.atUpdate ue u).updTable u = s.updTable u := by
  obtain ⟨hub, l, heq, hruns, -⟩ := State.atUpdate_rest (s := s) ue u
  rw [heq]
  cases u with
  | op k pol => simp only [State.updTable, State.trun, hruns]
  | _ => rfl

theorem State.tFar_atUpdate (ue : Option Nat) (u : Update) (n : Nat) : (s.atUpdate ue u).tFar n = s.tFar n := by
  obtain ⟨hub, l, heq, -⟩ := State.atUpdate_rest (s := s) ue u
  rw [heq]
  rfl

variable {ue : Option Nat} {u : Update} {rest : List Update}

/-- What the update unit does with an update of a table in the table SRAM. -/
theorem State.updDo_atUpdate (h : s.tFar (s.updTable u) = false) (ue : Option Nat) :
    Applied (s.atUpdate ue u) ((s.atUpdate ue u).updDo u) :=
  State.updDo_applied (by rwa [State.updTable_atUpdate, State.tFar_atUpdate])

/-- An update of a table in the table SRAM is applied at once (R289). -/
theorem State.updateApply_near (hu : s.help.updates = u :: rest) (h : s.tFar (s.updTable u) = false) (ue : Option Nat) :
    s.updateApply ue = (((s.atUpdate ue u).updDo u).farEnd .update).updPop := by
  have hdone := State.updDo_atUpdate h ue
  have hrun := State.farRun_done (s := ue.elim s (s.spoil 8 0)) (own := .update) (tclass := s.updTclass u)
    (f := fun v => ((), v.updDo u)) hdone.need hdone.gone
  rw [State.updateApply, hu]
  simp only [h, hrun]
  rfl

/-- An update of a far table whose line in the lookup cache is uncorrectable changes nothing (R287). -/
theorem State.updateApply_far (hu : s.help.updates = u :: rest) (h : s.tFar (s.updTable u) = true) (off : Nat) :
    s.updateApply (some off) = ((s.updPop.farEnd .update).ueError 9 0 off).updFail u 3 := by
  rw [State.updateApply, hu]
  simp only [h]
  rfl

/-- An update that changes nothing ends for whom it belongs to. -/
theorem State.updFail_keeps (s : State) (u : Update) (err : BitVec 4) :
    (s.updFail u err).help.updates = s.help.updates ∧ (s.updFail u err).ctxs = s.ctxs ∧
      (s.updFail u err).mem = s.mem := by
  cases u <;> exact ⟨rfl, rfl, rfl⟩

/-- An update leaves the queue, and no context changes. -/
theorem State.updateApply_leaves (hu : s.help.updates = u :: rest) (h : s.tFar (s.updTable u) = false ∨ ue ≠ none) :
    (s.updateApply ue).help.updates = rest ∧ (s.updateApply ue).ctxs = s.ctxs := by
  cases hfar : s.tFar (s.updTable u) with
  | false =>
    have hdone := State.updDo_atUpdate hfar ue
    obtain ⟨hub, l, heq, -⟩ := State.atUpdate_rest (s := s) ue u
    rw [State.updateApply_near hu hfar]
    refine ⟨(congrArg List.tail hdone.updates).trans ?_, hdone.ctxs.trans ?_⟩
    · rw [heq]
      exact congrArg List.tail hu
    · rw [heq]
  | true =>
    obtain ⟨off, rfl⟩ := Option.ne_none_iff_exists'.1 (h.resolve_left (by simp [hfar]))
    rw [State.updateApply_far hu hfar]
    have hwork := TableWork.ueError (s.updPop.farEnd .update) 9 0 off
    have hrest : ((s.updPop.farEnd .update).ueError 9 0 off).help.updates = rest :=
      (congrArg Help.updates hwork.help).trans (congrArg List.tail hu)
    obtain ⟨hupdates, hctxs, -⟩ := ((s.updPop.farEnd .update).ueError 9 0 off).updFail_keeps u 3
    exact ⟨hupdates.trans hrest, hctxs.trans hwork.ctxs⟩

/-- The operation whose update has left the queue is over. -/
theorem State.updateApply_runOver {k : Nat} {pol : Word} (hu : s.help.updates = .op k pol :: rest)
    (h : s.tFar (s.updTable (.op k pol)) = false ∨ ue ≠ none) : (s.updateApply ue).RunOver k := by
  cases hfar : s.tFar (s.updTable (.op k pol)) with
  | false =>
    rw [State.updateApply_near hu hfar]
    exact State.updDo_runOver (s := s.atUpdate ue (.op k pol)) k pol
  | true =>
    obtain ⟨off, rfl⟩ := Option.ne_none_iff_exists'.1 (h.resolve_left (by simp [hfar]))
    rw [State.updateApply_far hu hfar]
    intro x hx
    rw [State.updFail, State.trun, State.updRun, Tab.upd, Tab.get_set, if_pos rfl, Option.map_eq_some_iff] at hx
    obtain ⟨y, -, rfl⟩ := hx
    exact ⟨_, rfl⟩

/-! ### An operation of a ring that is over (R303, R304) -/

theorem State.tdmaStep_over {k : Nat} (h : s.RunOver k) (a : Nat) : s.tdmaStep k a = s := by
  rw [State.tdmaStep]
  split
  · rfl
  · next x hx =>
    obtain ⟨r, hr⟩ := h x hx
    rw [hr]

theorem State.ringDone_keeps (k : Nat) : (s.ringDone k).help = s.help ∧ (s.ringDone k).ctxs = s.ctxs := by
  rw [State.ringDone]
  split
  · next dram res d _ _ stop _ =>
    have hwrite := TableWork.tdmaWrite (s.setTrun k none) dram (s.ringAt k + 3)
      (B8 res.status :: leBytes 4 res.bucket ++ [B8 res.slot, B8 res.age])
    have hkept : ∀ v : State, v.help = s.help ∧ v.ctxs = s.ctxs →
        (if d.irq = true then v.raise (Ev.TDMA_DONE k) else v).help = s.help ∧
          (if d.irq = true then v.raise (Ev.TDMA_DONE k) else v).ctxs = s.ctxs := fun v hv => by
      have hraise := TableWork.raise v (Ev.TDMA_DONE k)
      split
      · exact ⟨hraise.help.trans hv.1, hraise.ctxs.trans hv.2⟩
      · exact hv
    refine hkept _ ?_
    split <;> exact ⟨hwrite.help, hwrite.ctxs⟩
  · exact ⟨rfl, rfl⟩

/-- Its ring ends it, and nothing goes to the update unit. -/
theorem State.ringGo_over {k : Nat} (h : s.RunOver k) :
    (s.ringGo k).help = s.help ∧ (s.ringGo k).ctxs = s.ctxs := by
  have hgo : s.tdmaGo k (s.ringAt k) = s := by
    simp only [State.tdmaGo, State.tdmaStep_over h]
  rw [State.ringGo, hgo]
  exact State.ringDone_keeps k

/-! ### UPDATE_UNIT_APPLY (R289) -/

section
variable (hrun : s.running = true) (hu : s.help.updates = u :: rest)
include hrun hu

/-- An update that no operation waits for ends with the update unit's work. -/
theorem State.updateUnitApply_exec (hop : ∀ k pol, u ≠ .op k pol) :
    exec (.updateUnitApply ue) s = .next (s.updateApply ue) := by
  change execUpdateUnitApply ue s = _
  rw [execUpdateUnitApply, if_pos hrun, hu]
  cases u with
  | op k pol => exact absurd rfl (hop k pol)
  | _ => rfl

/-- An update leaves the queue when its turn comes, whatever it belongs to. -/
theorem State.updateUnitApply_leaves (hring : ∀ k pol, u = .op k pol → k < 4)
    (h : s.tFar (s.updTable u) = false ∨ ue ≠ none) :
    ∃ t, exec (.updateUnitApply ue) s = .next t ∧ t.help.updates = rest ∧ t.ctxs = s.ctxs ∧
      ((∀ k pol, u ≠ .op k pol) → t = s.updateApply ue) := by
  obtain ⟨hupdates, hctxs⟩ := State.updateApply_leaves hu h
  by_cases hop : ∃ k pol, u = .op k pol
  · obtain ⟨k, pol, rfl⟩ := hop
    obtain ⟨hhelp, hctxs'⟩ := State.ringGo_over (State.updateApply_runOver hu h)
    refine ⟨(s.updateApply ue).ringGo k, ?_, hhelp ▸ hupdates, hctxs'.trans hctxs, fun hno => absurd rfl (hno k pol)⟩
    change execUpdateUnitApply ue s = _
    rw [execUpdateUnitApply, if_pos hrun, hu]
    simp only [State.runResume, if_pos (hring k pol rfl)]
  · have hop : ∀ k pol, u ≠ .op k pol := fun k pol hk => hop ⟨k, pol, hk⟩
    exact ⟨_, State.updateUnitApply_exec hrun hu hop, hupdates, hctxs, fun _ => rfl⟩

end

end
end Sys2Proof.Machine

namespace Sys2Proof.Machine
open Sys2Proof

/-! ### What the update of a helper command leaves (R180, R287) -/

section
variable {s : State}

theorem State.raise_mem (s : State) (src : Nat) : (s.raise src).mem = s.mem := (congrArg State.mem (s.raise_rest src) :)

theorem State.ueError_mem (s : State) (mem inst addr : Nat) : (s.ueError mem inst addr).mem = s.mem := by
  rw [State.ueError, State.raise_mem, State.errLog]
  split <;> rfl

theorem mem_updHlp {id : Nat} {k : HlpCmd} (hk : s.help.cmds.find? (fun y => y.id == id) = some k) (f : HlpCmd → HlpCmd) :
    f k ∈ (s.updHlp id f).help.cmds :=
  List.mem_map.2 ⟨k, List.mem_of_find?_eq_some hk, if_pos (by simpa using List.find?_some hk)⟩

/-- The update of a helper command, once applied, is done; without its table it ends with ERR 4 (R180), and with its line
uncorrectable with ERR 3 (R287). -/
theorem State.updateApply_helper {id : Nat} {pol : Word} {rest : List Update} {k : HlpCmd} {ue : Option Nat}
    (hu : s.help.updates = .helper id pol :: rest) (hk : s.help.cmds.find? (fun y => y.id == id) = some k)
    (h : s.tFar (s.updTable (.helper id pol)) = false ∨ ue ≠ none) :
    ∃ k' ∈ (s.updateApply ue).help.cmds, k'.id = id ∧ k'.stage = .done ∧
      (s.tFar (s.updTable (.helper id pol)) = false → s.tReady (hSel k.word) = false →
        k'.err = 4 ∧ (s.updateApply ue).mem = s.mem) ∧
      (s.tFar (s.updTable (.helper id pol)) = true → k'.err = 3 ∧ (s.updateApply ue).mem = s.mem) := by
  have hid : k.id = id := by simpa using List.find?_some hk
  cases hfar : s.tFar (s.updTable (.helper id pol)) with
  | false =>
    obtain ⟨hub, l, heq, -⟩ := State.atUpdate_rest (s := s) ue (.helper id pol)
    have hk' : (s.atUpdate ue (.helper id pol)).help.cmds.find? (fun y => y.id == id) = some k := by rw [heq]; exact hk
    rw [State.updateApply_near hu hfar, State.updDo_helper hk']
    cases hready : s.tReady (hSel k.word) with
    | false =>
      rw [State.applyHelper_notReady (by rw [heq]; exact hready), hid]
      exact ⟨_, mem_updHlp hk' _, hid, rfl, fun _ _ => ⟨rfl, by rw [heq]; rfl⟩, nofun⟩
    | true =>
      have hnear : (s.atUpdate ue (.helper id pol)).tFar (hSel k.word) = false := by
        rw [State.tFar_atUpdate, ← State.updTable_helper hk pol]
        exact hfar
      obtain ⟨w, f, hw, happly, hf⟩ := State.applyHelper_eq hnear pol
      rw [happly, hid]
      exact ⟨f k, mem_updHlp (by rw [hw.help]; exact hk') f, (hf k).1.trans hid, (hf k).2, nofun, nofun⟩
  | true =>
    obtain ⟨off, rfl⟩ := Option.ne_none_iff_exists'.1 (h.resolve_left (by simp [hfar]))
    have hwork := TableWork.ueError (s.updPop.farEnd .update) 9 0 off
    obtain ⟨-, -, hmem⟩ := ((s.updPop.farEnd .update).ueError 9 0 off).updFail_keeps (.helper id pol) 3
    rw [State.updateApply_far hu hfar]
    refine ⟨_, mem_updHlp (k := k) (by rw [hwork.help]; exact hk) _, hid, rfl, nofun, fun _ => ⟨rfl, hmem.trans ?_⟩⟩
    exact (s.updPop.farEnd .update).ueError_mem 9 0 off

end

/-! ### Slots written in the table SRAM (R279, R288, R292) -/

section
variable {s t : State} {n : Nat}

theorem State.tSlot_ge (s : State) (n : Nat) : 16 ≤ s.tSlot n := by
  unfold State.tSlot ceilDiv
  omega

theorem length_fit (n : Nat) (l : List Byte) : (fit n l).length = n := by simp [fit]

theorem length_slotImage {size : Nat} (h : 16 ≤ size) (addr : Nat) (valid : Bool) (age : Nat) (key value : List Byte) :
    (slotImage size addr valid age key value).length = size := by
  simp only [slotImage, List.length_append, List.length_take, List.length_drop, List.length_singleton, length_fit]
  omega

/-- Byte 1 of a slot holds its age (R279). -/
theorem slotImage_age {size : Nat} (h : 16 ≤ size) (addr : Nat) (valid : Bool) (age : Nat) (key value : List Byte) :
    (slotImage size addr valid age key value)[1]? = some (B8 age) := by
  obtain ⟨m, rfl⟩ : ∃ m, size = m + 2 := ⟨size - 2, by omega⟩
  simp [slotImage, fit]

theorem TableWork.tSlot (h : TableWork s t) (n : Nat) : t.tSlot n = s.tSlot n := by
  simp only [State.tSlot, State.tKeyBytes, State.tDirect, State.tKlen, State.tVlen, State.flag, State.fld,
    h.geom _ (geomReg_geom n)]
  rfl

theorem TableWork.tAddr (h : TableWork s t) (hn : s.tFar n = false) (b k : Nat) : t.tAddr n b k = s.tAddr n b k := by
  simp only [State.tAddr, State.tBase, h.tSlot, h.tFar, hn, h.geom _ (geomReg_baseLo n), Bool.false_eq_true, if_false]

section
variable (hn : s.tFar n = false) (b k : Nat) (valid : Bool) (age : Nat) (key value : List Byte)
include hn

theorem State.putSlot_tblram : (s.putSlot n b k valid age key value).mem.tblram = s.mem.tblram.put (s.tAddr n b k)
    (slotImage (s.tSlot n) (s.tAddr n b k) valid age (key.take (s.tKeyBytes n)) (fit (s.tVlen n) value)) := by
  simp only [State.putSlot, State.tWrite, hn]
  rfl

theorem State.putSlot_age : (s.putSlot n b k valid age key value).mem.tblram.rd (s.tAddr n b k + 1) = B8 age := by
  have hsize := s.tSlot_ge n
  rw [State.putSlot_tblram hn, Mem.rd_put_of_in (by rw [length_slotImage hsize]; omega)]
  exact Option.some.inj ((List.getElem?_eq_getElem _).symm.trans (slotImage_age hsize ..))

theorem State.putSlot_out {a : Nat} (h : a < s.tAddr n b k ∨ s.tAddr n b k + s.tSlot n ≤ a) :
    (s.putSlot n b k valid age key value).mem.tblram.rd a = s.mem.tblram.rd a := by
  rw [State.putSlot_tblram hn, Mem.rd_put_of_out]
  rwa [length_slotImage (s.tSlot_ge n)]

end

/-- The second byte of a slot lies outside every other slot of its bucket. -/
theorem State.age_outside (s : State) (n b : Nat) {j k : Nat} (h : j ≠ k) :
    s.tAddr n b k + 1 < s.tAddr n b j ∨ s.tAddr n b j + s.tSlot n ≤ s.tAddr n b k + 1 := by
  have hsize := s.tSlot_ge n
  unfold State.tAddr
  rcases Nat.lt_or_gt_of_ne h with h | h
  · have := Nat.mul_le_mul_right (s.tSlot n) (show 4 * b + j + 1 ≤ 4 * b + k by omega)
    rw [Nat.succ_mul] at this
    omega
  · have := Nat.mul_le_mul_right (s.tSlot n) (show 4 * b + k + 1 ≤ 4 * b + j by omega)
    rw [Nat.succ_mul] at this
    omega

/-! ### Aging of a bucket (R288, R296, R297) -/

variable {pol : Word}

/-- A slot is aged whole: with AGE_DEL 0 none is deleted. -/
theorem State.ageSlot_valid (hdel : getF pol 23 16 = 0) {x : Slot} (hgood : x.good = true) (hvalid : x.valid = true) :
    s.ageSlot n pol x = s.putSlot n x.bucket x.slot true (min (x.age + 1) 255) x.key x.value := by
  simp [State.ageSlot, hgood, hvalid, hdel]

theorem State.ageSlot_out (hn : s.tFar n = false) (hdel : getF pol 23 16 = 0) (x : Slot) {a : Nat}
    (h : a < s.tAddr n x.bucket x.slot ∨ s.tAddr n x.bucket x.slot + s.tSlot n ≤ a) :
    (s.ageSlot n pol x).mem.tblram.rd a = s.mem.tblram.rd a := by
  by_cases hx : x.good = true ∧ x.valid = true
  · rw [State.ageSlot_valid hdel hx.1 hx.2]
    exact State.putSlot_out hn _ _ _ _ _ _ h
  · rw [State.ageSlot, if_neg (by simpa using hx)]

/-- The slots of a bucket, as they stand in the table SRAM. -/
def State.slots (s : State) (n b : Nat) : List Slot :=
  (List.range 4).map fun k => slotOf b k (s.tKeyBytes n) (s.tVlen n) (s.tAddr n b k)
    (((s.mem.tblram.bytes (s.tAddr n b 0) (4 * s.tSlot n)).drop (k * s.tSlot n)).take (s.tSlot n))

theorem State.bucket_clean (hn : s.tFar n = false) (hflips : s.hub.flips = []) (b : Nat) :
    s.bucket n b = (some (s.slots n b), s) := by
  simp only [State.bucket, State.tRead, hn, State.eccRead_clean hflips]
  rfl

/-- Slot k of a bucket says where it stands. -/
theorem State.slots_get {b k : Nat} {x : Slot} (h : (s.slots n b)[k]? = some x) : x.bucket = b ∧ x.slot = k := by
  rw [State.slots, List.getElem?_map, Option.map_eq_some_iff] at h
  obtain ⟨j, hj, rfl⟩ := h
  obtain ⟨-, rfl⟩ := List.getElem?_eq_some_iff.1 hj
  exact ⟨rfl, List.getElem_range _⟩

theorem State.slots_bucket {b : Nat} {x : Slot} (h : x ∈ s.slots n b) : x.bucket = b := by
  obtain ⟨k, hk⟩ := List.getElem?_of_mem h
  exact (State.slots_get hk).1

theorem State.slots_pairwise (s : State) (n b : Nat) : (s.slots n b).Pairwise fun x y => x.slot ≠ y.slot :=
  List.pairwise_map.2 (List.nodup_range (n := 4))

theorem State.parityError_mem (s : State) (t b k : Nat) : (s.parityError t b k).mem = s.mem := by
  rw [State.parityError, State.raise_mem, State.logFirst]
  split <;> rfl

theorem State.detect_mem (s : State) (t : Nat) (l : List Slot) : (s.detect t l).mem = s.mem :=
  List.foldlRecOn (motive := fun v : State => v.mem = s.mem) _ _ rfl fun v hv _ _ => (v.parityError_mem ..).trans hv

/-- A bucket of a table in the table SRAM is aged whole, unless it is locked (R296, R297). -/
theorem State.ageBucket_clean (hready : s.tReady n = true) (hn : s.tFar n = false) (hflips : s.hub.flips = []) (b : Nat) :
    s.ageBucket n b pol = if s.bLocked n b then s.detect n (s.slots n b)
      else (s.slots n b).foldl (fun v x => v.ageSlot n pol x) (s.detect n (s.slots n b)) := by
  rw [State.ageBucket, if_pos hready, State.bucket_clean hn hflips]

section
variable (hdel : getF pol 23 16 = 0) {b : Nat}
include hdel

/-- Aging some slots of a bucket leaves the age of any other. -/
theorem State.ageSlots_out {k : Nat} (l : List Slot) : ∀ {s : State}, s.tFar n = false → (∀ x ∈ l, x.bucket = b ∧ x.slot ≠ k) →
    (l.foldl (fun v x => v.ageSlot n pol x) s).mem.tblram.rd (s.tAddr n b k + 1) =
      s.mem.tblram.rd (s.tAddr n b k + 1) := by
  induction l with
  | nil => exact fun _ _ => rfl
  | cons x l ih =>
    intro s hn hl
    have hwork := TableWork.ageSlot hn pol x
    obtain ⟨rfl, hslot⟩ := hl x List.mem_cons_self
    have htail := ih (hwork.far_off hn) fun y hy => hl y (List.mem_cons_of_mem _ hy)
    rw [hwork.tAddr hn] at htail
    exact htail.trans (State.ageSlot_out hn hdel x (State.age_outside s n _ hslot))

/-- Every valid slot that passes parity is one older once its bucket has been aged. -/
theorem State.ageSlots_age (l : List Slot) : ∀ {s : State}, s.tFar n = false → (∀ x ∈ l, x.bucket = b) →
    l.Pairwise (fun x y => x.slot ≠ y.slot) → ∀ x ∈ l, x.valid = true → x.good = true →
      (l.foldl (fun v x => v.ageSlot n pol x) s).mem.tblram.rd (s.tAddr n b x.slot + 1) = B8 (min (x.age + 1) 255) := by
  induction l with
  | nil => exact fun _ _ _ _ hx => absurd hx List.not_mem_nil
  | cons y l ih =>
    intro s hn hbucket hslots x hx hvalid hgood
    obtain ⟨hfirst, hslots⟩ := List.pairwise_cons.1 hslots
    have hwork := TableWork.ageSlot hn pol y
    have hbucket' : ∀ z ∈ l, z.bucket = b := fun z hz => hbucket z (List.mem_cons_of_mem _ hz)
    rw [List.foldl_cons, ← hwork.tAddr hn]
    rcases List.mem_cons.1 hx with rfl | hx
    · rw [State.ageSlots_out hdel l (hwork.far_off hn) fun z hz => ⟨hbucket' z hz, (hfirst z hz).symm⟩,
        hwork.tAddr hn, State.ageSlot_valid hdel hgood hvalid, hbucket x hx]
      exact State.putSlot_age hn ..
    · exact ih (hwork.far_off hn) hbucket' hslots x hx hvalid hgood

end

/-- The update unit at the work of a visit: a locked bucket stays as it is, the slots of any other grow older. -/
theorem State.ageBucket_ages (hready : s.tReady n = true) (hn : s.tFar n = false) (hflips : s.hub.flips = []) (b : Nat) :
    (s.bLocked n b = true → (s.ageBucket n b pol).mem = s.mem) ∧
      (s.bLocked n b = false → getF pol 23 16 = 0 → ∀ x ∈ s.slots n b, x.valid = true → x.good = true →
        (s.ageBucket n b pol).mem.tblram.rd (s.tAddr n b x.slot + 1) = B8 (min (x.age + 1) 255)) := by
  rw [State.ageBucket_clean hready hn hflips]
  constructor
  · intro hlocked
    rw [if_pos hlocked]
    exact s.detect_mem ..
  · intro hlocked hdel x hx hvalid hgood
    have hwork := TableWork.detect s n (s.slots n b)
    rw [if_neg (by simp [hlocked]), ← hwork.tAddr hn]
    exact State.ageSlots_age hdel _ (hwork.far_off hn) (fun _ => State.slots_bucket) (s.slots_pairwise n b) x hx hvalid hgood

end
end Sys2Proof.Machine

namespace Sys2Proof.Machine
open Sys2Proof

/-! ### The steps of the aging scanner and of the cache flush (R297, R298) -/

section
variable {s : State} {n : Nat}

/-- A visit that is due goes to the update unit, and the scanner moves on (R297). -/
theorem State.ageVisit_moves (s : State) (n : Nat) :
    Tab.get 0 (s.ageVisit n).look.ageNext n =
        (if Tab.get 0 s.look.ageNext n + 1 < s.tBuckets n then Tab.get 0 s.look.ageNext n + 1 else 0) ∧
      (s.ageVisit n).help.updates = s.help.updates ++ [.aging n (Tab.get 0 s.look.ageNext n) (s.reg (Reg.TBL_POLICY n))] ∧
      { s.ageVisit n with look := s.look, help := s.help } = s := by
  simp only [State.ageVisit, State.arrive]
  split <;> exact ⟨by simp, rfl, rfl⟩

theorem exec_agingVisit (hrun : s.running = true) (hready : s.tReady n = true) (hdue : s.ageDue n = true) :
    exec (.agingVisit n) s = .next (s.ageVisit n) := by
  change execAgingVisit n s = _
  rw [execAgingVisit, hrun, hready, hdue]
  rfl

theorem exec_agingVisit_early (h : s.ageDue n = false) : exec (.agingVisit n) s = .next s := by
  change execAgingVisit n s = _
  rw [execAgingVisit, h, Bool.and_false]
  rfl

/-- The work of a visit at the update unit leaves the locks, and does to the bucket what aging does. -/
theorem State.updateApply_aging {d : Nat} {pol : Word} {rest : List Update}
    (hu : s.help.updates = .aging n d pol :: rest) (hready : s.tReady n = true) (hn : s.tFar n = false)
    (hflips : s.hub.flips = []) :
    (s.updateApply none).look.locks = s.look.locks ∧
      (s.bLocked n d = true → (s.updateApply none).mem = s.mem) ∧
      (s.bLocked n d = false → getF pol 23 16 = 0 → ∀ x ∈ s.slots n d, x.valid = true → x.good = true →
        (s.updateApply none).mem.tblram.rd (s.tAddr n d x.slot + 1) = B8 (min (x.age + 1) 255)) := by
  obtain ⟨hub, l, heq, -, hlocks, -, -, hhub⟩ := State.atUpdate_rest (s := s) none (.aging n d pol)
  obtain rfl := hhub rfl
  have hdone := State.updDo_atUpdate (s := s) (u := .aging n d pol) hn none
  rw [State.updateApply_near hu hn]
  rw [heq] at hdone ⊢
  have hages := State.ageBucket_ages (s := { s with look := l }) (n := n) (pol := pol) hready hn hflips d
  have hlocked : State.bLocked { s with look := l } n d = s.bLocked n d := by simp only [State.bLocked, hlocks]
  rw [hlocked] at hages
  exact ⟨hdone.locks.trans hlocks, hages⟩

/-- A flush empties the lookup cache and shows FLUSH (R298). -/
theorem State.cacheFlush_flag (s : State) : s.cacheFlush.flag Reg.TBL_CACHE_CTRL 0 = true :=
  (congrArg (bitOf · 0) (State.reg_setFld s Reg.TBL_CACHE_CTRL 0 0 1 Reg.TBL_CACHE_CTRL)).trans
    ((congrArg (bitOf · 0) (if_pos rfl)).trans (bitOf_setF_same _ 1 (by decide)))

theorem State.cacheFlush_reg {k : Nat} (hk : k ≠ Reg.TBL_CACHE_CTRL) : s.cacheFlush.reg k = s.reg k :=
  (State.reg_setFld s Reg.TBL_CACHE_CTRL 0 0 1 k).trans (if_neg hk)

theorem exec_cacheFlush {m : Master} {v : Word} (h : CanWrite s m Reg.TBL_CACHE_CTRL) (hv : v.getLsbD 0 = true) :
    exec (.cacheFlush m v) s = .next s.cacheFlush := by
  have hwrite : s.busWrite m Reg.TBL_CACHE_CTRL v = if bitOf v 0 then s.cacheFlush else s :=
    State.busWrite_of_canWrite v h rfl rfl rfl (by decide) rfl
  change execCacheFlush m v s = _
  rw [execCacheFlush, hwrite, bitOf_eq_getLsbD, hv, if_pos rfl]

end

/-- Settles O26: a visit of the scanner is one entry of the update queue, the update unit ages the four slots of its bucket
one after another, and every update of a table in the table SRAM is over within its step. -/
theorem tableAgingCacheAndUpdates : Obligations.TableAgingCacheAndUpdates := by
  unfold Obligations.TableAgingCacheAndUpdates
  refine ⟨fun s m v n _ hrun => ⟨fun hready hdue => ⟨_, exec_agingVisit hrun hready hdue, s.ageVisit_moves n⟩,
    exec_agingVisit_early, ?_, ?_, ?_⟩, ?_⟩
  · intro d pol rest hu hready hn hflips
    have hop : ∀ k p, Update.aging n d pol ≠ .op k p := nofun
    obtain ⟨t, hexec, hupdates, hctxs, ht⟩ :=
      State.updateUnitApply_leaves (ue := none) hrun hu (fun k p h => absurd h (hop k p)) (.inl hn)
    obtain rfl := ht hop
    obtain ⟨hlocks, hlocked, hages⟩ := State.updateApply_aging hu hready hn hflips
    refine ⟨_, hexec, hupdates, hctxs, hlocks, hlocked, fun hfree hdel l k x hl hx hvalid hgood => ?_⟩
    rw [State.bucket_clean hn hflips] at hl
    obtain rfl := Option.some.inj hl
    obtain ⟨-, rfl⟩ := State.slots_get hx
    exact hages hfree hdel x (List.mem_of_getElem? hx) hvalid hgood
  · exact fun hwrite hv => ⟨_, exec_cacheFlush hwrite hv, rfl, s.cacheFlush_flag, fun _ => State.cacheFlush_reg, rfl⟩
  · refine ⟨_, rfl, ?_, rfl⟩
    rw [State.flag, State.reg_setFld, if_pos rfl, bitOf_setF_same _ _ (by decide)]
    rfl
  · intro s ue u rest hrun hu hring hfar
    obtain ⟨t, hexec, hupdates, hctxs, ht⟩ := State.updateUnitApply_leaves hrun hu hring hfar
    refine ⟨t, hexec, hupdates, hctxs, ?_⟩
    rintro id pol k rfl hk
    obtain rfl := ht nofun
    exact State.updateApply_helper hu hk hfar

end Sys2Proof.Machine

namespace Sys2Proof.Machine
open Sys2Proof

/-! ### Rules of a Leash lock (R199, R202, R203, R205) -/

/-- A lock depends on the Leash alone. -/
theorem State.lock_congr {s t : State} (h : t.leash = s.leash) (i : Nat) : t.lock i = s.lock i := by
  rw [State.lock, State.lock, h]

section
variable {s : State} {i id : Nat}

/-- A reader without its access bit is denied (R199). -/
theorem State.leashRead_denied (hacc : s.leashAcc (i / 64) id = false) :
    s.leashRead i id = (.status 4, s.leashDeny i id false) := by
  simp only [State.leashRead, hacc, Bool.not_false, if_true]

/-- A reader with access takes a free lock (R199). -/
theorem State.leashRead_free (hacc : s.leashAcc (i / 64) id = true) (hfree : s.lock i = {}) :
    s.leashRead i id = (.status 1, s.setLock i { owner := BitVec.ofNat 16 id }) := by
  simp only [State.leashRead, hacc, hfree]
  rfl

/-- A reader with access takes a broken lock and hears who lost it (R199, R208). -/
theorem State.leashRead_broken (hacc : s.leashAcc (i / 64) id = true) (howner : (s.lock i).owner = 0)
    (hbroken : (s.lock i).broken = true) : s.leashRead i id = (.status ((s.lock i).prior ++ 3#16),
      s.setLock i { s.lock i with owner := BitVec.ofNat 16 id, broken := false, prior := 0 }) := by
  have hprior : (s.lock i).prior ++ 3#16 = W ((s.lock i).prior.toNat * 0x10000 + 3) := by
    have hlt := (s.lock i).prior.isLt
    have hnat : (W ((s.lock i).prior.toNat * 0x10000 + 3)).toNat = (s.lock i).prior.toNat * 0x10000 + 3 :=
      (BitVec.toNat_ofNat ..).trans (Nat.mod_eq_of_lt (by omega))
    refine BitVec.eq_of_toNat_eq ?_
    rw [hnat, BitVec.toNat_append, ← Nat.shiftLeft_add_eq_or_of_lt (by simp), Nat.shiftLeft_eq]
    rfl
  simp only [State.leashRead, hacc, howner, hbroken, hprior]
  rfl

/-- The owner of a lock reads that it has it (R202). -/
theorem State.leashRead_owned (hacc : s.leashAcc (i / 64) id = true) (howner : (s.lock i).owner = BitVec.ofNat 16 id)
    (hid : BitVec.ofNat 16 id ≠ 0) : s.leashRead i id = (.status 1, s) := by
  simp only [State.leashRead, hacc, howner, hid, if_false, if_true]
  rfl

/-- A reader other than the host and the debugger stalls behind another owner while the group has a timeout (R203). -/
theorem State.leashRead_stall (hacc : s.leashAcc (i / 64) id = true) (howner : (s.lock i).owner ≠ 0)
    (hother : (s.lock i).owner ≠ BitVec.ofNat 16 id) (htmo : 0 < s.fld (Reg.LEASH_GRP_TMO (i / 64)) 19 0)
    (hid : id ≠ 0x3000 ∧ id ≠ 0x5000) :
    s.leashRead i id = (.stall, s.setLock i { s.lock i with
      queue := (s.lock i).queue ++
        [⟨BitVec.ofNat 16 id, s.fr, s.fr + s.fld (Reg.LEASH_GRP_TMO (i / 64)) 19 0 * 128⟩] }) := by
  have hwaits : ¬ (s.fld (Reg.LEASH_GRP_TMO (i / 64)) 19 0 = 0 ∨ id = 0x3000 ∨ id = 0x5000) := by omega
  simp only [State.leashRead, hacc, howner, hother, hwaits, if_false]
  rfl

/-- A write by the owner passes the lock on (R205). -/
theorem State.leashWrite_owner (howner : (s.lock i).owner = BitVec.ofNat 16 id) (hid : id ≠ 0) :
    s.leashWrite i id = s.leashPass i 1 := if_pos ⟨howner, hid⟩

/-- A write by anyone else is denied (R205). -/
theorem State.leashWrite_other (howner : (s.lock i).owner ≠ BitVec.ofNat 16 id) :
    s.leashWrite i id = s.leashDeny i id true := if_neg fun h => howner h.1

/-- A lock that passes on without waiters is free (R205). -/
theorem State.leashPass_free (hqueue : (s.lock i).queue = []) (v : Word) :
    s.leashPass i v = s.setLock i { s.lock i with owner := 0 } := by
  simp only [State.leashPass, hqueue]

/-- A lock passes on to the head of its queue (R205). -/
theorem State.leashPass_head {w : Waiter} {rest : List Waiter} (hqueue : (s.lock i).queue = w :: rest) (v : Word) :
    s.leashPass i v = (s.setLock i { s.lock i with owner := w.id, queue := rest }).leashReply w.id.toNat v := by
  simp only [State.leashPass, hqueue]

end

/-- A status for a peer of the fabric goes out in a frame (R457). -/
theorem State.leashReply_fabric (s : State) {id : BitVec 16} (h : id.toNat / 0x1000 = 4) (v : Word) :
    s.leashReply id.toNat v = s.fabStatus (id.toNat - 0x4000) v := by
  rw [State.leashReply, if_neg (by omega), if_pos h]

/-- A status for a master that is neither a context nor a peer joins the replies. -/
theorem State.leashReply_master (s : State) {id : BitVec 16} (hctx : id.toNat / 0x1000 ≠ 1) (hfab : id.toNat / 0x1000 ≠ 4)
    (v : Word) : s.leashReply id.toNat v =
      { s with leash := { s.leash with replies := s.leash.replies ++ [(id, v)] } } := by
  rw [State.leashReply, if_neg hctx, if_neg hfab, BitVec.ofNat_toNat, BitVec.setWidth_eq]

/-! ### What a denial leaves (R217, R218) -/

theorem State.logFirst_onlyRegs (s : State) (off vb ob : Nat) (v : Word) : OnlyRegs s (s.logFirst off vb ob v) [off] := by
  rw [State.logFirst]
  constructor
  · intro k hk
    have hk : k ≠ off := by simpa using hk
    split
    · rw [State.reg_setFld, if_neg hk]
    · rw [State.reg_setReg, if_neg hk]
  · split <;> rfl

theorem State.leashDeny_leash (s : State) (i id : Nat) (write : Bool) : (s.leashDeny i id write).leash = s.leash :=
  (congrArg State.leash (State.raise_rest ..) :).trans (congrArg State.leash (s.logFirst_onlyRegs _ 15 14 _).2 :)

/-- A denial is counted (R218). -/
theorem State.leashDeny_count (s : State) (i id : Nat) (write : Bool) :
    (s.leashDeny i id write).reg Reg.LEASH_DENY_CNT = W (satInc 32 (s.reg Reg.LEASH_DENY_CNT).toNat) := by
  rw [State.leashDeny, State.raise_reg _ (by decide), State.reg_bump, if_pos rfl, (s.logFirst_onlyRegs ..).1 _ (by decide)]

end Sys2Proof.Machine

namespace Sys2Proof.Machine
open Sys2Proof

/-! ### Loads beside a change outside contexts and engines -/

section
variable {s u : State} {c : Nat} {f : State → State}

/-- A load into register `r` once the base register has taken its value. -/
theorem Wrote.loadAfterBase {b : Option (Nat × Nat)}
    (h : Wrote s u c { wr := fun k => b.bind fun x => if k = x.1 then some (W x.2) else none, st := f })
    (hexp : u.exposed c = s.exposed c) {r : Nat} (hr : r < 24) (hb : ∀ x ∈ b, x.1 ≠ r) (v : Word) :
    Wrote s (u.land c r v) c { loadEffect (s.exposed c) r v b with st := f } := by
  have hload := h.land hr v
  rw [hexp] at hload
  cases b with
  | none =>
    rw [loadEffect_none]
    split at hload
    · next hl => rw [if_pos hl]; exact hload
    · next hl => rw [if_neg hl]; exact hload
  | some x =>
    rw [loadEffect_some _ _ (hb x rfl)]
    split at hload
    · next hl => rw [if_pos hl]; exact hload
    · next hl => rw [if_neg hl]; exact hload

/-- The context waits, beside what it has written. -/
theorem Wrote.wait {e : Effect} (h : Wrote s u c e) (hown : e.own = id) (w : Wait) :
    Wrote s (u.updCtx c fun x => { x with wait := w }) c { e with own := fun x => { x with wait := w } } := by
  generalize hu : (u.updCtx c fun x => { x with wait := w }) = u'
  have hself : u'.ctx c = { u.ctx c with wait := w } := by rw [← hu, State.ctx_updCtx, if_pos rfl]
  have hother : ∀ k, k ≠ c → u'.ctx k = u.ctx k := fun k hk => by rw [← hu, State.ctx_updCtx, if_neg hk]
  have heng : ∀ k, u'.eng k = u.eng k := fun k => by rw [← hu]; rfl
  cases e
  subst hown
  exact
    { rest := by rw [← hu]; exact h.rest
      engines := fun k hk => by rw [heng]; exact h.engines k hk
      engine := by rw [heng]; exact h.engine
      issue := by rw [heng]; exact h.issue
      regs := fun k => by rw [← h.regs k, State.greg, State.greg, hself, heng]
      contexts := fun k hk => by rw [hother k hk]; exact h.contexts k hk
      mlo := by rw [hself]; exact h.mlo
      mhi := by rw [hself]; exact h.mhi
      delayed := by rw [hself]; exact h.delayed
      flags := by rw [hself]; exact h.flags
      pc := by rw [hself]; exact h.pc
      live := by rw [hself]; exact h.live
      stepping := by rw [hself]; exact h.stepping
      own := by rw [hself]; exact congrArg (fun x : Ctx => { x with wait := w }) h.own }

end

/-! ### Leash locks of an engine (R101, R199 to R205) -/

section
variable {s t : State} {c i : Nat} {o : Operands} {len : Nat}

theorem State.ioRead_leash_status {v : Word} (hi : i < 4096) (h : s.leashRead i (ownerId c) = (.status v, t)) :
    s.ioRead c (0x1000 + i) = (.value v, t) := by
  have hport : 0x1000 ≤ 0x1000 + i ∧ 0x1000 + i < 0x2000 := by omega
  simp only [State.ioRead, if_pos hport, Nat.add_sub_cancel_left, h]

theorem State.ioRead_leash_stall (hi : i < 4096) (h : s.leashRead i (ownerId c) = (.stall, t)) :
    s.ioRead c (0x1000 + i) = (.stall i, t) := by
  have hport : 0x1000 ≤ 0x1000 + i ∧ 0x1000 + i < 0x2000 := by omega
  simp only [State.ioRead, if_pos hport, Nat.add_sub_cancel_left, h]

theorem State.ioWrite_leash (hi : i < 4096) (v : Word) :
    s.ioWrite c (0x1000 + i) v = Eff.ok (s.leashWrite i (ownerId c)) := by
  have hport : 0x1000 ≤ 0x1000 + i ∧ 0x1000 + i < 0x2000 := by omega
  simp only [State.ioWrite, if_pos hport, Nat.add_sub_cancel_left]

/-- The owner ID of a context names an owner. -/
theorem ownerId_ne_zero (hc : c < 4096) : BitVec.ofNat 16 (ownerId c) ≠ 0 := by
  intro h
  have hnat := congrArg BitVec.toNat h
  rw [BitVec.toNat_ofNat, ownerId, Nat.mod_eq_of_lt (by omega)] at hnat
  simp at hnat

/-- A Leash lock changes, beside what the instruction has written. -/
theorem Wrote.setLock {u : State} {e : Effect} (h : Wrote s u c e) (hst : e.st = id) (i : Nat) (l : Lock) :
    Wrote s (u.setLock i l) c { e with st := fun r => r.setLock i l } := by
  have hrest := h.rest
  rw [hst] at hrest
  exact h.outside (congrArg (fun r : State => r.setLock i l) hrest) rfl rfl

/-- An IN of a lock that answers 1 at once, beside what the Leash does by it (R199, R202). -/
theorem State.exec_inp_granted {u : State} {f : State → State} (h : s.issued .inp c o = some len)
    (hport : o.imm.toNat % 65536 = 0x1000 + i) (hi : i < 4096)
    (hread : (s.clearIssue (engOf c)).leashRead i (ownerId c) = (.status 1, u)) (hu : Wrote s u c { st := f })
    (hexp : u.exposed c = s.exposed c) : ∃ t, exec (.inp c o) s = .next t ∧
      Ran s t c len { loadEffect (s.exposed c) (regNo o o.d) 1 none with st := f } := by
  have hone : W ((1 : Word).toNat % 2 ^ o.bits) = 1 := by
    unfold Operands.bits
    cases o.w <;> cases o.h <;> rfl
  refine State.runIssue_seq (body := bodyIn .inp) h ?_
    (hu.loadAfterBase (b := none) hexp (regNo_lt o o.d) (fun _ h => nomatch h) 1) rfl
  simp only [bodyIn, State.portOf_inp, hport, State.ioRead_leash_status hi hread, hone]

/-- An IN of a lock that another owner has: the context joins the queue and waits (R203). -/
theorem State.exec_inp_stalled {l : Lock} (h : s.issued .inp c o = some len)
    (hport : o.imm.toNat % 65536 = 0x1000 + i) (hi : i < 4096)
    (hread : (s.clearIssue (engOf c)).leashRead i (ownerId c) = (.stall, (s.clearIssue (engOf c)).setLock i l)) :
    ∃ t, exec (.inp c o) s = .next t ∧ Ran s t c len
      { own := fun x => { x with wait := .leash i (regNo o o.d) o.size }, st := fun r => r.setLock i l } := by
  refine State.runIssue_seq (body := bodyIn .inp) h ?_
    (((wrote_clearIssue s c).setLock rfl i l).wait rfl (.leash i (regNo o o.d) o.size)) rfl
  simp only [bodyIn, State.portOf_inp, hport, State.ioRead_leash_stall hi hread]

/-- An OUT to a lock, when the Leash does no more by it than change the lock (R205). -/
theorem State.exec_outp_lock {l : Lock} (h : s.issued .outp c o = some len)
    (hport : o.imm.toNat % 65536 = 0x1000 + i) (hi : i < 4096)
    (hwrite : (s.clearIssue (engOf c)).leashWrite i (ownerId c) = (s.clearIssue (engOf c)).setLock i l) :
    ∃ t, exec (.outp c o) s = .next t ∧ Ran s t c len { st := fun r => r.setLock i l } := by
  refine State.runIssue_seq (body := bodyOut .outp) h ?_ ((wrote_clearIssue s c).setLock rfl i l) rfl
  rw [bodyOut_eq (op := .outp) hport, State.ioWrite_leash hi, hwrite]

end

/-! ### Memory-word locks of an engine (R211) -/

theorem State.mwPut_outside (s : State) (m w n v : Nat) (a : Tab Ctx) (b : Tab Eng) :
    ({ s with ctxs := a, engs := b } : State).mwPut m w n v = { s.mwPut m w n v with ctxs := a, engs := b } := by
  unfold State.mwPut
  split <;> rfl

theorem State.mwPut_exposed (s : State) (m w n v c : Nat) : (s.mwPut m w n v).exposed c = s.exposed c := by
  unfold State.mwPut
  split <;> rfl

theorem State.mwRead_congr {s t : State} (h : t.mem = s.mem) (m w n : Nat) : t.mwRead m w n = s.mwRead m w n := by
  rw [State.mwRead, State.mwRead, h]

/-- A word of a memory reads as what was put there. -/
theorem State.mwRead_mwPut (s : State) (m w n v : Nat) : (s.mwPut m w n v).mwRead m w n = v % 256 ^ n := by
  unfold State.mwRead State.mwPut
  split
  · exact Mem.rdN_wrN ..
  · exact Mem.rdN_wrN ..

/-- The counts of LEASH_MW_STAT are registers. -/
theorem State.peakF_regs (s : State) (off hi lo x : Nat) : { s.peakF off hi lo x with regs := s.regs } = s := by
  unfold State.peakF
  split <;> rfl

section
variable {s : State} {c : Nat} {o : Operands} {len m w : Nat}

/-- The table of waiters of memory `m` with context `c` behind the others for word `w`. -/
def State.mwQueued (s : State) (m w c : Nat) : Leash :=
  { s.leash with mwq := Tab.set [] s.leash.mwq m (Tab.get [] s.leash.mwq m ++ [(w, c)]) }

/-- An ACQ load of a free word takes it. -/
theorem State.mwAcquire_free (hfree : s.mwRead m w 4 = 0) (r : Nat) :
    s.mwAcquire m w c r = (s.mwPut m w 4 (ownerId c)).land c r 0 := by
  simp only [State.mwAcquire, hfree, if_true]

/-- An ACQ load of a taken word waits while the table has room. -/
theorem State.mwAcquire_wait (htaken : s.mwRead m w 4 ≠ 0) (hroom : (Tab.get [] s.leash.mwq m).length < 16) (r : Nat) :
    s.mwAcquire m w c r = ({ s.updCtx c fun x => { x with wait := .memWord m w r } with
      leash := s.mwQueued m w c }).peakF (Reg.LEASH_MW_STAT m) 4 0 ((Tab.get [] s.leash.mwq m).length + 1) := by
  simp only [State.mwAcquire, htaken, hroom, if_true, if_false]
  rfl

/-- The base after a load into another register than its own (R108). -/
theorem base_ne_dest (hd : o.m.toNat < 4 ∨ o.d ≠ o.s) : ∀ x ∈ baseAfter s c o, x.1 ≠ regNo o o.d := by
  intro x hx
  rw [baseAfter, Option.mem_map] at hx
  obtain ⟨v, hv, rfl⟩ := hx
  rcases hd with hm | hd
  · rw [State.ea_base_none c hm] at hv
    cases hv
  · exact regNo_injective o hd.symm

/-- The body of an ACQ load that meets no bit error (R211). -/
theorem State.bodyLd_lock (hflips : s.hub.flips = []) (hal : (s.ea c o).1 % o.size = 0)
    (hlock : isMwLock o (s.ea c o).1 = true) (hplace : s.mwPlace c (s.ea c o).1 = (m, w)) :
    bodyLd c o (s.clearIssue (engOf c)) =
      Eff.ok (((s.clearIssue (engOf c)).putBase c o (s.ea c o).2).mwAcquire m w c (regNo o o.d)) := by
  have hplace' : (s.clearIssue (engOf c)).mwPlace c (s.ea c o).1 = (m, w) := hplace
  simp only [bodyLd, State.ea_clearIssue, State.dcheck_clean (s := s.clearIssue (engOf c)) hflips, hlock, hplace']
  rw [if_neg (by simpa using hal)]
  rfl

/-- A latched ACQ load of a word lock, by either of its rows (R211). -/
theorem exec_acqLoad (hlock : isMwLock o (s.ea c o).1 = true) :
    ∀ row ∈ [Instr.ld c o, Instr.memoryWordLockAcquire c o], exec row s = s.runIssue .ld c o bodyLd := by
  simp only [List.forall_mem_cons]
  exact ⟨rfl, if_pos hlock, fun _ h => nomatch h⟩

section
variable (h : s.issued .ld c o = some len) (hflips : s.hub.flips = []) (hal : (s.ea c o).1 % o.size = 0)
  (hlock : isMwLock o (s.ea c o).1 = true) (hplace : s.mwPlace c (s.ea c o).1 = (m, w))
include h hflips hal hlock hplace

/-- A free word is taken (R211). -/
theorem State.runIssue_ld_taken (hc : c < 4096) (hd : o.m.toNat < 4 ∨ o.d ≠ o.s) (hfree : s.mwRead m w 4 = 0) :
    ∃ t, s.runIssue .ld c o bodyLd = .next t ∧ Ran s t c len
      { loadEffect (s.exposed c) (regNo o o.d) 0 (baseAfter s c o) with st := fun r => r.mwPut m w 4 (ownerId c) } ∧
      t.mwRead m w 4 = ownerId c := by
  have hbase := (wrote_clearIssue s c).base rfl o
  generalize hu : (s.clearIssue (engOf c)).putBase c o (s.ea c o).2 = u at hbase
  have hput := hbase.outside (u' := u.mwPut m w 4 (ownerId c)) (f := fun r => r.mwPut m w 4 (ownerId c))
    (by rw [← State.mwPut_outside, hbase.rest]; rfl) (by unfold State.mwPut; split <;> rfl)
    (by unfold State.mwPut; split <;> rfl)
  have hexp : (u.mwPut m w 4 (ownerId c)).exposed c = s.exposed c := by
    rw [State.mwPut_exposed, State.exposed, State.flag, hbase.reg rfl]
    rfl
  have hmem : u.mem = s.mem := (congrArg State.mem hbase.rest :)
  have hacq : u.mwAcquire m w c (regNo o o.d) = (u.mwPut m w 4 (ownerId c)).land c (regNo o o.d) 0 :=
    State.mwAcquire_free ((State.mwRead_congr hmem ..).trans hfree) _
  have hbody := State.bodyLd_lock hflips hal hlock hplace
  rw [hu, hacq] at hbody
  have hload := hput.loadAfterBase (b := baseAfter s c o) hexp (regNo_lt o o.d) (base_ne_dest hd) 0
  obtain ⟨t, ht, hran⟩ := State.runIssue_seq h hbody hload rfl
  have hmem' : t.mem = (s.mwPut m w 4 (ownerId c)).mem := (congrArg State.mem hran.rest :)
  refine ⟨t, ht, hran, ?_⟩
  rw [State.mwRead_congr hmem', State.mwRead_mwPut, ownerId, Nat.mod_eq_of_lt (by omega)]

/-- The context waits for a taken word (R211). -/
theorem State.runIssue_ld_waits (htaken : s.mwRead m w 4 ≠ 0) (hroom : (Tab.get [] s.leash.mwq m).length < 16) :
    ∃ t, s.runIssue .ld c o bodyLd = .next t ∧ Ran s t c len
      { wr := storeBase s c o
        own := fun x => { x with wait := .memWord m w (regNo o o.d) }
        st := fun r => { r with leash := t.leash, regs := t.regs } } ∧
      Tab.get [] t.leash.mwq m = Tab.get [] s.leash.mwq m ++ [(w, c)] ∧ t.leash.locks = s.leash.locks := by
  have hbase := (wrote_clearIssue s c).base rfl o
  generalize hu : (s.clearIssue (engOf c)).putBase c o (s.ea c o).2 = u at hbase
  have hmem : u.mem = s.mem := (congrArg State.mem hbase.rest :)
  have hleash : u.leash = s.leash := (congrArg State.leash hbase.rest :)
  have hacq := State.mwAcquire_wait (s := u) (c := c) (m := m) (w := w) (by rwa [State.mwRead_congr hmem])
    (by rwa [hleash]) (regNo o o.d)
  have hqueued : u.mwQueued m w c = s.mwQueued m w c := by rw [State.mwQueued, hleash]; rfl
  rw [hqueued] at hacq
  generalize hv : u.mwAcquire m w c (regNo o o.d) = v at hacq
  have hregs := State.peakF_regs { u.updCtx c fun x => { x with wait := .memWord m w (regNo o o.d) } with
      leash := s.mwQueued m w c } (Reg.LEASH_MW_STAT m) 4 0 ((Tab.get [] u.leash.mwq m).length + 1)
  rw [← hacq] at hregs
  have hwaits := (hbase.wait rfl (.memWord m w (regNo o o.d))).outside (u' := v)
    (f := fun r => { r with leash := s.mwQueued m w c, regs := v.regs }) ?_ (congrArg State.ctxs hregs :)
    (congrArg State.engs hregs :)
  · obtain ⟨t, ht, hran⟩ := State.runIssue_seq (body := bodyLd) h
      (by rw [State.bodyLd_lock hflips hal hlock hplace, hu, hv]) hwaits rfl
    have hregs' : t.regs = v.regs := (congrArg State.regs hran.rest :)
    have hleash' : t.leash = s.mwQueued m w c := (congrArg State.leash hran.rest :)
    rw [← hregs', ← hleash'] at hran
    refine ⟨t, ht, hran, ?_, ?_⟩
    · rw [hleash', State.mwQueued, Tab.get_set, if_pos rfl]
    · rw [hleash', State.mwQueued]
  · exact (congrArg (fun r : State => { r with ctxs := s.ctxs, engs := s.engs, regs := v.regs }) hregs).trans
      (congrArg (fun r : State => { r with leash := s.mwQueued m w c, regs := v.regs }) hbase.rest)

end

end

end Sys2Proof.Machine

namespace Sys2Proof.Machine
open Sys2Proof

/-! ### Lock registers and access registers of the bus (R198, R210, R219) -/

def leashLockRow : RegDesc := ⟨.LEASH_LOCK, 0x400000, [(4096, 4)], .always, 0, [⟨0, 32, .raq⟩]⟩
def leashAccLoRow : RegDesc := ⟨.LEASH_GRP_ACC_LO, 0x404000, [(64, 0x10)], .always, 0xFFFFFFFF, [⟨0, 32, .rw⟩]⟩
def leashAccHiRow : RegDesc := ⟨.LEASH_GRP_ACC_HI, 0x404004, [(64, 0x10)], .always, 0x11, [⟨0, 8, .rw⟩]⟩

theorem findReg_leashLock {i : Nat} (hi : i < 4096) : findReg (Reg.LEASH_LOCK i) = some (leashLockRow, [i]) :=
  findReg_array (r := leashLockRow) (st := 4) (l := regTable.take 56) (t := regTable.drop 57)
    (by decide +kernel) rfl (by decide) (by decide +kernel) hi

theorem findReg_leashAccLo {g : Nat} (hg : g < 64) : findReg (Reg.LEASH_GRP_ACC_LO g) = some (leashAccLoRow, [g]) :=
  findReg_array (r := leashAccLoRow) (st := 0x10) (l := regTable.take 57) (t := regTable.drop 58)
    (by decide +kernel) rfl (by decide) (by decide +kernel) hg

/-- The high half stands in the same 16 bytes as the low half. -/
theorem findReg_leashAccHi {g : Nat} (hg : g < 64) : findReg (Reg.LEASH_GRP_ACC_HI g) = some (leashAccHiRow, [g]) := by
  have hmap : regTable = regTable.take 57 ++ ([leashAccLoRow, leashAccHiRow] ++ regTable.drop 59) := by decide +kernel
  have hmiss : ∀ q ∈ regTable.take 57, q.misses 0x404000 0x404400 = true := by decide +kernel
  rw [findReg, hmap, findRegIn_append_of_misses (lo := 0x404000) (hi := 0x404400) (by unfold Reg.LEASH_GRP_ACC_HI; omega)
    (by unfold Reg.LEASH_GRP_ACC_HI; omega) _ _ hmiss]
  exact findRegIn_stride (lo := 0x404004) (hi := 0x404010) hg le_rfl (by decide) _ _ (by decide) (by decide)

section
variable {s : State} {m : Master} {i : Nat}

/-- Who is on the bus is neither a context nor a peer of the fabric (R198). -/
theorem State.onBus_cases (h : s.onBus m = true) : m = .host ∨ m = .debug ∨ ∃ k < 2, m = .keeper k := by
  cases m with
  | host => exact .inl rfl
  | debug => exact .inr (.inl rfl)
  | keeper k =>
    rw [State.onBus, Bool.and_eq_true, decide_eq_true_eq] at h
    exact .inr (.inr ⟨k, h.1, rfl⟩)
  | ctx c => cases h
  | fabric d => cases h

theorem masterOwner_ne_zero (m : Master) : Master.owner m ≠ 0 := by
  cases m <;> simp [Master.owner]

/-- A lock register is no Firmware block: FW_OWN holds nobody back from it (R31). -/
theorem canWrite_leash (h : s.onBus m = true) {off : Nat} (hlo : 0x400000 ≤ off) (hhi : off < 0x500000) :
    CanWrite s m off :=
  canWrite_of_onBus h (by unfold Reg.SYS_OWN; omega) (by simp [fwBlock]; omega)

/-- A read of a lock by a master on the bus (R199). -/
theorem State.exec_leashAcquire_bus (h : s.onBus m = true) (hi : i < 4096) (o : Operands) :
    exec (.leashAcquire m i o) s = .next (s.lockRead m i) := by
  have hread : s.busRead m (Reg.LEASH_LOCK i) = s.lockRead m i := by
    have hal : Reg.LEASH_LOCK i % 4 = 0 := by unfold Reg.LEASH_LOCK; omega
    simp only [State.busRead, h, hal, findReg_leashLock hi]
    rfl
  have hrow : exec (.leashAcquire m i o) s = .next (s.busRead m (Reg.LEASH_LOCK i)) := by
    rcases State.onBus_cases h with rfl | rfl | ⟨k, -, rfl⟩ <;> exact if_neg (by omega)
  rw [hrow, hread]

/-- A write of a lock by a master on the bus (R205). -/
theorem State.exec_leashRelease_bus (h : s.onBus m = true) (hi : i < 4096) (o : Operands) :
    exec (.leashRelease m i o) s = .next (s.leashWrite i (Master.owner m)) := by
  have hwrite : s.busWrite m (Reg.LEASH_LOCK i) o.imm = s.leashWrite i (Master.owner m) :=
    State.busWrite_of_canWrite o.imm
      (canWrite_leash h (by unfold Reg.LEASH_LOCK; omega) (by unfold Reg.LEASH_LOCK; omega))
      (by unfold Reg.LEASH_LOCK; omega) (by simp [metWindow, Reg.LEASH_LOCK]; omega) (findReg_leashLock hi) (by decide) rfl
  have hrow : exec (.leashRelease m i o) s = .next (s.busWrite m (Reg.LEASH_LOCK i) o.imm) := by
    rcases State.onBus_cases h with rfl | rfl | ⟨k, -, rfl⟩ <;> exact if_neg (by omega)
  rw [hrow, hwrite]

/-- The answer to a read of a lock that does not stall (R199). -/
theorem State.lockRead_status {v : Word} {t : State} (h : s.leashRead i (Master.owner m) = (.status v, t)) :
    s.lockRead m i = { t with rdata := v } := by
  rw [State.lockRead, h]
  rfl

/-- A group without waiters has nobody to send away (R210). -/
theorem State.leashRecheck_idle {g : Nat} (h : ∀ n, n < 64 → (s.lock (g * 64 + n)).queue = []) : s.leashRecheck g = s := by
  refine List.foldlRecOn (motive := fun t : State => t = s) _ _ rfl fun t ht n hn => ?_
  subst ht
  simp only [h n (List.mem_range.1 hn), List.foldl_nil]

/-- A write of an access register of a group, once it has reached the register (R210). -/
theorem State.exec_leashGrpAcc {off : Nat} {v : Word} {r : RegDesc} {g : Nat} (h : s.onBus m = true)
    (hlo : 0x404000 ≤ off) (hhi : off < 0x404400) (hal : off % 4 = 0) (hf : findReg off = some (r, [g]))
    (hid : r.id ∈ [RegId.LEASH_GRP_ACC_LO, .LEASH_GRP_ACC_HI]) (htag : r.tag = .always) :
    exec (.leashGrpAccWrite m off v) s = .next (s.regBusPut m off r [g] v) := by
  have hrow : offIs [.LEASH_GRP_ACC_LO, .LEASH_GRP_ACC_HI] off = true := by
    rw [offIs, hf]
    exact List.contains_iff_mem.2 hid
  have hwrite := State.busWrite_of_canWrite v (canWrite_leash (off := off) h (by omega) (by omega)) hal
    (by simp [metWindow]; omega) hf (by rintro heq; simp [heq] at hid) htag
  change Host.Outcome.next (s.rowWrite [.LEASH_GRP_ACC_LO, .LEASH_GRP_ACC_HI] m off v) = _
  rw [State.rowWrite, if_pos hrow, hwrite]

section
variable {g : Nat} (h : s.onBus m = true) (hg : g < 64) (hidle : ∀ n, n < 64 → (s.lock (g * 64 + n)).queue = []) (v : Word)
include h hg hidle

theorem State.exec_leashGrpAccLo : exec (.leashGrpAccWrite m (Reg.LEASH_GRP_ACC_LO g) v) s =
    .next (s.setReg (Reg.LEASH_GRP_ACC_LO g) (v &&& s.chip.packMask)) := by
  have hput : s.regBusPut m (Reg.LEASH_GRP_ACC_LO g) leashAccLoRow [g] v =
      (s.setReg (Reg.LEASH_GRP_ACC_LO g) (v &&& s.chip.packMask)).leashRecheck g := by
    simp only [State.regBusPut, State.regWrite, leashAccLoRow, List.headD_cons]
  rw [State.exec_leashGrpAcc h (by unfold Reg.LEASH_GRP_ACC_LO; omega) (by unfold Reg.LEASH_GRP_ACC_LO; omega)
    (by unfold Reg.LEASH_GRP_ACC_LO; omega) (findReg_leashAccLo hg) (by decide) rfl]
  exact congrArg Host.Outcome.next (hput.trans (State.leashRecheck_idle hidle))

theorem State.exec_leashGrpAccHi : exec (.leashGrpAccWrite m (Reg.LEASH_GRP_ACC_HI g) v) s =
    .next (s.setReg (Reg.LEASH_GRP_ACC_HI g) (v &&& 0x1D)) := by
  have hput : s.regBusPut m (Reg.LEASH_GRP_ACC_HI g) leashAccHiRow [g] v =
      (s.setReg (Reg.LEASH_GRP_ACC_HI g) (v &&& 0x1D)).leashRecheck g := by
    simp only [State.regBusPut, State.regWrite, leashAccHiRow, List.headD_cons]
  rw [State.exec_leashGrpAcc h (by unfold Reg.LEASH_GRP_ACC_HI; omega) (by unfold Reg.LEASH_GRP_ACC_HI; omega)
    (by unfold Reg.LEASH_GRP_ACC_HI; omega) (findReg_leashAccHi hg) (by decide) rfl]
  exact congrArg Host.Outcome.next (hput.trans (State.leashRecheck_idle hidle))

end

/-- The stall of the waiter found ends (R203). -/
theorem State.exec_leashStallTimeout {id : BitVec 16} {w : Waiter}
    (hfind : (s.lock i).queue.find? (fun x => x.id == id && decide (x.deadline ≤ s.fr)) = some w) :
    exec (.leashStallTimeout i id) s = .next (((s.setLock i { s.lock i with queue := (s.lock i).queue.erase w }).bump
      Reg.LEASH_TMO_CNT).leashReply id.toNat 8) := by
  have hid : w.id = id := by
    have := List.find?_some hfind
    simp only [Bool.and_eq_true, beq_iff_eq] at this
    exact this.1
  change execLeashStallTimeout i id s = _
  rw [execLeashStallTimeout, hfind]
  simp only [State.leashTmo, hid]

end

/-- Settles O15: each read or write of a lock by the rule of the lock it meets; the rules are the same for engines and
masters, and only the place of the answer differs. -/
theorem locksOfEnginesAndBusMasters : Obligations.LocksOfEnginesAndBusMasters := by
  unfold Obligations.LocksOfEnginesAndBusMasters
  constructor
  · intro s c o len i hi hc
    have hme := ownerId_ne_zero hc
    dsimp only
    refine ⟨fun h hport hacc => ⟨fun hfree => ?_, fun hown => ?_, fun howned hother htmo => ?_⟩,
      fun h hport hown hqueue => ?_, fun h hlock hal hd hflips hm row hrow => ?_⟩
    · obtain ⟨t, ht, hran⟩ := State.exec_inp_granted h hport hi (State.leashRead_free hacc hfree)
        ((wrote_clearIssue s c).setLock rfl i _) rfl
      have hleash : t.leash = (s.setLock i { owner := BitVec.ofNat 16 (ownerId c) }).leash :=
        (congrArg State.leash hran.rest :)
      refine ⟨t, ht, ?_, hran⟩
      rw [State.lock_congr hleash, State.lock_setLock, if_pos rfl]
      rfl
    · exact State.exec_inp_granted h hport hi (State.leashRead_owned hacc hown hme) (wrote_clearIssue s c) rfl
    · have hid : ownerId c ≠ 0x3000 ∧ ownerId c ≠ 0x5000 := by unfold ownerId; omega
      exact State.exec_inp_stalled h hport hi (State.leashRead_stall hacc howned hother htmo hid)
    · exact State.exec_outp_lock h hport hi ((State.leashWrite_owner (s := s.clearIssue (engOf c)) hown
        (by omega)).trans (State.leashPass_free (s := s.clearIssue (engOf c)) hqueue 1))
    · rw [exec_acqLoad hlock row hrow]
      generalize hplace : s.mwPlace c (s.ea c o).1 = place at *
      obtain ⟨m, w⟩ := place
      exact ⟨State.runIssue_ld_taken h hflips hal hlock hplace hc hd, State.runIssue_ld_waits h hflips hal hlock hplace⟩
  · intro s m i o hi hbus
    have hread := State.exec_leashAcquire_bus hbus hi o
    have hwrite := State.exec_leashRelease_bus hbus hi o
    dsimp only
    refine ⟨fun hacc hfree => ?_, fun hacc hown hbroken => ?_, fun hacc => ?_, fun hown hqueue => ?_,
      fun hown w rest hqueue hctx => ?_, fun hother => ?_, fun id w hfind hctx => ?_, fun g v hg hidle => ?_⟩
    · rw [hread, State.lockRead_status (State.leashRead_free hacc hfree)]
    · rw [hread, State.lockRead_status (State.leashRead_broken hacc hown hbroken)]
    · rw [hread, State.lockRead_status (State.leashRead_denied hacc)]
      have hleash := s.leashDeny_leash i (Master.owner m) false
      have hcnt := s.leashDeny_count i (Master.owner m) false
      generalize s.leashDeny i (Master.owner m) false = u at hleash hcnt ⊢
      exact ⟨_, rfl, rfl, hleash, hcnt⟩
    · rw [hwrite, State.leashWrite_owner hown (masterOwner_ne_zero m), State.leashPass_free hqueue]
    · rw [hwrite, State.leashWrite_owner hown (masterOwner_ne_zero m), State.leashPass_head hqueue]
      exact ⟨fun hfab => by rw [State.leashReply_master _ hctx hfab]; rfl,
        fun hfab => by rw [State.leashReply_fabric _ hfab]⟩
    · rw [hwrite, State.leashWrite_other hother]
      exact ⟨_, rfl, s.leashDeny_leash i _ true, s.leashDeny_count i _ true⟩
    · rw [State.exec_leashStallTimeout hfind]
      exact ⟨fun hfab => by rw [State.leashReply_master _ hctx hfab]; rfl,
        fun hfab => by rw [State.leashReply_fabric _ hfab]⟩
    · exact ⟨State.exec_leashGrpAccLo hbus hg hidle v, State.exec_leashGrpAccHi hbus hg hidle v⟩

end Sys2Proof.Machine

namespace Sys2Proof.Machine
open Sys2Proof

/-! ### Resets (R498 to R500, R447) -/

/-- The straps touch FAB_STAT alone. -/
theorem State.strapAddr_rest (s : State) : { s.strapAddr with regs := s.regs } = s := by
  rw [State.strapAddr]
  split <;> rfl

theorem State.strapAddr_reg (s : State) {k : Nat} (h : k ≠ Reg.FAB_STAT) : s.strapAddr.reg k = s.reg k := by
  rw [State.strapAddr]
  split
  · rw [State.reg_setFld, if_neg h, State.reg_setFld, if_neg h]
  · rfl

theorem resetAt_fabStat (c : Chip) : resetAt c Reg.FAB_STAT = W (c.fabId.toNat * 0x100) := rfl

/-- At its reset value FAB_STAT names no device: FAB_ID stands above SET. -/
theorem State.fabDev_reset {s : State} (h : s.reg Reg.FAB_STAT = resetAt s.chip Reg.FAB_STAT) : s.fabDev = none := by
  have hset : s.flag Reg.FAB_STAT 4 = false := by
    have hid := s.chip.fabId.isLt
    rw [State.flag, h, resetAt_fabStat, bitOf, decide_eq_false_iff_not, W, BitVec.toNat_ofNat]
    omega
  rw [State.fabDev, hset]
  rfl

/-- From reset the straps give the address, where they give one. -/
theorem State.strapAddr_fabDev {s : State} (h : s.reg Reg.FAB_STAT = resetAt s.chip Reg.FAB_STAT) :
    s.strapAddr.fabDev = if s.chip.fabric = true ∧ s.chip.fabId ≠ 15 then some s.chip.fabId.toNat else none := by
  rw [State.strapAddr]
  split
  · have hset : ((s.setFld Reg.FAB_STAT 3 0 s.chip.fabId.toNat).setFld Reg.FAB_STAT 4 4 1).flag Reg.FAB_STAT 4 = true := by
      rw [State.flag, State.reg_setFld, if_pos rfl, bitOf_setF_same _ _ (by decide)]
      rfl
    rw [State.fabDev, if_pos hset, State.fld, State.reg_setFld, if_pos rfl,
      getF_setF_disjoint _ _ (by decide) (by decide) (.inl (by decide)), State.reg_setFld, if_pos rfl,
      getF_setF_same _ _ (by decide) (by decide)]
    exact congrArg some (Nat.mod_eq_of_lt s.chip.fabId.isLt)
  · exact s.fabDev_reset h

/-- What every reset leaves: the device cleared, the registers but those of `kept` at their reset values (R498). -/
def ResetLeaves (s : State) (st : Straps) (t : State) (kept : List Nat) : Prop :=
  t.ctxs = [] ∧ t.engs = [] ∧ t.herd = {} ∧ t.leash = {} ∧ t.hub = {} ∧ t.ctl.wh = [] ∧ t.disp = {} ∧ t.fr = 0 ∧
    t.mem.istore = [] ∧ t.mem.cells = [] ∧ t.mem.dram = s.mem.dram ∧ t.mem.flash = s.mem.flash ∧
    t.island = s.island ∧ t.pending = s.pending ∧ t.chip = { s.chip with bootSel := st.bootSel, fabId := st.fabId } ∧
    (∀ k, k ∉ Reg.FAB_STAT :: kept → t.reg k = resetAt t.chip k) ∧
    (t.fabDev = if t.chip.fabric = true ∧ st.fabId ≠ 15 then some st.fabId.toNat else none)

/-- A cleared device with other registers and control plane is what a reset leaves once the straps are sampled. -/
theorem State.strapAddr_leaves {s u : State} {st : Straps} {kept : List Nat}
    (hrest : { u with regs := [], ctl := {} } = s.cleared st) (hwh : u.ctl.wh = [])
    (hreg : ∀ k, k ∉ kept → u.reg k = resetAt u.chip k) (hfab : Reg.FAB_STAT ∉ kept) :
    ResetLeaves s st u.strapAddr kept := by
  have hstrap := u.strapAddr_rest
  have hchip : u.chip = { s.chip with bootSel := st.bootSel, fabId := st.fabId } := (congrArg State.chip hrest :)
  have hchip' : u.strapAddr.chip = u.chip := (congrArg State.chip hstrap :)
  have hctl : u.strapAddr.ctl = u.ctl := (congrArg State.ctl hstrap :)
  have hcleared : { u.strapAddr with regs := [], ctl := {} } = s.cleared st := by
    rw [← hrest]
    exact congrArg (fun v : State => { v with regs := [], ctl := {} }) hstrap
  have hmem : u.strapAddr.mem = (s.cleared st).mem := (congrArg State.mem hcleared :)
  refine ⟨(congrArg State.ctxs hcleared :), (congrArg State.engs hcleared :), (congrArg State.herd hcleared :),
    (congrArg State.leash hcleared :), (congrArg State.hub hcleared :), by rw [hctl, hwh],
    (congrArg State.disp hcleared :), (congrArg State.fr hcleared :), (congrArg Mems.istore hmem :),
    (congrArg Mems.cells hmem :), (congrArg Mems.dram hmem :), (congrArg Mems.flash hmem :),
    (congrArg State.island hcleared :), (congrArg State.pending hcleared :), hchip'.trans hchip, fun k hk => ?_, ?_⟩
  · rw [List.mem_cons, not_or] at hk
    rw [u.strapAddr_reg hk.1, hreg k hk.2, hchip']
  · rw [State.strapAddr_fabDev (hreg _ hfab), hchip', hchip]

theorem State.powerReset_leaves (s : State) (st : Straps) : ResetLeaves s st (s.powerReset st) [] :=
  State.strapAddr_leaves rfl rfl (fun _ _ => rfl) (List.not_mem_nil)

/-- What a reset other than PORST_N leaves besides: SYS_BOOT_TRIES, SOURCE and SVN (R499). -/
def WarmResetLeaves (s : State) (st : Straps) (t : State) (reason : Nat) : Prop :=
  ResetLeaves s st t [Reg.SYS_BOOT_STATUS, Reg.SYS_BOOT_TRIES] ∧ t.reg Reg.SYS_BOOT_TRIES = s.reg Reg.SYS_BOOT_TRIES ∧
    t.mode = 0 ∧ t.fld Reg.SYS_BOOT_STATUS 7 0 = reason ∧
    t.fld Reg.SYS_BOOT_STATUS 10 8 = s.fld Reg.SYS_BOOT_STATUS 10 8 ∧
    t.fld Reg.SYS_BOOT_STATUS 31 16 = s.fld Reg.SYS_BOOT_STATUS 31 16

theorem State.keepAon_reg (s old : State) (k : Nat) :
    (s.keepAon old).reg k = if k = Reg.SYS_BOOT_TRIES then old.reg Reg.SYS_BOOT_TRIES
      else if k = Reg.SYS_BOOT_STATUS then setF (setF (old.reg Reg.SYS_BOOT_STATUS) 13 12 0) 14 14 0 else s.reg k := by
  rw [← State.reg_setReg, ← State.reg_setReg]
  rfl

theorem State.warmReset_leaves (s : State) (st : Straps) :
    WarmResetLeaves s st (s.warmReset st) (s.fld Reg.SYS_BOOT_STATUS 7 0) := by
  have htries : (s.warmReset st).reg Reg.SYS_BOOT_TRIES = s.reg Reg.SYS_BOOT_TRIES := by
    rw [State.warmReset, State.strapAddr_reg _ (by decide), State.keepAon_reg, if_pos rfl]
  have hstatus : (s.warmReset st).reg Reg.SYS_BOOT_STATUS =
      setF (setF (s.reg Reg.SYS_BOOT_STATUS) 13 12 0) 14 14 0 := by
    rw [State.warmReset, State.strapAddr_reg _ (by decide), State.keepAon_reg, if_neg (by decide), if_pos rfl]
  have hfld : ∀ {hi lo : Nat}, hi < 12 ∨ 14 < lo →
      (s.warmReset st).fld Reg.SYS_BOOT_STATUS hi lo = s.fld Reg.SYS_BOOT_STATUS hi lo := fun h => by
    rw [State.fld, hstatus, getF_setF_disjoint _ _ (by decide) (by decide) (by omega),
      getF_setF_disjoint _ _ (by decide) (by decide) (by omega), State.fld]
  refine ⟨State.strapAddr_leaves rfl rfl (fun k hk => ?_) (by decide), htries, ?_, hfld (by decide), hfld (by decide),
    hfld (by decide)⟩
  · obtain ⟨hs, ht⟩ : k ≠ Reg.SYS_BOOT_STATUS ∧ k ≠ Reg.SYS_BOOT_TRIES := by simpa using hk
    rw [State.keepAon_reg, if_neg ht, if_neg hs]
    rfl
  · rw [State.mode, State.fld, hstatus, getF_setF_disjoint _ _ (by decide) (by decide) (by decide),
      getF_setF_same _ _ (by decide) (by decide), Nat.zero_mod]

/-- REASON is recorded once in an attempt (R499), and a reset that follows leaves the rest as it would without. -/
theorem State.noteReason_warmReset (s : State) (st : Straps) (r : Nat) (hr : r < 256) :
    WarmResetLeaves s st ((s.noteReason r).warmReset st)
      (if s.boot.failed = false then r else s.fld Reg.SYS_BOOT_STATUS 7 0) := by
  have h := (s.noteReason r).warmReset_leaves st
  by_cases hf : s.boot.failed = true
  · rw [State.noteReason, if_pos hf] at h ⊢
    rw [if_neg (by simp [hf])]
    exact h
  · rw [State.noteReason, if_neg hf] at h ⊢
    obtain ⟨hleaves, htries, hmode, hreason, hsource, hsvn⟩ := h
    have hstatus : (s.setFld Reg.SYS_BOOT_STATUS 7 0 r).reg Reg.SYS_BOOT_STATUS =
        setF (s.reg Reg.SYS_BOOT_STATUS) 7 0 r := by rw [State.reg_setFld, if_pos rfl]
    refine ⟨hleaves, htries.trans ?_, hmode, hreason.trans ?_, hsource.trans ?_, hsvn.trans ?_⟩
    · exact (s.reg_setFld ..).trans (if_neg (by decide))
    · rw [if_pos (by simpa using hf)]
      exact (congrArg (getF · 7 0) hstatus).trans
        ((getF_setF_same _ _ (by decide) (by decide)).trans (Nat.mod_eq_of_lt hr))
    · exact (congrArg (getF · 10 8) hstatus).trans (getF_setF_disjoint _ _ (by decide) (by decide) (.inr (by decide)))
    · exact (congrArg (getF · 31 16) hstatus).trans (getF_setF_disjoint _ _ (by decide) (by decide) (.inr (by decide)))

theorem exec_sysrstN (s : State) (st : Straps) : ∃ t, exec (.sysrstN st) s = .next t ∧
    WarmResetLeaves s st t (if s.mode = 0 ∧ s.boot.failed = false then 9 else s.fld Reg.SYS_BOOT_STATUS 7 0) := by
  refine ⟨_, rfl, ?_⟩
  by_cases hm : s.mode = 0
  · simpa only [hm, if_true, true_and] using s.noteReason_warmReset st 9 (by decide)
  · simpa only [hm, if_false, false_and] using s.warmReset_leaves st

theorem State.resetDue_iff {s : State} {n : Nat} (h : s.boot.resetAt = some n) : s.resetDue = true ↔ n ≤ s.fr := by
  rw [State.resetDue, h]
  exact decide_eq_true_iff

theorem exec_selfReset_due {s : State} {n : Nat} (h : s.boot.resetAt = some n) (hn : n ≤ s.fr) (st : Straps) :
    exec (.selfReset st) s = .next (s.warmReset st) := if_pos ((State.resetDue_iff h).2 hn)

theorem exec_selfReset_early {s : State} {n : Nat} (h : s.boot.resetAt = some n) (hn : s.fr < n) (st : Straps) :
    exec (.selfReset st) s = .next s := if_neg fun hd => absurd ((State.resetDue_iff h).1 hd) (by omega)

end Sys2Proof.Machine

namespace Sys2Proof.Machine
open Sys2Proof

/-! ### What a status sent to a stalled reader leaves alone (R101, R201, R205, R457) -/

theorem State.land_rest (s : State) (c r : Nat) (v : Word) (a : Tab Ctx) (b : Tab Eng) :
    { s.land c r v with ctxs := a, engs := b } = { s with ctxs := a, engs := b } := by
  rw [State.land, State.setR]
  split
  · rfl
  · split
    · rfl
    · exact s.setS_rest c _ v a b

theorem State.deliver_rest (s : State) (c dst bytes : Nat) (v : Word) (a : Tab Ctx) (b : Tab Eng) :
    { s.deliver c dst bytes v with ctxs := a, engs := b } = { s with ctxs := a, engs := b } := by
  rw [State.deliver]
  split
  · rfl
  · exact State.land_rest ..

/-- From `s` to `t` a status has gone to its reader: no lock, no register, no memory has moved. -/
structure StatusOnly (s t : State) : Prop where
  rest : { t with leash := s.leash, ctxs := s.ctxs, engs := s.engs, fab := s.fab, pins := s.pins } = s
  locks : t.leash.locks = s.leash.locks

namespace StatusOnly

variable {s t u : State}

theorem refl (s : State) : StatusOnly s s := ⟨rfl, rfl⟩

theorem trans (h : StatusOnly s t) (h' : StatusOnly t u) : StatusOnly s u :=
  ⟨(congrArg (fun v : State =>
      { v with leash := s.leash, ctxs := s.ctxs, engs := s.engs, fab := s.fab, pins := s.pins }) h'.rest).trans h.rest,
    h'.locks.trans h.locks⟩

theorem deliver (s : State) (c dst bytes : Nat) (v : Word) : StatusOnly s (s.deliver c dst bytes v) := by
  have h := s.deliver_rest c dst bytes v s.ctxs s.engs
  exact ⟨congrArg (fun v : State => { v with leash := s.leash, fab := s.fab, pins := s.pins }) h,
    (congrArg (fun v : State => v.leash.locks) h :)⟩

theorem setFabLink (s : State) (q : Nat) (l : FabLink) : StatusOnly s (s.setFabLink q l) := ⟨rfl, rfl⟩

theorem ctlPump (s : State) (q : Nat) : StatusOnly s (s.ctlPump q) := by
  rw [State.ctlPump]
  dsimp only
  split
  · exact List.foldlRecOn (motive := StatusOnly s) _ _ (setFabLink s q _) fun t ht b _ => ht.trans ⟨rfl, rfl⟩
  · exact refl s

theorem fabStatus (s : State) (d : Nat) (v : Word) : StatusOnly s (s.fabStatus d v) := by
  rw [State.fabStatus, State.fabControl]
  split
  · split
    · exact (setFabLink s _ _).trans (ctlPump _ _)
    · exact refl s
  · exact refl s

theorem leashReply (s : State) (id : Nat) (v : Word) : StatusOnly s (s.leashReply id v) := by
  rw [State.leashReply]
  split
  · split
    · exact deliver ..
    · exact refl s
  · split
    · exact fabStatus ..
    · exact ⟨rfl, rfl⟩

theorem lock (h : StatusOnly s t) (i : Nat) : t.lock i = s.lock i := by rw [State.lock, State.lock, h.locks]

end StatusOnly

/-! ### What a broken release does (R201, R207, R208) -/

/-- From `s` to `t` locks may have been left and broken: besides, statuses and messages have gone out, and LEASH_BROKEN
is counted and raised. -/
structure LeashWork (s t : State) : Prop where
  rest : { t with regs := s.regs, hub := s.hub, leash := s.leash, ctxs := s.ctxs, engs := s.engs, fab := s.fab,
                  pins := s.pins } = s
  reg : ∀ k, k ≠ Reg.LEASH_BROKEN_CNT → k ≠ evReg Ev.LEASH_BROKEN → t.reg k = s.reg k

namespace LeashWork

variable {s t u : State}

theorem refl (s : State) : LeashWork s s := ⟨rfl, fun _ _ _ => rfl⟩

theorem trans (h : LeashWork s t) (h' : LeashWork t u) : LeashWork s u :=
  ⟨(congrArg (fun v : State => { v with regs := s.regs, hub := s.hub, leash := s.leash, ctxs := s.ctxs, engs := s.engs,
                                        fab := s.fab, pins := s.pins }) h'.rest).trans h.rest,
    fun k hcnt hev => (h'.reg k hcnt hev).trans (h.reg k hcnt hev)⟩

theorem of_status (h : StatusOnly s t) : LeashWork s t :=
  ⟨congrArg (fun v : State => { v with regs := s.regs, hub := s.hub }) h.rest,
    fun k _ _ => State.reg_congr (congrArg State.chip h.rest :) (congrArg State.regs h.rest :) k⟩

theorem setLock (s : State) (i : Nat) (l : Lock) : LeashWork s (s.setLock i l) := ⟨rfl, fun _ _ _ => rfl⟩

theorem leashPass (s : State) (i : Nat) (v : Word) : LeashWork s (s.leashPass i v) := by
  rw [State.leashPass]
  split
  · exact setLock s i _
  · exact (setLock s i _).trans (of_status (.leashReply ..))

theorem bump (s : State) : LeashWork s (s.bump Reg.LEASH_BROKEN_CNT) :=
  ⟨rfl, fun k hcnt _ => by rw [State.reg_bump, if_neg hcnt]⟩

theorem raise (s : State) : LeashWork s (s.raise Ev.LEASH_BROKEN) :=
  ⟨congrArg (fun v : State => { v with leash := s.leash, ctxs := s.ctxs, engs := s.engs, fab := s.fab })
    (s.raise_rest Ev.LEASH_BROKEN), fun _ _ hev => s.raise_reg hev⟩

theorem countBroken (s : State) : LeashWork s ((s.bump Reg.LEASH_BROKEN_CNT).raise Ev.LEASH_BROKEN) :=
  (bump s).trans (raise _)

theorem leashBreakOne (s : State) (i : Nat) : LeashWork s (s.leashBreakOne i) := by
  rw [State.leashBreakOne]
  split
  · exact (countBroken s).trans (setLock _ i _)
  · exact (countBroken s).trans (leashPass ..)

theorem leashLeave (s : State) (id : Nat) : LeashWork s (s.leashLeave id) := by
  refine List.foldlRecOn (motive := LeashWork s) _ _ (refl s) fun t ht p _ => ?_
  split
  · exact ht.trans (setLock t _ _)
  · exact ht

theorem leashBreak (s : State) (id : Nat) : LeashWork s (s.leashBreak id) := by
  refine List.foldlRecOn (motive := LeashWork s) _ _ (leashLeave s id) fun t ht p _ => ?_
  split
  · exact ht.trans (leashBreakOne ..)
  · exact ht

end LeashWork

/-! ### The locks of an owner that ceases to exist (R207) -/

section
variable {s : State} {i j id : Nat}

theorem State.leashPass_lock_ne (h : i ≠ j) (v : Word) : (s.leashPass j v).lock i = s.lock i := by
  rw [State.leashPass]
  split
  · rw [State.lock_setLock, if_neg h]
  · rw [(StatusOnly.leashReply ..).lock, State.lock_setLock, if_neg h]

theorem State.countBroken_lock (s : State) (i : Nat) :
    ((s.bump Reg.LEASH_BROKEN_CNT).raise Ev.LEASH_BROKEN).lock i = s.lock i :=
  State.lock_congr (s := s) (congrArg State.leash (State.raise_rest (s.bump Reg.LEASH_BROKEN_CNT) _) :) i

theorem State.leashBreakOne_lock_ne (h : i ≠ j) : (s.leashBreakOne j).lock i = s.lock i := by
  rw [State.leashBreakOne]
  split
  · rw [State.lock_setLock, if_neg h, State.countBroken_lock]
  · rw [State.leashPass_lock_ne h, State.countBroken_lock]

/-- A lock as its broken release leaves it where nobody waits. -/
def Lock.brokenFrom (l : Lock) : Lock := { owner := 0, broken := true, prior := l.owner, queue := [] }

theorem State.leashBreakOne_lock (hq : (s.lock i).queue = []) :
    (s.leashBreakOne i).lock i = (s.lock i).brokenFrom := by
  rw [State.leashBreakOne, hq]
  dsimp only
  rw [State.lock_setLock, if_pos rfl, Lock.brokenFrom]

theorem State.leashLeave_lock (hq : (s.lock i).queue = []) : (s.leashLeave id).lock i = s.lock i := by
  refine List.foldlRecOn (motive := fun t : State => t.lock i = s.lock i) _ _ rfl fun t ht p _ => ?_
  by_cases hp : p.1 = i
  · rw [if_neg (by rw [hp, ht, hq]; exact Bool.false_ne_true)]
    exact ht
  · split
    · rw [State.lock_setLock, if_neg (Ne.symm hp), ht]
    · exact ht

theorem Tab.mem_keys_of_get_ne {α : Type} {d : α} {k : Nat} : ∀ {t : Tab α}, Tab.get d t k ≠ d → k ∈ t.map Prod.fst
  | [], h => absurd rfl h
  | (a, v) :: t, h => by
    rw [Tab.get] at h
    split at h
    · next ha => exact List.mem_cons.2 (.inl ha.symm)
    · exact List.mem_cons_of_mem _ (Tab.mem_keys_of_get_ne h)

/-- Breaking the locks of an owner, lock by lock. -/
def State.breakIfOwned (s : State) (me : BitVec 16) (j : Nat) : State :=
  if (s.lock j).owner = me then s.leashBreakOne j else s

theorem State.leashBreak_eq (s : State) (id : Nat) : s.leashBreak id =
    ((s.leashLeave id).leash.locks.map Prod.fst).foldl (fun t j => t.breakIfOwned (BitVec.ofNat 16 id) j)
      (s.leashLeave id) := by
  rw [List.foldl_map]
  rfl

theorem State.breakIfOwned_lock_ne {me : BitVec 16} (h : j ≠ i) : (s.breakIfOwned me j).lock i = s.lock i := by
  rw [State.breakIfOwned]
  split
  · exact State.leashBreakOne_lock_ne (Ne.symm h)
  · rfl

/-- The visit of a lock breaks it, and a second one finds it without an owner. -/
theorem State.breakIfOwned_lock {me : BitVec 16} {l : Lock} (hme : me ≠ 0) (ho : l.owner = me) (hq : l.queue = [])
    (h : s.lock i = l ∨ s.lock i = l.brokenFrom) : (s.breakIfOwned me i).lock i = l.brokenFrom := by
  rw [State.breakIfOwned]
  rcases h with rfl | h
  · rw [if_pos ho, State.leashBreakOne_lock hq]
  · rw [if_neg (by rw [h]; exact Ne.symm hme), h]

/-- A lock of the owner without waiters is released as broken (R207, R208). -/
theorem State.leashBreak_lock (hid : BitVec.ofNat 16 id ≠ 0) (ho : (s.lock i).owner = BitVec.ofNat 16 id)
    (hq : (s.lock i).queue = []) : (s.leashBreak id).lock i = (s.lock i).brokenFrom := by
  have hleft : (s.leashLeave id).lock i = s.lock i := State.leashLeave_lock hq
  have hmem : i ∈ (s.leashLeave id).leash.locks.map Prod.fst := by
    refine Tab.mem_keys_of_get_ne (d := Lock.free) fun hfree => hid ?_
    rw [← ho, ← hleft, State.lock, hfree]
    rfl
  rw [State.leashBreak_eq]
  refine foldl_establishes (p := i) (Q := fun u : State => u.lock i = (s.lock i).brokenFrom)
    (Inv := fun u : State => u.lock i = s.lock i ∨ u.lock i = (s.lock i).brokenFrom) (fun u q hu => ?_)
    (fun u hu => State.breakIfOwned_lock hid ho hq hu) (fun u q hqi hu => (State.breakIfOwned_lock_ne hqi).trans hu) _ _
    (.inl hleft) (.inl hmem)
  by_cases hqi : q = i
  · rw [hqi]
    exact .inr (State.breakIfOwned_lock hid ho hq hu)
  · rwa [State.breakIfOwned_lock_ne hqi]

/-- An ID that owns nothing and waits nowhere leaves nothing behind. -/
theorem State.leashBreak_stranger (h : ∀ i, (s.lock i).owner ≠ BitVec.ofNat 16 id ∧
    ∀ w ∈ (s.lock i).queue, w.id ≠ BitVec.ofNat 16 id) : s.leashBreak id = s := by
  have hleave : s.leashLeave id = s := by
    refine List.foldlRecOn (motive := fun t : State => t = s) _ _ rfl fun t ht p _ => ?_
    rw [ht, if_neg]
    simpa using (h p.1).2
  rw [State.leashBreak, hleave]
  refine List.foldlRecOn (motive := fun t : State => t = s) _ _ rfl fun t ht p _ => ?_
  rw [ht, if_neg (h p.1).1]

end

end Sys2Proof.Machine

namespace Sys2Proof.Machine
open Sys2Proof

/-! ### A Keeper pair fails and starts again (R207, R463, R475) -/

section
variable {s t : State} {k r : Nat}

/-- A raised source stays raised where its register stays. -/
theorem Raised.of_reg {src : Nat} (h : Raised s src) (hreg : t.reg (evReg src) = s.reg (evReg src)) : Raised t src := by
  rw [Raised, State.flag] at h ⊢
  rwa [← evReg, hreg]

theorem State.pair0Lost_reg (s : State) (hepoch : r ≠ Reg.SYS_EPOCH) (hsurvey : r ≠ Reg.SYS_SURVEY) :
    s.pair0Lost.reg r = s.reg r := by
  have hset : s.pair0Lost.reg r = ((s.setFld Reg.SYS_EPOCH 1 1 0).setFld Reg.SYS_SURVEY 1 1 0).reg r := rfl
  rw [hset, State.reg_setFld, if_neg hsurvey, State.reg_setFld, if_neg hepoch]

/-- A Keeper pair down, its cores reset. -/
def State.keeperStopped (s : State) (k : Nat) : State :=
  { s.resetCores k false with ctl := { (s.resetCores k false).ctl with
      keeperDown := Tab.set false s.ctl.keeperDown k true } }

theorem State.keeperStopped_rest (s : State) (k : Nat) : { s.keeperStopped k with ctl := s.ctl } = s := by
  rw [State.keeperStopped, State.resetCores]

theorem State.keeperStopped_reg (s : State) (k : Nat) : (s.keeperStopped k).reg r = s.reg r :=
  State.reg_congr (congrArg State.chip (s.keeperStopped_rest k) :) (congrArg State.regs (s.keeperStopped_rest k) :) r

theorem State.keeperStopped_down (s : State) (k : Nat) : Tab.get false (s.keeperStopped k).ctl.keeperDown k = true := by
  have hset : (s.keeperStopped k).ctl.keeperDown = Tab.set false s.ctl.keeperDown k true := rfl
  rw [hset, Tab.get_set, if_pos rfl]

theorem State.pair0Lost_leash (s : State) : s.pair0Lost.leash = s.leash := rfl
theorem State.pair0Lost_mem (s : State) : s.pair0Lost.mem = s.mem := rfl
theorem State.pair0Lost_keeperDown (s : State) : s.pair0Lost.ctl.keeperDown = s.ctl.keeperDown := rfl

/-- A reset of a pair stops it once its locks are broken; pair 0 loses besides what it had at hand. -/
theorem State.keeperReset_eq (s : State) (k : Nat) : s.keeperReset k =
    if k = 0 then ((s.leashBreak (0x2000 + k)).keeperStopped k).pair0Lost
    else (s.leashBreak (0x2000 + k)).keeperStopped k := rfl

theorem State.keeperReset_leash (s : State) (k : Nat) : (s.keeperReset k).leash = (s.leashBreak (0x2000 + k)).leash := by
  have hstop := (congrArg State.leash ((s.leashBreak (0x2000 + k)).keeperStopped_rest k) :)
  rw [State.keeperReset_eq]
  split
  · rw [State.pair0Lost_leash]; exact hstop
  · exact hstop

theorem State.keeperReset_down (s : State) (k : Nat) : Tab.get false (s.keeperReset k).ctl.keeperDown k = true := by
  rw [State.keeperReset_eq]
  split
  · rw [State.pair0Lost_keeperDown, State.keeperStopped_down]
  · exact State.keeperStopped_down ..

theorem State.keeperReset_mem (s : State) (k : Nat) : (s.keeperReset k).mem = s.mem := by
  have hbreak : (s.leashBreak (0x2000 + k)).mem = s.mem := (congrArg State.mem (LeashWork.leashBreak s _).rest :)
  have hstop := (congrArg State.mem ((s.leashBreak (0x2000 + k)).keeperStopped_rest k) :)
  rw [State.keeperReset_eq]
  split
  · rw [State.pair0Lost_mem]; exact hstop.trans hbreak
  · exact hstop.trans hbreak

theorem State.keeperReset_reg (s : State) (k : Nat)
    (h : r ∉ [Reg.LEASH_BROKEN_CNT, evReg Ev.LEASH_BROKEN, Reg.SYS_EPOCH, Reg.SYS_SURVEY]) :
    (s.keeperReset k).reg r = s.reg r := by
  obtain ⟨hcnt, hev, hepoch, hsurvey⟩ : r ≠ Reg.LEASH_BROKEN_CNT ∧ r ≠ evReg Ev.LEASH_BROKEN ∧ r ≠ Reg.SYS_EPOCH ∧
    r ≠ Reg.SYS_SURVEY := by simpa only [List.mem_cons, List.not_mem_nil, or_false, not_or] using h
  have hbreak := (LeashWork.leashBreak s (0x2000 + k)).reg r hcnt hev
  rw [State.keeperReset_eq]
  split
  · rw [State.pair0Lost_reg _ hepoch hsurvey, State.keeperStopped_reg, hbreak]
  · rw [State.keeperStopped_reg, hbreak]

/-- With its reset pair 0 loses the commands at hand and the queued replies (R463). -/
theorem State.keeperReset_zero_lost (s : State) : (s.keeperReset 0).ctl.accepted = [] ∧ (s.keeperReset 0).ctl.replyQ = [] := by
  rw [State.keeperReset_eq, if_pos rfl]
  exact ⟨rfl, rfl⟩

theorem keeperId_ne_zero (hk : k < 2) : BitVec.ofNat 16 (0x2000 + k) ≠ 0 := by
  interval_cases k <;> decide

/-- A lockstep mismatch resets its pair (R463). -/
theorem exec_keeperLockstepMismatch (hk : k < 2) (hup : Tab.get false s.ctl.keeperDown k = false) :
    exec (.keeperLockstepMismatch k) s = .next ((s.raise (Ev.KEEPER_LOCKSTEP k)).keeperReset k) := if_pos ⟨hk, hup⟩

theorem evReg_keeperLockstep (hk : k < 2) : evReg (Ev.KEEPER_LOCKSTEP k) = Reg.EV_STATUS 0 := by
  rw [evReg, Ev.KEEPER_LOCKSTEP, Nat.div_eq_of_lt (by omega)]

theorem evPresent_keeperLockstep (hk : k < 2) (c : Chip) : evPresent c (Ev.KEEPER_LOCKSTEP k) = true :=
  if_pos (by unfold Ev.KEEPER_LOCKSTEP; omega)

/-- A block enters a reply queue with room. -/
theorem State.queueReply_room {h : Nat} (hroom : (Tab.get [] s.ctl.replyQ h).length < 16) (b : Reply) (x : Nat) :
    Tab.get [] (s.queueReply h b).ctl.replyQ x = Tab.get [] s.ctl.replyQ x ++ if x = h then [b] else [] := by
  rw [State.queueReply, if_pos hroom]
  dsimp only [Tab.upd]
  rw [Tab.get_set]
  by_cases hx : x = h
  · rw [if_pos hx, if_pos hx, hx]
  · rw [if_neg hx, if_neg hx, List.append_nil]

theorem State.queueReply_rest (s : State) (h : Nat) (b : Reply) : { s.queueReply h b with ctl := s.ctl } = s := by
  rw [State.queueReply]
  split <;> rfl

theorem State.queueReply_keeperDown (s : State) (h : Nat) (b : Reply) :
    (s.queueReply h b).ctl.keeperDown = s.ctl.keeperDown := by
  rw [State.queueReply]
  split <;> rfl

/-- A block enters one queue after the other, each once, where each has room. -/
theorem State.queueReplies (b : Reply) : ∀ (l : List Nat) (s : State), l.Nodup →
    (∀ h ∈ l, (Tab.get [] s.ctl.replyQ h).length < 16) →
    { l.foldl (fun t h => t.queueReply h b) s with ctl := s.ctl } = s ∧
      (l.foldl (fun t h => t.queueReply h b) s).ctl.keeperDown = s.ctl.keeperDown ∧
      ∀ x, Tab.get [] (l.foldl (fun t h => t.queueReply h b) s).ctl.replyQ x =
        Tab.get [] s.ctl.replyQ x ++ if x ∈ l then [b] else []
  | [], s, _, _ => ⟨rfl, rfl, fun x => by simp⟩
  | h :: l, s, hnodup, hroom => by
    obtain ⟨hfresh, hnodup⟩ := List.nodup_cons.1 hnodup
    have hq := State.queueReply_room (hroom h List.mem_cons_self) b
    obtain ⟨hrest, hdown, hget⟩ := State.queueReplies b l (s.queueReply h b) hnodup fun x hx => by
      rw [hq, if_neg (fun hxh : x = h => hfresh (hxh ▸ hx)), List.append_nil]
      exact hroom x (List.mem_cons_of_mem _ hx)
    rw [List.foldl_cons]
    refine ⟨?_, hdown.trans (s.queueReply_keeperDown h b), fun x => ?_⟩
    · exact (congrArg (fun v : State => { v with ctl := s.ctl }) hrest).trans (s.queueReply_rest h b)
    · rw [hget, hq]
      by_cases hxh : x = h
      · subst hxh; simp [hfresh]
      · simp [hxh]

theorem State.notifyAll_eq (s : State) (n : Nat) : s.notifyAll n =
    (List.range 4).foldl (fun t h => t.queueReply h ([W 3, W n] ++ List.replicate 14 0)) s := rfl

/-- A NOTIFY enters the reply queue of every host pair, where each has room (R475). -/
theorem State.notifyAll_room (n : Nat) (hroom : ∀ h < 4, (Tab.get [] s.ctl.replyQ h).length < 16) :
    { s.notifyAll n with ctl := s.ctl } = s ∧ (s.notifyAll n).ctl.keeperDown = s.ctl.keeperDown ∧
      ∀ x, Tab.get [] (s.notifyAll n).ctl.replyQ x = Tab.get [] s.ctl.replyQ x ++
        if x < 4 then [[W 3, W n] ++ List.replicate 14 0] else [] := by
  rw [State.notifyAll_eq]
  have h := State.queueReplies ([W 3, W n] ++ List.replicate 14 0) (List.range 4) s List.nodup_range fun h hh =>
    hroom h (List.mem_range.1 hh)
  simpa only [List.mem_range] using h

/-- A Keeper pair running again. -/
def State.keeperRestarted (s : State) (k : Nat) : State :=
  { s.resetCores k true with ctl := { (s.resetCores k true).ctl with
      keeperDown := Tab.set false s.ctl.keeperDown k false } }

theorem exec_keeperRestart (hdown : Tab.get false s.ctl.keeperDown k = true) (hmin : s.minimal = false)
    (hclean : s.hub.flips = []) : exec (.keeperRestart k) s =
      .next (if k = 0 then (s.keeperRestarted k).notifyAll 1 else s.keeperRestarted k) := by
  have hgo : (Tab.get false s.ctl.keeperDown k && !(s.minimal && k == 1)) = true := by simp [hdown, hmin]
  have h : exec (.keeperRestart k) s = _ := if_pos hgo
  rw [h, State.eccRead_clean hclean]
  rfl

theorem State.keeperRestarted_down (s : State) (k : Nat) :
    Tab.get false (s.keeperRestarted k).ctl.keeperDown k = false := by
  have hset : (s.keeperRestarted k).ctl.keeperDown = Tab.set false s.ctl.keeperDown k false := rfl
  rw [hset, Tab.get_set, if_pos rfl]

theorem State.keeperRestarted_replyQ (s : State) (k : Nat) : (s.keeperRestarted k).ctl.replyQ = s.ctl.replyQ := rfl

/-- The restart of pair 0 is announced on every host pair with room, that of pair 1 on none (R463, R475). -/
theorem exec_keeperRestart_announced (hdown : Tab.get false s.ctl.keeperDown k = true) (hmin : s.minimal = false)
    (hclean : s.hub.flips = []) (hroom : ∀ h < 4, (Tab.get [] s.ctl.replyQ h).length < 16) :
    ∃ t, exec (.keeperRestart k) s = .next t ∧ Tab.get false t.ctl.keeperDown k = false ∧ { t with ctl := s.ctl } = s ∧
      ∀ h, Tab.get [] t.ctl.replyQ h = Tab.get [] s.ctl.replyQ h ++
        if k = 0 ∧ h < 4 then [[W 3, W 1] ++ List.replicate 14 0] else [] := by
  refine ⟨_, exec_keeperRestart hdown hmin hclean, ?_⟩
  have hdown' := s.keeperRestarted_down k
  have hrest' : { s.keeperRestarted k with ctl := s.ctl } = s := by rw [State.keeperRestarted, State.resetCores]
  have hq' := s.keeperRestarted_replyQ k
  generalize s.keeperRestarted k = u at hdown' hrest' hq' ⊢
  rw [← hq'] at hroom ⊢
  split
  · next hk =>
    obtain ⟨hrest, hkept, hget⟩ := State.notifyAll_room 1 hroom
    generalize u.notifyAll 1 = v at hrest hkept hget ⊢
    refine ⟨by rw [hkept, hdown'],
      (congrArg (fun v : State => { v with ctl := s.ctl }) hrest).trans hrest', fun h => ?_⟩
    rw [hget]
    simp only [hk, true_and]
  · next hk => exact ⟨hdown', hrest', fun h => by rw [if_neg (fun hc => hk hc.1), List.append_nil]⟩

end

/-! ### The PCIe link goes down (R207, R474) -/

/-- The host pairs empty, their blocks and replies gone. -/
def State.hostPairsEmptied (s : State) : State :=
  { s with ctl := { s.ctl with wh := s.ctl.wh.filter fun p => decide (8 ≤ p.1), replyQ := [], lateQ := [] } }

theorem exec_pcieLinkDown (s : State) : exec .pcieLinkDown s = .next (s.hostPairsEmptied.leashBreak 0x3000) := rfl

theorem State.hostPairsEmptied_whb (s : State) (b : Nat) :
    s.hostPairsEmptied.whb b = if 8 ≤ b then s.whb b else {} :=
  (Tab.get_filter_key WhBlock.idle (fun b => decide (8 ≤ b)) b s.ctl.wh).trans (by simp only [decide_eq_true_eq]; rfl)

end Sys2Proof.Machine

namespace Sys2Proof.Machine
open Sys2Proof

/-! ### The conditions of the MSI-X messages (R525) -/

section
variable {s t : State} {v : Nat}

/-- From `s` to `t` waiting messages have gone out or been dropped. -/
structure WaitsOnly (s t : State) : Prop where
  rest : { t with hub := s.hub, pins := s.pins } = s
  hub : { t.hub with msgWait := s.hub.msgWait } = s.hub

theorem WaitsOnly.refl (s : State) : WaitsOnly s s := ⟨rfl, rfl⟩

theorem State.msgRetry_waits {s t : State} (h : WaitsOnly s t) (v : Nat) : WaitsOnly s (t.msgRetry v) := by
  rw [State.msgRetry]
  split
  · dsimp only
    split
    · exact ⟨h.rest, h.hub⟩
    · exact ⟨h.rest, h.hub⟩
  · exact h

theorem State.vecPending_hub (s : State) (h : Hub) (v : Nat) : { s with hub := h }.vecPending v = s.vecPending v := rfl

/-- The only message that waits goes out, or is dropped where its vector is not pending any more. -/
theorem State.msgRetry_sent (hsend : s.canSend v = true) (hwait : s.hub.msgWait = [v]) :
    (s.msgRetry v).hub.msgWait = [] ∧
      (s.msgRetry v).pins = (if s.vecPending v then [PinEvent.msix v] else []) ++ s.pins := by
  have hgone : (s.hub.msgWait.filter fun x => x != v) = [] := by simp [hwait]
  rw [State.msgRetry, if_pos hsend]
  dsimp only
  rw [hgone, State.vecPending_hub]
  split <;> exact ⟨rfl, rfl⟩

theorem State.msgRetry_held (hsend : s.canSend v = false) : s.msgRetry v = s :=
  if_neg (by rw [hsend]; exact Bool.false_ne_true)

/-- The conditions and the host's table in force, before any message is tried again. -/
def State.msixSet (s : State) (en bm fm : Bool) (host : MsixHost) : State :=
  { s with hub := { s.hub with
    msixEn := en, busMaster := bm, funcMask := fm, vecMask := host.masked.filter fun v => decide (v < 64),
    msixTab := host.table.foldl (fun (t : Tab (BitVec 64 × Word)) (p : Nat × BitVec 64 × Word) =>
      Tab.set default t (p.1 % 64) p.2) s.hub.msixTab } }

theorem exec_msixConditionsRestored (s : State) (en bm fm : Bool) (host : MsixHost) :
    exec (.msixConditionsRestored en bm fm host) s =
      .next (s.hub.msgWait.foldl State.msgRetry (s.msixSet en bm fm host)) := rfl

theorem State.msixSet_canSend {en bm fm : Bool} {host : MsixHost} (hv : v < 64) :
    (s.msixSet en bm fm host).canSend v = true ↔ en = true ∧ bm = true ∧ fm = false ∧ v ∉ host.masked := by
  simp [State.canSend, State.msixSet, hv, and_assoc]

theorem State.msixRetried_waits (s : State) (l : List Nat) : WaitsOnly s (l.foldl State.msgRetry s) :=
  List.foldlRecOn (motive := WaitsOnly s) _ _ (.refl s) fun _ h v _ => State.msgRetry_waits h v

end

/-! ### A FATAL error (R530, R531) -/

section
variable {s : State} {mem inst addr k x y : Nat}

theorem State.dueMsg_errLog (s : State) (v : Nat) : (s.dueMsg v).hub.errLog = s.hub.errLog := by
  rw [State.dueMsg]
  split
  · rfl
  · split <;> rfl

theorem State.raise_errLog (s : State) (src : Nat) : (s.raise src).hub.errLog = s.hub.errLog := by
  rw [State.raise]
  split
  · dsimp only
    split
    · exact State.dueMsg_errLog ..
    · rfl
  · rfl

theorem State.errLog_rest (s : State) (mem cls inst addr : Nat) :
    { s.errLog mem cls inst addr with regs := s.regs, hub := s.hub, pins := s.pins } = s := by
  rw [State.errLog]
  split <;> rfl

theorem State.errLog_reg (s : State) (mem cls inst addr : Nat) (h : k ≠ Reg.ERR_STAT) :
    (s.errLog mem cls inst addr).reg k = s.reg k := by
  rw [State.errLog]
  split
  · rfl
  · rw [State.bumpF, State.reg_setFld, if_neg h]

/-- The error counted, logged and shown as latched, before its event. -/
def State.fatalNoted (s : State) (mem inst addr : Nat) : State :=
  ((s.bump Reg.ERR_UE_CNT).errLog mem 2 inst addr).setFld Reg.ERR_STAT 8 8 1

/-- The traffic units stop. -/
def State.fatalMark (s : State) : State := { s with hub := { s.hub with fatal := true } }

theorem State.fatalMark_rest (s : State) : { s.fatalMark with hub := s.hub } = s := rfl
theorem State.fatalMark_reg (s : State) (k : Nat) : s.fatalMark.reg k = s.reg k := rfl
theorem State.fatalMark_fatal (s : State) : s.fatalMark.hub.fatal = true := rfl
theorem State.fatalMark_errLog (s : State) : s.fatalMark.hub.errLog = s.hub.errLog := rfl

theorem State.fatalError_eq (s : State) (mem inst addr : Nat) :
    s.fatalError mem inst addr = ((s.fatalNoted mem inst addr).raise Ev.FATAL).fatalMark := by
  rw [State.fatalMark, State.fatalNoted, State.fatalError]

theorem State.fatalNoted_rest (s : State) (mem inst addr : Nat) :
    { s.fatalNoted mem inst addr with regs := s.regs, hub := s.hub, pins := s.pins } = s :=
  congrArg (fun v : State => { v with regs := s.regs }) ((s.bump Reg.ERR_UE_CNT).errLog_rest mem 2 inst addr)

/-- What leaves all but the registers, the Event Hub and the pins alone does so twice over. -/
theorem State.hubRest_trans {s t u : State} (h : { t with regs := s.regs, hub := s.hub, pins := s.pins } = s)
    (h' : { u with regs := t.regs, hub := t.hub, pins := t.pins } = t) :
    { u with regs := s.regs, hub := s.hub, pins := s.pins } = s :=
  (congrArg (fun v : State => { v with regs := s.regs, hub := s.hub, pins := s.pins }) h').trans h

theorem State.hubRest_of_hub {s t : State} (h : { t with hub := s.hub } = s) :
    { t with regs := s.regs, hub := s.hub, pins := s.pins } = s :=
  congrArg (fun v : State => { v with regs := s.regs, pins := s.pins }) h

theorem State.hubRest_fields {s t : State} (h : { t with regs := s.regs, hub := s.hub, pins := s.pins } = s) :
    t.ctxs = s.ctxs ∧ t.mem = s.mem ∧ t.herd = s.herd :=
  ⟨(congrArg State.ctxs h :), (congrArg State.mem h :), (congrArg State.herd h :)⟩

theorem State.fatalError_rest (s : State) (mem inst addr : Nat) :
    { s.fatalError mem inst addr with regs := s.regs, hub := s.hub, pins := s.pins } = s := by
  rw [State.fatalError_eq]
  exact State.hubRest_trans (State.hubRest_trans (s.fatalNoted_rest mem inst addr) (State.raise_rest _ Ev.FATAL))
    (State.hubRest_of_hub (State.fatalMark_rest _))

theorem State.fatalError_reg (s : State) (mem inst addr k : Nat) :
    (s.fatalError mem inst addr).reg k = ((s.fatalNoted mem inst addr).raise Ev.FATAL).reg k := by
  rw [State.fatalError_eq, State.fatalMark_reg]

theorem State.fatalNoted_reg (hstat : k ≠ Reg.ERR_STAT) :
    (s.fatalNoted mem inst addr).reg k = (s.bump Reg.ERR_UE_CNT).reg k := by
  rw [State.fatalNoted, State.reg_setFld, if_neg hstat, State.errLog_reg _ _ _ _ _ hstat]

theorem State.fatalError_reg_other (h : k ∉ [Reg.ERR_UE_CNT, Reg.ERR_STAT, evReg Ev.FATAL]) :
    (s.fatalError mem inst addr).reg k = s.reg k := by
  obtain ⟨hcnt, hstat, hev⟩ : k ≠ Reg.ERR_UE_CNT ∧ k ≠ Reg.ERR_STAT ∧ k ≠ evReg Ev.FATAL := by
    simpa only [List.mem_cons, List.not_mem_nil, or_false, not_or] using h
  rw [State.fatalError_reg, State.raise_reg _ hev, State.fatalNoted_reg hstat, State.reg_bump, if_neg hcnt]

theorem State.fatalError_count : (s.fatalError mem inst addr).reg Reg.ERR_UE_CNT =
    W (satInc 32 (s.reg Reg.ERR_UE_CNT).toNat) := by
  rw [State.fatalError_reg, State.raise_reg _ (by decide), State.fatalNoted_reg (by decide), State.reg_bump, if_pos rfl]

theorem State.fatalError_latched : (s.fatalError mem inst addr).flag Reg.ERR_STAT 8 = true := by
  rw [State.flag, State.fatalError_reg, State.raise_reg _ (by decide), State.fatalNoted, State.reg_setFld, if_pos rfl,
    bitOf_setF_same _ _ (by decide)]
  rfl

theorem State.fatalError_raised : Raised (s.fatalError mem inst addr) Ev.FATAL :=
  (State.raised_raise (s := s.fatalNoted mem inst addr) (src := Ev.FATAL) rfl).of_reg (State.fatalError_reg ..)

theorem State.running_congr {t : State} (hhub : t.hub = s.hub) (hstatus : t.reg Reg.SYS_BOOT_STATUS = s.reg Reg.SYS_BOOT_STATUS) :
    t.running = s.running := by
  rw [State.running, State.running, State.minimal, State.minimal, State.mode, State.mode, State.fld, State.fld, hhub, hstatus]

theorem State.fatalError_stopped : (s.fatalError mem inst addr).running = false := by
  have hfatal : (s.fatalError mem inst addr).hub.fatal = true := by
    rw [State.fatalError_eq, State.fatalMark_fatal]
  rw [State.running, hfatal]
  rfl

theorem State.fatalError_logged (hroom : s.hub.errLog.length < 16) : (s.fatalError mem inst addr).hub.errLog =
    s.hub.errLog ++ [⟨W addr, W (mem + 2 * 16 + inst * 256), W s.fr⟩] := by
  have hlog : ((s.bump Reg.ERR_UE_CNT).errLog mem 2 inst addr).hub.errLog =
      s.hub.errLog ++ [⟨W addr, W (mem + 2 * 16 + inst * 256), W s.fr⟩] := by
    rw [State.errLog, if_pos (by exact hroom)]
    rfl
  rw [State.fatalError_eq, State.fatalMark_errLog, State.raise_errLog]
  exact hlog

/-! Every frame in transmission is cut short. -/

theorem State.cutTx_rest (s : State) (x : Nat) : { s.cutTx x with eports := s.eports, pins := s.pins } = s := by
  rw [State.cutTx]
  split
  · dsimp only
    split
    · rw [State.setEport]
    · rw [State.pin, State.setEport]
  · rfl

theorem State.cutTx_sending (s : State) (x : Nat) : ((s.cutTx x).eport x).sending = none := by
  rw [State.cutTx]
  split
  · dsimp only
    split <;> simp
  · assumption

theorem State.cutTx_eport_ne (h : y ≠ x) : (s.cutTx x).eport y = s.eport y := by
  rw [State.cutTx]
  split
  · dsimp only
    split <;> simp [h]
  · rfl

/-- Every egress index listed cuts its frame. -/
def State.allCut (s : State) : State := (s.eports.map Prod.fst).foldl State.cutTx s

theorem State.allCut_rest (s : State) : { s.allCut with eports := s.eports, pins := s.pins } = s :=
  List.foldlRecOn (motive := fun t : State => { t with eports := s.eports, pins := s.pins } = s) _ _ rfl fun t ht x _ =>
    (congrArg (fun v : State => { v with eports := s.eports, pins := s.pins }) (t.cutTx_rest x)).trans ht

theorem State.allCut_reg (s : State) (k : Nat) : s.allCut.reg k = s.reg k :=
  State.reg_congr (congrArg State.chip s.allCut_rest :) (congrArg State.regs s.allCut_rest :) k

theorem State.allCut_hub (s : State) : s.allCut.hub = s.hub := (congrArg State.hub s.allCut_rest :)
theorem State.allCut_ctxs (s : State) : s.allCut.ctxs = s.ctxs := (congrArg State.ctxs s.allCut_rest :)
theorem State.allCut_mem (s : State) : s.allCut.mem = s.mem := (congrArg State.mem s.allCut_rest :)
theorem State.allCut_herd (s : State) : s.allCut.herd = s.herd := (congrArg State.herd s.allCut_rest :)

theorem State.allCut_sending (s : State) (x : Nat) : (s.allCut.eport x).sending = none := by
  refine foldl_establishes (p := x) (Inv := fun _ : State => True) (Q := fun t : State => (t.eport x).sending = none)
    (fun _ _ _ => trivial) (fun t _ => t.cutTx_sending x) (fun t q hq ht => ?_) _ s trivial ?_
  · rw [State.cutTx_eport_ne (Ne.symm hq), ht]
  · refine Classical.or_iff_not_imp_left.2 fun hmem => ?_
    have hidle : s.eport x = EPort.idle := Classical.byContradiction fun h => hmem (Tab.mem_keys_of_get_ne h)
    rw [hidle]
    rfl

theorem exec_fatalError (s : State) (mem inst addr : Nat) :
    exec (.fatalError mem inst addr) s = .next (s.fatalError mem inst addr).allCut := by
  rw [State.allCut, List.foldl_map]
  rfl

end

end Sys2Proof.Machine

namespace Sys2Proof.Machine
open Sys2Proof

/-! ### Resets, Keepers, the PCIe link, MSI-X and FATAL errors -/

section
variable (s : State)

/-- A stopped pair: its event, its locks, and what pair 0 loses (R207, R463). -/
theorem keeperLockstepMismatch_stops {k : Nat} (hk : k < 2) (hup : Tab.get false s.ctl.keeperDown k = false) :
    ∃ t, exec (.keeperLockstepMismatch k) s = .next t ∧ Tab.get false t.ctl.keeperDown k = true ∧
      Raised t (Ev.KEEPER_LOCKSTEP k) ∧
      (∀ i, (s.lock i).owner = BitVec.ofNat 16 (0x2000 + k) → (s.lock i).queue = [] →
        t.lock i = { owner := 0, broken := true, prior := (s.lock i).owner, queue := [] }) ∧
      (∀ r, r ∉ [Reg.LEASH_BROKEN_CNT, evReg (Ev.KEEPER_LOCKSTEP k), evReg Ev.LEASH_BROKEN, Reg.SYS_EPOCH, Reg.SYS_SURVEY] →
        t.reg r = s.reg r) ∧ t.mem = s.mem ∧
      (k = 0 → t.ctl.accepted = [] ∧ ∀ h, Tab.get [] t.ctl.replyQ h = []) := by
  refine ⟨_, exec_keeperLockstepMismatch hk hup, State.keeperReset_down .., ?_, fun i ho hq => ?_, fun r hr => ?_, ?_, ?_⟩
  · refine (State.raised_raise (evPresent_keeperLockstep hk s.chip)).of_reg (State.keeperReset_reg _ _ ?_)
    rw [evReg_keeperLockstep hk]
    decide
  · have hlock : (s.raise (Ev.KEEPER_LOCKSTEP k)).lock i = s.lock i :=
      State.lock_congr (congrArg State.leash (s.raise_rest _) :) i
    rw [State.lock_congr (State.keeperReset_leash ..), State.leashBreak_lock (keeperId_ne_zero hk) (by rw [hlock, ho])
      (by rw [hlock, hq]), hlock]
    rfl
  · obtain ⟨hcnt, hev, hothers⟩ : r ≠ Reg.LEASH_BROKEN_CNT ∧ r ≠ evReg (Ev.KEEPER_LOCKSTEP k) ∧
        r ∉ [evReg Ev.LEASH_BROKEN, Reg.SYS_EPOCH, Reg.SYS_SURVEY] := by simpa only [List.mem_cons, not_or] using hr
    rw [State.keeperReset_reg _ _ (List.not_mem_cons_of_ne_of_not_mem hcnt hothers), State.raise_reg _ hev]
  · rw [State.keeperReset_mem, State.raise_mem]
  · rintro rfl
    obtain ⟨hacc, hreply⟩ := State.keeperReset_zero_lost (s.raise (Ev.KEEPER_LOCKSTEP 0))
    exact ⟨hacc, fun h => by rw [hreply, Tab.get_nil]⟩

/-- The host loses its blocks, replies and locks with the link (R207, R474). -/
theorem pcieLinkDown_empties : ∃ t, exec .pcieLinkDown s = .next t ∧ (∀ b < 8, t.whb b = {}) ∧
    (∀ b, 8 ≤ b → t.whb b = s.whb b) ∧ (∀ h, Tab.get [] t.ctl.replyQ h = []) ∧ t.mem = s.mem ∧
    (∀ i, (s.lock i).owner = 0x3000 → (s.lock i).queue = [] →
      t.lock i = { owner := 0, broken := true, prior := 0x3000, queue := [] }) ∧
    ((∀ i, (s.lock i).owner ≠ 0x3000 ∧ ∀ w ∈ (s.lock i).queue, w.id ≠ 0x3000) → { t with ctl := s.ctl } = s) := by
  have hrest := (LeashWork.leashBreak s.hostPairsEmptied 0x3000).rest
  have hctl : (s.hostPairsEmptied.leashBreak 0x3000).ctl = s.hostPairsEmptied.ctl := (congrArg State.ctl hrest :)
  have hwhb : ∀ b, (s.hostPairsEmptied.leashBreak 0x3000).whb b = if 8 ≤ b then s.whb b else {} := fun b => by
    rw [State.whb, hctl, ← State.whb, State.hostPairsEmptied_whb]
  have hlock : ∀ i, s.hostPairsEmptied.lock i = s.lock i := fun _ => rfl
  refine ⟨_, exec_pcieLinkDown s, fun b hb => ?_, fun b hb => ?_, fun h => ?_, (congrArg State.mem hrest :),
    fun i ho hq => ?_, fun hnone => ?_⟩
  · rw [hwhb, if_neg (by omega)]
  · rw [hwhb, if_pos hb]
  · rw [hctl]
    rfl
  · have hbreak := State.leashBreak_lock (s := s.hostPairsEmptied) (id := 0x3000) (i := i) (by decide) ho hq
    rw [hbreak, Lock.brokenFrom, hlock, ho]
  · rw [State.leashBreak_stranger (s := s.hostPairsEmptied) (id := 0x3000) hnone]
    rfl

/-- The conditions and the host's table decide which waiting message goes out (R525). -/
theorem msixConditionsRestored_retries (en bm fm : Bool) (l : List Nat) (tab : List (Nat × BitVec 64 × Word)) :
    ∃ t, exec (.msixConditionsRestored en bm fm ⟨l, tab⟩) s = .next t ∧
      t.hub.msixEn = en ∧ t.hub.busMaster = bm ∧ t.hub.funcMask = fm ∧
      (∀ v < 64, v ∈ t.hub.vecMask ↔ v ∈ l) ∧
      (∀ v e, v < 64 → tab = [(v, e)] → Tab.get default t.hub.msixTab v = e) ∧ { t with hub := s.hub, pins := s.pins } = s ∧
      (∀ v, s.hub.msgWait = [v] → v < 64 →
        if en = true ∧ bm = true ∧ fm = false ∧ v ∉ l then
          t.hub.msgWait = [] ∧ t.pins = (if s.vecPending v then [PinEvent.msix v] else []) ++ s.pins
        else t.hub.msgWait = [v] ∧ t.pins = s.pins) := by
  obtain ⟨hrest, hhub⟩ := (s.msixSet en bm fm ⟨l, tab⟩).msixRetried_waits s.hub.msgWait
  refine ⟨_, exec_msixConditionsRestored s en bm fm ⟨l, tab⟩, (congrArg Hub.msixEn hhub :), (congrArg Hub.busMaster hhub :),
    (congrArg Hub.funcMask hhub :), fun v hv => ?_, ?_, congrArg (fun u : State => { u with hub := s.hub }) hrest,
    fun v hwait hv => ?_⟩
  · have hmask : _ = l.filter fun v => decide (v < 64) := (congrArg Hub.vecMask hhub :)
    rw [hmask]
    simp [hv]
  · rintro v e hv rfl
    have htab : _ = Tab.set default s.hub.msixTab (v % 64) e := (congrArg Hub.msixTab hhub :)
    rw [htab, Nat.mod_eq_of_lt hv, Tab.get_set, if_pos rfl]
  · rw [hwait, List.foldl_cons, List.foldl_nil]
    have hsend := State.msixSet_canSend (s := s) (en := en) (bm := bm) (fm := fm) (host := ⟨l, tab⟩) hv
    split
    · next hgo => exact State.msgRetry_sent (s := s.msixSet en bm fm ⟨l, tab⟩) (hsend.2 hgo) hwait
    · next hno =>
      rw [State.msgRetry_held (Bool.eq_false_iff.2 fun h => hno (hsend.1 h))]
      exact ⟨hwait, rfl⟩

/-- A FATAL error is counted, logged and raised; the interior stops and no frame is in transmission (R530, R531). -/
theorem fatalError_stops (mem inst addr : Nat) : ∃ t, exec (.fatalError mem inst addr) s = .next t ∧
    t.running = false ∧ Raised t Ev.FATAL ∧
    t.flag Reg.ERR_STAT 8 = true ∧ (∀ x, (t.eport x).sending = none) ∧
    t.reg Reg.ERR_UE_CNT = W (satInc 32 (s.reg Reg.ERR_UE_CNT).toNat) ∧
    (∀ k, k ∉ [Reg.ERR_UE_CNT, Reg.ERR_STAT, evReg Ev.FATAL] → t.reg k = s.reg k) ∧
    t.ctxs = s.ctxs ∧ t.mem = s.mem ∧ t.herd = s.herd ∧
    (s.hub.errLog.length < 16 → t.hub.errLog =
      s.hub.errLog ++ [⟨W addr, W (mem + 2 * 16 + inst * 256), W s.fr⟩]) := by
  obtain ⟨hctxs, hmem, hherd⟩ := State.hubRest_fields (s.fatalError_rest mem inst addr)
  refine ⟨_, exec_fatalError s mem inst addr, ?_, State.fatalError_raised.of_reg (State.allCut_reg ..), ?_,
    State.allCut_sending _, ?_, fun k hk => ?_, by rw [State.allCut_ctxs, hctxs], by rw [State.allCut_mem, hmem],
    by rw [State.allCut_herd, hherd], fun hroom => ?_⟩
  · rw [State.running_congr (State.allCut_hub _) (State.allCut_reg ..)]
    exact State.fatalError_stopped
  · rw [State.flag, State.allCut_reg]
    exact State.fatalError_latched
  · rw [State.allCut_reg, State.fatalError_count]
  · rw [State.allCut_reg, State.fatalError_reg_other hk]
  · rw [State.allCut_hub, State.fatalError_logged hroom]

end

/-- Settles O33: each reset, stop and failure by the lemma about it. -/
theorem resetsKeepersAndFatalErrors : Obligations.ResetsKeepersAndFatalErrors := by
  unfold Obligations.ResetsKeepersAndFatalErrors
  refine ⟨fun s st => ?_, fun s => ?_⟩
  · intro cleared warm
    exact ⟨⟨_, rfl, s.powerReset_leaves st⟩, exec_sysrstN s st,
      fun n hat hn => ⟨_, exec_selfReset_due hat hn st, s.warmReset_leaves st⟩,
      fun n hat hn => exec_selfReset_early hat hn st⟩
  · exact ⟨fun k hk hup => keeperLockstepMismatch_stops s hk hup,
      fun k _ hdown hmin hclean hroom => exec_keeperRestart_announced hdown hmin hclean hroom, pcieLinkDown_empties s,
      msixConditionsRestored_retries s, fatalError_stops s⟩

end Sys2Proof.Machine
